-- ==== Sys2Proof/Word.lean ====
section
/-!
DEFINITION. Word.lean: the word types of the dictionary (R296), and the keyed tables the state is built from.
-/

namespace Sys2Proof

/-- One byte of an image, a frame or a dictionary value. -/
abbrev Byte := BitVec 8
/-- U8 of Table 10-3. -/
abbrev U8 := BitVec 8
/-- U16 of Table 10-3. -/
abbrev U16 := BitVec 16
/-- U32 of Table 10-3. -/
abbrev U32 := BitVec 32
/-- U64 of Table 10-3. -/
abbrev U64 := BitVec 64

/-- A Belfry time in ns (TIME64 of Table 10-3). Kept exact: 64 bits of ns last 584 years. -/
abbrev Time := Nat

/-- A table by number (element, route, slot, source ...): key and value pairs, keys strictly rising; a key that is not listed
has the table's default value, and no entry equal to that default is listed. -/
abbrev Table (α : Type) := List (Nat × α)

end Sys2Proof
end

