-- ==== Sys2Proof/Syntax.lean ====
section
/-!
DEFINITION. Syntax.lean: the operands and the commands. One constructor of `Instr` for each row of spec/opcode_table.json.

The table gives its rows no operands and no bits. The operands here are what the rule of the row needs from outside: a
number, a received frame, a sampled level, the content of a write. Every command is one of the part's steps, and its first
operand is the Belfry time at which it happens (R109: each item is stamped once, where it enters Kutia).
-/

namespace Sys2Proof

/-- The three vital lanes: Mill A, Mill B and the Loom (R38). -/
inductive Lane where
  | a | b | l
  deriving DecidableEq, Repr

/-- A bus channel, or a port in Split (R223, R249). -/
inductive Chan where
  | a | b
  deriving DecidableEq, Repr

/-- The two host buses (R285). -/
inductive HostBus where
  | hl1 | hl2
  deriving DecidableEq, Repr

/-- A direction of a Stile: outbound is lane to service (R317). -/
inductive Dir where
  | outward | inward
  deriving DecidableEq, Repr

/-- The sides of a Stile or of a crossing. -/
inductive Side where
  | service | laneSide
  deriving DecidableEq, Repr

/-- The two classes of items that an intake marker closes (R111): a bus engine and the command queue. -/
inductive MarkerOrigin where
  | busEngine | commandQueue
  deriving DecidableEq, Repr

/-- The result of one BIST block of Table 12-7. -/
inductive BistResult where
  | notRun | passed | failed | aborted
  deriving DecidableEq, Repr

/-- What the BIST of one block reports: its result and the failing item (FFFFFFFFh for none). -/
structure BistReport where
  result : BistResult
  item   : U32
  deriving DecidableEq, Repr

/-- What a start finds outside the state: the seal switches, the position straps, the supervisor's measurements, the BIST
of the eight blocks (used by a full start), which lanes hold a copy of an image that differs from the stored one, and whether
the block at the journal's pointer is not intact while its journal copy fails its digest (R426). -/
structure StartEnv where
  switches    : BitVec 24
  straps      : BitVec 6
  bist        : List BistReport
  capacitance : Nat
  retention   : Option Nat
  badCopy     : List Lane
  heardHl1    : Bool
  heardHl2    : Bool
  journalLost : Bool
  lostHistory : List Lane
  recordBad   : Bool
  deriving DecidableEq, Repr

/-- What the snapshot instant samples outside the state: the seal switches (R366), and the lanes whose check of a session's options
comes out otherwise than the options say (R267), each with the slot. -/
structure CycleSample where
  switches : BitVec 24
  dissent  : List (Nat × Lane)
  deriving DecidableEq, Repr

/-- A call of one timer, edge detector or counter instance by the rule program, with its inputs at that execution. -/
structure BlockCall where
  varnum : Nat
  inp    : Bool
  inp2   : Bool
  pt     : Int
  deriving DecidableEq, Repr

/-- One cycle of the rule program as seen from its variables: the writes and the block calls in execution order. The manual
does not give the instruction encoding, so what the program computes enters here. -/
structure ProgramRun where
  writes : List (Nat × U64)
  calls  : List BlockCall
  micros : Nat
  deriving DecidableEq, Repr

/-- What a fault left in one lane's tables for the scrub of a Logic phase (R35, R103): nothing, a failing table entry, or a word of its
Commons copy that reads as given. -/
inductive Scrub where
  | clean
  | tableEntry (reference : U32)
  | claimWord (elem : Nat) (word : BitVec 32)
  deriving DecidableEq, Repr

/-- A voted movement of a point or derailer (Table 02-2). -/
inductive Move where
  | hold | normal | rev
  deriving DecidableEq, Repr

/-- One value that a lane proposes in place of the generic outcome: what a faulty lane shows to the vote. A claim and a boundary record are
no voted items of Table 02-2; the cross-check of Watch looks at them (R340). -/
inductive Deviation where
  | gclass (signal : Nat) (g : Nat)
  | movement (elem : Nat) (m : Move)
  | route (route : Nat) (state : Nat) (code : U8) (ref : U32)
  | release (route : Nat) (elem : Nat) (free : Bool)
  | detail (signal : Nat) (code : U8)
  | claim (elem : Nat) (route : Nat)
  | boundary (route : Nat) (msg : Nat)
  deriving DecidableEq, Repr

/-- What a lane puts on its vote port (R49) beside what its state gives: the bits in which a fault of the lane changes its two
digests (0 for none), and the items in which it deviates from the generic outcome or from its program's detail codes. -/
structure Proposal where
  gerr : U64
  perr : U64
  dev  : List Deviation
  deriving DecidableEq, Repr

/-- One architecturally visible result that a core retires (R43). -/
inductive Retired where
  | register (number : Nat) (value : U64)
  | store (address : U32) (width : Nat) (value : U64)
  | branch (taken : Bool) (target : U32)
  deriving DecidableEq, Repr

/-- The results of the two cores for one retirement (R43), with its count. -/
structure RetiredPair where
  count    : U32
  leading  : Retired
  trailing : Retired
  deriving DecidableEq, Repr

/-- The results of the Loom's two slices for one step (R48), with the entry they compute. -/
structure SlicePair where
  entry : U32
  x     : U64
  y     : U64
  deriving DecidableEq, Repr

/-- A dual-rail pair that a checker reads (R39): its stage group and its two rails. -/
structure RailPair where
  stage     : Fin 64
  trueRail  : Bool
  falseRail : Bool
  deriving DecidableEq, Repr

/-- How long a stage group has held a request (R40). -/
structure StageStall where
  stage : Fin 64
  held  : Time
  deriving DecidableEq, Repr

/-- What a dual-rail pair means (Table 02-1). -/
inductive RailCode where
  | spacer | zero | one | illegal
  deriving DecidableEq, Repr

/-- The code of a true rail and a false rail (Table 02-1). -/
def railCode (true_ false_ : Bool) : RailCode :=
  match true_, false_ with
  | false, false => .spacer
  | false, true => .zero
  | true, false => .one
  | true, true => .illegal

/-- The fields of a command record (Table 04-11) that a command's row does not fix. -/
structure CmdArgs where
  flags  : U8
  target : U16
  opid   : U32
  hseq   : U32
  deriving DecidableEq, Repr

/-- A boundary record (Table 03-5) without its MSG. -/
structure BoundaryRec where
  relem  : Nat
  rroute : Nat
  token  : U8
  cstate : Nat
  rcode  : Nat
  sroute : Nat
  selem  : Nat
  deriving DecidableEq, Repr

/-- A down frame (Table 07-1). Words 2 to 5 are kept as words, because a KIND 2 frame carries a configuration page there. -/
structure DownFrame where
  kind   : BitVec 4
  lane   : BitVec 2
  split  : Bool
  alloff : Bool
  epoch  : U8
  test   : Bool
  page   : BitVec 3
  seq    : U32
  w2     : U32
  w3     : U32
  w4     : U32
  w5     : U32
  cfgc   : U32
  crc    : U32
  deriving DecidableEq, Repr

/-- An up frame (Table 07-2). -/
structure UpFrame where
  kind   : BitVec 4
  lane   : BitVec 2
  unconf : Bool
  flost  : Bool
  epoch  : U8
  flow   : Bool
  kstuck : Bool
  kill   : BitVec 2
  key    : BitVec 2
  fsflt  : Bool
  lant   : Bool
  gstale : BitVec 3
  seq    : U32
  tick   : U32
  di     : BitVec 48
  keycnt : U16
  aiflt  : BitVec 4
  pairf  : BitVec 24
  dorb   : BitVec 24
  doflt  : BitVec 24
  cnt    : List U16
  aacc   : List U32
  vf     : U16
  iout   : U16
  crc    : U32
  deriving DecidableEq, Repr

/-- What a lane holds when its snapshot is complete: the up frame that the lane exchange brought it (R110), and its rule program's run. -/
structure LaneIntake where
  got : Option UpFrame
  run : ProgramRun
  deriving DecidableEq, Repr

/-- What the field side samples in one 100 us period: the input levels of each 10 us, oldest first, counted edges of DI0 to DI7,
the two converters of each analog input (used when the period holds a 1 ms tick), the supply, the total output current, the
key levels and the readback of the outputs. -/
structure FieldSample where
  tick  : Bool
  di    : List (BitVec 48)
  edges : List Nat
  ai    : List Nat
  ai2   : List Nat
  vf    : Nat
  iout  : Nat
  key   : BitVec 2
  dorb  : BitVec 24
  fsflt : Bool
  deriving DecidableEq, Repr

/-- One reset-key operation: press and release instants of the two channels, on the field side's 1 ms tick. -/
structure KeyOperation where
  press1   : Nat
  release1 : Nat
  press2   : Nat
  release2 : Nat
  seenOn   : List Lane
  deriving DecidableEq, Repr

/-- A received bus frame (Table 08-2): its header, its body, its link CRC, whether its code groups were valid, and by how
many ns it began off its expected arrival (R232). -/
structure BusFrame where
  ftype  : Nat
  chan   : Chan
  split  : Bool
  node   : Nat
  pos    : Nat
  bcyc   : Nat
  matrix : U16
  sched  : U16
  rank   : U8
  flags  : U8
  body   : List Byte
  crc    : U32
  codeOk : Bool
  off    : Int
  deriving DecidableEq, Repr

/-- When an event of the bus happens, and on the port of which channel: in Split mode the two ports run an engine each (R249). -/
structure PortTime where
  t    : Time
  chan : Chan
  deriving DecidableEq, Repr

/-- What a position of the bus schedule meets: the readback of a frame that Kutia sends in it, with the time from sending to
readback in ns, and the non-vital bodies that Kutia's lanes and the Steward offer to send (R247). -/
structure Sending where
  readback : Option Nat
  offered  : List (List Byte)
  deriving DecidableEq, Repr

/-- An opening frame body (Table 09-6), without OP: the row of the command fixes it. It is what the body of the frame says, with which it
arrives. -/
structure OpenFrame where
  reason : U8
  target : Nat
  ident  : U32
  ptype  : Nat
  gens   : U8
  pls    : U8
  opts   : U8
  pers   : U8
  prof   : U8
  profs  : U16
  codes  : U16
  sess   : U16
  slices : List U16
  schka  : U32
  schkb  : U32
  matrix : U16
  deriving DecidableEq, Repr

/-- Where a host-link frame arrives, and the FUNC, DIR and POS of its identifier (Table 10-1). -/
structure HostPlace where
  bus  : HostBus
  func : Fin 8
  dir  : Bool
  pos  : Fin 64
  deriving DecidableEq, Repr

/-- A host-link request: its identifier (Table 10-1), and the OP, INDEX and SUB of its payload (Table 10-2). -/
structure HostReq where
  place : HostPlace
  chan  : Fin 8
  tid   : U8
  op    : Nat
  index : Nat
  sub   : Nat
  deriving DecidableEq, Repr

/-- The bus of a request. -/
def HostReq.bus (q : HostReq) : HostBus := q.place.bus

/-- What a received Twin frame carries around its body (R393): its TYPE, its LEN, its LSEQ and its CRC-32. -/
structure TwinHead where
  typ  : Nat
  len  : Nat
  lseq : U32
  crc  : U32
  deriving DecidableEq, Repr

/-- When a Twin frame arrives, and what it carries around its body. -/
structure TwinArrival where
  t    : Time
  head : TwinHead
  deriving DecidableEq, Repr

/-- A HELLO frame of the Twin link (Table 14-3). -/
structure Hello where
  commit     : U64
  progid     : U64
  preference : U8
  mode       : U8
  role       : U8
  position   : U8
  deriving DecidableEq, Repr

/-- A standby's health report (Table 14-7). -/
structure HealthReport where
  cycle   : U32
  mode    : U8
  lanes   : BitVec 3
  highest : U8
  synced  : Bool
  return_ : Bool
  config  : Bool
  count   : U32
  applied : U32
  deriving DecidableEq, Repr

/-- Who acknowledges a source (R368): lanes, through the vote, or the Steward. -/
inductive Acknowledger where
  | lanes (l : List Lane)
  | steward
  deriving DecidableEq, Repr

/-- What a crossing carries in one step (Table 11-5): an event of a toggle, a value of a snapshot, or a number of events. -/
inductive Crossed where
  | toggle
  | value (v : List Byte)
  | events (n : Nat)
  | acknowledged
  deriving DecidableEq, Repr

/-- What a crossing carries, and in which of its directions: `inward` is the second one of a crossing that goes both ways. -/
structure CrossMove where
  dir  : Dir
  what : Crossed
  deriving DecidableEq, Repr

/-- A crossing whose island's clock has been reported running for so long (R331). -/
structure CrossClock where
  c   : Fin 16
  ran : Time
  deriving DecidableEq, Repr

/-- A reset on one side of a crossing (R332): whether it is the receiver's, in the crossing's direction, and whether it begins or ends. -/
structure CrossEdge where
  receiver : Bool
  dir      : Dir
  ends     : Bool
  deriving DecidableEq, Repr

/-- A mailbox (R322): that of a lane, or outward that of an engine. -/
structure MailboxRef where
  dir    : Dir
  number : U32
  deriving DecidableEq, Repr

/-- A message of a Stile (R322): the lane it goes to and its tag. -/
structure MsgHead where
  ln  : Lane
  tag : U16
  deriving DecidableEq, Repr

/-- The commands: one constructor for each row of spec/opcode_table.json, in the table's order. -/
inductive Instr where
  | powerOn (t : Time) (vin : Nat) (env : StartEnv)
  | startTimeout (t : Time)
  | powerFail (t : Time) (vin : Nat)
  | vinLow (t : Time) (vin : Nat)
  | powerDomainFault (t : Time) (d : Fin 8) (mv : Nat)
  | cycleStart (t : Time) (x : CycleSample) (env : StartEnv)
  | snapshotComplete (t : Time) (ln : Lane) (x : LaneIntake) (scrub : Scrub)
  | proposalDelivery (t : Time) (ln : Lane) (p : Proposal)
  | vote (t : Time)
  | pullInCheck (t : Time) (g : Fin 4)
  | torqueOffConfirmation (t : Time) (g : Fin 4)
  | disagreementExclusion (t : Time) (ln : Lane)
  | genericSplit (t : Time)
  | programSplit (t : Time)
  | cycleMissExclusion (t : Time) (ln : Lane)
  | issuePhase (t : Time) (withheld : List (Nat × Nat))
  | approachTimerExpiry (t : Time) (r : Nat)
  | overlapTimerExpiry (t : Time) (r : Nat)
  | emergencyTimerExpiry (t : Time) (r : Nat)
  | emergencyArmLapse (t : Time) (r : Nat)
  | crossZoneTimeout (t : Time) (r : Nat)
  | releaseStall (t : Time) (r : Nat)
  | provingTimeout (t : Time) (r : Nat) (e : Nat)
  | sectionResetTimeout (t : Time) (e : Nat)
  | throwSupervisionExpiry (t : Time) (e : Nat)
  | throwComplete (t : Time) (e : Nat)
  | obstructionCurrentExpiry (t : Time) (g : Fin 4)
  | safeStopWindowExpiry (t : Time) (g : Fin 4)
  | immediateTorqueOff (t : Time)
  | remoteSafeStopTimeout (t : Time) (e : Nat)
  | degradedLLimitExpiry (t : Time)
  | degradedLTimerRestore (t : Time)
  | setRoute (t : Time) (ch : Fin 8) (param : U32) (c : CmdArgs)
  | cancelRoute (t : Time) (ch : Fin 8) (param : U32) (c : CmdArgs)
  | emergencyReleaseArm (t : Time) (ch : Fin 8) (c : CmdArgs)
  | emergencyReleaseConfirm (t : Time) (ch : Fin 8) (c : CmdArgs)
  | pointMove (t : Time) (ch : Fin 8) (param : U32) (c : CmdArgs)
  | pointBlock (t : Time) (ch : Fin 8) (c : CmdArgs)
  | pointUnblock (t : Time) (ch : Fin 8) (c : CmdArgs)
  | sectionReset (t : Time) (ch : Fin 8) (param : U32) (c : CmdArgs)
  | pointStop (t : Time) (ch : Fin 8) (param : U32) (c : CmdArgs)
  | signalBlock (t : Time) (ch : Fin 8) (c : CmdArgs)
  | signalUnblock (t : Time) (ch : Fin 8) (c : CmdArgs)
  | readSequenceAdvance (t : Time) (ch : Fin 8) (value : U32)
  | boundaryReq (t : Time) (slot : Fin 512) (rec : BoundaryRec)
  | boundaryGrant (t : Time) (slot : Fin 512) (rec : BoundaryRec)
  | boundaryRefuse (t : Time) (slot : Fin 512) (rec : BoundaryRec)
  | boundaryState (t : Time) (slot : Fin 512) (rec : BoundaryRec)
  | boundaryCancel (t : Time) (slot : Fin 512) (rec : BoundaryRec)
  | boundaryRelease (t : Time) (slot : Fin 512) (rec : BoundaryRec)
  | downFrameSend (t : Time) (ln : Lane)
  | gatehouseEvaluation (t : Time) (ln : Lane) (f : Option DownFrame)
  | upFrameSend (t : Time) (x : FieldSample)
  | upFrameReceive (t : Time) (ln : Lane) (f : UpFrame)
  | barrierChannelStale (t : Time) (ln : Lane) (dir : Dir)
  | killLineDead (t : Time) (line : Fin 2)
  | fieldConfigApply (t : Time)
  | fieldConfigTimeout (t : Time)
  | pairDiscrepancyLatch (t : Time) (k : Fin 24)
  | pairResetRequest (t : Time) (ch : Fin 8) (mask : U32)
  | pairReset (t : Time) (k : Fin 24)
  | outputTotalTrip (t : Time)
  | outputTestPulse (t : Time) (d : Fin 24) (high1 : Bool) (high2 : Bool)
  | outputReadbackFault (t : Time) (d : Fin 24) (high : Bool)
  | outputCurrentLimitFault (t : Time) (d : Fin 24)
  | outputFeedbackFault (t : Time) (d : Fin 24) (level : Bool)
  | outputResetRequest (t : Time) (ch : Fin 8) (mask : U32)
  | outputReset (t : Time) (d : Fin 24)
  | aiConverterMismatch (t : Time) (i : Fin 4)
  | fieldLow (t : Time) (vf : Nat)
  | fieldLost (t : Time) (vf : Nat)
  | fieldReturn (t : Time) (vf : Nat)
  | resetKeyOperation (t : Time) (k : KeyOperation) (env : StartEnv)
  | resetKeyStuck (t : Time) (levels : BitVec 2)
  | resetKeyStuckClear (t : Time)
  | transmitPosition (t : Time) (chan : Chan) (bcyc : Fin 64) (pos : Fin 200) (x : Sending)
  | syncFrame (p : PortTime) (fa : Option BusFrame) (fb : Option BusFrame)
  | coldstartFrame (t : Time) (f : BusFrame)
  | listenEnd (p : PortTime) (readA : Option Nat) (readB : Option Nat)
  | coldstartRetry (p : PortTime) (readA : Option Nat) (readB : Option Nat)
  | delayRequest (t : Time) (f : BusFrame) (tpass : Time)
  | delayResponse (t : Time) (chan : Chan) (f : BusFrame)
  | delayRequestRetry (t : Time) (chan : Chan)
  | matrixBoundary (p : PortTime)
  | noSyncTimeout (p : PortTime)
  | syncTakeover (p : PortTime)
  | passiveRejoin (p : PortTime)
  | guardianSuppression (t : Time) (chan : Chan) (bcyc : Fin 64) (pos : Fin 200)
  | arbitrationRetry (t : Time) (chan : Chan) (bcyc : Fin 64) (pos : Fin 200) (readback : Option Nat)
  | foreignScheduleDetected (t : Time) (f : BusFrame)
  | channelDown (t : Time) (chan : Chan)
  | vitalTelegram (t : Time) (fa : Option BusFrame) (fb : Option BusFrame) (wrong : List Lane)
  | multiPartnerDownFrame (t : Time) (f : BusFrame)
  | nonVitalFrame (t : Time) (f : BusFrame)
  | forwardFrame (t : Time) (f : BusFrame)
  | syncInPulse (t : Time)
  | twoActiveDetected (t : Time) (bcyc : Fin 64) (pos : Fin 200)
  | sessionOpen (p : PortTime) (f : BusFrame) (o : OpenFrame)
  | sessionOpenSend (t : Time) (partner : Nat)
  | sessionAccept (p : PortTime) (f : BusFrame) (o : OpenFrame)
  | sessionRefuse (p : PortTime) (f : BusFrame) (o : OpenFrame)
  | sessionClose (p : PortTime) (f : BusFrame) (o : OpenFrame)
  | diagRequest (p : PortTime) (f : BusFrame) (o : OpenFrame)
  | diagReply (p : PortTime) (f : BusFrame) (o : OpenFrame)
  | strangerRecordExpiry (t : Time) (node : Nat)
  | sessionTimeout (t : Time) (slot : Fin 512)
  | sessionCloseRequest (t : Time) (ch : Fin 8) (slot : Fin 512) (value : U8)
  | read (t : Time) (q : HostReq)
  | writeExpedited (t : Time) (q : HostReq) (data : List Byte)
  | writeSegmented (t : Time) (q : HostReq) (size : Nat)
  | segment (t : Time) (p : HostPlace) (ch : Fin 8) (tid : U8) (seg : Nat) (last : Bool) (data : List Byte)
  | blockAcknowledge (t : Time) (p : HostPlace) (ch : Fin 8) (tid : U8) (next : Nat) (blk : Nat)
  | abortTransfer (t : Time) (q : HostReq) (code : U16)
  | blockResendTimeout (t : Time) (ch : Fin 8)
  | transferTimeout (t : Time) (ch : Fin 8)
  | dictionaryWrite (t : Time) (ch : Fin 8) (index : Nat) (sub : Nat) (data : List Byte)
  | shadowWrite (t : Time) (ch : Fin 8) (index : Nat) (sub : Nat) (data : List Byte)
  | groupCommit (t : Time) (ch : Fin 8) (g : U8)
  | groupAbort (t : Time) (ch : Fin 8) (g : U8)
  | groupOwnerTimeout (t : Time) (g : Fin 64)
  | challenge (t : Time) (ch : Fin 8)
  | response (t : Time) (ch : Fin 8) (data : List Byte)
  | deauthorise (t : Time) (ch : Fin 8) (mask : U8)
  | authorisationTimeout (t : Time) (ch : Fin 8)
  | authenticationLockoutEnd (t : Time)
  | key (t : Time) (ch : Fin 8) (slot : Fin 4) (data : List Byte)
  | eventPush (t : Time)
  | stewardRestart (t : Time)
  | modeRequestStop (t : Time) (ch : Fin 8) (env : StartEnv)
  | modeRequestRun (t : Time) (ch : Fin 8)
  | modeRequestTestTrack (t : Time) (ch : Fin 8)
  | modeRequestHold (t : Time) (ch : Fin 8)
  | modeRequestShutdown (t : Time) (ch : Fin 8) (env : StartEnv)
  | stileRead (t : Time) (ln : Lane) (addr : U32) (latency : Option Nat)
  | stileReadTimeout (t : Time) (ln : Lane)
  | serviceRead (t : Time) (ln : Lane) (addr : U32) (ch : Fin 8) (answered : Bool)
  | postedWrite (t : Time) (ln : Lane) (dir : Dir) (addr : U32) (data : List Byte) (tag : U16)
  | postedCreditTimeout (t : Time) (ln : Lane) (addr : U32)
  | telegramArrived (t : Time) (m : MsgHead) (mailbox : MailboxRef)
  | intakeMarker (t : Time) (m : MsgHead) (origin : MarkerOrigin) (closes : U32)
  | postedWriteError (t : Time) (m : MsgHead) (dir : Dir) (tag : U16) (reason : Fin 6)
  | farSideResetBegins (t : Time) (m : MsgHead) (side : Side)
  | farSideResetEnds (t : Time) (m : MsgHead) (side : Side)
  | sessionEvent (t : Time) (m : MsgHead) (slot : Fin 512)
  | mirrorSnapshotComplete (t : Time) (m : MsgHead)
  | intakeMarkerTimeout (t : Time) (ln : Lane) (origin : MarkerOrigin)
  | crossingTransfer (t : Time) (c : Fin 16) (x : CrossMove)
  | crossingAckTimeout (t : Time) (c : Fin 16)
  | crossingResume (t : Time) (c : CrossClock)
  | crossingReset (t : Time) (c : Fin 16) (x : CrossEdge)
  | illegalDualRailCode (t : Time) (ln : Lane) (x : RailPair)
  | handshakeStall (t : Time) (ln : Lane) (x : StageStall)
  | retirementMismatch (t : Time) (mill : Lane) (x : RetiredPair)
  | loomSliceMismatch (t : Time) (x : SlicePair)
  | faultAcknowledge (t : Time) (src : Fin 128) (who : Acknowledger)
  | reactionWindowExpiry (t : Time) (src : Fin 128)
  | constableRegisterMismatch (t : Time) (reg : U32) (x : U32) (y : U32)
  | constableSealSample (t : Time) (switches : BitVec 24)
  | checkerProof (t : Time) (reported : Bool)
  | sweepRequest (t : Time) (ch : Fin 8) (value : U8)
  | proofSweepOverdue (t : Time)
  | force (t : Time) (ch : Fin 8) (src : Fin 128) (value : U8)
  | bookWrite (t : Time) (differing : Nat)
  | bookClear (t : Time) (ch : Fin 8) (value : U32)
  | readmitRequest (t : Time) (ch : Fin 8) (value : U8)
  | readmissionAttemptStart (t : Time) (ln : Lane)
  | laneBistDone (t : Time) (ln : Lane) (passed : Bool)
  | laneLoadDone (t : Time) (ln : Lane) (badCopy : Bool)
  | copyComplete (t : Time) (ln : Lane)
  | shadowJoin (t : Time) (ln : Lane)
  | readmissionStepTimeout (t : Time) (ln : Lane)
  | changePrepare (t : Time) (ch : Fin 8)
  | changePreparationComplete (t : Time) (differing : List Lane)
  | changePreparationTimeout (t : Time)
  | changeArm (t : Time) (ch : Fin 8)
  | changeRollback (t : Time) (ch : Fin 8)
  | changeCommit (t : Time) (ch : Fin 8)
  | changeCancel (t : Time) (ch : Fin 8)
  | programSwitch (t : Time) (micros : Nat)
  | installedRecordWritten (t : Time)
  | forceRequest (t : Time) (ch : Fin 8) (data : List Byte)
  | forceCommit (t : Time) (ch : Fin 8)
  | driveGroupReset (t : Time) (ch : Fin 8) (g : Fin 4) (value : U8)
  | twinHello (x : TwinArrival) (h : Hello)
  | peerSilenceTimeout (t : Time)
  | twinLinkDown (t : Time)
  | snapshotBlock (x : TwinArrival) (seq : U32) (idx : Nat) (last : Bool) (data : List Byte)
  | healthReport (x : TwinArrival) (h : HealthReport)
  | giveup (x : TwinArrival) (cycle : U32)
  | powerFailNotice (x : TwinArrival) (cycle : U32)
  | taken (x : TwinArrival) (cycle : U32)
  | giveupOverlapEnd (t : Time)
  | activeModuleSilent (t : Time)
  | takeover (t : Time)
  | handoverRequest (t : Time) (ch : Fin 8) (value : U8)
  | handoverRequestLapse (t : Time)
  | beginDownload (t : Time) (ch : Fin 8) (pkgid : U64) (pkglen : Nat)
  | piece (t : Time) (ch : Fin 8) (pnum : Nat) (pcrc : U32) (data : List Byte)
  | verify (t : Time) (ch : Fin 8) (pkgid : U64)
  | verificationComplete (t : Time)
  | arm (t : Time) (ch : Fin 8) (pkgid : U64)
  | activate (t : Time) (ch : Fin 8) (pkgid : U64)
  | activationComplete (t : Time) (env : StartEnv)
  | confirm (t : Time) (ch : Fin 8) (pkgid : U64)
  | cancel (t : Time) (ch : Fin 8) (pkgid : U64)
  | rollBack (t : Time) (ch : Fin 8) (pkgid : U64)
  | rollbackComplete (t : Time) (env : StartEnv)
  | confirmationLimitExpiry (t : Time)
  | updateLowSupply (t : Time)
  | activationResume (t : Time)
  | ownerKey (t : Time) (ch : Fin 8) (data : List Byte)
  | ringMeasurement (t : Time) (ln : Lane) (temp : Int) (mv : Nat) (periods : List Nat)
  | historyPoint (t : Time)
  | countReset (t : Time) (ch : Fin 8) (value : U8)
  | capture (t : Time) (ch : Fin 8) (value : U8)
  | counterSave (t : Time)
  | traceRecord (t : Time) (kind : Fin 16) (ln : Option Lane) (p1 : U32) (p2 : BitVec 24)
  | fieldSideReset (t : Time)
  | hostBusStateChange (t : Time) (bus : HostBus) (state : Fin 5) (errors : Nat)
  | lateCompletion (t : Time) (ln : Lane)
  | serviceReadTimeout (t : Time) (ln : Lane)
  | twinHelloSend (t : Time)
  | sealChangedWhileStopped (t : Time) (switches : BitVec 24)
  | programSplitComparisonEnd (t : Time) (ended : Bool)
  | probationRecordSave (t : Time)
  deriving DecidableEq, Repr

end Sys2Proof
end

