-- ==== Sys2Proof/Decode.lean ====
section
/-!
DEFINITION. Decode.lean: the command that a word spells. The opcode table gives no row any bits, so no word spells one.
-/

namespace Sys2Proof

/-- No row of the opcode table has bits: the commands are events and frames, not encoded words. -/
def decodeTableWord (_nbits _w : Nat) : Option Instr := none

end Sys2Proof
end

