-- ==== Sys2Proof/Config.lean ====
section
/-!
DEFINITION. Config.lean: the values the spec leaves open. Each is a constant without a body, applied to the model's counter of
draws or to what it depends on; nothing can be proved of its value.
-/

namespace Sys2Proof

/-- The Steward's random source (R303): 16 bytes for the n-th draw. -/
opaque Config.challenge : Nat → BitVec 128
/-- The back-off generator's draw (R248), before it is cut to its range: by the NODE and the MATRIX that seed it, and by the counter of
draws. -/
opaque Config.backoff : Nat → Nat → Nat → Nat
/-- 1000:02, the module's serial number. -/
opaque Config.serial : BitVec 32
/-- 1000:03, the module's hardware revision. -/
opaque Config.hardware : BitVec 16
/-- 1000:04, the version that a Steward firmware image carries; of no image, the one the module was delivered with. -/
opaque Config.stewardVersion : List (BitVec 8) → BitVec 32
/-- 2605:03, bytes 0 to 7 of the SHA-256 digest of the factory key (R417); the key itself: 32 bytes as a number. -/
opaque Config.factoryKey : Nat
/-- The place of a checker number (R374): which of sources 12, 13, 14, 23 and 39 its silence raises. -/
opaque Config.checkerPlace : Nat → Fin 5
/-- The block of a checker outside the lanes (P1 of source 14). -/
opaque Config.checkerBlock : Nat → BitVec 32
/-- The commitment in the header of a Loom pattern (01, R32): the place of the field is not given. -/
opaque Config.patternCommit : List (BitVec 8) → BitVec 64
/-- R430: the settings format number that a Steward firmware image defines. -/
opaque Config.settingsFormat : List (BitVec 8) → BitVec 16
/-- R426: the failing load code of an image, by kind, whose block and journal copy are both lost. -/
opaque Config.spoiledCode : Nat → Nat
/-- R124: the value that a variable filled at Intake (ROLE 1) or by the generic code (CLASS 1) takes, by its SYMID and by what
the lane holds, as bytes: which item a variable stands for is not given. -/
opaque Config.filledValue : BitVec 64 → List (BitVec 8) → BitVec 64
/-- R121, 08h: whether the CLASS 1 part of a map (SYMID and TYPE of each entry) is that of the station data with this COMMIT:
how the one follows from the other is not given. -/
opaque Config.genericPartFits : BitVec 64 → List (BitVec 64 × Nat) → Bool
/-- R319: which item of the snapshot a lane's read of a far address brings; the addresses of the items are not given. -/
opaque Config.itemAt : BitVec 32 → Nat
/-- A value the manual leaves open, by the counter of draws. -/
opaque Config.free : Nat → Nat

/-- 2701 + l:0B, set at manufacture: P0 of a lane's ring in ps (R434). -/
opaque Config.ringP0 : Nat → Nat → Nat
/-- kT of a lane's ring in 10^-6 per degree. -/
opaque Config.ringKt : Nat → Nat → Int
/-- kV of a lane's ring in 10^-3. -/
opaque Config.ringKv : Nat → Nat → Int
/-- VNOM in mV, the nominal core supply. -/
opaque Config.vnom : Nat
/-- 2710:03, the hold-up capacitance at manufacture in uF. -/
opaque Config.capacitanceNew : Nat
/-- R437: the exponent n, in 10^-18, where a point of the history has no logarithm (no powered hour, or an added delay of 0 or less). -/
opaque Config.fitExponent : List (Nat × Int) → Int
/-- R437: the one-sided 90% upper confidence limit of n, in 10^-18: the distribution that it rests on is not given. -/
opaque Config.fitUpper : List (Nat × Int) → Int
/-- R437: the months until the added delay is 15%, for a present one of 0 or less, by the hours, the delay and the exponent. -/
opaque Config.monthsFrom : Nat → Int → Int → Nat

end Sys2Proof
end

