-- ==== Sys2Proof/Machine/Crypto.lean ====
section
/-!
DEFINITION. Machine/Crypto.lean: the published functions the spec names: the CRC family, SHA-256 (R10), HMAC-SHA-256
(R303), SHA-512 and Ed25519 verification (R417).
-/

namespace Sys2Proof.Machine

/-! ### Cyclic redundancy codes -/

/-- The bits of a byte, the least significant first. -/
def byteBits (x : Byte) : List Bool := (List.range 8).map x.getLsbD

/-- One bit through a CRC register of width `w` with polynomial `poly`. -/
def crcBit (w poly reg : Nat) (bit : Bool) : Nat :=
  let shifted := reg * 2 % 2 ^ w
  if reg.testBit (w - 1) != bit then shifted ^^^ (poly % 2 ^ w) else shifted

/-- The low `w` bits of a number in the reverse order. -/
def reflect (w n : Nat) : Nat :=
  (List.range w).foldl (fun acc k => acc * 2 + (n.testBit k).toNat) 0

/-- The CRC of a byte string: width, polynomial, initial value, reflection of input and output, final XOR. -/
def crc (w poly init : Nat) (refin refout : Bool) (xorout : Nat) (l : List Byte) : Nat :=
  let order := fun (x : Byte) => if refin then byteBits x else (byteBits x).reverse
  let reg := (l.flatMap order).foldl (crcBit w poly) (init % 2 ^ w)
  (if refout then reflect w reg else reg) ^^^ (xorout % 2 ^ w)

/-- The CRC-32 of ECHK, RCHK, PCHK and every check word that has "the same parameters as ECHK" (R14). -/
def crc32c (l : List Byte) : Nat := crc 32 0x1EDC6F41 0xFFFFFFFF true true 0xFFFFFFFF l

/-! ### SHA-256 and HMAC -/

/-- The fractional parts of the cube roots of the first 80 primes to 64 bits, eight to a number, the first one in its top bits. -/
def cubeRoots : List Nat := [
  0x428a2f98d728ae227137449123ef65cdb5c0fbcfec4d3b2fe9b5dba58189dbbc3956c25bf348b53859f111f1b605d019923f82a4af194f9bab1c5ed5da6d8118,
  0xd807aa98a303024212835b0145706fbe243185be4ee4b28c550c7dc3d5ffb4e272be5d74f27b896f80deb1fe3b1696b19bdc06a725c71235c19bf174cf692694,
  0xe49b69c19ef14ad2efbe4786384f25e30fc19dc68b8cd5b5240ca1cc77ac9c652de92c6f592b02754a7484aa6ea6e4835cb0a9dcbd41fbd476f988da831153b5,
  0x983e5152ee66dfaba831c66d2db43210b00327c898fb213fbf597fc7beef0ee4c6e00bf33da88fc2d5a79147930aa72506ca6351e003826f142929670a0e6e70,
  0x27b70a8546d22ffc2e1b21385c26c9264d2c6dfc5ac42aed53380d139d95b3df650a73548baf63de766a0abb3c77b2a881c2c92e47edaee692722c851482353b,
  0xa2bfe8a14cf10364a81a664bbc423001c24b8b70d0f89791c76c51a30654be30d192e819d6ef5218d69906245565a910f40e35855771202a106aa07032bbd1b8,
  0x19a4c116b8d2d0c81e376c085141ab532748774cdf8eeb9934b0bcb5e19b48a8391c0cb3c5c95a634ed8aa4ae3418acb5b9cca4f7763e373682e6ff3d6b2b8a3,
  0x748f82ee5defb2fc78a5636f43172f6084c87814a1f0ab728cc702081a6439ec90befffa23631e28a4506cebde82bde9bef9a3f7b2c67915c67178f2e372532b,
  0xca273eceea26619cd186b8c721c0c207eada7dd6cde0eb1ef57d4f7fee6ed17806f067aa72176fba0a637dc5a2c898a6113f9804bef90dae1b710b35131c471b,
  0x28db77f523047d8432caab7b40c724933c9ebe0a15c9bebc431d67c49c100d4c4cc5d4becb3e42b6597f299cfc657e2a5fcb6fab3ad6faec6c44198c4a475817]

/-- The fractional parts of the square roots of the first eight primes, laid out in the same way. -/
def squareRoots : List Nat := [
  0x6a09e667f3bcc908bb67ae8584caa73b3c6ef372fe94f82ba54ff53a5f1d36f1510e527fade682d19b05688c2b3e6c1f1f83d9abfb41bd6b5be0cd19137e2179]

/-- The leading `w` bits of every fraction. -/
def leading (w : Nat) (l : List Nat) : List (BitVec w) :=
  l.flatMap fun n => (List.range 8).map fun k => BitVec.ofNat w (n / 2 ^ (512 - 64 * k - w))

/-- A big-endian number of `n` bytes. -/
def beBytes (n v : Nat) : List Byte :=
  (List.range n).map fun k => BitVec.ofNat 8 (v / 256 ^ (n - 1 - k))

/-- The number that a big-endian byte string spells. -/
def beNat (l : List Byte) : Nat := l.foldl (fun acc x => acc * 256 + x.toNat) 0

/-- The first `n` chunks of `k` bytes. -/
def chunks (k : Nat) : Nat → List Byte → List (List Byte)
  | 0, _ => []
  | n + 1, l => l.take k :: chunks k n (l.drop k)

/-- The message of a SHA-2 function padded to whole blocks of `blk` bytes, with a length field of `lf` bytes. -/
def shaPad (blk lf : Nat) (l : List Byte) : List (List Byte) :=
  let zeros := (2 * blk - 1 - lf - l.length % blk) % blk
  let m := l ++ [0x80] ++ List.replicate zeros 0 ++ beBytes lf (8 * l.length)
  chunks blk (m.length / blk) m

/-- What tells the SHA-2 functions apart: the rounds, and the turns of the four mixing functions; the last turn of the first two is a
shift. -/
structure ShaKind where
  rounds : Nat
  mix    : List Nat × Nat
  mix'   : List Nat × Nat
  stir   : List Nat
  stir'  : List Nat

/-- SHA-256. -/
def ShaKind.sha256 : ShaKind := ⟨64, ([7, 18], 3), ([17, 19], 10), [2, 13, 22], [6, 11, 25]⟩
/-- SHA-512. -/
def ShaKind.sha512 : ShaKind := ⟨80, ([1, 8], 7), ([19, 61], 6), [28, 34, 39], [14, 18, 41]⟩

/-- A word turned right by each of some amounts, summed without carry. -/
def turned {w : Nat} (l : List Nat) (x : BitVec w) : BitVec w := l.foldl (fun acc r => acc ^^^ x.rotateRight r) 0

/-- The same with a shift. -/
def shifted {w : Nat} (m : List Nat × Nat) (x : BitVec w) : BitVec w := turned m.1 x ^^^ (x >>> m.2)

/-- Bit by bit, `x` where `c` is set and `y` where it is not. -/
def pick {w : Nat} (c x y : BitVec w) : BitVec w := y ^^^ (c &&& (x ^^^ y))

/-- The eight working variables: the four that end in a, and the four that end in e. -/
structure ShaVars (w : Nat) where
  low  : BitVec w × BitVec w × BitVec w × BitVec w
  high : BitVec w × BitVec w × BitVec w × BitVec w

/-- One round, with its constant and its word of the message added up. -/
def shaRound {w : Nat} (p : ShaKind) (kw : BitVec w) : ShaVars w → ShaVars w
  | ⟨(a, b, c, d), (e, f, g, h)⟩ =>
    let t := h + kw + turned p.stir' e + pick e f g
    ⟨(t + turned p.stir a + pick (a ^^^ b) c a, a, b, c), (d + t, e, f, g)⟩

/-- The word that follows the 16 of a window, the oldest first. -/
def nextWord {w : Nat} (p : ShaKind) (win : List (BitVec w)) : BitVec w :=
  win.getD 0 0 + shifted p.mix (win.getD 1 0) + win.getD 9 0 + shifted p.mix' (win.getD 14 0)

/-- The rounds over the constants, with the window of the message moving along. -/
def shaRounds {w : Nat} (p : ShaKind) : List (BitVec w) → List (BitVec w) → ShaVars w → ShaVars w
  | [], _, v => v
  | k :: ks, win, v => shaRounds p ks (win.drop 1 ++ [nextWord p win]) (shaRound p (k + win.headD 0) v)

/-- One block joins the hash value. -/
def shaBlock {w : Nat} (p : ShaKind) (hash : List (BitVec w)) (block : List Byte) : List (BitVec w) :=
  let at' := fun (k : Nat) => hash.getD k 0
  let win := (chunks (w / 8) 16 block).map fun x => BitVec.ofNat w (beNat x)
  match shaRounds p ((leading w cubeRoots).take p.rounds) win ⟨(at' 0, at' 1, at' 2, at' 3), (at' 4, at' 5, at' 6, at' 7)⟩ with
  | ⟨(a, b, c, d), (e, f, g, h)⟩ => List.zipWith (· + ·) hash [a, b, c, d, e, f, g, h]

/-- A SHA-2 function over words of `w` bits, in digest order. -/
def sha2 (w : Nat) (p : ShaKind) (l : List Byte) : List Byte :=
  ((shaPad (2 * w) (w / 4) l).foldl (shaBlock p) (leading w squareRoots)).flatMap fun x => beBytes (w / 8) x.toNat

/-- SHA-256 of a byte string: 32 bytes in digest order. -/
def sha256 (l : List Byte) : List Byte := sha2 32 .sha256 l

/-- HMAC-SHA-256 under a key of at most 64 bytes. -/
def hmac256 (key msg : List Byte) : List Byte :=
  let k := key ++ List.replicate (64 - key.length) 0
  sha256 (k.map (· ^^^ 0x5C) ++ sha256 (k.map (· ^^^ 0x36) ++ msg))

/-! ### SHA-512 and Ed25519 -/

/-- SHA-512 of a byte string: 64 bytes in digest order. -/
def sha512 (l : List Byte) : List Byte := sha2 64 .sha512 l

/-- The field prime of edwards25519. -/
def edP : Nat := 2 ^ 255 - 19
/-- The order of the base point of edwards25519. -/
def edL : Nat := 2 ^ 252 + 27742317777372353535851937790883648493

/-- `b ^ e` modulo `m` by squaring, over the `n` low bits of `e`. -/
def powMod (m : Nat) : Nat → Nat → Nat → Nat
  | 0, _, _ => 1 % m
  | n + 1, b, e =>
    let r := powMod m n (b * b % m) (e / 2)
    if e % 2 = 1 then b * r % m else r

/-- The inverse modulo the field prime. -/
def edInv (x : Nat) : Nat := powMod edP 256 x (edP - 2)

/-- The curve constant d = -121665/121666. -/
def edD : Nat := (edP - 121665) * edInv 121666 % edP

/-- A point in extended coordinates (X, Y, Z, T). -/
structure EdPoint where
  x : Nat
  y : Nat
  z : Nat
  t : Nat
  deriving DecidableEq, Repr

/-- Point addition on edwards25519. -/
def edAdd (p q : EdPoint) : EdPoint :=
  let a := (p.y + edP - p.x) * (q.y + edP - q.x) % edP
  let b := (p.y + p.x) * (q.y + q.x) % edP
  let c := 2 * p.t * q.t * edD % edP
  let d := 2 * p.z * q.z % edP
  let e := (b + edP - a) % edP
  let f := (d + edP - c) % edP
  let g := (d + c) % edP
  let h := (b + a) % edP
  ⟨e * f % edP, g * h % edP, f * g % edP, e * h % edP⟩

/-- A multiple of a point, over the `n` low bits of the factor. -/
def edMul : Nat → Nat → EdPoint → EdPoint
  | 0, _, _ => ⟨0, 1, 1, 0⟩
  | n + 1, k, p =>
    let r := edMul n (k / 2) (edAdd p p)
    if k % 2 = 1 then edAdd p r else r

/-- The x coordinate that belongs to y and a sign bit, if there is one. -/
def edRecover (y : Nat) (sign : Bool) : Option Nat :=
  if edP ≤ y then none else
  let x2 := (y * y + edP - 1) * edInv (edD * y % edP * y + 1) % edP
  if x2 = 0 then (if sign then none else some 0) else
  let r := powMod edP 256 x2 ((edP + 3) / 8)
  let x := if (r * r) % edP = x2 then r else r * powMod edP 256 2 ((edP - 1) / 4) % edP
  if (x * x) % edP ≠ x2 then none
  else some (if (x % 2 = 1) = sign then x else edP - x)

/-- The number that a little-endian byte string spells. -/
def leNat (l : List Byte) : Nat := l.foldr (fun x acc => x.toNat + 256 * acc) 0

/-- A little-endian number of `n` bytes. -/
def leBytes (n v : Nat) : List Byte :=
  (List.range n).map fun k => BitVec.ofNat 8 (v / 256 ^ k)

/-- The point that 32 bytes encode. -/
def edDecode (l : List Byte) : Option EdPoint :=
  let n := leNat l
  let y := n % 2 ^ 255
  (edRecover y (n.testBit 255)).map fun x => ⟨x, y, 1, x * y % edP⟩

/-- Equality of points as fractions. -/
def edSame (p q : EdPoint) : Bool :=
  (p.x * q.z % edP == q.x * p.z % edP) && (p.y * q.z % edP == q.y * p.z % edP)

/-- Ed25519 verification of a signature of 64 bytes over a message under a public key of 32 bytes. -/
def ed25519Verify (key msg sig : List Byte) : Bool :=
  if key.length ≠ 32 ∨ sig.length ≠ 64 then false else
  match edDecode key, edDecode (sig.take 32) with
  | some a, some r =>
    let s := leNat (sig.drop 32)
    if edL ≤ s then false else
    let h := leNat (sha512 (sig.take 32 ++ key ++ msg)) % edL
    let y := 4 * edInv 5 % edP
    match edRecover y false with
    | some x => edSame (edMul 256 s ⟨x, y, 1, x * y % edP⟩) (edAdd r (edMul 256 h a))
    | none => false
  | _, _ => false

/-- R58: CRC-64 with polynomial 42F0E1EBA9EA3693h, initial value and final XOR FFFFFFFFFFFFFFFFh, no reflection. -/
def crc64 (l : List Byte) : Nat := crc 64 0x42F0E1EBA9EA3693 0xFFFFFFFFFFFFFFFF false false 0xFFFFFFFFFFFFFFFF l

end Sys2Proof.Machine
end

