-- ==== Sys2Proof/Machine/State.lean ====
section
/-!
DEFINITION. Machine/State.lean: everything the spec gives Kutia, as plain data, and the state of an unpowered module.

One structure for each chapter of the spec; `State` holds them all, the queue of waiting commands, and two fields of the
model's own: the frames handed to the ports (`out`) and the counter that free values are drawn with (`draws`).
-/

namespace Sys2Proof.Machine

/-- A value for each of the three lanes. -/
structure PerLane (α : Type) where
  a : α
  b : α
  l : α
  deriving DecidableEq, Repr

/-- A value for each of the two bus channels. -/
structure PerChan (α : Type) where
  a : α
  b : α
  deriving DecidableEq, Repr

/-- A word on dual rails: `hi` holds the true rails and `lo` the false rails of its bits (Table 02-1). -/
structure Rails (w : Nat) where
  hi : BitVec w
  lo : BitVec w
  deriving DecidableEq, Repr

/-- The valid code of a word (Table 02-1): each bit drives exactly one of its rails. -/
def Rails.code {w : Nat} (v : BitVec w) : Rails w := ⟨v, ~~~v⟩

/-- The spacer: no value present (Table 02-1). -/
def Rails.spacer {w : Nat} : Rails w := ⟨0, 0⟩

/-- The valid code of one bit. -/
def Rails.bit (x : Bool) : Rails 1 := Rails.code (BitVec.ofBool x)

/-- The modes of Table 12-1. -/
inductive Mode where
  | off | start | watch | stop | run | degraded | testTrack | hold | standby | split | safeState | shutdown
  deriving DecidableEq, Repr

/-- The twin roles as 1700:01 codes them. -/
inductive Role where
  | solo | active | standby | unresolved
  deriving DecidableEq, Repr

/-! ### Station data (01, and sections 06h to 08h) -/

/-- A binding word (Table 01-5); `none` where the field holds its "none" code. -/
structure Binding where
  partner : Option Nat
  obj     : Nat
  drive   : Bool
  dgroup  : Nat
  diA     : Option Nat
  diB     : Option Nat
  deriving DecidableEq, Repr

/-- A valid element entry (Tables 01-3 and 01-6). -/
structure Element where
  kind    : Nat
  profile : Nat
  remote  : Bool
  bind1   : Binding
  bind2   : Binding
  kp0     : U32
  kp1     : U32
  deriving DecidableEq, Repr

/-- An element-list entry (Table 01-9). -/
structure ListEntry where
  ckind  : Nat
  rgroup : Nat
  move   : Bool
  req    : Nat
  elem   : Nat
  deriving DecidableEq, Repr

/-- A valid route header (Table 01-8) with its element list. -/
structure Route where
  profile : Nat
  contin  : Bool
  noseq   : Bool
  shunt   : Bool
  xzone   : Bool
  list    : List ListEntry
  exit    : Nat
  entry   : Nat
  appr1   : Option Nat
  appr2   : Option Nat
  ovlt    : Nat
  apprt   : Nat
  maxcls  : Nat
  berth   : Option Nat
  cont    : Option Nat
  deriving DecidableEq, Repr

/-- A defined rule profile (Table 01-11). -/
structure Profile where
  boundary : Bool
  apprall  : Bool
  seqrel   : Bool
  ovltimer : Bool
  apprmax  : Nat
  apprmin  : Nat
  ovlmax   : Nat
  ovlmin   : Nat
  throwmax : Nat
  aspect   : List (List U8)
  deriving DecidableEq, Repr

/-- A defined partner entry (Table 01-12). -/
structure Partner where
  ptype  : Nat
  naddrA : Nat
  allow  : U16
  ident  : U32
  paired : Bool
  naddrB : Nat
  pref   : List Nat
  deriving DecidableEq, Repr

/-- A session policy record (Table 09-3). -/
structure Policy where
  tmo   : Nat
  genl  : List Nat
  pll   : List Nat
  optl  : List Nat
  perl  : List Nat
  pairs : List (Nat × Nat)
  deriving DecidableEq, Repr

/-- A safety-code profile (Table 09-4); `source` as 16xx:01 codes it. -/
structure ScProfile where
  source : Nat
  width  : Nat
  poly   : U64
  init   : U64
  xorout : U64
  refin  : Bool
  refout : Bool
  schk   : U32
  deriving DecidableEq, Repr

/-- A defined drive-group record (Table 06-4). -/
structure GroupRec where
  elem    : Nat
  fstop   : Nat
  fmarg   : Nat
  frunmin : Nat
  fmax    : Nat
  dect    : Nat
  sstw    : Nat
  imax    : Nat
  istall  : Nat
  izero   : Nat
  startd  : Nat
  runn    : Nat
  runr    : Nat
  deriving DecidableEq, Repr

/-- The field configuration record (Table 07-3), with its 128 bytes. -/
structure FieldConfig where
  filt  : BitVec 12
  type3 : BitVec 6
  pair  : BitVec 24
  panti : BitVec 24
  cnten : BitVec 8
  tpdis : BitVec 24
  par4  : BitVec 6
  par2  : BitVec 12
  fmask : BitVec 24
  fbin  : List U8
  fbt   : Nat
  dt    : List Nat
  fchk  : U32
  bytes : List Byte
  deriving DecidableEq, Repr

/-- A schedule entry (Table 08-6). -/
structure SchedEntry where
  kind : Nat
  node : Nat
  span : Nat
  pair : Bool
  peer : Nat
  deriving DecidableEq, Repr

/-- A forwarding entry (Table 08-10). -/
structure FwdEntry where
  inport : Chan
  ibcyc  : Nat
  ipos   : Nat
  obcyc  : Nat
  opos   : Nat
  deriving DecidableEq, Repr

/-- The cluster header and the schedule of section 06h (Table 08-5). A table lists its entries by 160 b + p. -/
structure Cluster where
  nkutia : Nat
  offs   : Nat
  syncin : Bool
  split  : Bool
  rate   : Nat
  nodeA  : Nat
  nodeB  : Nat
  sched  : U32
  dmax   : Nat
  cs     : List (Option Nat)
  nodep  : Nat
  rankp  : Option Nat
  ratep  : Nat
  csp    : List (Option Nat)
  tableA : Table SchedEntry
  tableB : Table SchedEntry
  fwd    : List FwdEntry
  deriving DecidableEq, Repr

/-- The station image header (Table 01-1). -/
structure Header where
  format  : Nat
  imglen  : Nat
  salt    : U32
  tag     : U16
  commit  : U64
  segment : Nat
  zone    : Nat
  posA    : Nat
  posB    : Option Nat
  cycle   : Nat
  rankA   : Option Nat
  rankB   : Option Nat
  deglh   : Nat
  nelem   : Nat
  nroute  : Nat
  npool   : Nat
  npart   : Nat
  build   : U32
  deriving DecidableEq, Repr

/-- The station data in service: the image as the lanes read it. -/
structure Station where
  header   : Header
  elements : Table (Option Element)
  routes   : Table (Option Route)
  profiles : Table (Option Profile)
  partners : Table (Option Partner)
  cluster  : Cluster
  policies : Table (Option Policy)
  scs      : Table (Option ScProfile)
  field    : Option FieldConfig
  groups   : Table (Option GroupRec)
  deriving DecidableEq, Repr

/-! ### The rule program (04, 05) -/

/-- A variable map entry (Table 04-6). -/
structure MapEntry where
  cls    : Nat
  role   : Nat
  typ    : Nat
  varnum : Nat
  symid  : U64
  width  : Nat
  offset : Nat
  deriving DecidableEq, Repr

/-- A code variant: header fields (Table 04-5), variable map and initial data image. -/
structure Variant where
  format  : Nat
  imglen  : Nat
  variant : Nat
  lagmax  : Nat
  commit  : U64
  pair    : U64
  station : U64
  progid  : U64
  twc     : Nat
  codelen : Nat
  datalen : Nat
  nvar    : Nat
  ntimer  : Nat
  nedge   : Nat
  version : U32
  build   : U32
  map     : List MapEntry
  init    : List Byte
  deriving DecidableEq, Repr

/-- A pair of variants. -/
structure ProgPair where
  va : Variant
  vb : Variant
  deriving DecidableEq, Repr

/-- A timer instance (Table 04-8). -/
structure Timer where
  preset  : Nat
  elapsed : Nat
  run     : Bool
  q       : Bool
  pin     : Bool
  execn   : U32
  deriving DecidableEq, Repr

/-- An edge detector instance (R127). -/
structure Edge where
  prev : Bool
  q    : Bool
  init : Bool
  deriving DecidableEq, Repr

/-- A counter instance: its count and the two edge detectors of its count inputs (R127). -/
structure Counter where
  count : Int
  up    : Edge
  down  : Edge
  deriving DecidableEq, Repr

/-- The value of one program variable, in true form. -/
inductive Cell where
  | scalar (v : U64)
  | timer (x : Timer)
  | edge (x : Edge)
  | counter (x : Counter)
  deriving DecidableEq, Repr

/-- An active force (Table 05-9). -/
structure ForceRow where
  symid     : U64
  value     : U64
  varnum    : Nat
  cls       : Nat
  since     : Time
  discarded : U32
  deriving DecidableEq, Repr

/-- A force request in the shadow list (Table 05-8). -/
structure ForceReq where
  remove : Bool
  symid  : U64
  value  : U64
  deriving DecidableEq, Repr

/-- The program in service: load result, pair, mode bookkeeping (3000), and the variables as the last vote left them, which is what
the dictionary reads (R295). -/
structure ProgramSt where
  loadResult : U8 := 1
  pair       : Option ProgPair := none
  executed   : U64 := 0
  frozen     : Bool := false
  shown      : Table Cell := []
  deriving DecidableEq, Repr

/-- On-line change and forces (3800 to 39FF). `stateC` is 3800:01; `switched` says that the present cycle is K of a switch that has been
made. -/
structure ChangeSt where
  stateC    : Nat := 0
  result    : U8 := 0
  isRoll    : Bool := false
  prepared  : Option ProgPair := none
  retained  : Option ProgPair := none
  tcarry    : Nat := 0
  kSwitch   : U32 := 0
  lastK     : U32 := 0
  byMirror  : Bool := false
  switched  : Bool := false
  switchAt  : Time := 0
  armedAt   : Option U32 := none
  since     : Time := 0
  forces    : List ForceRow := []
  queued    : Option (List ForceReq) := none
  dropped   : U32 := 0
  deriving DecidableEq, Repr

/-! ### Lanes (02) and the vital cycle (04) -/

/-- The register of one stage group of a lane: the pair that it holds, and since when it has held a request that is not yet
acknowledged (R40). A group without a request is idle, its rails at the spacer. -/
structure StageSt where
  pair    : Rails 1 := Rails.spacer
  request : Option Time := none
  deriving DecidableEq, Repr

/-- What stands on a lane's vote port (R49), its digests on dual rails (R38): its digests, a Mill's detail codes, and where it deviates
from the generic outcome. -/
structure Delivery where
  gdigest : Rails 64
  pdigest : Rails 64
  details : List (Nat × U8)
  dev     : List Deviation
  deriving DecidableEq, Repr

/-- One lane: its record (Table 02-7), its way through re-admission (Table 02-4), its load results, its place in the present cycle, its
Commons copy and its variables: a Mill's program variables, the Loom's generic ones. `judged` says that the last vote found it in
disagreement; `verdicts` are the lane's verdicts on telegrams since the last S, `snapVerdicts` those of the present snapshot (R276);
`current` says that its Commons copy holds the last voted claims; `gsum` and `psum` are the digests of the state at the end of Intake
(R58). `stages` are the stage groups that hold a code or a request (R38, R40), `absent` are the items of the snapshot that a read of the
lane has missed (R319), `readback` is its readback memory (R320), and `stores` the stores of the leading core that the trailing core has
not retired yet, oldest first and 4 at most (R43); the vote port of a lane that has not delivered is at the spacer. -/
structure LaneSt where
  state      : Nat := 0
  streak     : Nat := 0
  misses     : List Bool := []
  gdigest    : U64 := 0
  pdigest    : U64 := 0
  lastSource : U8 := 0xFF
  lastTime   : Time := 0
  exclusions : U32 := 0
  illegal    : U32 := 0
  stalls     : U32 := 0
  lastResult : U8 := 0
  since      : Time := 0
  failed     : Bool := false
  hostAsked  : Bool := false
  source     : Option Lane := none
  matching   : Nat := 0
  shadows    : Nat := 0
  bistOk     : Bool := false
  loadCode   : U8 := 1
  loadRef    : U32 := 0xFFFFFFFF
  loadCommit : U64 := 0
  progCode   : U8 := 0
  markBus    : Bool := false
  markQueue  : Bool := false
  emptyBus   : Bool := false
  emptyQueue : Bool := false
  absent     : List Nat := []
  readback   : List Byte := []
  held       : Bool := false
  differing  : U32 := 0xFFFFFFFF
  complete   : Bool := false
  delivered  : Option Delivery := none
  deliveredAt : Time := 0
  late       : Bool := false
  wrote      : Bool := false
  stages     : Table StageSt := []
  claims     : Table (Rails 32) := []
  vars       : Table Cell := []
  stores     : List (Nat × Cell) := []
  verdicts   : List Bool := []
  snapVerdicts : List Bool := []
  judged     : Bool := false
  current    : Bool := false
  gsum       : U64 := 0
  psum       : U64 := 0
  logicLast  : Nat := 0
  logicPeak  : Nat := 0
  deriving DecidableEq, Repr

/-- The vote as a whole (2100, 2110): streaks, limit timer, attempts, counters. -/
structure VoteSt where
  split       : Nat := 0
  prog        : Nat := 0
  deglh       : Nat := 72
  limitLeft   : Nat := 259200 * 10 ^ 9
  limitAt     : Time := 0
  limitRuns   : Bool := false
  loomSince   : Option Time := none
  attempts    : List Time := []
  generic     : U64 := 0
  splits      : U32 := 0
  details     : U32 := 0
  directions  : U32 := 0
  lastCycle   : U32 := 0
  disagreed   : U32 := 0
  comparing   : Option Time := none
  deriving DecidableEq, Repr

/-- A host command taken into the queue: its record, its stamp, the channel and the authorisation mark (R134), the
reservations it still holds (R137), and whether it has been answered. `given` counts the results decided and not yet written,
`final` says that its life has ended, `run` that the throw of its element is its own, `lost` that it was overtaken (R173). -/
structure Command where
  opcode   : U8
  target   : Nat
  param    : U32
  opid     : U32
  hseq     : U32
  chan     : Nat
  auth     : Bool
  stamp    : Time
  reserved : Nat
  answered : Bool
  given    : Nat := 0
  final    : Bool := false
  run      : Bool := false
  lost     : Bool := false
  deriving DecidableEq, Repr

/-- A result record (Table 04-13). -/
structure ResultRec where
  hseq   : U32
  target : U16
  opcode : U8
  result : U8
  ref    : U32
  cycle  : U32
  deriving DecidableEq, Repr

/-- A received boundary record in the snapshot: session slot, MSG, content, arrival stamp. -/
structure RxRecord where
  slot  : Nat
  msg   : Nat
  body  : BoundaryRec
  stamp : Time
  deriving DecidableEq, Repr

/-- A verified telegram in a mailbox: slot, sender sequence, payload, stamp, and the lanes that rejected it. -/
structure RxTelegram where
  slot    : Nat
  tseq    : U32
  payload : List Byte
  stamp   : Time
  deriving DecidableEq, Repr

/-- A session event (R109): opened (with what it was opened by) or closed with a reason. -/
inductive SessEvent where
  | opened (slot : Nat) (stamp : Time)
  | closed (slot : Nat) (reason : U8) (stamp : Time)
  deriving DecidableEq, Repr

/-- The input snapshot of the cycle in progress (Table 04-3), field part: levels, counter differences, AI means, and the up
frame it was taken from; `lastFrame` is the last frame that any snapshot was taken from, `lastGood` the last that was not restrictive. -/
structure Snapshot where
  at_         : Time := 0
  restrictive : Bool := false
  frame       : Option UpFrame := none
  lastFrame   : Option UpFrame := none
  lastGood    : Option UpFrame := none
  di          : BitVec 48 := 0
  pairs       : BitVec 24 := 0
  pulses      : List Nat := []
  means       : List Nat := []
  flost       : Bool := false
  epoch       : U8 := 0
  keyOp       : Bool := false
  records     : List RxRecord := []
  mail        : List RxTelegram := []
  events      : List SessEvent := []
  deriving DecidableEq, Repr

/-- The vital cycle (3001, 3002), the command queue and the result ring (A800). `cmdq` holds the accepted commands not yet
taken, `taken` those of this cycle, `live` those taken earlier and not finally answered; `decided` the results of this cycle
not yet written; `lastS` is S of the cycle before, `endAt` the end of a stretched cycle (R235). -/
structure CycleSt where
  c           : Nat := 8
  number      : U32 := 0
  started     : Bool := false
  begun       : Time := 0
  lastS       : Time := 0
  endAt       : Option Time := none
  running     : Bool := false
  phase       : Nat := 0
  voted       : Bool := false
  restrictive : U32 := 0
  least       : Option Nat := none
  snap        : Snapshot := {}
  cmdq        : List Command := []
  taken       : List Command := []
  live        : List Command := []
  decided     : List ResultRec := []
  ring        : List ResultRec := []
  readSeq     : U32 := 0
  writeSeq    : U32 := 0
  reserved    : Nat := 0
  takenLast   : Nat := 0
  refusedFull : U32 := 0
  deriving DecidableEq, Repr

/-! ### The Commons (03) -/

/-- A claim slot (Table 03-9) and what the rules keep beside it. `relCycles` counts cycles without a released claim,
`claimedFor` the votes since Claimed, `reqCycle` the cycle whose Issue built the REQ, `armVotes` the votes since an arm; `held`
lists the elements whose claims the route still holds, `nbrRel` and `nbrCancel` note a RELEASE and a CANCEL received for a
continuation. -/
structure Slot where
  route      : Option Nat := none
  approach   : Bool := false
  cancelPend : Bool := false
  armed      : Bool := false
  emergency  : Bool := false
  byTrain    : Bool := false
  noTrain    : Bool := false
  owed       : Bool := false
  apprTimer  : Nat := 0
  ovlTimer   : Option Nat := none
  released   : BitVec 64 := 0
  seen       : BitVec 64 := 0
  stamp      : Time := 0
  opid       : U32 := 0
  hseq       : U32 := 0
  token      : U8 := 0
  emrgTimer  : Nat := 0
  reqCycle   : U32 := 0
  claimedFor : Nat := 0
  relCycles  : Nat := 0
  armBy      : U32 := 0
  armChan    : Nat := 0
  armVotes   : Nat := 0
  armCycle   : U32 := 0
  cleared    : Bool := false
  nbrState   : Nat := 0
  granted    : Bool := false
  held       : List Nat := []
  nbrRoute   : Nat := 0
  nbrRel     : Bool := false
  nbrCancel  : Bool := false
  deriving DecidableEq, Repr

/-- A route record (Table 03-10). `movedAt` is the cycle of the last state change: one change per vote (R82). -/
structure RouteSt where
  state    : Nat := 0
  slot     : Option Nat := none
  result   : U8 := 0
  ref      : U32 := 0xFFFFFFFF
  nbrCode  : U8 := 0
  cleared  : U32 := 0
  changed  : Time := 0
  movedAt  : Option U32 := none
  deriving DecidableEq, Repr

/-- The Commons (A000, A400): slots, routes, totals, the TOKEN counter. -/
structure CommonsSt where
  slots     : Table Slot := []
  freed     : List Nat := []
  routes    : Table RouteSt := []
  token     : U8 := 0
  peak      : Nat := 0
  refused12 : U32 := 0
  refused10 : U32 := 0
  abandoned : U32 := 0
  emergency : U32 := 0
  deriving DecidableEq, Repr

/-! ### Elements, points, signals, drive groups (01, 04, 06) -/

/-- The live state of an element: detection, latches, blocks, throws, commands and reports. `cmdStop` says that CMD 3 is being sent to
its object controller (R177). -/
structure ElemSt where
  detected   : U8 := 0xFF
  before     : U8 := 0xFF
  since      : Time := 0
  latched    : Bool := false
  clearRun   : Nat := 0
  resetting  : Bool := false
  resetVotes : Nat := 0
  blocked    : Bool := false
  moveVoted  : Move := .hold
  waiting    : Nat := 0
  throwing   : Nat := 0
  throwTimer : Nat := 0
  throwAt    : Time := 0
  stopping   : Bool := false
  cmdStop    : Bool := false
  stopReason : U8 := 0
  stopAt     : Time := 0
  lockedOut  : Bool := false
  detail     : U8 := 0
  cls        : Nat := 0
  perm       : Nat := 0
  history    : List (U32 × U8) := []
  report     : Option U16 := none
  above      : Bool := false
  deriving DecidableEq, Repr

/-- A drive group (Table 06-8). -/
structure GroupSt where
  state     : Nat := 0
  sense     : Nat := 0
  reason    : U8 := 0
  lock      : Bool := false
  rate      : Nat := 0
  prevRate  : Nat := 0
  f0        : Nat := 0
  j         : Nat := 0
  envelope  : Option Nat := none
  current   : Nat := 0
  feedback  : BitVec 2 := 0
  overRun   : Nat := 0
  onAt      : Option Time := none
  offAt     : Option Time := none
  throws    : U32 := 0
  lastThrow : Nat := 0
  lockTime  : Time := 0
  refusal   : U8 := 0
  resetAt   : Option Time := none
  deriving DecidableEq, Repr

/-- Elements and drive groups (4000, 2300). -/
structure PointsSt where
  elems     : Table ElemSt := []
  groups    : Table GroupSt := []
  throws    : U32 := 0
  failed    : U32 := 0
  stops     : U32 := 0
  fallbacks : U32 := 0
  deriving DecidableEq, Repr

/-! ### The field side and the barrier (07) -/

/-- A down frame with every field 0. -/
def DownFrame.blank : DownFrame :=
  ⟨0, 0, false, false, 0, false, 0, 0, 0, 0, 0, 0, 0, 0⟩

/-- One lane's barrier channels (2201 to 2203): the held down-frame register, what the Gatehouse holds of the lane, and what
the lane holds of its up channel. `lastSeq` and `upSeq` are what the next SEQ is held to, `validSeq` and `upValidSeq` the SEQ of the last
valid frame; `upPrev` is the valid frame before `up`. -/
structure BarrierSt where
  reg        : DownFrame := DownFrame.blank
  loaded     : Bool := false
  seq        : U32 := 0
  sent       : U64 := 0
  latest     : Option DownFrame := none
  lastSeq    : U32 := 0
  stale      : Bool := true
  resync     : Bool := false
  downAt     : Time := 0
  pages      : Table (List U32) := []
  up         : Option UpFrame := none
  upAt       : Time := 0
  upPrev     : Option UpFrame := none
  upPrevAt   : Time := 0
  upSeq      : U32 := 0
  validSeq   : U32 := 0
  upValidSeq : U32 := 0
  upStale    : Bool := true
  upResync   : Bool := false
  upValid    : U64 := 0
  crcErrors  : U32 := 0
  seqErrors  : U32 := 0
  staleCount : U32 := 0
  deriving DecidableEq, Repr

/-- The field side (2200 to 2260). `lowSince` and `okSince` are when VF fell below 16.0 V and rose above 19.2 V, `keyOn` and `keyOff` since
when each key channel has read 1 and both have read 0; `pairReq` and `outReq` hold the writes of 2212:01 and
2221:01 that no vote has taken, with their stamps; `pairSafe` and `outSafe` say that a reset edge met its condition when it came. -/
structure FieldSt where
  bar        : PerLane BarrierSt := ⟨{}, {}, {}⟩
  unconf     : Bool := true
  config     : Option FieldConfig := none
  flost      : Bool := true
  epoch      : U8 := 0
  flow       : Bool := false
  kstuck     : Bool := false
  kill       : BitVec 2 := 0
  keyLevels  : BitVec 2 := 0
  fsflt      : Bool := false
  lant       : Bool := false
  seq        : U32 := 0
  tick       : U32 := 0
  di         : BitVec 48 := 0
  diRun      : List Nat := []
  keycnt     : U16 := 0
  aiflt      : BitVec 4 := 0
  aiRun      : List Nat := []
  pairf      : BitVec 24 := 0
  pairRun    : List Nat := []
  dorb       : BitVec 24 := 0
  doflt      : BitVec 24 := 0
  gate       : BitVec 24 := 0
  gateAt     : List Time := []
  cnt        : List U16 := []
  aacc       : List U32 := []
  vf         : Nat := 0
  vfLow      : Nat := 0
  lowSince   : Option Time := none
  okSince    : Option Time := none
  keyOn      : PerChan (Option Time) := ⟨none, none⟩
  keyOff     : Option Time := none
  iout       : Nat := 0
  iouSince   : Option Time := none
  configSince : Option Time := none
  lostEvents : U32 := 0
  lantCause  : U8 := 0
  lantTime   : Time := 0
  pairIgn    : U32 := 0
  keyOps     : U32 := 0
  keyIgn     : U32 := 0
  outIgn     : U32 := 0
  pulseFail  : U32 := 0
  pairReq    : List (BitVec 24 × Time) := []
  outReq     : List (BitVec 24 × Time) := []
  prst       : BitVec 24 := 0
  orst       : BitVec 24 := 0
  votedPrst  : BitVec 24 := 0
  votedOrst  : BitVec 24 := 0
  pairEdge   : BitVec 24 := 0
  outEdge    : BitVec 24 := 0
  pairSafe   : BitVec 24 := 0
  outSafe    : BitVec 24 := 0
  docmd      : BitVec 24 := 0
  levels     : BitVec 48 := 0
  pairVals   : BitVec 24 := 0
  means      : List Nat := [4095, 4095, 4095, 4095]
  deriving DecidableEq, Repr

/-! ### The field bus (08) -/

/-- A frame in the arbitrating queue of a channel, with the time it came there. -/
structure Queued where
  since : Time
  frame : BusFrame
  deriving DecidableEq, Repr

/-- Counters and state of one channel (1300, 1301). `asked` counts the basic cycles since the last delay request went out, `sentAt` is its
TSEND and its time from send to readback; `busy` counts the arbitrating positions of this matrix that carried a frame, `waitSum` and
`waits` the waits of the frames sent in it. -/
structure ChanSt where
  delay      : Option Nat := none
  measured   : List Nat := []
  asked      : Option Nat := none
  sentAt     : Option (Time × Nat) := none
  link       : Bool := false
  silent     : Nat := 0
  sent       : U64 := 0
  valid      : U64 := 0
  crcErrors  : U32 := 0
  window     : U32 := 0
  cuts       : U32 := 0
  collisions : U32 := 0
  drops      : U32 := 0
  load       : U8 := 0
  wait       : U32 := 0
  foreign    : U32 := 0
  queue      : List Queued := []
  tries      : Nat := 0
  backoff    : Nat := 0
  busy       : Nat := 0
  waitSum    : Nat := 0
  waits      : Nat := 0
  deriving DecidableEq, Repr

/-- A frame that waits for its output position in Split (R250): when it came, its FTYPE and its body. -/
structure Held where
  since : Time
  ftype : Nat
  body  : List Byte
  deriving DecidableEq, Repr

/-- A bus engine (Table 08-4) with what it knows of its cluster: outside Split one runs both channels, in Split each port has its own
(R249). `missedRun` counts consecutive sync frames missed in the acceptance window, `noSync` basic cycles without any valid one, `synced`
the basic cycles of an observed matrix that delivered one; `clusterOff` is cluster time minus the Belfry as last heard, `origin` the
cluster time at which basic cycle 0 begins. `ownSync` says that a time master's own sync frame of this basic cycle has been read back clean,
`bcyc` is the basic cycle that runs from `turnAt` on, and the one before it runs until then. -/
structure PortSt where
  engine     : Nat := 0
  master     : Option Nat := none
  matrix     : U16 := 0
  bcyc       : Nat := 0
  collided   : Nat := 0
  listenFrom : Time := 0
  deviation  : Int := 0
  correction : Int := 0
  limitRun   : Nat := 0
  missedRun  : Nat := 0
  noSync     : Nat := 0
  ownSync    : Bool := false
  turnAt     : Time := 0
  observing  : Bool := false
  matrixOk   : Bool := false
  synced     : Nat := 0
  clusterOff : Int := 0
  origin     : Int := 0
  foreignRun : Nat := 0
  foreignSeen : Bool := false
  deriving DecidableEq, Repr

/-- The bus (1200 to 1310): the engine of both channels, or of port A in Split; `portB` is port B's. `corrSum` adds up the corrections of
the present matrix, `steer` is the rate by which a time master follows SYNC_IN (R236); `telegrams` lists what goes out in the positions of
this cycle, by slot for vital telegrams and by 512 + group for down frames, and `staged` what the Issue phase has handed over for the next
cycle (R245). -/
structure BusSt extends PortSt where
  node       : Nat := 0x3FF
  rank       : Option Nat := none
  takeovers  : U32 := 0
  steps      : U32 := 0
  lastStep   : Int := 0
  unsyncFrom : Time := 0
  worst      : Int := 0
  limitHits  : U32 := 0
  missed     : U32 := 0
  pulses     : U32 := 0
  corrSum    : Int := 0
  steer      : Int := 0
  portB      : PortSt := {}
  ch         : PerChan ChanSt := ⟨{}, {}⟩
  both       : U64 := 0
  one        : U64 := 0
  mismatched : U32 := 0
  noCopy     : U32 := 0
  forwarded  : U64 := 0
  replaced   : U32 := 0
  fwdHeld    : Table (Option Held) := []
  telegrams  : Table (List Byte) := []
  staged     : Table (List Byte) := []
  diffRun    : Nat := 0
  diffAt     : Option Nat := none
  peerSeen   : Option Time := none
  deriving DecidableEq, Repr

/-! ### Partner sessions (09) -/

/-- A session slot (Table 09-12) and what the rules keep beside it. `opensAt` is named (`stamped`) once its ACCEPT has been sent or
received; `carried` is the slot that the ACCEPT carried (R275); `built` is the next TSEQ. -/
structure Sess where
  state     : Nat := 0
  partner   : Option Nat := none
  node      : Nat := 0
  gen       : Nat := 0
  payload   : Nat := 0
  option    : Nat := 0
  period    : Nat := 0
  profile   : Option Nat := none
  pa        : Nat := 0
  pb        : Nat := 0
  slices    : List Nat := []
  tseq      : U32 := 0
  rseq      : U32 := 0
  missed    : Nat := 0
  accepted  : U32 := 0
  rejected  : U32 := 0
  opened    : Time := 0
  reason    : U8 := 0
  closeReq  : Option Time := none
  opensAt   : U16 := 0
  stamped   : Bool := false
  carried   : Nat := 0
  byUs      : Bool := false
  offer     : Option OpenFrame := none
  firstCyc  : Option U32 := none
  heard     : Bool := false
  records   : List (Nat × BoundaryRec) := []
  built     : Nat := 0
  deriving DecidableEq, Repr

/-- A stranger record (R266). -/
structure Stranger where
  node   : Nat
  ident  : U32
  reason : U8
  last   : Time
  deriving DecidableEq, Repr

/-- A check-value unit (R279). -/
structure CheckUnit where
  computed : U64 := 0
  wrong    : U32 := 0
  last     : Option Nat := none
  deriving DecidableEq, Repr

/-- An ACCEPT that waits in the arbitrating span: its slot, the arrival stamp of its OPEN, the node, and the session as it will stand once
the ACCEPT is sent. Until then the slot is Free (Table 09-1). -/
structure Promise where
  slot  : Nat
  since : Time
  node  : Nat
  offer : OpenFrame
  sess  : Sess
  deriving DecidableEq, Repr

/-- Sessions as a whole (1400 to 16E1). `promised` lists the ACCEPTs not yet sent, `closeDue` the CLOSE frames that the next Issue phase
sends, by node with their reason. `quiet` lists nodes refused 07h until the next matrix boundary (R265), `sentOpen` the partners with an
OPEN of this module unanswered, `waiting` those that may have a new one from the next boundary (R264), `heardAs` the node and the ACCEPT's
SESS last heard of a partner. -/
structure SessionsSt where
  slots     : Table Sess := []
  mailbox   : List RxTelegram := []
  records   : List RxRecord := []
  events    : List SessEvent := []
  strangers : List Stranger := []
  ignored   : U32 := 0
  full      : U32 := 0
  refused   : U32 := 0
  timeouts  : U32 := 0
  peak      : Nat := 0
  quiet     : List Nat := []
  sentOpen  : List Nat := []
  waiting   : List Nat := []
  promised  : List Promise := []
  closeDue  : List (Nat × U8) := []
  heardAs   : Table (Nat × Nat) := []
  units     : Table CheckUnit := []
  deriving DecidableEq, Repr

/-! ### The host link (10) -/

/-- A transfer in progress on a channel. Kutia sends `data` in segments of 60 bytes, the present block of `blk` from `next`; or
it receives `size` bytes, `next` being the first segment not yet received in order and the block being `start` to
`start + blk - 1`. -/
inductive Transfer where
  | sending (bus : HostBus) (tid : U8) (index : Nat) (sub : Nat) (data : List Byte) (next : Nat) (blk : Nat) (resends : Nat)
  | receiving (bus : HostBus) (tid : U8) (index : Nat) (sub : Nat) (size : Nat) (data : List Byte) (next : Nat) (start : Nat)
      (blk : Nat)
  deriving DecidableEq, Repr

/-- A dictionary channel (1110 to 1117). `cut` is the TID of a transfer that a Steward restart ended (R308), `fetched`
what the last completed read of a lane's readback memory has brought (R320). -/
structure ChannelSt where
  transfer  : Option Transfer := none
  frameAt   : Time := 0
  bus       : Nat := 0
  keySlot   : Option Nat := none
  activity  : Time := 0
  transfers : U32 := 0
  aborts    : U32 := 0
  lastAbort : U16 := 0
  challenge : Option (List Byte × Time) := none
  cut       : Option U8 := none
  fetched   : List Byte := []
  deriving DecidableEq, Repr

/-- A host bus (1101, 1102). -/
structure HostBusSt where
  state    : Nat := 0
  received : U64 := 0
  sent     : U64 := 0
  errors   : U32 := 0
  busOff   : U32 := 0
  txErr    : U8 := 0
  rxErr    : U8 := 0
  silent   : Bool := false
  deriving DecidableEq, Repr

/-- One staged group (20F0, 20F1): status code, owner, abort code of the last refused commit, shadow writes, and the time of
a commit not yet applied. -/
structure GroupShadow where
  status  : Nat := 0
  owner   : Option Nat := none
  code    : U16 := 0
  shadow  : List (Nat × Nat × List Byte) := []
  pending : Option Time := none
  deriving DecidableEq, Repr

/-- A queued event (R307). -/
structure Event where
  kind  : Nat
  eseq  : U16
  bytes : List Byte
  deriving DecidableEq, Repr

/-- A provisioned key (R306). -/
structure KeySt where
  key  : Option (List Byte) := none
  at_  : Time := 0
  deriving DecidableEq, Repr

/-- The host link, authorisation and events. `settings` holds the values in force of the RWS and other plain settings by
index x 256 + subindex. -/
structure HostSt where
  channels  : Table ChannelSt := []
  hl1       : HostBusSt := {}
  hl2       : HostBusSt := {}
  position  : Nat := 0
  groups    : Table GroupShadow := []
  settings  : Table Nat := []
  arbOp     : Nat := 500
  dataOp    : Nat := 2
  keys      : Table KeySt := []
  refusals  : List Time := []
  lockout   : Option Time := none
  events    : List Event := []
  eseq      : U16 := 0
  dropped   : U32 := 0
  dropDue   : Nat := 0
  serving   : Bool := false
  servingAt : Time := 0
  request   : U8 := 0
  outcome   : U16 := 0
  modeReq   : Option (U8 × Time) := none
  deriving DecidableEq, Repr

/-! ### Stiles and crossings (11) -/

/-- A posted-write history record (R324). -/
structure Posted where
  tag   : U16
  dir   : Dir
  len   : Nat
  addr  : U32
  cycle : U32
  time  : U32
  deriving DecidableEq, Repr

/-- A side-band message of a Stile (Table 11-3). -/
structure StileMsg where
  mtype  : U8
  origin : U8
  tag    : U16
  param  : U32
  addr   : U32
  reason : U8
  deriving DecidableEq, Repr

/-- What an entry of class P is (R317): a write with its far address and its data, or a side-band message. -/
inductive PBody where
  | write (addr : U32) (data : List Byte)
  | message (m : StileMsg)
  deriving DecidableEq, Repr

/-- An entry of a P queue that is not known to be delivered: its tag, what it is, and when it was posted. -/
structure PEntry where
  tag  : U16
  body : PBody
  at_  : Time
  deriving DecidableEq, Repr

/-- An entry that has found no P credit (R321): what it is, the tag with which it will arrive, and since when it waits. It holds its
sender's port. -/
structure PWait where
  body    : PBody
  arrived : U16
  since   : Time
  deriving DecidableEq, Repr

/-- Class P of one direction of a Stile (R317, R323, R324): the sender's next tag, the receiver's next tag, the queue of 32, the entry
that waits for credit, the history of 256 writes, and the last message that the receiver has had. -/
structure PSide where
  tag    : U16 := 0
  expect : U16 := 0
  posted : U64 := 0
  queue  : List PEntry := []
  wait   : Option PWait := none
  hist   : List Posted := []
  got    : Option StileMsg := none
  deriving DecidableEq, Repr

/-- How a read ends (R317, R319, R325): with data, or with an error status. -/
inductive CStatus where
  | data | timeout | reset
  deriving DecidableEq, Repr

/-- A completion (class C): the address of its read, its status, and its data. -/
structure Completion where
  addr   : U32
  status : CStatus
  data   : List Byte
  deriving DecidableEq, Repr

/-- A read of the service side (class N inward): its address, the dictionary channel that needs it, when it was issued, and the
completion that stands in the C queue behind that of an earlier read, if it has one. -/
structure NRead where
  addr   : U32
  chan   : Nat
  since  : Time
  answer : Option Completion
  deriving DecidableEq, Repr

/-- One Stile (2B01 to 2B03). `out` and `inw` are class P of its two directions, `reading` the one entry of the outbound N queue,
`serviceRds` the four of the inbound one with the outbound C queue beside them, `done` the last completion that the lane has had, and
`expired` counts the lane reads completed with TIMEOUT whose own completion has not come. -/
structure StileSt where
  svcReset   : Bool := false
  laneReset  : Bool := false
  out        : PSide := {}
  inw        : PSide := {}
  reads      : U64 := 0
  reading    : Option (U32 × Time) := none
  done       : Option Completion := none
  expired    : Nat := 0
  serviceRds : List NRead := []
  timeouts   : U32 := 0
  longest    : Nat := 0
  failures   : U32 := 0
  lastTag    : U32 := 0xFFFFFFFF
  lastReason : U8 := 0
  lateCount  : U32 := 0
  deriving DecidableEq, Repr

/-- One direction of a crossing (Table 11-5): a toggle's level; since when a transfer waits for its acknowledge; a snapshot's holding
register, the value now, and what the receiver holds; a counter's delta with its overflow flag, the events that gather for the next one,
and the receiver's running total. -/
structure CrossWay where
  level    : Bool := false
  waiting  : Option Time := none
  holding  : List Byte := []
  current  : List Byte := []
  received : List Byte := []
  delta    : Nat := 0
  overflow : Bool := false
  gathered : Nat := 0
  total    : Nat := 0
  deriving DecidableEq, Repr

/-- One crossing (2B20 to 2B2F). A crossing of one direction uses `out`; those that Table 11-6 gives both ways use `back` as well.
`clockRan` is how long the island's clock monitor has reported its clock running when it last spoke (R331). -/
structure CrossSt where
  state     : Nat := 0
  out       : CrossWay := {}
  back      : CrossWay := {}
  clockRan  : Time := 0
  transfers : U64 := 0
  timeouts  : U32 := 0
  resets    : U32 := 0
  protocol  : U32 := 0
  lastFault : Time := 0
  deriving DecidableEq, Repr

/-- Stiles and crossings as a whole (2B00). -/
structure StilesSt where
  stiles    : PerLane StileSt := ⟨{}, {}, {}⟩
  crossings : Table CrossSt := []
  timeouts  : U32 := 0
  protocol  : U32 := 0
  markers   : U32 := 0
  lastFault : U8 := 0xFF
  deriving DecidableEq, Repr

/-! ### Modes, start, power (12) -/

/-- One power domain (2A01 to 2A08). -/
structure DomainSt where
  state  : Nat := 0
  mv     : Nat := 0
  faults : U32 := 0
  deriving DecidableEq, Repr

/-- The last BIST of one block (2801 to 2808). -/
structure BistSt where
  result : Nat := 0
  time   : Time := 0
  item   : U32 := 0xFFFFFFFF
  deriving DecidableEq, Repr

/-- The shutdown record (R352). -/
structure ShutdownRec where
  allPassed : Bool
  commits   : List U64
  deriving DecidableEq, Repr

/-- Mode, seal, start, BIST, power, Belfry. -/
structure ModesSt where
  mode       : Mode := .off
  previous   : Mode := .off
  since      : Time := 0
  sealStart  : BitVec 24 := 0
  sealNow    : BitVec 24 := 0
  broken     : U32 := 0
  sealAt     : Time := 0
  startAt    : Time := 0
  step       : Nat := 0
  startKind  : Nat := 1
  startWhy   : Nat := 1
  startMs    : Nat := 0
  bist       : Table BistSt := []
  bistKind   : Nat := 0
  bistAt     : Time := 0
  bistFailed : U8 := 0
  bistMs     : Nat := 0
  record     : Option ShutdownRec := none
  retention  : Option Nat := none
  vin        : Nat := 0
  vinLowest  : Nat := 0
  vinLowFrom : Option Time := none
  vinOkFrom  : Option Time := none
  fails      : U32 := 0
  lastFail   : Time := 0
  domains    : Table DomainSt := []
  pfwReleased : Bool := false
  rateCorr   : Int := 0
  defaulted  : Bool := false
  lanesAtEntry : Nat := 3
  splitRun   : Bool := false
  deriving DecidableEq, Repr

/-! ### The Constable and the Book (13) -/

/-- One fault source (2400 to 247F), its flags on dual rails (R38). `reported` is the owning block's report, `window` the window of the
present raise, `elapsed` its elapsed time up to `ticked`, `raisedSeq` the SEQ of the last record of a raise. -/
structure SourceSt where
  effective : Nat := 0
  assertedR  : Rails 1 := Rails.bit false
  pendingR   : Rails 1 := Rails.bit false
  escalatedR : Rails 1 := Rails.bit false
  reported  : Bool := false
  setting   : U8 := 0
  window    : Option Nat := none
  inForce   : Nat := 0
  elapsed   : Nat := 0
  ticked    : Time := 0
  raisedSeq : U32 := 0
  raises    : U32 := 0
  escalations : U32 := 0
  lastRaise : Time := 0
  params    : List U32 := []
  forcedRaise : Bool := false
  deriving DecidableEq, Repr

/-- A Book record (Table 13-5), without its CRC. -/
structure BookRec where
  time   : Time
  seq    : U32
  code   : U16
  source : U8
  cls    : Nat
  found  : Bool
  rpt    : Bool
  unsync : Bool
  forced : Bool
  rcount : Nat
  p1     : U32
  p2     : U32
  p3     : U32
  deriving DecidableEq, Repr

/-- The Constable, the proof of the checkers, and the Book (2400 to 2510). `tick` is the last 1 ms tick with a raise, `tickClass` the
highest effective class raised in it (R371). -/
structure ConstableSt where
  tick      : Nat := 0
  tickClass : Nat := 0
  sources   : Table SourceSt := []
  graveR    : Rails 1 := Rails.bit false
  killR     : Rails 1 := Rails.bit false
  stopSrc   : U8 := 0xFF
  stopAt    : Time := 0
  proved    : Nat := 0
  provedReq : Nat := 0
  onDemand  : Bool := false
  sweepEnd  : Time := 0
  sweeps    : U32 := 0
  silent    : U32 := 0
  lastSilent : Option Nat := none
  queue     : List BookRec := []
  founding  : List BookRec := []
  circ      : List BookRec := []
  nextSeq   : U32 := 0
  latest    : Time := 0
  lost      : U32 := 0
  lostDue   : Nat := 0
  lastClear : Time := 0
  scanErrs  : U32 := 0
  torn      : U32 := 0
  tornFirst : U32 := 0
  proofAt   : Option Time := none
  proofCyc  : U32 := 0
  proofs    : Nat := 0
  fromSeq   : U32 := 0
  count     : Nat := 0
  deriving DecidableEq, Repr

/-! ### Twin pairing (14) -/

/-- A complete mirror snapshot (Tables 14-5 to 14-7), decoded. -/
structure Mirror where
  seq     : U32
  cycle   : U32
  mode    : U8
  final   : Bool
  kPend   : Bool
  kSwitch : U32
  lanes   : BitVec 3
  token   : U8
  station : U64
  progid  : U64
  dgstate : List Nat
  slots   : List (List Byte)
  timers  : List (List Byte)
  sess    : List (List Byte)
  elems   : List (List Byte)
  length  : Nat
  deriving DecidableEq, Repr

/-- Twin state (1700 to 1703). -/
structure TwinSt where
  role       : Role := .unresolved
  preference : U8 := 0xFF
  peerPos    : U8 := 0xFF
  link       : Bool := false
  paired     : Bool := false
  reason     : U8 := 0
  synced     : Bool := false
  syncCount  : Nat := 0
  snapSeq    : U32 := 0
  snapLen    : Nat := 0
  wsnap      : Nat := 0
  incomplete : U32 := 0
  takeovers  : U32 := 0
  lastKind   : U8 := 0
  lastAt     : Time := 0
  giveCause  : U8 := 0xFF
  returnOn   : Bool := true
  handover   : Option Time := none
  handOut    : U16 := 0
  peerHealth : Option HealthReport := none
  healthAt   : Time := 0
  sent       : U64 := 0
  valid      : U64 := 0
  discarded  : U32 := 0
  losses     : U32 := 0
  lseq       : U32 := 0
  hello      : Option Hello := none
  heardAt    : Option Time := none
  blocksSeq  : U32 := 0
  blocks     : List Byte := []
  blockNext  : Nat := 0
  newest     : Option Mirror := none
  applied    : Option (U32 × U32) := none
  mirror     : Option Mirror := none
  notice     : Option (Nat × Time) := none
  silentRun  : Nat := 0
  giving     : Option U32 := none
  takenAt    : Option Time := none
  healthyRun : Nat := 0
  dueTakeover : Bool := false
  sendFinal  : Bool := false
  sendTaken  : Bool := false
  droppedSeq : Option U32 := none
  silent     : Bool := false
  pd4Watch   : Bool := false
  peerTook   : Bool := false
  deriving DecidableEq, Repr

/-! ### Field update (15) -/

/-- One planned block of the journal: kind, block number, old content, new content, whether its record is valid. -/
structure JournalRec where
  kind  : Nat
  block : Nat
  old   : List Byte
  new   : List Byte
  valid : Bool
  deriving DecidableEq, Repr

/-- One copy of the image record (R414): the identities of the installed images of kinds 1 to 6, the installed program bank, the update
state, the journal pointer and direction, with its sequence number and its CRC-32. -/
structure ImageRec where
  seq     : U32
  ids     : List U64
  bank    : Nat
  state   : Nat
  pointer : Nat
  reverse : Bool
  crc     : U32
  deriving DecidableEq, Repr

/-- Update state and the flash image store (2600 to 2606). `images` holds the installed images of kinds 1 to 6, `former` those
that the journal can bring back, `limit` the confirmation limit of the present activation in h, `cause` why a reverse run goes
on, `due` why one waits, `otherBank` what the program bank that is not installed holds. -/
structure UpdateSt where
  state      : Nat := 0
  reverse    : Bool := false
  result     : U8 := 0
  pkgid      : U64 := 0
  pkglen     : Nat := 0
  pieces     : Table (List Byte) := []
  pointer    : Nat := 0
  plan       : List JournalRec := []
  failed     : Nat := 0
  inProgress : Bool := false
  goodStart  : Bool := false
  elapsed    : Nat := 0
  countFrom  : Time := 0
  savedAt    : Nat := 0
  due        : Option Nat := none
  paused     : Bool := false
  changedAt  : Time := 0
  rollbacks  : U32 := 0
  images     : Table (List Byte) := []
  bank       : Nat := 0
  otherBank  : List (List Byte) := []
  ownerKey   : Option (List Byte) := none
  formatHeld : Option U16 := none
  copyA      : Option ImageRec := none
  copyB      : Option ImageRec := none
  former     : Table (List Byte) := []
  spoiled    : List Nat := []
  limit      : Nat := 24
  cause      : Nat := 0
  restart    : Bool := false
  deriving DecidableEq, Repr

/-! ### Health, counters, trace (16) -/

/-- Health of one lane (2701 to 2703). -/
structure HealthSt where
  delta     : Int := 0
  exponent  : Nat := 0
  months    : Nat := 0xFFFF
  bound     : Nat := 0xFFFF
  valid     : U8 := 0xFF
  temp      : Int := 0
  mv        : Nat := 0
  discarded : U32 := 0
  periods   : List Nat := []
  deltas    : List Int := []
  sums      : List (Int × Nat) := []
  history   : List (Nat × Int) := []
  deriving DecidableEq, Repr

/-- A trace record (Table 16-2). -/
structure TraceRec where
  kind : Nat
  lane : Nat
  tseq : U16
  time : U32
  p1   : U32
  p2   : BitVec 24
  deriving DecidableEq, Repr

/-- Ageing, counters and trace (2700 to 2910). `counters` lists 2900:01 to 0E, `saved` the copy in PD0. -/
structure AgeSt where
  lanes      : PerLane HealthSt := ⟨{}, {}, {}⟩
  capacitance : Nat := 0
  holdup     : Nat := 0
  wear       : Table Nat := []
  ops        : List Nat := []
  ratings    : List Nat := []
  lastReset  : U8 := 0xFF
  counters   : List Nat := []
  saved      : List Nat := []
  capDue     : Bool := false
  captured   : List Byte := []
  traceOn    : Bool := false
  kinds      : U8 := 0xFE
  laneMask   : U8 := 7
  fifo       : List TraceRec := []
  portFree   : Time := 0
  savedAt    : Time := 0
  tseq       : U16 := 0
  sinceSync  : Nat := 0
  sentRecs   : U64 := 0
  dropped    : U64 := 0
  dropNew    : Nat := 0
  dropKinds  : U8 := 0
  peak       : Nat := 0
  syncs      : U64 := 0
  deriving DecidableEq, Repr

/-- What Kutia hands to a port. The frames stay in `State.out` until the outside takes them (the model's own field). -/
inductive Output where
  | hostFrame (bus : HostBus) (id : U32) (bytes : List Byte)
  | downFrame (ln : Lane) (f : DownFrame)
  | upFrame (ln : Lane) (f : UpFrame)
  | busFrame (chan : Chan) (f : BusFrame)
  | twinFrame (typ : Nat) (lseq : U32) (body : List Byte) (crc : U32)
  | traceRec (bytes : List Byte)
  deriving DecidableEq, Repr

/-- The whole machine. -/
structure State where
  /-- The commands that wait, first in, first out. -/
  pending   : List Instr := []
  /-- The Belfry time of the last event. -/
  now       : Time := 0
  station   : Option Station := none
  stationOk : Bool := false
  loadCode  : U8 := 1
  loadRef   : U32 := 0xFFFFFFFF
  program   : ProgramSt := {}
  change    : ChangeSt := {}
  lanes     : PerLane LaneSt := ⟨{}, {}, {}⟩
  vote      : VoteSt := {}
  cyc       : CycleSt := {}
  commons   : CommonsSt := {}
  points    : PointsSt := {}
  field     : FieldSt := {}
  bus       : BusSt := {}
  sessions  : SessionsSt := {}
  host      : HostSt := {}
  stiles    : StilesSt := {}
  modes     : ModesSt := {}
  constable : ConstableSt := {}
  twin      : TwinSt := {}
  update    : UpdateSt := {}
  age       : AgeSt := {}
  /-- Frames handed to the ports, oldest first: the model's own field. -/
  out       : List Output := []
  /-- How many free values have been drawn: the model's own field. -/
  draws     : Nat := 0
  deriving DecidableEq, Repr

/-- An unpowered module with virgin stores: the state before POWER_ON. Every field has the value stated beside it in its
structure; `notes/assumptions/` names those that the spec does not give. -/
def State.reset : State := {}

/-- Why the machine stops with a fault. No command of this block stops with one. -/
inductive Fault where
  /-- Raised by nothing: the spec gives every fault of Kutia a reaction (R366), and the model takes that reaction. Safe. -/
  | none
  deriving DecidableEq, Repr

/-- Why a command is refused by the model. -/
inductive Refusal where
  /-- Raised by `exec` for a row that has no meaning yet. Safe. -/
  | notModelled (mnemonic : String)
  deriving DecidableEq, Repr

end Sys2Proof.Machine
end

