-- ==== Sys2Proof/Machine/Ops.lean ====
section
/-!
DEFINITION. Machine/Ops.lean: the named operations that every family shares: keyed tables, lanes, results, events, the
Parish Book's queue, raising a fault source and applying its class, excluding a lane, entering Safe State, changing mode.
-/

namespace Sys2Proof.Machine

/-! ### Tables -/

/-- The entry of a key, or the table's default. -/
def tget {α : Type} (d : α) : Table α → Nat → α
  | [], _ => d
  | (k, v) :: rest, n => if k = n then v else tget d rest n

/-- Put a value at a key: keys stay strictly rising, and the default value is not listed. -/
def tput {α : Type} [DecidableEq α] (d : α) : Table α → Nat → α → Table α
  | [], n, x => if x = d then [] else [(n, x)]
  | (k, v) :: rest, n, x =>
    if n < k then (if x = d then (k, v) :: rest else (n, x) :: (k, v) :: rest)
    else if n = k then (if x = d then rest else (n, x) :: rest)
    else (k, v) :: tput d rest n x

/-- The canonical form of a table: keys strictly rising, no entry equal to the default. -/
def twf {α : Type} [DecidableEq α] (d : α) (t : Table α) : Bool :=
  t.all (fun e => decide (e.2 ≠ d)) && decide (t.Pairwise fun x y => x.1 < y.1)

/-- A table with every listed value changed by `f`; values that become the default are dropped. -/
def tmap {α : Type} [DecidableEq α] (d : α) (f : Nat → α → α) (t : Table α) : Table α :=
  (t.map fun e => (e.1, f e.1 e.2)).filter fun e => decide (e.2 ≠ d)

/-! ### Numbers and bytes -/

/-- Bits `hi` to `lo` of a number. -/
def bits (n hi lo : Nat) : Nat := n / 2 ^ lo % 2 ^ (hi + 1 - lo)

/-- Smallest whole number of `b`s that reaches `a` (a time of T ms is ceil(T/C) cycles, R126, R171, R183). -/
def ceilDiv (a b : Nat) : Nat := (a + b - 1) / b

/-- The smallest element of a list, or a default. -/
def minOr (d : Nat) : List Nat → Nat
  | [] => d
  | x :: xs => xs.foldl min x

/-- `n` ms in the Belfry's ns. -/
def ms (n : Nat) : Nat := n * 1000000
/-- `n` us in the Belfry's ns. -/
def us (n : Nat) : Nat := n * 1000
/-- `n` s in the Belfry's ns. -/
def sec (n : Nat) : Nat := n * 1000000000

/-- A number as a U32. -/
def u32 (n : Nat) : U32 := BitVec.ofNat 32 n
/-- A number as a U16. -/
def u16 (n : Nat) : U16 := BitVec.ofNat 16 n
/-- A number as a byte. -/
def u8 (n : Nat) : U8 := BitVec.ofNat 8 n
/-- A number as a U64. -/
def u64 (n : Nat) : U64 := BitVec.ofNat 64 n
/-- A signed number as the bits of an I32. -/
def i32 (n : Int) : U32 := BitVec.ofInt 32 n
/-- FFFFFFFFh, which stands for "none" in records. -/
def none32 : U32 := 0xFFFFFFFF

/-- The flags of a list of lanes or bits as a number, the first being bit 0. -/
def bitmap (l : List Bool) : Nat := l.foldr (fun x acc => x.toNat + 2 * acc) 0

/-- A bit string with bit `k` set or cleared. -/
def setBit {w : Nat} (v : BitVec w) (k : Nat) (on : Bool) : BitVec w :=
  if on then v ||| BitVec.ofNat w (2 ^ k) else v &&& ~~~ BitVec.ofNat w (2 ^ k)

/-- A list with its entry `k` changed. -/
def modAt {α : Type} (l : List α) (k : Nat) (f : α → α) : List α :=
  match l, k with
  | [], _ => []
  | x :: xs, 0 => f x :: xs
  | x :: xs, n + 1 => x :: modAt xs n f

/-! ### Dual rails (R38) -/

/-- Every bit of the word holds a valid code: one of its rails, and not both. -/
def Rails.valid {w : Nat} (r : Rails w) : Bool := r.hi ^^^ r.lo == BitVec.allOnes w

/-- The value of a valid code: its true rails. -/
def Rails.value {w : Nat} (r : Rails w) : BitVec w := r.hi

/-- The value of one bit. -/
def Rails.on (r : Rails 1) : Bool := r.value == 1

/-- A source is asserted (24xx:03). -/
def SourceSt.asserted (x : SourceSt) : Bool := x.assertedR.on
/-- A source waits for its acknowledgement. -/
def SourceSt.pending (x : SourceSt) : Bool := x.pendingR.on
/-- A source has escalated in its present raise. -/
def SourceSt.escalated (x : SourceSt) : Bool := x.escalatedR.on
/-- The Grave latch. -/
def ConstableSt.grave (x : ConstableSt) : Bool := x.graveR.on
/-- The kill lines run. -/
def ConstableSt.kill (x : ConstableSt) : Bool := x.killR.on

/-! ### Lanes and channels -/

/-- Lane A is 0, B 1 and L 2 in every record (R69). -/
def laneNo : Lane → Nat
  | .a => 0
  | .b => 1
  | .l => 2

/-- The three lanes in order. -/
def allLanes : List Lane := [.a, .b, .l]

/-- The value of one lane. -/
def PerLane.get {α : Type} (p : PerLane α) : Lane → α
  | .a => p.a
  | .b => p.b
  | .l => p.l

/-- One lane's value replaced. -/
def PerLane.set {α : Type} (p : PerLane α) (ln : Lane) (x : α) : PerLane α :=
  match ln with
  | .a => { p with a := x }
  | .b => { p with b := x }
  | .l => { p with l := x }

/-- The same function on all three lanes. -/
def PerLane.map {α : Type} (p : PerLane α) (f : α → α) : PerLane α := ⟨f p.a, f p.b, f p.l⟩

/-- The value of one channel. -/
def PerChan.get {α : Type} (p : PerChan α) : Chan → α
  | .a => p.a
  | .b => p.b

/-- One channel's value replaced. -/
def PerChan.set {α : Type} (p : PerChan α) (c : Chan) (x : α) : PerChan α :=
  match c with
  | .a => { p with a := x }
  | .b => { p with b := x }

/-- Channel A is 0, B 1. -/
def chanNo : Chan → Nat
  | .a => 0
  | .b => 1

/-- Change one lane's record. -/
def modLane (s : State) (ln : Lane) (f : LaneSt → LaneSt) : State :=
  { s with lanes := s.lanes.set ln (f (s.lanes.get ln)) }

/-- The lane is in the vote as things stand (Table 02-8, state 0). -/
def inVote (s : State) (ln : Lane) : Bool := (s.lanes.get ln).state == 0

/-- The lanes in the vote. -/
def voters (s : State) : List Lane := allLanes.filter (inVote s)

/-- 2100:01, the lanes in the vote as a bit map. -/
def voteMap (s : State) : Nat := bitmap (allLanes.map (inVote s))

/-- 2100:02: 0 none, 1 Degraded-A, 2 Degraded-B, 3 Degraded-L (Table 02-3). -/
def degradedKind (s : State) : Nat :=
  match voteMap s with
  | 6 => 1
  | 5 => 2
  | 3 => 3
  | _ => 0

/-! ### Elements, groups, routes, slots, sessions, sources -/

/-- The valid entry of an element number, if there is one. -/
def elem? (s : State) (e : Nat) : Option Element := s.station.bind fun d => tget none d.elements e
/-- The valid header of a route number, if there is one. -/
def route? (s : State) (r : Nat) : Option Route := s.station.bind fun d => tget none d.routes r
/-- A defined rule profile. -/
def profile? (s : State) (p : Nat) : Option Profile := s.station.bind fun d => tget none d.profiles p
/-- A defined partner entry. -/
def partner? (s : State) (p : Nat) : Option Partner := s.station.bind fun d => tget none d.partners p
/-- A defined drive-group record. -/
def group? (s : State) (g : Nat) : Option GroupRec := s.station.bind fun d => tget none d.groups g

/-- The live state of an element. -/
def elemSt (s : State) (e : Nat) : ElemSt := tget {} s.points.elems e
/-- Change the live state of an element. -/
def modElem (s : State) (e : Nat) (f : ElemSt → ElemSt) : State :=
  { s with points := { s.points with elems := tput {} s.points.elems e (f (elemSt s e)) } }
/-- The live state of a drive group. -/
def groupSt (s : State) (g : Nat) : GroupSt := tget {} s.points.groups g
/-- Change the live state of a drive group. -/
def modGroup (s : State) (g : Nat) (f : GroupSt → GroupSt) : State :=
  { s with points := { s.points with groups := tput {} s.points.groups g (f (groupSt s g)) } }
/-- A route's record. -/
def routeSt (s : State) (r : Nat) : RouteSt := tget {} s.commons.routes r
/-- Change a route's record. -/
def modRoute (s : State) (r : Nat) (f : RouteSt → RouteSt) : State :=
  { s with commons := { s.commons with routes := tput {} s.commons.routes r (f (routeSt s r)) } }
/-- A claim slot. -/
def slotSt (s : State) (k : Nat) : Slot := tget {} s.commons.slots k
/-- Change a claim slot. -/
def modSlot (s : State) (k : Nat) (f : Slot → Slot) : State :=
  { s with commons := { s.commons with slots := tput {} s.commons.slots k (f (slotSt s k)) } }
/-- A session slot. -/
def sess (s : State) (k : Nat) : Sess := tget {} s.sessions.slots k
/-- Change a session slot. -/
def modSess (s : State) (k : Nat) (f : Sess → Sess) : State :=
  { s with sessions := { s.sessions with slots := tput {} s.sessions.slots k (f (sess s k)) } }
/-- A fault source. -/
def source (s : State) (n : Nat) : SourceSt := tget {} s.constable.sources n
/-- Change a fault source. -/
def modSource (s : State) (n : Nat) (f : SourceSt → SourceSt) : State :=
  { s with constable := { s.constable with sources := tput {} s.constable.sources n (f (source s n)) } }
/-- A dictionary channel. -/
def chanSt (s : State) (c : Nat) : ChannelSt := tget {} s.host.channels c
/-- Change a dictionary channel. -/
def modChan (s : State) (c : Nat) (f : ChannelSt → ChannelSt) : State :=
  { s with host := { s.host with channels := tput {} s.host.channels c (f (chanSt s c)) } }
/-- A channel is authorised while it holds a key slot (R302). -/
def authorised (s : State) (c : Nat) : Bool := (chanSt s c).keySlot.isSome
/-- A plain setting in force by index and subindex, or its default. -/
def setting (s : State) (index sub dflt : Nat) : Nat :=
  match s.host.settings.find? fun e => e.1 == index * 256 + sub with
  | some e => e.2
  | none => dflt
/-- Put a plain setting in force. -/
def putSetting (s : State) (index sub v : Nat) : State :=
  { s with host := { s.host with
      settings := ((s.host.settings.filter fun e => e.1 < index * 256 + sub) ++ [(index * 256 + sub, v)]
        ++ (s.host.settings.filter fun e => index * 256 + sub < e.1)) } }

/-- A free value's index: the model's counter of draws moves on. -/
def draw (s : State) : State := { s with draws := s.draws + 1 }

/-- Hand a frame or a record to a port. -/
def emit (s : State) (o : Output) : State := { s with out := s.out ++ [o] }

/-! ### Lifetime counters (R443) -/

/-- Add to the lifetime counter 2900:`sub` in the Steward's running set. -/
def countUp (s : State) (sub n : Nat) : State :=
  let l := (List.range 14).map fun k => s.age.counters.getD k 0 + if k + 1 = sub then n else 0
  { s with age := { s.age with counters := l } }

/-! ### Modes -/

/-- The mode codes of Table 12-1. -/
def modeCode : Mode → Nat
  | .off => 0
  | .start => 1
  | .watch => 2
  | .stop => 3
  | .run => 4
  | .degraded => 5
  | .testTrack => 6
  | .hold => 7
  | .standby => 8
  | .split => 9
  | .safeState => 10
  | .shutdown => 11

/-- The role codes of 1700:01. -/
def roleCode : Role → Nat
  | .solo => 0
  | .active => 1
  | .standby => 2
  | .unresolved => 3

/-- The role as 2000:02 gives it: solo until the role is resolved (Table 12-5). -/
def roleNow (s : State) : Nat :=
  match s.twin.role with
  | .unresolved => 0
  | r => roleCode r

/-- Test Track or Hold: the fence is in force (R341). In Safe State and Shutdown the attribute stays as at entry. -/
def fence (s : State) : Bool :=
  match s.modes.mode with
  | .testTrack | .hold => true
  | .safeState => s.modes.previous == .testTrack || s.modes.previous == .hold
  | _ => false

/-- Modes in which the lanes run voted cycles. -/
def cyclic : Mode → Bool
  | .watch | .stop | .run | .degraded | .testTrack | .hold | .standby => true
  | _ => false

/-- The module controls the trackside: solo or active (R388). -/
def inControl (s : State) : Bool := s.twin.role != .standby

/-- Table 12-2, column "Point movement". -/
def movementPermitted (s : State) : Bool :=
  match s.modes.mode with
  | .stop | .run | .degraded | .testTrack => inControl s
  | _ => false

/-- Table 12-2, column "Clearing". -/
def clearingPermitted (s : State) : Bool :=
  match s.modes.mode with
  | .run | .degraded | .testTrack => inControl s
  | _ => false

/-- Table 12-2, column "Rule program": executed; a standby executes it as in Run (R398). -/
def programExecuted (s : State) : Bool :=
  match s.modes.mode with
  | .run | .degraded | .testTrack | .standby => true
  | _ => false

/-- R402: after a clean give-up the outgoing module's down frames still repeat its last outcome, until 200 us after TAKEN. -/
def overlapping (s : State) : Bool :=
  s.modes.mode == .standby && s.twin.giving.isSome && s.twin.takenAt.all fun t => s.now < t + us 200

/-! ### Events of the host link (R307) -/

/-- The Steward is serving the host link: it is up, and not within a restart (R308). -/
def stewardServes (s : State) : Bool := s.host.serving && s.host.servingAt ≤ s.now

/-- 1120:02 enables this event kind. -/
def kindEnabled (s : State) (kind : Nat) : Bool := (setting s 0x1120 2 0x3F).testBit (kind - 1)

/-- Put an event record in the event queue of 256. A full queue drops its oldest event and counts it. A kind that is not
enabled makes no event. -/
def queueEvent (s : State) (kind : Nat) (bytes : List Byte) : State :=
  if kindEnabled s kind = false then s else
  let e : Event := ⟨kind, s.host.eseq, bytes⟩
  let full := decide (256 ≤ s.host.events.length)
  let kept := if full then s.host.events.drop 1 else s.host.events
  { s with host := { s.host with
      events := kept ++ [e], eseq := s.host.eseq + 1,
      dropped := if full then s.host.dropped + 1 else s.host.dropped,
      dropDue := if full then s.host.dropDue + 1 else s.host.dropDue } }

/-- The bytes of a result record (Table 04-13). -/
def resultBytes (x : ResultRec) : List Byte :=
  leBytes 4 x.hseq.toNat ++ [x.result, x.opcode] ++ leBytes 2 x.target.toNat ++ leBytes 4 x.ref.toNat
    ++ leBytes 4 x.cycle.toNat

/-! ### The Parish Book's queue (R379 to R382) -/

/-- A Book record that describes the same event: equal in CODE, SOURCE and P1 to P3 (R382). -/
def sameEvent (x y : BookRec) : Bool :=
  x.code == y.code && x.source == y.source && x.p1 == y.p1 && x.p2 == y.p2 && x.p3 == y.p3

/-- How many of the queued records will take a sequence number of their own, given the newest record before them. -/
def newRecords : Option BookRec → List BookRec → Nat
  | _, [] => 0
  | prev, x :: rest =>
    (if prev.any (sameEvent x) then 0 else 1) + newRecords (some x) rest

/-- The SEQ that the next event will have once everything queued is written. -/
def nextSeqAhead (s : State) : U32 :=
  s.constable.nextSeq + u32 (newRecords s.constable.circ.getLast? s.constable.queue)

/-- Queue a record for the Book. The queue in PD0 holds 64; an event that finds it full is lost and counted (R381). -/
def bookPush (s : State) (x : BookRec) : State :=
  if s.constable.queue.length < 64 then
    { s with constable := { s.constable with queue := s.constable.queue ++ [x] } }
  else
    { s with constable := { s.constable with lost := s.constable.lost + 1, lostDue := s.constable.lostDue + 1 } }

/-- The Constable's 1 ms tick of this moment (R369). -/
def tickNow (s : State) : Nat := s.now / ms 1

/-- A fault record's KIND: 0 of a raise, 1 of an escalation (R380). -/
def faultKind (x : BookRec) (kind : Nat) : Bool := x.source != 0xFF && x.code.toNat % 0x1000 / 16 == 0x80 + kind

/-- Raises of one tick stand in ascending source number (R371). -/
def insertRaise (x : BookRec) : List BookRec → List BookRec
  | [] => [x]
  | y :: rest =>
    if faultKind y 0 && y.time / ms 1 == x.time / ms 1 && decide (x.source.toNat < y.source.toNat) then x :: y :: rest
    else y :: insertRaise x rest

/-- Queue the record of a raise, at its place in the tick. -/
def bookRaise (s : State) (x : BookRec) : State :=
  if s.constable.queue.length < 64 then
    { s with constable := { s.constable with queue := insertRaise x s.constable.queue } }
  else bookPush s x

/-- The time is synchronised while the bus engine is Active (R235). -/
def synchronised (s : State) : Bool := s.bus.engine == 5

/-- A record of this moment. -/
def bookRec (s : State) (code source cls : Nat) (forced : Bool) (p1 p2 p3 : U32) : BookRec :=
  { time := s.now, seq := 0, code := u16 code, source := u8 source, cls := cls, found := false, rpt := false,
    unsync := !synchronised s, forced := forced, rcount := 0, p1 := p1, p2 := p2, p3 := p3 }

/-- A non-fault event: source FFh, class Fh (R380). -/
def bookEvent (s : State) (code : Nat) (p1 p2 p3 : U32) : State :=
  bookPush s (bookRec s code 0xFF 0xF false p1 p2 p3)

/-! ### Fault sources (R364 to R371) -/

/-- A reserved source is never raised (R364). -/
def srcReserved (n : Nat) : Bool :=
  (24 ≤ n && n ≤ 31) || (40 ≤ n && n ≤ 47) || n == 115 || 128 ≤ n

/-- The configured class: 0 Notice, 1 Minor, 2 Lane, 3 Module, 4 Grave. The chapters' source tables together. -/
def srcClass (n : Nat) : Nat :=
  if n ∈ [5, 12] then 4
  else if n ∈ [2, 4, 6, 7, 8, 9, 14, 55, 56, 57, 67, 79, 103, 119, 122] then 3
  else if n ∈ [3, 13, 16, 17, 18, 19, 20, 21, 23, 32, 33, 34, 35, 36, 37, 39, 48, 49, 50, 51, 52, 53, 58, 64, 65, 66, 107]
  then 2
  else if n ∈ [11, 15, 61, 63, 68, 69, 71, 72, 73, 74, 75, 76, 77, 80, 81, 82, 83, 84, 89, 90, 96, 97, 98, 102, 104, 105,
    114, 117, 118, 120, 121, 124, 125, 126] then 1
  else 0

/-- 24xx:04: 0 none, 1 lanes, 2 Steward (R368). -/
def srcHandler (n : Nat) : Nat :=
  match srcClass n with
  | 1 => if 16 ≤ n ∧ n ≤ 95 then 1 else 2
  | 2 => 1
  | 3 => 2
  | _ => 0

/-- The default window of a class in ms (R384). -/
def classWindow : Nat → Nat
  | 1 => 200
  | 2 => 100
  | 3 => 50
  | _ => 0

/-- 24xx:05: the lane a source belongs to by its number (R369), 0 to 2, or none. -/
def srcLaneFixed (n : Nat) : Option Lane :=
  if 16 ≤ n ∧ n ≤ 31 then some .a
  else if 32 ≤ n ∧ n ≤ 47 then some .b
  else if 48 ≤ n ∧ n ≤ 57 then some .l
  else if n = 13 then some .l
  else if n = 64 ∨ n = 96 then some .a
  else if n = 65 ∨ n = 97 then some .b
  else if n = 66 ∨ n = 98 then some .l
  else none

/-- The lane of a lane number. -/
def laneOf : Nat → Option Lane
  | 0 => some .a
  | 1 => some .b
  | 2 => some .l
  | _ => none

/-- The lane excluded when a source acts at Lane class: the lane of its number, else the lane that its P1 names (R369). -/
def srcLane (n : Nat) (p1 : U32) : Option Lane :=
  match srcLaneFixed n with
  | some ln => some ln
  | none => if n ∈ [3, 58, 102, 107, 124] then laneOf p1.toNat else none

/-- Sources that report a state and are withdrawn by their block when the state ends; any other source is withdrawn when it
is acknowledged (R367). -/
def srcIsState (n : Nat) : Bool :=
  n ∈ [1, 2, 6, 63, 64, 65, 66, 67, 70, 71, 78, 80, 81, 117, 121, 124, 125, 126]

/-- The reaction window in force for a raise at class `cls` (R369): the setting or default, and at least 2C for the lanes. -/
def windowFor (s : State) (n cls : Nat) : Nat :=
  let w := if cls = srcClass n then (source s n).window.getD (classWindow cls) else classWindow cls
  if srcHandler n = 1 then max w (2 * s.cyc.c) else w

/-- Sources with a force setting other than 0 hold their source asserted (R377). -/
def isForced (x : SourceSt) : Bool := x.setting != 0

/-- The class at which a raise acts: the configured class or the effective one above it; a Notice source has no handler and no window,
and never rises (R366, R368, R369). -/
def raiseClass (s : State) (n : Nat) : Nat := if srcClass n = 0 then 0 else max (srcClass n) (source s n).effective

/-- The highest effective class raised in the present tick so far. -/
def tickClass (s : State) : Nat := if s.constable.tick = tickNow s then s.constable.tickClass else 0

/-- A raise at a class is noted in its tick. -/
def noteTick (s : State) (cls : Nat) : State :=
  { s with constable := { s.constable with tick := tickNow s, tickClass := max cls (tickClass s) } }

/-- The bookkeeping of a raise: ASSERTED, PENDING, counters, last parameters, window, the Book record, and the class in its tick. A raise
whose record is lost has no SEQ. -/
def recordRaise (s : State) (n : Nat) (forced : Bool) (p1 p2 p3 : U32) : State :=
  let cls := raiseClass s n
  let s1 := bookRaise (noteTick s cls) (bookRec s (n / 16 * 0x1000 + 0x800 + n % 16) n cls forced p1 p2 p3)
  let notice := cls == 0
  modSource s1 n fun y => { y with
    effective := cls
    assertedR := .bit (!notice || srcIsState n || forced)
    reported := !forced && srcIsState n
    pendingR := .bit !notice
    escalatedR := .bit (y.pending && y.escalated)
    inForce := windowFor s n cls
    elapsed := 0
    ticked := s.now
    raisedSeq := if s.constable.queue.length < 64 then y.raisedSeq else none32
    raises := y.raises + 1
    lastRaise := s.now
    params := [p1, p2, p3]
    forcedRaise := forced }

/-- The kill lines stop (R373): every output and the Lantern go off under R200 and R201. -/
def stopKillLines (s : State) (src : U8) : State :=
  if s.constable.kill then
    { s with constable := { s.constable with killR := .bit false, stopSrc := src, stopAt := s.now } }
  else s

/-- A block reports a Notice source that is an event: nothing when it is already asserted, as a force holds it; else its record, which is
all that a Notice does (Table 13-3). -/
def raiseNotice (s : State) (n : Nat) (p1 p2 p3 : U32) : State :=
  if (source s n).asserted then s else recordRaise s n false p1 p2 p3

/-- Push an event (R307): a full queue also raises source 111. -/
def pushEvent (s : State) (kind : Nat) (bytes : List Byte) : State :=
  let s1 := queueEvent s kind bytes
  if s.host.events.length < 256 ∨ kindEnabled s kind = false then s1
  else raiseNotice s1 111 s1.host.dropped (u32 s1.host.eseq.toNat) 0

/-- A mode request that can no longer apply lapses (R312): 2001:02 reads 0410h, and an EKIND 4 event of group 0 says so. -/
def lapseRequest (s : State) : State :=
  if s.host.modeReq.isNone then s
  else pushEvent { s with host := { s.host with modeReq := none, outcome := 0x0410 } } 4 ([0, 2] ++ leBytes 2 0x0410)

/-- Write one result record into the ring and push it as an event (R136, R137): it uses one reservation. -/
def writeResult (s : State) (x : ResultRec) : State :=
  pushEvent { s with cyc := { s.cyc with
    ring := s.cyc.ring ++ [x], writeSeq := s.cyc.writeSeq + 1, reserved := s.cyc.reserved - 1 } } 1 (resultBytes x)

/-- The result record of a command. -/
def resultOf (s : State) (c : Command) (result : U8) (ref : U32) : ResultRec :=
  { hseq := c.hseq, target := u16 c.target, opcode := c.opcode, result := result, ref := ref, cycle := s.cyc.number }

/-- A route command leaves its latest result in the route's record (R102). -/
def noteResult (s : State) (c : Command) (code : U8) (ref : U32) : State :=
  if c.opcode.toNat ≤ 3 then modRoute s c.target fun x => { x with result := code, ref := ref } else s

/-- Empty the queue with 15h, answer the commands of the present cycle with 15h, and end the commands taken earlier without
a final result, returning their reservations (R115, R137, R138). -/
def flushCommands (s : State) : State :=
  let unanswered := (s.cyc.cmdq ++ s.cyc.taken).filter fun c => !c.answered
  let held := (s.cyc.cmdq ++ s.cyc.taken ++ s.cyc.live).foldl (fun n c => n + c.reserved) 0
  let s1 := unanswered.foldl (fun st c => writeResult (noteResult st c 0x15 none32) (resultOf st c 0x15 none32)) s
  { s1 with cyc := { s1.cyc with
      cmdq := [], taken := [], live := [], decided := [],
      reserved := s.cyc.reserved - held } }

/-- R377: a force ends, and the source stays asserted only while PENDING or while its block reports its state. -/
def endForce (s : State) (n : Nat) : State :=
  modSource s n fun x => { x with setting := 0, assertedR := .bit (x.asserted && (x.pending || x.reported)) }

/-- The windows of the lanes' sources stop in Start, Safe State and Shutdown with their elapsed time kept (R370). -/
def windowsRun (m : Mode) : Bool :=
  match m with
  | .off | .start | .safeState | .shutdown => false
  | _ => true

/-- Carry the elapsed times of the lanes' sources over a mode change (R370). -/
def carryWindows (s : State) (was : Bool) : State :=
  { s with constable := { s.constable with
      sources := tmap {} (fun n x =>
        if srcHandler n = 1 ∧ x.pending then
          { x with elapsed := if was then x.elapsed + (s.now - x.ticked) else x.elapsed, ticked := s.now }
        else x) s.constable.sources } }

/-- 2000:04, the lanes available (Table 12-5). -/
def lanesNow (s : State) : Nat :=
  match s.modes.mode with
  | .split | .watch => 1
  | .start => max 1 (voters s).length
  | .off | .safeState | .shutdown => s.modes.lanesAtEntry
  | _ => (voters s).length

/-- The change of mode itself: previous mode, time, the lanes at an entry into Safe State or Shutdown, event 0010h, and what R370 and
R377 tie to it. -/
def setMode (s : State) (m : Mode) (cause : U32) : State :=
  if s.modes.mode = m then s else
  let old := s.modes.mode
  let s1 := carryWindows s (windowsRun old)
  let s2 := bookEvent { s1 with modes := { s1.modes with
      mode := m, previous := old, since := s.now
      lanesAtEntry := if m = .safeState ∨ m = .shutdown then lanesNow s else s.modes.lanesAtEntry } } 0x0010
    (u32 (modeCode m)) (u32 (modeCode old)) cause
  if (old = .testTrack ∨ old = .hold) ∧ m ≠ .testTrack ∧ m ≠ .hold then
    (s2.constable.sources.filter fun e => isForced e.2).foldl (fun st e => endForce st e.1) s2
  else s2

/-- R154: an Armed change or rollback is cancelled with result 25h and event 7043h. -/
def cancelArmed (s : State) : State :=
  if s.change.stateC = 4 then
    bookEvent { s with change := { s.change with
        stateC := if s.change.isRoll then 5 else 3, isRoll := false, result := 0x25, armedAt := none, byMirror := false
        kSwitch := s.change.lastK } } 0x7043 0x25 4 none32
  else s

/-- The lane numbers of the re-admission sources 22, 38 and 54 (Table 02-5). -/
def laneBase : Lane → Nat
  | .a => 16
  | .b => 32
  | .l => 48

/-- A step of Table 02-4 from 3 to 7 is under way: lane states 3 to 6. -/
def attempting (x : LaneSt) : Bool := 3 ≤ x.state && x.state ≤ 6

/-- The step of Table 02-4 that a lane state stands for. -/
def stepOf : Nat → Nat
  | 3 => 3
  | 4 => 4
  | 5 => 5
  | _ => 6

/-- A failed attempt (R67): the lane stays excluded until the host asks, and the Notice source of the lane is raised. -/
def failAttempt (s : State) (ln : Lane) (result : U8) : State :=
  let x := s.lanes.get ln
  let s1 := modLane s ln fun y =>
    { y with state := 1, lastResult := result, failed := true, hostAsked := false, matching := 0, shadows := 0 }
  raiseNotice s1 (laneBase ln + 6) (u32 (laneNo ln)) s.cyc.number (u32 (stepOf x.state))

/-- R66: an attempt that is running is aborted and counts as failed. -/
def abortAttempts (s : State) : State :=
  allLanes.foldl (fun st ln => if attempting (st.lanes.get ln) then failAttempt st ln 6 else st) s

/-- The active module of a pair gives up control (Table 14-8): event 7081h and the cause. -/
def recordGiveUp (s : State) (cause : Nat) (snap : U32) : State :=
  bookEvent { s with twin := { s.twin with giveCause := u8 cause } } 0x7081 (u32 cause) s.cyc.number snap

/-- The CRC-32 of a Twin frame over its header and its body (R393). -/
def twinCrc (typ : Nat) (lseq : U32) (body : List Byte) : U32 :=
  u32 (crc32c ([u8 typ, 0] ++ leBytes 2 body.length ++ leBytes 4 lseq.toNat ++ body))

/-- The body of a notice (Table 14-3). -/
def noticeBody (code : Nat) (cycle : U32) : List Byte := [u8 code, 0, 0, 0] ++ leBytes 4 cycle.toNat

/-- A crossing is not Stopped: its values cross (R331). -/
def crossRuns (s : State) (c : Nat) : Bool := (tget {} s.stiles.crossings c).state == 0

/-- Send a frame on the Twin link, while PD4 is up and crossing 9 runs (R331, R393). -/
def sendTwin (s : State) (typ : Nat) (body : List Byte) : State :=
  if (tget {} s.modes.domains 4).state = 2 ∧ crossRuns s 9 then
    emit { s with twin := { s.twin with sent := s.twin.sent + 1, lseq := s.twin.lseq + 1 } }
      (.twinFrame typ s.twin.lseq body (twinCrc typ s.twin.lseq body))
  else s

/-- A notice on the Twin link (Table 14-3): 1 GIVEUP, 2 power fail, 3 TAKEN. -/
def twinNotice (s : State) (code : Nat) : State := sendTwin s 4 (noticeBody code s.cyc.number)

/-- Entry into Safe State (R344), at once and for any cause: kill lines stopped, sequencer stopped, queue emptied, event
0010h; an armed change is cancelled (R154), running attempts are aborted (R66), an active module gives up control (R401). -/
def enterSafeState (s : State) (src : U8) : State :=
  let s0 := stopKillLines s src
  match s.modes.mode with
  | .off | .shutdown | .safeState => s0
  | _ =>
    let s1 := flushCommands { s0 with cyc := { s0.cyc with running := false } }
    let s2 := abortAttempts (cancelArmed s1)
    let s3 := countUp (setMode (lapseRequest s2) .safeState (u32 src.toNat)) 7 1
    if s.twin.role = .active then twinNotice (recordGiveUp s3 0 none32) 1 else s3

/-- How many lanes must stay in the vote: one in Watch, two in the other modes with voted cycles, a start whose lanes have joined without
Watch among them (R62, R338). -/
def tooFewLanes (s : State) : Bool :=
  match s.modes.mode with
  | .watch => !inVote s .a
  | .start => s.modes.step == 9 && (voters s).length < 2
  | .stop | .run | .degraded | .testTrack | .hold | .standby => (voters s).length < 2
  | _ => false

/-- R64: the limit timer starts at the first entry into Degraded-L. -/
def startLimit (s : State) : State :=
  if degradedKind s = 3 ∧ s.vote.limitRuns = false ∧ cyclic s.modes.mode ∧ s.modes.mode ≠ .watch then
    { s with vote := { s.vote with limitRuns := true, limitAt := s.now } }
  else s

/-- A power domain (Table 12-8). -/
def domain (s : State) (d : Nat) : DomainSt := tget {} s.modes.domains d

/-- Change a power domain. -/
def modDomain (s : State) (d : Nat) (f : DomainSt → DomainSt) : State :=
  { s with modes := { s.modes with domains := tput {} s.modes.domains d (f (domain s d)) } }

/-- The lane's power domain is clamped at exclusion (Table 02-4, step 1). -/
def clampLane (s : State) (ln : Lane) : State :=
  if (domain s (laneNo ln + 1)).state = 2 then modDomain s (laneNo ln + 1) fun x => { x with state := 3 } else s

/-- The Constable excludes a lane (R41): its vote port is disabled, and from then on its down frames command all off. Its disagreement
streak stays as it is (R59). A lane that was returning fails its attempt (R67). With too few lanes left Kutia enters Safe State (R62). -/
def excludeLane (s : State) (ln : Lane) (src : Nat) : State :=
  let x := s.lanes.get ln
  if attempting x then failAttempt s ln 6
  else if x.state = 0 ∨ x.state = 7 then
    let s1 := modLane s ln fun y => { y with
      state := if y.failed then 1 else 2, lastSource := u8 src, lastTime := s.now, since := s.now,
      exclusions := y.exclusions + 1, judged := false, complete := false, delivered := none, held := false }
    let s2 := if ln = .l then { s1 with vote := { s1.vote with loomSince := none } } else s1
    let s3 := startLimit (clampLane s2 ln)
    let s4 := if s3.change.stateC = 4 ∧ s3.change.isRoll = false then cancelArmed s3 else s3
    if tooFewLanes s4 then enterSafeState s4 (u8 src) else s4
  else s

/-- The effect of a class (Table 13-3): Notice and Minor act in their block, Lane excludes, Module and Grave stop the kill
lines and enter Safe State, and Grave sets the latch. -/
def classEffect (s : State) (n cls : Nat) (p1 : U32) : State :=
  match cls with
  | 0 | 1 => s
  | 2 => match srcLane n p1 with
    | some ln => excludeLane s ln n
    | none => s
  | 3 => enterSafeState s (u8 n)
  | _ => enterSafeState { s with constable := { s.constable with graveR := .bit true } } (u8 n)

/-- Raise a source (R367): nothing when it is reserved or already asserted; otherwise the record and the effect of its
effective class, unless a higher class has been raised in the same tick (R371). DEDUCED (log 158): each effect applies at its raise,
so a lower one that came before the higher has already applied. -/
def raiseWith (s : State) (n : Nat) (forced : Bool) (p1 p2 p3 : U32) : State :=
  if srcReserved n || (source s n).asserted then s
  else
    let s1 := recordRaise s n forced p1 p2 p3
    if (source s1 n).effective < tickClass s then s1 else classEffect s1 n (source s1 n).effective p1

/-- The owning block reports a source. A state that a force already holds asserted is noted, without a second raise. -/
def raise (s : State) (n : Nat) (p1 p2 p3 : U32) : State :=
  if (source s n).asserted && srcIsState n then modSource s n fun x => { x with reported := true }
  else raiseWith s n false p1 p2 p3

/-- The owning block withdraws a source whose state has ended (R367). -/
def withdraw (s : State) (n : Nat) : State :=
  modSource s n fun x => { x with reported := false, assertedR := .bit (isForced x) }

/-- An acknowledgement (R368, R377): PENDING clears, the effective class returns to the configured one, and a source that
reports no state is withdrawn. An effect already applied is not undone. -/
def acknowledge (s : State) (n : Nat) : State :=
  modSource s n fun x => { x with
    pendingR := .bit false, escalatedR := .bit false, effective := srcClass n, assertedR := .bit (x.reported || isForced x) }

/-- The lowest Module-class or Grave-class source that is asserted at its effective class, if any (R345, R383). -/
def assertedModule (s : State) : Option Nat :=
  (s.constable.sources.find? fun e => e.2.asserted && 3 ≤ max e.2.effective (srcClass e.1)).map fun e => e.1

/-! ### One command -/

/-- The forces in the table, 3880:02. -/
def forcesPresent (s : State) : Bool := !s.change.forces.isEmpty

/-- 2000:01 to 2000:06 as an EKIND 3 event carries them (R311). -/
def attributes (s : State) : List Byte :=
  [u8 (modeCode s.modes.mode), u8 (roleNow s), u8 s.update.state, u8 (lanesNow s),
   u8 (forcesPresent s).toNat, u8 (fence s).toNat]

/-- Push the EKIND 3 event when one of 2000:01 to 2000:06 has changed. -/
def settle (before after : State) : State :=
  if attributes before = attributes after ∨ after.host.serving = false then after
  else pushEvent after 3 (attributes after ++ [u8 (modeCode after.modes.previous), 0])

/-- The state when the Belfry reads `t`. -/
def State.atTime (s : State) (t : Time) : State := { s with now := t }

/-- The state with these commands waiting. -/
def State.withQueue (s : State) (l : List Instr) : State := { s with pending := l }

/-- One command at Belfry time `t`: time moves there, the command acts, and changed attributes are pushed. The queue of waiting commands
is no part of its effect. -/
def at_ (t : Time) (s : State) (f : State → State) : Host.Outcome State Fault Refusal :=
  .next ((settle s (f (s.atTime t))).withQueue s.pending)

/-! ### The phases of a cycle -/

/-- The end of the cycle in progress: S + C, or the stretched end of R235. -/
def cycleEnd (s : State) : Time := s.cyc.endAt.getD (s.cyc.begun + ms s.cyc.c)

/-- The vote point of the cycle in progress (R106): 2 ms before its end. -/
def votePoint (s : State) : Time := cycleEnd s - ms 2
/-- The start of the Logic phase (Table 04-1). -/
def logicStart (s : State) : Time := s.cyc.begun + us 500
/-- The start of the Issue phase (Table 04-1). -/
def issueStart (s : State) : Time := cycleEnd s - us 1500

end Sys2Proof.Machine
end

