-- ==== Sys2Proof/Machine/Image.lean ====
section
/-!
DEFINITION. Machine/Image.lean: the station image (R7 to R31), its header, directory and tables, and the checks of
sections 01h to 05h. An entry is a byte string; word k of an entry starts at its byte 4k.
-/

namespace Sys2Proof.Machine

/-! ### Fields -/

/-- Word `k` of an entry (R7). -/
def word (e : List Byte) (k : Nat) : Nat := leNat ((e.drop (4 * k)).take 4)
/-- A little-endian field of `n` bytes at byte `i`. -/
def field (e : List Byte) (i n : Nat) : Nat := leNat ((e.drop i).take n)
/-- Byte `i`. -/
def byteAt (e : List Byte) (i : Nat) : Byte := e.getD i 0
/-- The entries of `size` bytes that a section holds. -/
def entriesOf (size : Nat) (sec : List Byte) : List (List Byte) := chunks size (sec.length / size) sec
/-- Every byte is 0. -/
def allZero (e : List Byte) : Bool := e.all fun x => x == 0

/-- The offset of the first byte that holds a bit of the reserved masks, one mask for each word. -/
def firstReserved (masks : List Nat) (e : List Byte) : Option Nat :=
  (List.range e.length).find? fun i =>
    (byteAt e i).toNat &&& (masks.getD (i / 4) 0 / 256 ^ (i % 4) % 256) != 0

/-- Printable ASCII, padded with 00h. -/
def labelOk (l : List Byte) : Bool :=
  let body := l.takeWhile fun x => x != 0
  body.all (fun x => 0x20 ≤ x.toNat && x.toNat ≤ 0x7E) && allZero (l.drop body.length)

/-- A rule that holds, or the load result it gives. -/
def need (ok : Bool) (code ref : Nat) : Option (Nat × Nat) := if ok then none else some (code, ref)

/-- The first failing rule of a list. -/
def firstFail (l : List (Option (Nat × Nat))) : Option (Nat × Nat) := l.findSome? id

/-! ### Header and directory (R8, R9) -/

/-- The header fields of Table 01-1. -/
def parseHeader (img : List Byte) : Header :=
  let opt := fun (n : Nat) => if n = 0xFF then none else some n
  { format := field img 4 2, imglen := field img 8 4, salt := u32 (field img 12 4), tag := u16 (field img 16 2),
    commit := u64 (field img 24 8), segment := field img 32 1, zone := field img 33 1, posA := field img 34 1,
    posB := opt (field img 35 1), cycle := field img 36 1, rankA := opt (field img 37 1), rankB := opt (field img 38 1),
    deglh := field img 40 2, nelem := field img 44 4, nroute := field img 48 4, npool := field img 52 4,
    npart := field img 56 2, build := u32 (field img 60 4) }

/-- Offset and length of section `k + 1` (R9). -/
def dirSlot (img : List Byte) (k : Nat) : Nat × Nat := (field img (64 + 8 * k) 4, field img (68 + 8 * k) 4)

/-- The bytes of section `k + 1`. -/
def sectionAt (img : List Byte) (k : Nat) : List Byte :=
  let (off, len) := dirSlot img k
  (img.drop off).take len

/-- COMMIT over the image with TAG and COMMIT taken as zero (R10), as a little-endian U64. -/
def computeCommit (img : List Byte) (imglen : Nat) : Nat :=
  let body := img.take imglen
  let zeroed := body.take 16 ++ [0, 0] ++ (body.drop 18).take 6 ++ List.replicate 8 0 ++ body.drop 32
  leNat ((sha256 zeroed).take 8)

/-- R32: a field of Table 01-1, other than the counts and IMGLEN, outside its range or encoding. -/
def headerBad (h : Header) : Bool :=
  let rankBad := fun (r : Option Nat) => r.any fun n => 3 < n
  63 < h.segment || 63 < h.posA || h.posB.any (fun n => 63 < n) || 3 < h.cycle || rankBad h.rankA || rankBad h.rankB
    || h.deglh < 1 || 168 < h.deglh

/-- A count outside its range in Table 01-1. -/
def countsBad (h : Header) : Bool :=
  h.nelem < 1 || 16384 < h.nelem || 8192 < h.nroute || 524288 < h.npool || 1023 < h.npart

/-- R9: the length of sections 01h to 05h, alignment, overlap, and the bounds of the image. -/
def directoryBad (img : List Byte) (h : Header) : Bool :=
  let slots := (List.range 8).map (dirSlot img)
  let lens := [32 * h.nelem, 64 * h.nroute, 4 * h.npool, 4096, 16 * h.npart]
  let wrong := (List.range 5).any fun k => (slots.getD k (0, 0)).2 != lens.getD k 0
  let used := slots.filter fun x => x.2 != 0
  let outside := used.any fun x => x.1 < 128 || h.imglen < x.1 + x.2 || x.1 % 8 != 0
  let overlap := (List.range used.length).any fun i => (List.range used.length).any fun j =>
    i < j && (used.getD i (0, 0)).1 < (used.getD j (0, 0)).1 + (used.getD j (0, 0)).2
      && (used.getD j (0, 0)).1 < (used.getD i (0, 0)).1 + (used.getD i (0, 0)).2
  wrong || outside || overlap

/-! ### Reserved fields (R5, R32) -/

/-- The bits of KP0 and KP1 that Table 01-6 names for a kind. -/
def namedKp : Nat → Nat × Nat
  | 0 => (0x13F, 0)
  | 1 => (0x1F, 0x3FFF)
  | 2 => (0x1F, 0x3FFF3FFF)
  | 3 => (0x3, 0)
  | 4 => (0xFF, 0)
  | 5 => (0x1F, 0)
  | 6 => (0x7F, 0)
  | 7 => (0x3FFF, 0)
  | 8 => (0xFF, 0)
  | _ => (0xFFFFFFFF, 0xFFFFFFFF)

/-- Reserved bits of an element entry (Tables 01-3, 01-6). -/
def elementMasks (e : List Byte) : List Nat :=
  let kp := namedKp (bits (word e 0) 27 24)
  [0x7007C000, 0, 0, 0xFFFFFFFF - kp.1, 0xFFFFFFFF - kp.2]

/-- Reserved bits of a route header (Table 01-8). -/
def routeMasks : List Nat :=
  [0x60000FF0, 0x80000E00, 0xC000C000, 0x40004000, 0, 0xFFFFFFFC, 0xFFFF4000, 0x6000FFFF, 0, 0, 0, 0,
   0xFFFFFFFF, 0xFFFFFFFF, 0xFFFFFFFF]

/-- Reserved bits of a rule profile record (Table 01-11). -/
def profileMasks : List Nat :=
  [0x70FFFFF0, 0, 0, 0xFFFFFFE0] ++ List.replicate 20 0 ++ List.replicate 39 0xFFFFFFFF

/-- Reserved bits of a partner entry (Table 01-12). -/
def partnerMasks (e : List Byte) : List Nat :=
  [0, if bits (word e 0) 31 28 = 9 then 0x7000FFFF else 0, 0, 0xFFFFFFF0]

/-- Reserved bytes of the header (Table 01-1). -/
def headerMasks : List Nat :=
  [0, 0, 0, 0, 0xFFFF0000, 0xFFFFFFFF, 0, 0, 0, 0xFF000000, 0xFFFF0000, 0, 0, 0, 0xFFFF0000]

/-- The smallest of the offsets found. -/
def smallest (l : List (Option Nat)) : Option Nat :=
  match l.filterMap id with
  | [] => none
  | x :: xs => some (xs.foldl min x)

/-- The lowest bit of the run of set bits of a mask that reaches down from bit `b`. -/
def runLow (mask : Nat) : Nat → Nat
  | 0 => 0
  | b + 1 => if mask.testBit b then runLow mask b else b + 1

/-- The byte at which the reserved field that holds bit `b` of word `k` starts: the run of adjacent reserved bits within the
word, or the first byte of a field that the table gives as several words or bytes (`joined`: its first and last byte). -/
def fieldStart (masks : List Nat) (joined : List (Nat × Nat)) (k b : Nat) : Nat :=
  let o := 4 * k + runLow (masks.getD k 0) b / 8
  ((joined.find? fun j => j.1 ≤ o && o ≤ j.2).map fun j => j.1).getD o

/-- The byte offset, within an entry, of the first reserved field that is not zero (R32). -/
def reservedField (masks : List Nat) (joined : List (Nat × Nat)) (e : List Byte) : Option Nat :=
  (firstReserved masks e).map fun i =>
    let set := (byteAt e i).toNat &&& (masks.getD (i / 4) 0 / 256 ^ (i % 4) % 256)
    fieldStart masks joined (i / 4) (8 * (i % 4) + ((List.range 8).find? fun b => set.testBit b).getD 0)

/-- The offset, within the image, of the first reserved field that is not zero in section `k + 1`. -/
def sectionReserved (img : List Byte) (k size : Nat) (masks : List Byte → List Nat) (joined : List (Nat × Nat)) :
    Option Nat :=
  smallest <| (List.range ((sectionAt img k).length / size)).map fun i =>
    let e := ((sectionAt img k).drop (size * i)).take size
    (reservedField (masks e) joined e).map fun o => (dirSlot img k).1 + size * i + o

/-- R32: the image byte offset of the first reserved field of the header or of sections 01h to 05h that is not 0. -/
def reservedOffset (img : List Byte) : Option Nat :=
  smallest [reservedField headerMasks [(18, 23)] (img.take 128), sectionReserved img 0 32 elementMasks [],
    sectionReserved img 1 64 (fun _ => routeMasks) [(48, 59)], sectionReserved img 2 4 (fun _ => [0x0043C000]) [],
    sectionReserved img 3 256 (fun _ => profileMasks) [(96, 251)], sectionReserved img 4 16 partnerMasks []]

/-! ### Rule profiles (R27 to R29) -/

/-- The list of class `c` of an aspect table, up to the first FFh. -/
def aspectList (e : List Byte) (c : Nat) : List U8 :=
  ((e.drop (16 + 16 * c)).take 16).takeWhile fun x => x != 0xFF

/-- A profile record, undefined when DEFINED is 0. -/
def parseProfile (e : List Byte) : Option Profile :=
  if (word e 0).testBit 31 then
    some { boundary := (word e 0).testBit 3, apprall := (word e 0).testBit 2, seqrel := (word e 0).testBit 1,
           ovltimer := (word e 0).testBit 0, apprmax := bits (word e 1) 31 16, apprmin := bits (word e 1) 15 0,
           ovlmax := bits (word e 2) 31 16, ovlmin := bits (word e 2) 15 0, throwmax := bits (word e 3) 4 0,
           aspect := (List.range 4).map (aspectList e) }
  else none

/-- The checks of profile record `p`: 06h for PCHK, 09h for the rest. -/
def checkProfile (p : Nat) (e : List Byte) : Option (Nat × Nat) :=
  match parseProfile e with
  | none => need (allZero e) 0x09 p
  | some x =>
    let codes := x.aspect.flatten
    firstFail [
      need (crc32c (e.take 252) = word e 63) 0x06 p,
      need (bits (word e 0) 27 24 = p) 0x09 p,
      need (30 ≤ x.apprmax && x.apprmax ≤ 600 && 30 ≤ x.apprmin && x.apprmin ≤ x.apprmax) 0x09 p,
      need (if x.ovltimer then 30 ≤ x.ovlmax && x.ovlmax ≤ 240 && 30 ≤ x.ovlmin && x.ovlmin ≤ x.ovlmax
            else x.ovlmax == 0 && x.ovlmin == 0) 0x09 p,
      need (1 ≤ x.throwmax && x.throwmax ≤ 30) 0x09 p,
      need (x.aspect.all fun l => l != []) 0x09 p,
      need ((List.range 4).all fun c =>
        (((e.drop (16 + 16 * c)).take 16).drop (aspectList e c).length).all fun b => b == 0xFF) 0x09 p,
      need (decide codes.Nodup) 0x09 p,
      need (labelOk ((e.drop 80).take 16)) 0x09 p]

/-! ### Elements (R14 to R19) -/

/-- A binding word (Table 01-5). -/
def parseBinding (w : Nat) : Binding :=
  let di := fun (n : Nat) => if n = 0x3F then none else some n
  { partner := if bits w 31 22 = 0x3FF then none else some (bits w 31 22), obj := bits w 21 15,
    drive := w.testBit 14, dgroup := bits w 13 12, diA := di (bits w 11 6), diB := di (bits w 5 0) }

/-- An element entry, none when VALID is 0. -/
def parseElement (e : List Byte) : Option Element :=
  if (word e 0).testBit 31 then
    some { kind := bits (word e 0) 27 24, profile := bits (word e 0) 23 20, remote := (word e 0).testBit 19,
           bind1 := parseBinding (word e 1), bind2 := parseBinding (word e 2), kp0 := u32 (word e 3),
           kp1 := u32 (word e 4) }
  else none

/-- Point, Crossover pair or Derailer. -/
def isMovable (kind : Nat) : Bool := kind == 1 || kind == 2 || kind == 5

/-- The effective THROW in s: 8 when the field is 0 (R28). -/
def throwSeconds (x : Element) : Nat :=
  let t := bits x.kp0.toNat 4 0
  if t = 0 then 8 else t

/-- The sections that contain a point: SECT1, and SECT2 for a crossover pair (R18). -/
def sections (x : Element) : List Nat :=
  match x.kind with
  | 1 => [bits x.kp1.toNat 13 0]
  | 2 => [bits x.kp1.toNat 13 0, bits x.kp1.toNat 29 16]
  | _ => []

/-- What the checks of one table need from the others. -/
structure Tables where
  header   : Header
  elements : List (Option Element)
  routes   : List (List Byte)
  pool     : List Nat
  profiles : List (Option Profile)
  partners : List (List Byte)
  groups   : List (Option GroupRec)
  has08    : Bool
  deriving DecidableEq, Repr

/-- A valid element of the tables. -/
def Tables.elem (t : Tables) (n : Nat) : Option Element := (t.elements[n]?).join
/-- A valid element of a given kind. -/
def Tables.isKind (t : Tables) (n kind : Nat) : Bool := (t.elem n).any fun x => x.kind == kind
/-- A defined profile of the tables. -/
def Tables.profile (t : Tables) (p : Nat) : Option Profile := (t.profiles[p]?).join
/-- W0 of a partner entry, 0 when there is none. -/
def Tables.partner0 (t : Tables) (q : Nat) : Nat := word (t.partners.getD q []) 0
/-- The partner entry is in use. -/
def Tables.partnerDefined (t : Tables) (q : Nat) : Bool := (t.partner0 q).testBit 31
/-- The partner's TYPE. -/
def Tables.partnerType (t : Tables) (q : Nat) : Nat := bits (t.partner0 q) 30 28

/-- The detection inputs that a binding names. -/
def bindingInputs (b : Binding) : List Nat := [b.diA, b.diB].filterMap id

/-- The inputs that drive group `g` uses: FB1, FB2 and ENC (Table 06-3). -/
def groupInputs (g : Nat) : List Nat := [8 + 2 * g, 9 + 2 * g, g]

/-- Every binding word of the table with its element number and its place. -/
def allBindings (t : Tables) : List (Nat × Nat × Binding) :=
  (List.range t.elements.length).flatMap fun n =>
    match t.elem n with
    | some x => [(n, 1, x.bind1), (n, 2, x.bind2)]
    | none => []

/-- R16, R17: the rules a binding word obeys whatever the element. -/
def bindingOk (t : Tables) (n place : Nat) (x : Element) (b : Binding) : Bool :=
  (b.partner.isSome || b.obj == 0) && (b.drive || b.dgroup == 0)
    && b.partner.all (fun q => t.partnerDefined q)
    && (bindingInputs b).all (fun i => i < 48)
    && (!b.drive || (isMovable x.kind && t.has08
      && ((t.groups[b.dgroup]?).join).any fun g => g.elem == n))
    && (bindingInputs b).all (fun i =>
      (allBindings t).all (fun o => (o.1 == n && o.2.1 == place) || !(bindingInputs o.2.2).contains i)
      && (List.range 4).all fun g => ((t.groups[g]?).join).isNone || !(groupInputs g).contains i)

/-- R17: the binding rules of an element. -/
def bindingsOk (t : Tables) (n : Nat) (x : Element) : Bool :=
  let none2 := x.bind2 == ⟨none, 0, false, 0, none, none⟩
  bindingOk t n 1 x x.bind1 && bindingOk t n 2 x x.bind2 && (x.kind == 2 || none2)
    && (if x.remote then
          x.bind1.partner.isSome && (bindingInputs x.bind1 ++ bindingInputs x.bind2) == [] && !x.bind1.drive
            && !x.bind2.drive
        else
          x.bind1.partner.isNone && x.bind2.partner.isNone && (x.kind == 0 || isMovable x.kind) && t.has08
            && x.bind1.diA.isSome
            && (x.kind == 0 || x.bind1.diB.isSome)
            && (x.kind != 2 || (x.bind2.diA.isSome && x.bind2.diB.isSome && x.bind1.drive == x.bind2.drive
                  && x.bind1.dgroup == x.bind2.dgroup)))

/-- R18: the ranges of the kind parameters. -/
def paramsOk (t : Tables) (x : Element) : Bool :=
  let k0 := x.kp0.toNat
  (match x.kind with
   | 1 | 2 => bits k0 4 0 ≤ 30 && (sections x).all fun n => t.isKind n 0
   | 4 => 1 ≤ bits k0 7 0 && bits k0 7 0 ≤ 240
   | 5 => bits k0 4 0 ≤ 30
   | 6 => bits k0 6 0 ≤ 120
   | 7 => x.bind1.partner.any fun q =>
       t.partnerType q == 1 || (t.partnerType q == 2 && bits k0 13 0 == 0)
   | 8 => 1 ≤ bits k0 3 0 && 1 ≤ bits k0 7 4 && bits k0 7 4 ≤ bits k0 3 0
   | k => k == 0 || k == 3)
  && (!isMovable x.kind || (t.profile x.profile).any fun p => throwSeconds x ≤ p.throwmax)

/-- The checks of element entry `n`: 06h for ECHK, 07h for the rest. -/
def checkElement (t : Tables) (n : Nat) (e : List Byte) : Option (Nat × Nat) :=
  match parseElement e with
  | none => need (allZero e) 0x07 n
  | some x => firstFail [
      need (crc32c (e.take 28) = word e 7) 0x06 n,
      need (bits (word e 0) 13 0 = n && x.kind ≤ 8 && (t.profile x.profile).isSome) 0x07 n,
      need (bindingsOk t n x) 0x07 n,
      need (paramsOk t x) 0x07 n,
      need (labelOk ((e.drop 20).take 8)) 0x07 n]

/-! ### Partners (R30, R31) -/

/-- The PREF list of a partner entry. -/
def prefList (e : List Byte) : List Nat :=
  (List.range (bits (word e 3) 3 0)).map fun j => bits (word e 2) (4 * j + 3) (4 * j)

/-- A partner entry, none when it is not in use. -/
def parsePartner (e : List Byte) : Option Partner :=
  if (word e 0).testBit 31 then
    let t1 := bits (word e 0) 30 28 == 1
    some { ptype := bits (word e 0) 30 28, naddrA := bits (word e 0) 27 16, allow := u16 (bits (word e 0) 15 0),
           ident := if t1 then 0 else u32 (word e 1), paired := t1 && (word e 1).testBit 31,
           naddrB := if t1 then bits (word e 1) 27 16 else 0, pref := prefList e }
  else none

/-- The checks of partner entry `q`; `own` is Kutia's own system address. -/
def checkPartner (t : Tables) (own q : Nat) (e : List Byte) : Option (Nat × Nat) :=
  match parsePartner e with
  | none => need (allZero e) 0x0A q
  | some x =>
    let pcount := bits (word e 3) 3 0
    let others := (List.range t.partners.length).filter fun k => k != q && t.partnerDefined k
    let sameKey := fun (k : Nat) =>
      if x.ptype == 1 then t.partnerType k == 1 && bits (t.partner0 k) 27 16 == x.naddrA
      else t.partnerType k != 1 && word (t.partners.getD k []) 1 == x.ident.toNat
    need (x.ptype ≤ 2 && 1 ≤ pcount && pcount ≤ 8 && word e 2 / 16 ^ pcount == 0
      && (x.ptype == 1 || x.naddrA == 0)
      && decide x.pref.Nodup && (List.range 16).all (fun p => x.allow.getLsbD p == x.pref.contains p)
      && x.pref.all (fun p => (t.profile p).any fun r => x.ptype != 2 || r.boundary)
      && t.elements.all (fun o => o.all fun y =>
           !(y.remote && (y.bind1.partner == some q || y.bind2.partner == some q)) || x.allow.getLsbD y.profile)
      && others.all (fun k => !sameKey k)
      && (x.ptype != 1 || (x.naddrA != own && (!x.paired || x.naddrB != own)))
      && (x.paired || x.naddrB == 0)) 0x0A q

/-! ### Routes (R20 to R28) -/

/-- An element-list entry (Table 01-9). -/
def parseEntry (w : Nat) : ListEntry :=
  { ckind := bits w 31 30, rgroup := bits w 29 24, move := w.testBit 23, req := bits w 21 18, elem := bits w 13 0 }

/-- A route header with its element list, none when VALID is 0. -/
def parseRoute (pool : List Nat) (e : List Byte) : Option Route :=
  let opt := fun (v : Bool) (n : Nat) => if v then some n else none
  if (word e 0).testBit 31 then
    some { profile := bits (word e 0) 15 12, contin := (word e 0).testBit 3, noseq := (word e 0).testBit 2,
           shunt := (word e 0).testBit 1, xzone := (word e 0).testBit 0,
           list := ((pool.drop (bits (word e 1) 30 12)).take (bits (word e 1) 8 0)).map parseEntry,
           exit := bits (word e 2) 29 16, entry := bits (word e 2) 13 0,
           appr1 := opt ((word e 3).testBit 15) (bits (word e 3) 13 0),
           appr2 := opt ((word e 3).testBit 31) (bits (word e 3) 29 16),
           ovlt := bits (word e 4) 31 16, apprt := bits (word e 4) 15 0, maxcls := bits (word e 5) 1 0,
           berth := opt ((word e 6).testBit 15) (bits (word e 6) 13 0),
           cont := opt ((word e 7).testBit 31) (bits (word e 7) 28 16) }
  else none

/-- Table 01-10: claim kind and MOVE against element kind; CKIND 3 is refused. -/
def claimAllowed (kind ckind : Nat) (move : Bool) : Bool :=
  let row : Bool × Bool × Bool × Bool := match kind with
    | 0 => (true, true, false, false)
    | 1 | 2 => (true, true, true, true)
    | 3 => (true, false, true, false)
    | 4 => (true, true, false, true)
    | 5 => (false, false, true, true)
    | 6 => (true, false, true, false)
    | 7 => (true, false, false, false)
    | 8 => (true, true, true, true)
    | _ => (false, false, false, false)
  (match ckind with
   | 0 => row.1
   | 1 => row.2.1
   | 2 => row.2.2.1
   | _ => false) && (!move || row.2.2.2)

/-- Table 01-7: the required states of a kind. -/
def reqAllowed (x : Element) (req : Nat) : Bool :=
  req == 0 || (match x.kind with
    | 1 | 2 | 5 => req ≤ 2
    | 8 => req ≤ bits x.kp0.toNat 3 0
    | _ => req == 1)

/-- R22, R23: the rules of an element list. -/
def listOk (t : Tables) (x : Route) : Bool :=
  let l := x.list
  let isB := fun (y : ListEntry) => t.isKind y.elem 7
  let paths := l.filter fun y => y.ckind == 0
  let firstOk := l.head?.any fun y =>
    y.elem == x.entry && y.ckind == 0 && y.rgroup == 0 && y.req == (if x.contin then 1 else 0) && !y.move
  let flankOk := (List.range l.length).all fun i =>
    match l[i]? with
    | some y => y.ckind != 2 || (paths.any (fun z => z.rgroup == y.rgroup)
        && (l.drop i).all fun z => !(z.ckind == 0 && z.rgroup == y.rgroup))
    | none => true
  firstOk && decide (l.map fun y => y.elem).Nodup
    && l.all (fun y => (t.elem y.elem).any fun z => claimAllowed z.kind y.ckind y.move && reqAllowed z y.req)
    && paths.all (fun y => y.rgroup ≤ 62)
    && (List.zip paths (paths.drop 1)).all (fun p => p.1.rgroup ≤ p.2.rgroup)
    && l.all (fun y => y.ckind != 1 || y.rgroup == 63)
    && flankOk
    && (if x.contin then (l.filter isB).length == 1
        else if x.xzone then
          (l.filter isB).length == 1 && paths.getLast?.any (fun y => isB y && y.req == 1 && !y.move && y.elem == x.exit)
        else !(l.any isB))

/-- R20, R28: the ranges of a route header. -/
def routeFieldsOk (t : Tables) (e : List Byte) (x : Route) : Bool :=
  let p := t.profile x.profile
  let hasOvl := x.list.any fun y => y.ckind == 1
  let neighbour := (t.elem x.exit).any fun y => y.bind1.partner.any fun q => t.partnerType q == 1
  p.isSome && (t.elem x.entry).any (fun y => y.profile == x.profile && y.kind == (if x.contin then 7 else 3))
    && t.isKind x.exit (if x.xzone then 7 else 3) && !(x.contin && x.xzone)
    && (x.appr1.isSome || bits (word e 3) 13 0 == 0) && (x.appr2.isSome || bits (word e 3) 29 16 == 0)
    && (x.appr1.toList ++ x.appr2.toList ++ x.berth.toList).all (fun n => t.isKind n 0)
    && p.any (fun q => q.apprmin ≤ x.apprt && x.apprt ≤ q.apprmax
        && (if q.ovltimer && hasOvl then q.ovlmin ≤ x.ovlt && x.ovlt ≤ q.ovlmax && x.berth.isSome
            else x.ovlt == 0 && x.berth.isNone))
    && (x.berth.isSome || bits (word e 6) 13 0 == 0)
    && x.berth.all (fun b => x.list.any fun y => y.ckind == 0 && y.elem == b)
    && (x.contin || (t.elem x.entry).any fun y => x.maxcls ≤ bits y.kp0.toNat 1 0)
    && (!x.shunt || x.maxcls ≤ 1) && (!x.contin || x.maxcls == 0)
    && (x.cont.isSome == (x.xzone && neighbour)) && (x.cont.isSome || bits (word e 7) 28 16 == 0)
    && labelOk ((e.drop 32).take 16)

/-- The pool range of a header: first index and count. -/
def poolRange (e : List Byte) : Nat × Nat := (bits (word e 1) 30 12, bits (word e 1) 8 0)

/-- The checks of route header `r`: 06h for RCHK, 08h for the rest. -/
def checkRoute (t : Tables) (r : Nat) (e : List Byte) : Option (Nat × Nat) :=
  match parseRoute t.pool e with
  | none => need (allZero e) 0x08 r
  | some x =>
    let (lo, n) := poolRange e
    let apart := (List.range t.routes.length).all fun k =>
      let o := t.routes.getD k []
      k == r || !(word o 0).testBit 31 || (poolRange o).1 + (poolRange o).2 ≤ lo || lo + n ≤ (poolRange o).1
    firstFail [
      need (crc32c (e.take 60) = word e 15) 0x06 r,
      need (bits (word e 0) 28 16 = r && 1 ≤ n && n ≤ 256 && lo + n ≤ t.pool.length) 0x08 r,
      need (routeFieldsOk t e x) 0x08 r,
      need (listOk t x) 0x08 r,
      need apart 0x08 r]

/-- R24: the first pool entry outside all route ranges that is not zero. -/
def strayPool (t : Tables) : Option (Nat × Nat) :=
  ((List.range t.pool.length).find? fun i =>
    t.pool.getD i 0 != 0 && t.routes.all fun o =>
      !(word o 0).testBit 31 || i < (poolRange o).1 || (poolRange o).1 + (poolRange o).2 ≤ i).map fun i => (0x08, i)

end Sys2Proof.Machine
end

