-- ==== Sys2Proof/Machine/Sections.lean ====
section
/-!
DEFINITION. Machine/Sections.lean: sections 06h (R241 to R243), 07h (R257 to R259) and 08h (R182, R202, R203) of the
station image, the whole load check of R32, and the load check of a program variant (R121).
-/

namespace Sys2Proof.Machine

/-! ### Section 06h -/

/-- Reserved bits of the cluster header (Table 08-5). -/
def clusterMasks : List Nat :=
  [0xFF0000F0, 0xFC00FC00, 0, 0xFFFF0000, 0x7C007C00, 0x7C007C00, 0xFC0000FC, 0xFFFFF000, 0x7C007C00, 0x7C007C00,
   0xFFFFFFFF, 0xFFFFFFFF, 0xFFFFFFFF, 0xFFFFFFFF, 0xFFFFFFFF, 0]

/-- A coldstart list entry: valid bit and node. -/
def parseCs (n : Nat) : Option Nat := if n.testBit 15 then some (bits n 9 0) else none

/-- A schedule entry (Table 08-6). -/
def parseSched (w : Nat) : SchedEntry :=
  { kind := bits w 31 28, node := bits w 27 18, span := bits w 17 13, pair := w.testBit 12, peer := bits w 9 0 }

/-- The schedule entry of basic cycle `b` and position `p`, as stored in a table of 40,960 bytes. -/
def schedWord (table : List Byte) (b p : Nat) : Nat := word table (160 * b + p)

/-- A free entry: KIND 0, NODE 3FFh. -/
def freeEntry : SchedEntry := ⟨0, 0x3FF, 0, false, 0⟩

/-- A schedule table by 160b + p; free entries are not listed. -/
def parseTable (table : List Byte) : Table SchedEntry :=
  ((List.range 10240).map fun i => (i, parseSched (word table i))).filter fun e => e.2 != freeEntry

/-- A forwarding entry (Table 08-10). -/
def parseFwd (e : List Byte) : FwdEntry :=
  { inport := if (word e 0).testBit 31 then .b else .a, ibcyc := bits (word e 0) 21 16, ipos := bits (word e 0) 15 8,
    obcyc := bits (word e 1) 21 16, opos := bits (word e 1) 15 8 }

/-- Section 06h as its fields. -/
def parseCluster (sec : List Byte) : Cluster :=
  let h := sec.take 64
  let rank := bits (word h 6) 15 8
  { nkutia := bits (word h 0) 23 16, offs := bits (word h 0) 15 8, syncin := (word h 0).testBit 3,
    split := (word h 0).testBit 2, rate := bits (word h 0) 1 0, nodeA := bits (word h 1) 9 0,
    nodeB := bits (word h 1) 25 16, sched := u32 (word h 2), dmax := bits (word h 3) 15 0,
    cs := [16, 18, 20, 22].map fun i => parseCs (field h i 2),
    nodep := bits (word h 6) 25 16, rankp := if rank = 0xFF then none else some rank, ratep := bits (word h 6) 1 0,
    csp := [32, 34, 36, 38].map fun i => parseCs (field h i 2),
    tableA := parseTable ((sec.drop 64).take 40960), tableB := parseTable ((sec.drop 41024).take 40960),
    fwd := (entriesOf 8 (sec.drop 81984)).map parseFwd }

/-- Mbit/s of a RATE code. -/
def rateMbit : Nat → Nat
  | 0 => 50
  | 1 => 100
  | _ => 200

/-- Positions that a vital telegram takes at a RATE code (Table 08-1). -/
def telegramSpan : Nat → Nat
  | 0 => 4
  | 1 => 2
  | _ => 1

/-- R242: the ranges of one schedule entry. -/
def schedEntryOk (rate : Nat) (p : Nat) (e : SchedEntry) : Bool :=
  let nodeOk := e.node ≤ 1022
  match e.kind with
  | 0 => e.node == 0x3FF && e.span == 0 && e.peer == 0 && !e.pair
  | 1 | 4 => nodeOk && e.span == telegramSpan rate && e.peer ≤ 1022 && p + e.span ≤ 160
  | 2 => nodeOk && e.span == 4 * telegramSpan rate && e.peer ≤ 31 && p + e.span ≤ 160
  | 3 => nodeOk && e.span == 0 && e.peer == 0
  | 5 => nodeOk && 1 ≤ e.span && e.span ≤ 16 && p + e.span ≤ 160
  | _ => false

/-- R243: the continuation entries that a span needs. -/
def spanOk (row : List SchedEntry) : Bool :=
  (List.range 160).all fun p =>
    let e := row.getD p freeEntry
    (List.range (e.span - 1)).all fun k =>
      let c := row.getD (p + 1 + k) freeEntry
      c.kind == 3 && c.node == e.node

/-- The triples (KIND, NODE, PEER) of the vital entries of one basic cycle with their positions. -/
def vitalTriples (row : List SchedEntry) : List (Nat × (Nat × Nat × Nat)) :=
  ((List.range 160).map fun p => (p, row.getD p freeEntry)).filterMap fun e =>
    if e.2.kind = 1 ∨ e.2.kind = 2 ∨ e.2.kind = 4 then some (e.1, (e.2.kind, e.2.node, e.2.peer)) else none

/-- R243: one basic cycle of the two tables. -/
def basicCycleOk (rate : Nat) (ra rb : List SchedEntry) : Bool :=
  let ta := vitalTriples ra
  let tb := vitalTriples rb
  let ka : List (Nat × Nat × Nat) := ta.map fun e => e.2
  let kb : List (Nat × Nat × Nat) := tb.map fun e => e.2
  (List.range 160).all (fun p => schedEntryOk rate p (ra.getD p freeEntry) && schedEntryOk rate p (rb.getD p freeEntry))
    && spanOk ra && spanOk rb && decide ka.Nodup && decide kb.Nodup
    && ka.all (fun k => kb.contains k) && kb.all (fun k => ka.contains k)
    && ta.all fun e => !tb.contains e

/-- The distinct senders of KIND 2 and 4: the nodes, one with a PAIR entry counting as two modules. -/
def kutiaSenders (rows : List (List SchedEntry)) : Nat :=
  let l := rows.flatten.filter fun e => e.kind == 2 || e.kind == 4
  (l.map fun e => e.node).eraseDups.foldl (fun n x => n + if l.any (fun e => e.node == x && e.pair) then 2 else 1) 0

/-- R243: section 06h is accepted. `s23` is the seal switch of Split, `own` the module's position: an output entry of the
forwarding table is sent by this module (Table 08-10), on port A by its node or, with PAIR, by its pair's. -/
def section06Ok (h : Header) (s23 : Bool) (own : Nat) (sec : List Byte) : Bool :=
  let c := parseCluster sec
  let hd := sec.take 64
  let rowsOf := fun (off : Nat) => (List.range 64).map fun b =>
    (List.range 160).map fun p => parseSched (schedWord ((sec.drop off).take 40960) b p)
  let rowsA := rowsOf 64
  let rowsB := rowsOf 41024
  let nfwd := bits (word hd 7) 11 0
  let ranks : List (Nat × Option Nat) := [(c.nodeA, h.rankA)] ++
    (match h.posB with
     | some _ => [(c.nodeB, h.rankB)]
     | none => [])
  let csOk := ranks.all fun e => (List.range 4).all fun k =>
    (c.cs.getD k none == some e.1) == (e.2 == some k)
  let entryAt := fun (rows : List (List SchedEntry)) (b p : Nat) => (rows.getD b []).getD p freeEntry
  let fwdOk := fun (f : FwdEntry) =>
    let ein := if f.inport == .a then entryAt rowsA f.ibcyc f.ipos else entryAt rowsB f.ibcyc f.ipos
    let eout := if f.inport == .a then entryAt rowsB f.obcyc f.opos else entryAt rowsA f.obcyc f.opos
    let mine := if f.inport == .a then [c.nodep]
      else if eout.pair then [c.nodeA] else [if own = h.posA then c.nodeA else c.nodeB]
    f.ipos < 160 && f.opos < 160 && (ein.kind == 1 || ein.kind == 2 || ein.kind == 4 || ein.kind == 5)
      && eout.kind == ein.kind && eout.span == ein.span && mine.contains eout.node
  sec.length == 81984 + 8 * nfwd && nfwd ≤ 2048
    && decide (crc32c (hd.take 60) = word hd 15) && decide (crc32c (sec.drop 64) = word hd 2)
    && (firstReserved clusterMasks hd).isNone
    && (c.split || (nfwd == 0 && allZero ((hd.drop 24).take 16)))
    && rowsA.flatten.length == 10240
    && (List.range 20480).all (fun i => bits (word (sec.drop 64) i) 11 10 == 0)
    && (entriesOf 8 (sec.drop 81984)).all (fun e => (firstReserved [0x7FC000FF, 0xFFC000FF] e).isNone)
    && c.split == s23 && c.rate ≤ 2 && 1 ≤ c.nkutia && c.nkutia ≤ 16 && c.offs < 8 * 2 ^ h.cycle
    && c.nodeA ≤ 1022 && (if h.posB.isSome then c.nodeB ≤ 1022 && c.nodeB != c.nodeA else c.nodeB == 0x3FF)
    && 1 ≤ c.dmax && c.dmax ≤ 2000 && csOk
    && (!c.split || (c.nodep ≤ 1022 && c.ratep ≤ 2 && c.rankp.all (fun r => r ≤ 3)))
    && (List.zip rowsA rowsB).all (fun e => basicCycleOk c.rate e.1 e.2)
    && kutiaSenders (rowsA ++ rowsB) ≤ c.nkutia
    && c.fwd.all fwdOk

/-! ### Section 07h -/

/-- A preference list in nibbles: it ends at the first 0. -/
def nibbles (n count : Nat) : List Nat :=
  ((List.range count).map fun j => bits n (4 * j + 3) (4 * j)).takeWhile fun x => x != 0

/-- A policy record (Table 09-3). TMO 0 means 3. -/
def parsePolicy (e : List Byte) : Option Policy :=
  if (word e 0).testBit 31 then
    let tmo := bits (word e 0) 3 0
    some { tmo := if tmo = 0 then 3 else tmo, genl := nibbles (word e 1) 4, pll := nibbles (word e 2) 3,
           optl := nibbles (word e 3) 3, perl := nibbles (word e 4) 3,
           pairs := (List.range (bits (word e 5) 4 0)).map fun j =>
             (bits (byteAt e (24 + j)).toNat 7 4, bits (byteAt e (24 + j)).toNat 3 0) }
  else none

/-- The default of SC0 (R258). -/
def sc0Default : ScProfile :=
  { source := 2, width := 32, poly := 0x1EDC6F41, init := 0xFFFFFFFF, xorout := 0xFFFFFFFF, refin := true,
    refout := true, schk := 0 }
/-- The default of SC1 (R258). -/
def sc1Default : ScProfile :=
  { source := 2, width := 64, poly := 0x42F0E1EBA9EA3693, init := 0xFFFFFFFFFFFFFFFF, xorout := 0xFFFFFFFFFFFFFFFF,
    refin := false, refout := false, schk := 0 }

/-- Bytes 0 to 27 of the record of a profile with DEFINED set. -/
def scRecord (n : Nat) (x : ScProfile) : List Byte :=
  leBytes 4 (2 ^ 31 + n * 2 ^ 24 + x.refin.toNat * 2 ^ 9 + x.refout.toNat * 2 ^ 8 + x.width)
    ++ leBytes 8 x.poly.toNat ++ leBytes 8 x.init.toNat ++ leBytes 8 x.xorout.toNat

/-- A default profile's SCHK is computed over its default record (R258). -/
def scWithCheck (n : Nat) (x : ScProfile) : ScProfile := { x with schk := u32 (crc32c (scRecord n x)) }

/-- Safety-code profile `n` (Table 09-4, R258). -/
def parseSc (n : Nat) (e : List Byte) : Option ScProfile :=
  if (word e 0).testBit 31 then
    some { source := 1, width := bits (word e 0) 6 0, poly := u64 (field e 4 8), init := u64 (field e 12 8),
           xorout := u64 (field e 20 8), refin := (word e 0).testBit 9, refout := (word e 0).testBit 8,
           schk := u32 (word e 7) }
  else if allZero e then
    match n with
    | 0 => some (scWithCheck 0 sc0Default)
    | 1 => some (scWithCheck 1 sc1Default)
    | _ => none
  else none

/-- A preference list of R259: at least one entry, valid, distinct, and only zeros after the first 0. -/
def prefOk (n count : Nat) (valid : List Nat) : Bool :=
  let l := nibbles n count
  l != [] && l.all (fun x => valid.contains x) && decide l.Nodup && n / 16 ^ l.length == 0

/-- Section 07h: policy record `k`. -/
def policyRecord (sec : List Byte) (k : Nat) : List Byte := (sec.drop (64 * k)).take 64
/-- Section 07h: profile record `n`. -/
def scRecordAt (sec : List Byte) (n : Nat) : List Byte := (sec.drop (256 + 32 * n)).take 32

/-- R259: section 07h is accepted. -/
def section07Ok (partners : List (List Byte)) (sec : List Byte) : Bool :=
  let types := partners.filterMap fun e => (parsePartner e).map fun x => x.ptype
  let sc := fun (n : Nat) => parseSc n (scRecordAt sec n)
  let policyOk := fun (k : Nat) =>
    let e := policyRecord sec k
    match parsePolicy e with
    | none => allZero e && !types.contains k
    | some x =>
      decide (crc32c (e.take 60) = word e 15)
        && (if k = 3 then allZero ((e.drop 4).take 56) && bits (word e 0) 30 4 == 0 && x.tmo ≥ 2 else
          (firstReserved [0x7FFFFFF0, 0xFFFF0000, 0xFFFFF000, 0xFFFFF000, 0xFFFFF000, 0xFFFFFFE0, 0, 0, 0, 0,
            0xFFFFFFFF, 0xFFFFFFFF, 0xFFFFFFFF, 0xFFFFFFFF, 0xFFFFFFFF, 0] e).isNone
          && x.tmo ≥ 2
          && prefOk (word e 1) 4 [1, 2, 3, 4] && prefOk (word e 2) 3 [1, 2, 3] && prefOk (word e 3) 3 [1, 2, 3]
          && prefOk (word e 4) 3 [1, 2, 4]
          && 1 ≤ x.pairs.length && x.pairs.length ≤ 16
          && allZero ((e.drop (24 + x.pairs.length)).take (16 - x.pairs.length))
          && x.pairs.all (fun p => p.1 != p.2 && (sc p.1).any fun a => (sc p.2).any fun b =>
               (a.poly != b.poly || a.width != b.width) && (k != 0 || (a.width ≤ 48 && b.width ≤ 48)))
          && (k != 1 || !types.contains 1 || (x.genl.contains 4 && x.pll.contains 3 && x.perl.contains 1)))
  let scOk := fun (n : Nat) =>
    let e := scRecordAt sec n
    if (word e 0).testBit 31 then
      let w := bits (word e 0) 6 0
      decide (crc32c (e.take 28) = word e 7) && (firstReserved [0x70FFFC80, 0, 0, 0, 0, 0, 0, 0] e).isNone
        && bits (word e 0) 27 24 == n && 8 ≤ w && w ≤ 64 && (field e 4 8).testBit 0
        && field e 4 8 < 2 ^ w && field e 12 8 < 2 ^ w && field e 20 8 < 2 ^ w
    else allZero e
  let ids := partners.filterMap fun e => (parsePartner e).bind fun x =>
    if x.ptype = 1 then none else some (x.ident.toNat % 65536)
  sec.length == 768 && (List.range 4).all policyOk && (List.range 16).all scOk
    && ids.all (fun i => i < 0xF000) && decide ids.Nodup

/-! ### Section 08h -/

/-- A drive-group record (Table 06-4). -/
def parseGroup (e : List Byte) : Option GroupRec :=
  if (word e 0).testBit 31 then
    some { elem := bits (word e 0) 13 0, fstop := bits (word e 1) 31 16, fmarg := bits (word e 1) 15 0,
           frunmin := bits (word e 2) 31 16, fmax := bits (word e 2) 15 0, dect := bits (word e 3) 31 16,
           sstw := bits (word e 3) 15 0, imax := bits (word e 4) 31 16, istall := bits (word e 4) 15 0,
           izero := bits (word e 5) 31 16, startd := bits (word e 5) 15 0, runn := bits (word e 6) 13 8,
           runr := bits (word e 6) 5 0 }
  else none

/-- The field configuration record (Table 07-3) of the first 128 bytes of section 08h. -/
def parseField (e : List Byte) : FieldConfig :=
  { filt := BitVec.ofNat 12 (bits (word e 0) 23 12), type3 := BitVec.ofNat 6 (word e 0),
    pair := BitVec.ofNat 24 (word e 1), panti := BitVec.ofNat 24 (word e 2), cnten := BitVec.ofNat 8 (word e 3),
    tpdis := BitVec.ofNat 24 (word e 4), par4 := BitVec.ofNat 6 (bits (word e 5) 17 12),
    par2 := BitVec.ofNat 12 (word e 5), fmask := BitVec.ofNat 24 (word e 6), fbin := (e.drop 28).take 24,
    fbt := bits (word e 13) 15 0, dt := (List.range 24).map fun k => field e (56 + 2 * k) 2, fchk := u32 (word e 31),
    bytes := e.take 128 }

/-- Record `g` of the drive-group part. -/
def groupRecord (sec : List Byte) (g : Nat) : List Byte := (sec.drop (128 + 32 * g)).take 32

/-- The outputs that a defined group uses: K1, K2 and the two run outputs. -/
def groupOutputs (g : Nat) (x : GroupRec) : List Nat := [2 * g, 2 * g + 1, x.runn, x.runr]

/-- R182: drive-group record `g` is accepted. -/
def groupOk (t : Tables) (sec : List Byte) (g : Nat) : Bool :=
  let e := groupRecord sec g
  match parseGroup e with
  | none => allZero e
  | some x =>
    let others := ((List.range 4).filter fun k => k != g).filterMap fun k => parseGroup (groupRecord sec k)
    decide (crc32c (e.take 28) = word e 7) && (firstReserved [0x7FFF0000, 0, 0, 0, 0, 0, 0xFFFFC0C0, 0] e).isNone
      && bits (word e 0) 15 14 == g
      && (t.elem x.elem).any (fun y => isMovable y.kind && y.bind1.drive && y.bind1.dgroup == g)
      && 1 ≤ x.fstop && x.fstop ≤ x.fmax && 100 ≤ x.dect && x.dect ≤ 5000 && x.dect ≤ x.sstw && x.sstw ≤ 5000
      && 1 ≤ x.imax && x.imax ≤ 4095 && 10 ≤ x.istall && x.istall ≤ 2000 && 1 ≤ x.izero && x.izero + 1 ≤ x.imax
      && x.startd ≤ 2000 && 8 ≤ x.runn && x.runn ≤ 23 && 8 ≤ x.runr && x.runr ≤ 23 && x.runn != x.runr
      && others.all fun y => !([y.runn, y.runr].contains x.runn) && !([y.runn, y.runr].contains x.runr) && y.elem != x.elem

/-- The output is a member of a paralleled pair or quad (R212). -/
def paralleled (c : FieldConfig) (d : Nat) : Bool := c.par4.getLsbD (d / 4) || c.par2.getLsbD (d / 2)

/-- R203, R182: section 08h is accepted. -/
def section08Ok (t : Tables) (sec : List Byte) : Bool :=
  let e := sec.take 128
  let c := parseField e
  let defined := (List.range 4).filterMap fun g => (parseGroup (groupRecord sec g)).map fun x => (g, x)
  let fb := fun (d : Nat) => (c.fbin.getD d 0).toNat
  let fbSet := (List.range 24).filter fun d => (fb d).testBit 7
  let fbIn := fun (d : Nat) => bits (fb d) 5 0
  let named := (allBindings t).flatMap fun o => bindingInputs o.2.2
  sec.length == 256 && decide (crc32c (e.take 124) = word e 31)
    && (firstReserved ([0xFF000FC0, 0xFF000000, 0xFF000000, 0xFFFFFF00, 0xFF000000, 0xFFFC0000, 0xFF000000,
          0x40404040, 0x40404040, 0x40404040, 0x40404040, 0x40404040, 0x40404040, 0xFFFF0000]
          ++ List.replicate 12 0 ++ List.replicate 5 0xFFFFFFFF ++ [0]) e).isNone
    && (c.panti &&& ~~~ c.pair) == 0
    && (List.range 8).all (fun i => !(c.cnten.getLsbD i && c.pair.getLsbD (i / 2)))
    && (List.range 6).all (fun q => !c.par4.getLsbD q || (!c.par2.getLsbD (2 * q) && !c.par2.getLsbD (2 * q + 1)))
    && 10 ≤ c.fbt && c.fbt ≤ 1000
    && (List.range 24).all (fun k => let d := c.dt.getD k 0
         if c.pair.getLsbD k then 10 ≤ d && d ≤ 5000 else d == 0)
    && (List.range 24).all (fun d => fbIn d < 48)
    && defined.all (fun p => c.cnten.getLsbD p.1 && !c.pair.getLsbD (4 + p.1)
         && (groupOutputs p.1 p.2).all fun d => !paralleled c d && !(fb d).testBit 7)
    && fbSet.all (fun d => !c.pair.getLsbD (fbIn d / 2) && !named.contains (fbIn d)
         && defined.all (fun p => !(groupInputs p.1).contains (fbIn d)))
    && decide (fbSet.map fbIn).Nodup
    && named.all (fun i => !(c.pair.getLsbD (i / 2) && i % 2 == 1))
    && (List.range 4).all (groupOk t sec)

/-! ### The whole load check (R32) -/

/-- The tables of an image, for the checks that look from one to another. -/
def tablesOf (img : List Byte) : Tables :=
  let sec08 := sectionAt img 7
  { header := parseHeader img, elements := (entriesOf 32 (sectionAt img 0)).map parseElement,
    routes := entriesOf 64 (sectionAt img 1), pool := (entriesOf 4 (sectionAt img 2)).map fun e => word e 0,
    profiles := (entriesOf 256 (sectionAt img 3)).map parseProfile, partners := entriesOf 16 (sectionAt img 4),
    groups := (List.range 4).map fun g => if sec08.length = 256 then parseGroup (groupRecord sec08 g) else none,
    has08 := sec08 != [] }

/-- The checks of one table, entry by entry, stopping at the first failure. -/
def checkAll (l : List (List Byte)) (f : Nat → List Byte → Option (Nat × Nat)) : Option (Nat × Nat) :=
  (List.range l.length).findSome? fun n => f n (l.getD n [])

/-- No reference. -/
def noRef : Nat := 0xFFFFFFFF

/-- R32: the checks of a station image in their order, stopping at the first failure: code and reference. `held` is what the
slot holds, `switches` the seal, `own` the module's position. -/
def checkStation (held : List Byte) (switches : BitVec 24) (own : Nat) : Nat × Nat :=
  let h := parseHeader held
  let img := held.take h.imglen
  let t := tablesOf img
  let tag := switches.toNat % 65536
  (firstFail [
    need (held != []) 0x01 noRef,
    need (128 ≤ held.length && leNat (held.take 4) == 0x4453544B && h.format == 1 && field held 6 2 == 128) 0x02 noRef,
    need (h.imglen ≤ held.length && 128 ≤ h.imglen) 0x02 noRef,
    need (decide (computeCommit img h.imglen = h.commit.toNat)) 0x03 noRef,
    need (h.tag.toNat == h.commit.toNat % 65536) 0x03 noRef,
    need (h.tag.toNat == tag) 0x04 noRef,
    need (!headerBad h) 0x02 noRef,
    need (own == h.posA || h.posB == some own) 0x0D noRef,
    need (!countsBad h && h.imglen ≤ 4194304) 0x0B noRef,
    need (!directoryBad img h) 0x02 noRef,
    (reservedOffset img).map fun o => (0x05, o),
    checkAll (entriesOf 256 (sectionAt img 3)) checkProfile,
    checkAll (entriesOf 32 (sectionAt img 0)) (checkElement t),
    checkAll t.partners (checkPartner t (h.segment * 64 + own)),
    checkAll t.routes (checkRoute t),
    strayPool t,
    need (section06Ok h (switches.getLsbD 22) own (sectionAt img 5)) 0x0E 6,
    need (if sectionAt img 6 = [] then h.npart == 0 else section07Ok t.partners (sectionAt img 6)) 0x0E 7,
    need (sectionAt img 7 == [] || section08Ok t (sectionAt img 7)) 0x0E 8]).getD (0, noRef)

/-- Entries of a list as a table: number and content, the absent ones left out. -/
def tableOf {α : Type} (l : List (Option α)) : Table (Option α) :=
  ((List.range l.length).map fun n => (n, (l[n]?).join)).filter fun e => e.2.isSome

/-- The station data of an image that passed. -/
def loadStation (held : List Byte) : Station :=
  let h := parseHeader held
  let img := held.take h.imglen
  let t := tablesOf img
  let sec07 := sectionAt img 6
  let sec08 := sectionAt img 7
  { header := h, elements := tableOf t.elements, routes := tableOf (t.routes.map (parseRoute t.pool)),
    profiles := tableOf t.profiles, partners := tableOf (t.partners.map parsePartner),
    cluster := parseCluster (sectionAt img 5),
    policies := if sec07 = [] then [] else tableOf ((List.range 4).map fun k => parsePolicy (policyRecord sec07 k)),
    scs := tableOf ((List.range 16).map fun n => parseSc n (if sec07 = [] then [] else scRecordAt sec07 n)),
    field := if sec08 = [] then none else some (parseField (sec08.take 128)), groups := tableOf t.groups }

/-! ### The rule program image (R119 to R121) -/

/-- The header and map of a program variant. -/
def parseVariant (img : List Byte) : Variant :=
  let mapoff := field img 68 4
  let nvar := field img 60 4
  { format := field img 4 2, imglen := field img 8 4, variant := field img 12 1, lagmax := field img 14 2,
    commit := u64 (field img 16 8), pair := u64 (field img 24 8), station := u64 (field img 32 8),
    progid := u64 (field img 40 8), twc := field img 48 4, codelen := field img 52 4, datalen := field img 56 4,
    nvar := nvar, ntimer := field img 64 2, nedge := field img 66 2, version := u32 (field img 84 4),
    build := u32 (field img 88 4),
    map := (chunks 16 nvar (img.drop mapoff)).map fun e =>
      { cls := bits (word e 0) 31 30, role := bits (word e 0) 29 28, typ := bits (word e 0) 27 24,
        varnum := bits (word e 0) 15 0, symid := u64 (field e 4 8), width := bits (word e 3) 31 24,
        offset := bits (word e 3) 21 0 }
    init := (img.drop (field img 76 4)).take (field img 56 4) }

/-- The stored width of a TYPE (Table 04-6). -/
def typeWidth : Nat → Nat
  | 0 | 1 => 1
  | 2 | 4 => 2
  | 3 | 5 => 4
  | 6 => 8
  | 7 | 8 | 9 => 16
  | 10 | 11 => 4
  | 12 => 8
  | _ => 0

/-- R116: 90% of the Logic span of a CYCLE code, in us. -/
def logicBudget (c : Nat) : Nat := (c * 1000 - 2500) * 9 / 10

/-- Two variables lie apart in the data memory. -/
def apart (m n : MapEntry) : Bool := m.offset + m.width ≤ n.offset || n.offset + n.width ≤ m.offset

/-- Entry `i` of a variable map (R120, Table 04-7 code 08h): its number, its ranges, its reserved fields, the CLASS 1 part first, no
overlap with an earlier entry. -/
def mapEntryOk (img : List Byte) (v : Variant) (i : Nat) : Bool :=
  (v.map[i]?).any fun m =>
    m.varnum == i && m.cls ≤ 2 && m.role ≤ 2 && m.typ ≤ 12 && m.width == typeWidth m.typ && m.offset + m.width ≤ v.datalen
      && (firstReserved [0x00FF0000, 0, 0, 0x00C00000] ((img.drop (field img 68 4 + 16 * i)).take 16)).isNone
      && (i == 0 || m.cls != 1 || (v.map[i - 1]?).any fun p => p.cls == 1)
      && (v.map.take i).all (apart m)

/-- The first entry of the map that fails. -/
def mapFails (img : List Byte) (v : Variant) : Option Nat := (List.range v.nvar).find? fun i => !mapEntryOk img v i

/-- Code 08h as a whole: the map, and its generic part against the station data, whose form the manual does not give (log 103). -/
def mapOk (img : List Byte) (v : Variant) : Bool :=
  (mapFails img v).isNone && Config.genericPartFits v.station ((v.map.filter fun m => m.cls == 1).map fun m => (m.symid, m.typ))

/-- R121: the checks of one variant in the order of Table 04-7. Header values out of range, an ENTRY outside the code and non-zero
reserved header bytes have no code there: DESIGN CHOICE (log 15), they are 02h. `which` is 0 for variant A and 1 for B, `other` the other
variant's image, `station` the COMMIT in service, `c` the cycle length in ms. -/
def checkProgram (img other : List Byte) (which : Nat) (station : U64) (c : Nat) : Nat :=
  let v := parseVariant img
  let zeroed := (img.take v.imglen).take 16 ++ List.replicate 8 0 ++ (img.take v.imglen).drop 24
  let code := fun (ok : Bool) (n : Nat) => need ok n 0
  ((firstFail [
    code (img != []) 0x01,
    code (128 ≤ img.length && leNat (img.take 4) == 0x5052544B && v.format == 1 && field img 6 2 == 128
      && v.imglen ≤ img.length && 128 ≤ v.imglen && v.imglen ≤ 16777216
      && field img 68 4 % 8 == 0 && field img 72 4 % 8 == 0
      && field img 68 4 + 16 * v.nvar ≤ v.imglen && field img 72 4 + v.codelen ≤ v.imglen
      && field img 76 4 + v.datalen ≤ v.imglen && 1 ≤ v.nvar && v.nvar ≤ 65536 && v.lagmax ≤ 255
      && v.ntimer ≤ 8192 && v.nedge ≤ 16384 && field img 80 4 < max 1 v.codelen
      && byteAt img 13 == 0 && allZero ((img.drop 92).take 36)) 0x02,
    code (decide (leNat ((sha256 zeroed).take 8) = v.commit.toNat)) 0x03,
    code (v.station == station) 0x04,
    code (decide (v.pair.toNat = field other 16 8 ∧ v.progid.toNat = field other 40 8) && v.variant == which) 0x05,
    code (v.twc ≤ logicBudget c) 0x06,
    code (v.codelen ≤ 8388608 && v.datalen ≤ 4194304) 0x07,
    code (mapOk img v) 0x08]).map fun e => e.1).getD 0

end Sys2Proof.Machine
end

