-- ==== Sys2Proof/Machine/Operands.lean ====
section
/-!
DEFINITION. Machine/Operands.lean: what a command or a vote reads: the input snapshot (R109, R110, R207), what an element
reads in it (R17, R18, R168, R169, R176), sessions by partner, and the station's own identity.
-/

namespace Sys2Proof.Machine

/-! ### Own identity -/

/-- The header of the station data in service. -/
def header? (s : State) : Option Header := s.station.map fun d => d.header
/-- The cluster parameters in service. -/
def cluster? (s : State) : Option Cluster := s.station.map fun d => d.cluster
/-- The system address of a position (R287): segment and position. -/
def sysAddr (s : State) (pos : Nat) : Nat := ((header? s).map fun h => h.segment).getD 0 * 64 + pos
/-- The module stands at POS_A, or at POS_B. -/
def atPosA (s : State) : Bool := (header? s).any fun h => h.posA == s.host.position
/-- A zone served by two modules (POS_B defined). -/
def pairedZone (s : State) : Bool := (header? s).any fun h => h.posB.isSome
/-- Kutia's session address: F000h plus the system address of its POS_A module (R255). -/
def ownSession (s : State) : Nat := 0xF000 + sysAddr s (((header? s).map fun h => h.posA).getD 0)

/-! ### Sessions by partner (R17, R254) -/

/-- The slot numbers in use, with their records. -/
def slotsInUse (s : State) : List (Nat × Sess) := s.sessions.slots.filter fun e => e.2.state != 0

/-- The slot of a partner's session, if it holds one. -/
def slotOfPartner (s : State) (q : Nat) : Option Nat :=
  ((slotsInUse s).find? fun e => e.2.partner == some q).map fun e => e.1

/-- The slot of a partner's session that the snapshot shows open. -/
def openSlot (s : State) (q : Nat) : Option Nat :=
  ((slotsInUse s).find? fun e => e.2.partner == some q && e.2.state == 2 && e.2.firstCyc.isSome).map fun e => e.1

/-- Objects that a negotiated payload reports and, towards a TYPE 0 partner, commands (R271). -/
def reportRange (payload : Nat) : Nat := (payload - 4) / 2
/-- Objects that the slices of a TYPE 0 partner command: six for each slice. -/
def commandRange (ptype payload : Nat) : Nat := if ptype = 0 then payload / 16 * 6 else reportRange payload

/-- The session that serves a remote element: its partner's session is open under the element's own rule profile, and its
object lies in the ranges of the payload (R17, R271). -/
def elemSlot (s : State) (x : Element) : Option Nat :=
  x.bind1.partner.bind fun q => (openSlot s q).bind fun k =>
    let y := sess s k
    let t := ((partner? s q).map fun p => p.ptype).getD 0
    if y.profile = some x.profile ∧ (t = 1 ∨ (x.bind1.obj < reportRange y.payload ∧
        (x.bind1.obj < commandRange t y.payload))) then some k else none

/-! ### Field levels in the snapshot -/

/-- The level of an input in the snapshot; the first channel of a pair reads the pair's value (R207). -/
def inputLevel (s : State) (i : Nat) : Bool :=
  let paired := (s.station.bind fun d => d.field).any fun c => c.pair.getLsbD (i / 2)
  if paired then s.cyc.snap.pairs.getLsbD (i / 2) else s.cyc.snap.di.getLsbD i

/-- An optional input reads 1. -/
def inputOn (s : State) (i : Option Nat) : Bool := i.any (inputLevel s)

/-- A local end is detected Normal, Reverse, or in neither (R168). -/
def endState (s : State) (b : Binding) : Nat :=
  match inputOn s b.diA, inputOn s b.diB with
  | true, false => 1
  | false, true => 2
  | _, _ => 0

/-! ### Reports of remote elements (R178) -/

/-- STATE of a report item. -/
def repState (w : U16) : Nat := bits w.toNat 3 0
/-- STATUS of a report item; 6 to 15 read as 4. -/
def repStatus (w : U16) : Nat := let n := bits w.toNat 7 4; if 6 ≤ n then 4 else n
/-- SHOWN of a report item. -/
def repShown (w : U16) : U8 := BitVec.ofNat 8 (bits w.toNat 15 8)

/-- The class of a detail code in an aspect table, if it is listed (R29). -/
def classOf (p : Profile) (code : U8) : Option Nat :=
  (List.range 4).find? fun c => (p.aspect.getD c []).contains code

/-- The class of a code in the profile of an element. -/
def elemClassOf (s : State) (x : Element) (code : U8) : Option Nat :=
  (profile? s x.profile).bind fun p => classOf p code

/-! ### What an element reads -/

/-- R17, R169, R179: the element is in no state at all. -/
def noState (s : State) (e : Nat) (x : Element) : Bool :=
  let y := elemSt s e
  if x.remote then
    (elemSlot s x).isNone || y.lockedOut || y.above
      || (match (partner? s (x.bind1.partner.getD 0)).map fun p => p.ptype with
          | some 1 => false
          | _ => y.report.isNone || y.report.any fun w => repStatus w == 4)
  else x.bind1.drive && (groupSt s x.bind1.dgroup).state == 6

/-- The reading of an element in the snapshot before any latch: none for no state (R168, R176). -/
def rawReading (s : State) (e : Nat) (x : Element) : Option Nat :=
  if noState s e x then none
  else if x.remote then
    match (elemSt s e).report with
    | some w =>
      if x.kind = 3 then
        some (if repState w = 1 ∧ elemClassOf s x (repShown w) = some 0 then 1 else 0)
      else some (repState w)
    | none => some 0
  else match x.kind with
    | 0 => some (if inputOn s x.bind1.diA && (x.bind1.diB.isNone || inputOn s x.bind1.diB) then 1 else 0)
    | 2 => some (let a := endState s x.bind1; if a = endState s x.bind2 then a else 0)
    | _ => some (endState s x.bind1)

/-- CLRF of a track section (R18). -/
def clrf (x : Element) : Nat := bits x.kp0.toNat 5 0
/-- AXLE of a track section (R18). -/
def axle (x : Element) : Bool := x.kp0.getLsbD 8

/-- The reading of a track section with its latch: an occupied reading and no state set the latch of an axle-counter
section, and a clear reading counts only after CLRF consecutive clear cycles (R18, R133). -/
def detectTrack (x : Element) (raw : Option Nat) (y : ElemSt) : ElemSt × U8 :=
  let clear := raw == some 1
  let latched := y.latched || (axle x && !clear)
  let run := if clear then min (y.clearRun + 1) 64 else 0
  let y1 := { y with latched := latched, clearRun := run }
  (y1, match raw with
    | none => 0xFF
    | some _ => if clear && !latched && clrf x ≤ run then 1 else 0)

/-- One element's detection at a vote: detected state FFh for no state, and since when. -/
def detectElem (s : State) (e : Nat) (x : Element) : State :=
  let raw := rawReading s e x
  let (y, d) : ElemSt × U8 :=
    if x.kind = 0 then detectTrack x raw (elemSt s e)
    else (elemSt s e, match raw with
      | none => 0xFF
      | some n => u8 n)
  modElem s e fun _ => { y with
    detected := d, before := y.detected, since := if d = y.detected then y.since else s.now }

/-- The element is a Boundary element bound to a neighbour Kutia: it has no report of its own (R468). -/
def neighbourBoundary (s : State) (x : Element) : Bool :=
  x.kind == 7 && (x.bind1.partner.bind (partner? s)).any fun p => p.ptype == 1

/-- Every element's detection at a vote, but for Boundary elements that follow from the cross-zone exchange (R468). -/
def detectAll (s : State) : State :=
  match s.station with
  | none => s
  | some d => d.elements.foldl (fun st o => match o.2 with
      | some x => if neighbourBoundary st x then st else detectElem st o.1 x
      | none => st) s

/-- A snapshot that no vote takes: the latches of the AXLE sections set and clear cycles count all the same (R18, R133). -/
def latchAll (s : State) : State :=
  match s.station with
  | none => s
  | some d => d.elements.foldl (fun st o => match o.2 with
      | some x => if x.kind = 0 then modElem st o.1 fun y => (detectTrack x (rawReading st o.1 x) y).1 else st
      | none => st) s

/-- The element is detected in state `n`. -/
def detectedIn (s : State) (e n : Nat) : Bool := (elemSt s e).detected == u8 n
/-- The track section reads clear. -/
def readsClear (s : State) (e : Nat) : Bool := detectedIn s e 1
/-- The track section reads occupied: neither clear nor in no state. -/
def readsOccupied (s : State) (e : Nat) : Bool := detectedIn s e 0
/-- The element is in no state. -/
def inNoState (s : State) (e : Nat) : Bool := (elemSt s e).detected == 0xFF

/-- R170: not blocked, not in no state, and the sections that contain it read clear. -/
def movable (s : State) (e : Nat) (x : Element) : Bool :=
  !(elemSt s e).blocked && !inNoState s e && (sections x).all (readsClear s)

/-- Every defined element with its number. -/
def elements (s : State) : List (Nat × Element) :=
  match s.station with
  | none => []
  | some d => d.elements.filterMap fun o => o.2.map fun x => (o.1, x)

/-- Every defined route with its number. -/
def routes (s : State) : List (Nat × Route) :=
  match s.station with
  | none => []
  | some d => d.routes.filterMap fun o => o.2.map fun x => (o.1, x)

/-- The slot that holds a route's claims, while the route is not Idle. -/
def slotOfRoute (s : State) (r : Nat) : Option Nat := (routeSt s r).slot

/-- Cycle numbers are compared modulo 2^32: how far `a` lies behind `b`. -/
def cyclesSince (a b : U32) : Nat := (b - a).toNat

end Sys2Proof.Machine
end

