-- ==== Sys2Proof/Machine/Flags.lean ====
section
/-!
DEFINITION. Machine/Flags.lean: the status words and bit maps that the dictionary and the frames carry.
-/

namespace Sys2Proof.Machine

/-- 24xx:03: ASSERTED, PENDING, escalated, forced, acknowledgements withheld (Table 13-6). -/
def srcStateWord (x : SourceSt) : Nat :=
  bitmap [x.asserted, x.pending, x.escalated, x.setting != 0, x.setting == 2]

/-- 24xx:02: the effective class; it starts equal to the configured class (R366). -/
def srcEffective (n : Nat) (x : SourceSt) : Nat := max (srcClass n) x.effective

/-- 2480:01 and 02, or with `pending` 2480:03 and 04: the sources from `base` as a bit map. -/
def srcBits (s : State) (f : SourceSt → Bool) (base : Nat) : Nat :=
  bitmap ((List.range 64).map fun k => f (source s (base + k)))

/-- 2480:05: the highest asserted class, FFh for none. -/
def highestAsserted (s : State) : Nat :=
  let l := (s.constable.sources.filter fun e => e.2.asserted).map fun e => srcEffective e.1 e.2
  match l with
  | [] => 0xFF
  | x :: xs => xs.foldl max x

/-- 2480:07: the kill lines running. -/
def killWord (s : State) : Nat := if s.constable.kill then 3 else 0

/-- 2200:02: FLOW, FLOST, UNCONF, kill lines live, Lantern, KSTUCK (Table 07-8). -/
def fieldStatus (s : State) : Nat :=
  bitmap [s.field.flow, s.field.flost, s.field.unconf, s.field.kill.getLsbD 0, s.field.kill.getLsbD 1, s.field.lant,
    s.field.kstuck]

/-- GSTALE as the up frame carries it. -/
def gstale (s : State) : BitVec 3 := BitVec.ofNat 3 (bitmap [s.field.bar.a.stale, s.field.bar.b.stale, s.field.bar.l.stale])

/-- 2A00:02: the domains that are on. -/
def domainsOn (s : State) : Nat :=
  bitmap ((List.range 8).map fun d => (tget {} s.modes.domains d).state == 2)

/-- 2300:01 and 02. -/
def groupsDefined (s : State) : Nat := bitmap ((List.range 4).map fun g => (group? s g).isSome)
/-- 2300:02: the groups Locked out. -/
def groupsLocked (s : State) : Nat := bitmap ((List.range 4).map fun g => (groupSt s g).state == 6)

/-- 2100:07: the split streak and the program streak. -/
def streakWord (s : State) : Nat := s.vote.split * 16 + s.vote.prog

/-- 20F0:(g + 2), the status word of a staged group (R313). -/
def groupWord (x : GroupShadow) : Nat :=
  x.code.toNat * 65536 + (x.owner.getD 0xFF) * 256 + x.status

/-- The header FLAGS of a bus frame that a node sends by an engine (Table 08-2): MASTER and COLD. -/
def busFlags (p : PortSt) (node : Nat) : U8 := u8 (bitmap [p.engine == 5 && p.master == some node, p.engine == 2])

end Sys2Proof.Machine
end

