-- ==== Sys2Proof/Machine/Access.lean ====
section
/-!
DEFINITION. Machine/Access.lean: what every dictionary write shares (R294 to R297): authorisation, ranges, and what a channel
shows of an accepted or a refused write.
-/

namespace Sys2Proof.Machine

/-- The outcome of a write: the state it leads to, or an abort code, in which case nothing is applied (R294). -/
abbrev Write := Except U16 State

/-- A write that needs an authorised channel is refused with 0301h otherwise (R297). -/
def needAuth (s : State) (ch : Nat) (f : State → Write) : Write :=
  if authorised s ch then f s else .error 0x0301

/-- A check that refuses with an abort code. -/
def refuseUnless (ok : Bool) (code : U16) (k : Write) : Write := if ok then k else .error code

/-- A frame of the host on a channel: the channel has not been silent (R300, R302). -/
def touch (s : State) (ch : Nat) : State := modChan s ch fun c => { c with activity := s.now }

/-- An abort on a channel: counted, with its code (R314). -/
def noteAbort (s : State) (ch : Nat) (code : U16) : State :=
  modChan s ch fun c => { c with aborts := c.aborts + 1, lastAbort := code }

/-- The state after a write was tried: applied, or refused with only the abort noted. -/
def afterWrite (s : State) (ch : Nat) (w : Write) : State :=
  match w with
  | .ok s' => touch s' ch
  | .error code => touch (noteAbort s ch code) ch

/-- What came of an access: the state after it, and the abort code when it was refused. A refused response or commit leaves a
trace (R303, R313); any other refused write leaves the state as it was (R294). -/
abbrev Attempt := State × Option U16

/-- A write as an attempt. -/
def attempt (s : State) (w : Write) : Attempt :=
  match w with
  | .ok s' => (s', none)
  | .error code => (s, some code)

/-- What a channel shows of an attempt. -/
def afterAttempt (ch : Nat) (a : Attempt) : State :=
  match a.2 with
  | none => touch a.1 ch
  | some code => touch (noteAbort a.1 ch code) ch

/-- An attempt of `t` on a channel, while the Steward is serving. -/
def attemptAt (t : Time) (s : State) (ch : Nat) (f : State → Attempt) : Host.Outcome State Fault Refusal :=
  at_ t s fun s1 => if stewardServes s1 then afterAttempt ch (f s1) else s1

/-- A write that arrives while the Steward is serving; otherwise no frame is answered (R308). -/
def hostWrite (s : State) (ch : Nat) (f : State → Write) : State :=
  if stewardServes s then afterWrite s ch (f s) else s

/-- A write of `t`, tried on a channel. -/
def writeAt (t : Time) (s : State) (ch : Nat) (f : State → Write) : Host.Outcome State Fault Refusal :=
  at_ t s fun s1 => hostWrite s1 ch f

end Sys2Proof.Machine
end

