-- ==== Sys2Proof/Machine/Constable.lean ====
section
/-!
DEFINITION. Machine/Constable.lean: faults of the lanes (R39, R40, R43, R48), acknowledgement and escalation (R367 to R372), proof of
the checkers (R374 to R376), forced sources (R377) and the Parish Book (R378 to R383).
-/

namespace Sys2Proof.Machine

/-! ### Faults that a lane's own checkers report -/

/-- A Lane-class source of a lane with the parameters of R69: lane, cycle and `p3`. -/
def raiseLane (s : State) (ln : Lane) (k : Nat) (p3 : U32) : State :=
  raise s (laneBase ln + k) (u32 (laneNo ln)) s.cyc.number p3

/-- Change the register of one stage group of a lane. -/
def modStage (s : State) (ln : Lane) (k : Nat) (f : StageSt → StageSt) : State :=
  modLane s ln fun y => { y with stages := tput {} y.stages k (f (tget {} y.stages k)) }

/-- ILLEGAL_DUAL_RAIL_CODE (R38, R39): the pair comes into the stage group's register, and its checker tests it before it is acknowledged.
Of the four codes only 11 is illegal: it is counted, it raises the lane's source with the stage group, and it stands there unacknowledged,
while any other code is passed on and the rails return to the spacer. -/
def execIllegalDualRailCode (t : Time) (ln : Lane) (x : RailPair) (s : State) : Host.Outcome State Fault Refusal :=
  at_ t s fun s =>
    if railCode x.trueRail x.falseRail ≠ .illegal then modStage s ln x.stage.val fun _ => {} else
    let s1 := modStage s ln x.stage.val fun _ => ⟨⟨BitVec.ofBool x.trueRail, BitVec.ofBool x.falseRail⟩, some s.now⟩
    raiseLane (modLane s1 ln fun y => { y with illegal := y.illegal + 1 }) ln 0 (u32 x.stage.val)

/-- HANDSHAKE_STALL (R40): a stage group has held its request for so long without an acknowledge; its monitor trips from 50 us on. -/
def execHandshakeStall (t : Time) (ln : Lane) (x : StageStall) (s : State) : Host.Outcome State Fault Refusal :=
  at_ t s fun s =>
    let s1 := modStage s ln x.stage.val fun y => { y with request := some (s.now - x.held) }
    if x.held < us 50 then s1 else
    raiseLane (modLane s1 ln fun y => { y with stalls := y.stalls + 1 }) ln 1 (u32 x.stage.val)

/-- RETIREMENT_MISMATCH (R43): the comparator holds what the leading and the trailing core retire side by side, register writes, stores
and branches alike. Only a Mill has two cores, and in Split they run as independent ones (R343). After a difference no pending store of the
leading core reaches the memory. -/
def execRetirementMismatch (t : Time) (mill : Lane) (x : RetiredPair) (s : State) : Host.Outcome State Fault Refusal :=
  at_ t s fun s => if mill = .l ∨ s.modes.mode = .split ∨ x.leading = x.trailing then s else
    raiseLane (modLane s mill fun y => { y with stores := [] }) mill 2 x.count

/-- LOOM_SLICE_MISMATCH (R48): the two slices of an evaluator are compared before the result is stored or proposed. -/
def execLoomSliceMismatch (t : Time) (x : SlicePair) (s : State) : Host.Outcome State Fault Refusal :=
  at_ t s fun s => if x.x = x.y then s else raiseLane s .l 2 x.entry

/-! ### Handlers and windows (R368 to R370) -/

/-- The acknowledgements of these lanes are part of the voted outcome: two of three lanes in the vote, or both of two; in Watch and
Split Mill A's leading core acknowledges alone (R368). -/
def votedAck (s : State) (l : List Lane) : Bool :=
  match s.modes.mode with
  | .watch | .split => l.contains .a
  | m => cyclic m && 2 ≤ ((voters s).filter fun ln => l.contains ln).length

/-- Whether an acknowledgement of this handler counts: the source's own handler, the lanes only through the voted outcome, and not
while a force setting of 2 withholds it at Minor or Lane class (R368, R377). -/
def ackCounts (s : State) (n : Nat) (who : Acknowledger) : Bool :=
  let x := source s n
  let right := match who with
    | .lanes l => srcHandler n == 1 && votedAck s l
    | .steward => srcHandler n == 2 && stewardServes s
  right && x.pending && !(x.setting == 2 && (srcEffective n x == 1 || srcEffective n x == 2))

/-- The elapsed time of a source's window at the last tick edge, in ns. Windows stop as R370 says, those of the Steward's sources to run
again from zero when it is serving again. -/
def windowElapsed (s : State) (n : Nat) : Nat :=
  let x := source s n
  let edge := tickNow s * ms 1
  if srcHandler n = 1 then (if windowsRun s.modes.mode then x.elapsed + (edge - x.ticked) else x.elapsed)
  else if stewardServes s then edge - max x.ticked s.host.servingAt else 0

/-- The window of a source in its present raise has expired with PENDING set. -/
def windowExpired (s : State) (n : Nat) : Bool :=
  let x := source s n
  x.pending && 1 ≤ srcEffective n x && srcEffective n x ≤ 3 && ms x.inForce ≤ windowElapsed s n

/-- R369: the class rises by one, the record is written, the window restarts at Lane and Module, and the effect applies. -/
def escalate (s : State) (n : Nat) : State :=
  let x := source s n
  let cls := srcEffective n x + 1
  let s1 := bookPush s (bookRec s (n / 16 * 0x1000 + 0x810 + n % 16) n cls x.forcedRaise (u32 cls) (u32 x.inForce)
    x.raisedSeq)
  let w := classWindow cls
  let s2 := modSource s1 n fun y => { y with
    effective := cls, escalatedR := .bit true, escalations := y.escalations + 1,
    inForce := if srcHandler n = 1 then max w (2 * s.cyc.c) else w, elapsed := 0, ticked := s.now }
  classEffect s2 n cls (x.params.getD 0 none32)

/-- FAULT_ACKNOWLEDGE (R368, R369): one that does not come before the edge of the tick at which the window expires acts on the escalated
source. -/
def execFaultAcknowledge (t : Time) (src : Fin 128) (who : Acknowledger) (s : State) : Host.Outcome State Fault Refusal :=
  at_ t s fun s =>
    let s1 := if windowExpired s src.val then escalate s src.val else s
    if ackCounts s1 src.val who then acknowledge s1 src.val else s1

/-- REACTION_WINDOW_EXPIRY (R369), at a tick of the Constable. -/
def execReactionWindowExpiry (t : Time) (src : Fin 128) (s : State) : Host.Outcome State Fault Refusal :=
  at_ t s fun s => if windowExpired s src.val then escalate s src.val else s

/-- CONSTABLE_REGISTER_MISMATCH (R372): kill lines, Grave latch, source 12; no window, handler or force has any part. -/
def execConstableRegisterMismatch (t : Time) (reg x y : U32) (s : State) : Host.Outcome State Fault Refusal :=
  at_ t s fun s =>
    let s1 := stopKillLines s 12
    raise { s1 with constable := { s1.constable with graveR := .bit true } } 12 reg x y

/-- A seal sample while Kutia is stopped: a change is event 0014h and raises no source (R350). -/
def sealWhileStopped (s : State) (switches : BitVec 24) : State :=
  let s1 := { s with modes := { s.modes with sealNow := switches } }
  if switches = s.modes.sealNow then s1
  else bookEvent s1 0x0014 (u32 s.modes.sealStart.toNat) (u32 switches.toNat) (u32 (modeCode s.modes.mode))

/-- CONSTABLE_SEAL_SAMPLE (R367): in Safe State source 2 is withdrawn when the seal equals the start reading again. -/
def execConstableSealSample (t : Time) (switches : BitVec 24) (s : State) : Host.Outcome State Fault Refusal :=
  at_ t s fun s =>
    if s.modes.mode = .safeState then
      let s1 := sealWhileStopped s switches
      if switches = s.modes.sealStart ∧ (source s 2).reported then withdraw s1 2 else s1
    else s

/-- SEAL_CHANGED_WHILE_STOPPED (R350), in Shutdown. -/
def execSealChangedWhileStopped (t : Time) (switches : BitVec 24) (s : State) : Host.Outcome State Fault Refusal :=
  at_ t s fun s => if s.modes.mode = .shutdown then sealWhileStopped s switches else s

/-! ### Proof of the checkers -/

/-- 2490:03. -/
def checkerCount : Nat := 18944

/-- Sweeps run in these modes and pause in every other (R375). -/
def sweepMode (m : Mode) : Bool :=
  match m with
  | .stop | .run | .degraded | .testTrack | .hold | .standby => true
  | _ => false

/-- 2490:02: 0 paused, 1 periodic, 2 on demand. -/
def sweepKind (s : State) : Nat :=
  if sweepMode s.modes.mode then (if s.constable.onDemand then 2 else 1) else 0

/-- The checker that is proved next. -/
def nextChecker (s : State) : Nat := if s.constable.onDemand then s.constable.provedReq else s.constable.proved

/-- A completed sweep (R375): counted; the periodic sweep resumes after one on demand. -/
def sweepDone (s : State) : State :=
  { s with constable := { s.constable with
      sweeps := s.constable.sweeps + 1, sweepEnd := s.now, onDemand := false, provedReq := 0,
      proved := if s.constable.onDemand then s.constable.proved else 0 } }

/-- A checker that is silent under proof raises the source of its place (R376). -/
def silentChecker (s : State) (n : Nat) : State :=
  let s1 := { s with constable := { s.constable with silent := s.constable.silent + 1, lastSilent := some n } }
  let k := u32 n
  match Config.checkerPlace n with
  | 0 => raise s1 23 0 k s.constable.sweeps
  | 1 => raise s1 39 1 k s.constable.sweeps
  | 2 => raise s1 13 2 k s.constable.sweeps
  | 3 => raise s1 14 (Config.checkerBlock n) k s.constable.sweeps
  | _ => draw (raise s1 12 k (u32 (Config.free s.draws)) (u32 (Config.free (s.draws + 1))))

/-- Proofs made in the vital cycle that runs. -/
def proofsNow (s : State) : Nat := if s.constable.proofCyc = s.cyc.number then s.constable.proofs else 0

/-- A proof is due (R375): one every 4.5 s in a periodic sweep, 64 in each vital cycle in one on demand. -/
def proofDue (s : State) : Bool :=
  match sweepKind s with
  | 0 => false
  | 1 => s.constable.proofAt.all fun t => t + ms 4500 ≤ s.now
  | _ => proofsNow s < 64

/-- The proof is noted: its time, and its place among those of the cycle. -/
def noteProof (s : State) : State :=
  let n := proofsNow s + 1
  { s with constable := { s.constable with
      proofAt := if s.constable.onDemand then s.constable.proofAt else some s.now, proofCyc := s.cyc.number, proofs := n } }

/-- CHECKER_PROOF (R374): one checker is proved; the sweep moves on. -/
def execCheckerProof (t : Time) (reported : Bool) (s : State) : Host.Outcome State Fault Refusal :=
  at_ t s fun s0 =>
    if proofDue s0 = false then s0 else
    let s := noteProof s0
    let n := nextChecker s
    let s1 := if s.constable.onDemand
      then { s with constable := { s.constable with provedReq := n + 1 } }
      else { s with constable := { s.constable with proved := n + 1 } }
    let s2 := if checkerCount ≤ n + 1 then sweepDone s1 else s1
    if reported then s2 else silentChecker s2 n

/-- A write of 2490:01 (R375). -/
def writeSweep (s : State) (value : U8) : Write :=
  refuseUnless (value == 1) 0x0230 <|
  refuseUnless (sweepMode s.modes.mode && !s.constable.onDemand) 0x0474 <|
  .ok { s with constable := { s.constable with onDemand := true, provedReq := 0 } }

/-- SWEEP_REQUEST (R375, 2490:01): 0474h when one runs or the mode forbids. -/
def execSweepRequest (t : Time) (ch : Fin 8) (value : U8) (s : State) : Host.Outcome State Fault Refusal :=
  writeAt t s ch.val fun s => needAuth s ch.val fun s => writeSweep s value

/-- PROOF_SWEEP_OVERDUE (R375): 25 h since the last sweep, or since the start. -/
def execProofSweepOverdue (t : Time) (s : State) : Host.Outcome State Fault Refusal :=
  at_ t s fun s =>
    let last := max s.constable.sweepEnd s.modes.startAt
    if last + sec 90000 ≤ s.now ∧ s.modes.mode ≠ .off then
      raise s 15 (u32 (checkerCount - nextChecker s)) (u32 ((s.now - last) / sec 3600)) 0
    else s

/-! ### Forces (R377) -/

/-- A setting other than 0: the source is held asserted, raised by the Constable when it was not. -/
def forceOn (s : State) (n : Nat) (v : U8) : State :=
  let s1 := modSource s n fun x => { x with setting := v }
  let p1 := match srcLaneFixed n with
    | some ln => u32 (laneNo ln)
    | none => none32
  raiseWith s1 n true p1 none32 none32

/-- The write of 24xx:0B in the order of R377. -/
def writeForce (s : State) (n : Nat) (v : U8) : Write :=
  refuseUnless (v.toNat ≤ (if srcReserved n then 0 else 2)) 0x0230 <|
  if v = 0 then .ok (endForce s n) else
  refuseUnless (srcClass n ≠ 4) 0x0471 <|
  refuseUnless (s.modes.mode == .testTrack || s.modes.mode == .hold) 0x0470 <|
  .ok (forceOn s n v)

/-- FORCE (R377). -/
def execForce (t : Time) (ch : Fin 8) (src : Fin 128) (value : U8) (s : State) : Host.Outcome State Fault Refusal :=
  writeAt t s ch.val fun s => needAuth s ch.val fun s => writeForce s src.val value

/-! ### The Parish Book -/

/-- CRC-16 of a Book record (Table 13-5). -/
def crc16 (l : List Byte) : Nat := crc 16 0x1021 0xFFFF false false 0 l

/-- A Book record as its 32 bytes. -/
def bookBytes (x : BookRec) : List Byte :=
  let flags := x.cls % 16 + 16 * bitmap [x.found, x.rpt, x.unsync, x.forced]
  let body := leBytes 8 x.time ++ leBytes 4 x.seq.toNat ++ leBytes 2 x.code.toNat ++ [x.source, u8 flags]
    ++ leBytes 2 x.rcount ++ leBytes 4 x.p1.toNat ++ leBytes 4 x.p2.toNat ++ leBytes 4 x.p3.toNat
  body ++ leBytes 2 (crc16 body)

/-- A record of source 57 waits for the comparison of R61. -/
def awaitsComparison (s : State) (x : BookRec) : Bool := x.code == 0x3809 && s.vote.comparing.isSome

/-- Raise a health source; the Steward acknowledges 124 to 127 as it raises them (R442). -/
def raiseHealth (s : State) (n : Nat) (p1 p2 p3 : U32) : State :=
  if (source s n).asserted then raise s n p1 p2 p3 else
  modSource (raise s n p1 p2 p3) n fun x => { x with pendingR := .bit false, escalatedR := .bit false, effective := srcClass n }

/-- One write of a Book slot in the wear table (R440): founding slots 0 to 1,023, circulating slots after them. -/
def wearSlot (s : State) (slot : Nat) : State :=
  let n := tget 0 s.age.wear slot + 1
  let s1 := { s with age := { s.age with wear := tput 0 s.age.wear slot n } }
  if n = 5 * 10 ^ 11 then raiseHealth s1 126 0xFF (u32 n) (u32 slot) else s1

/-- The slots that record `q` occupies: the circulating one, and its founding one when `found`. -/
def bookSlots (s : State) (x : BookRec) : List Nat :=
  let circ := 1024 + x.seq.toNat % 131072
  match s.constable.founding.findIdx? fun y => y.seq == x.seq with
  | some k => [circ, k]
  | none => [circ]

/-- Event kind 2: a Book record whose class is at least 1120:03, or class Fh (R307). -/
def pushBook (s : State) (x : BookRec) : State :=
  if x.cls = 0xF ∨ setting s 0x1120 3 0 ≤ x.cls then pushEvent s 2 (bookBytes x) else s

/-- Write a record with the next sequence number (R378, R381): circulating, and founding for the first 1,024. -/
def bookStore (s : State) (x : BookRec) : State :=
  let q := s.constable.nextSeq
  let y := { x with seq := q }
  let c := s.constable
  let circ := c.circ ++ [y]
  let s1 := { s with constable := { c with
    nextSeq := q + 1, latest := x.time,
    circ := if 131072 < circ.length then circ.drop 1 else circ,
    founding := if c.founding.length < 1024 then c.founding ++ [{ y with found := true }] else c.founding } }
  pushBook ((bookSlots s1 y).foldl wearSlot (countUp s1 13 1)) y

/-- Merge an event into the newest record (R382): RCOUNT and REPEAT in both copies; at 65,535 the record stays. -/
def bookRepeat (s : State) (newest : BookRec) (at' : Time) : State :=
  let s1 := { s with constable := { s.constable with latest := at' } }
  if 65535 ≤ newest.rcount then s1 else
  let bump := fun (x : BookRec) =>
    if x.seq = newest.seq then { x with rcount := x.rcount + 1, rpt := true } else x
  let s2 := { s1 with constable := { s1.constable with
    circ := s1.constable.circ.map bump, founding := s1.constable.founding.map bump } }
  (bookSlots s2 newest).foldl wearSlot s2

/-- Room has returned: event 7061h with the number lost, and source 113 (R381). -/
def reportLost (s : State) : State :=
  if 0 < s.constable.lostDue ∧ s.constable.queue.length < 63 then
    let n := u32 s.constable.lostDue
    let s1 := bookEvent { s with constable := { s.constable with lostDue := 0 } } 0x7061 n none32 none32
    raise s1 113 n (nextSeqAhead s1) 0
  else s

/-- P3 of an escalation is the SEQ of the raise (R380), which is written before it. -/
def withRaiseSeq (s : State) (x : BookRec) : BookRec :=
  if faultKind x 1 then { x with p3 := (source s x.source.toNat).raisedSeq } else x

/-- The record of a raise has its SEQ. -/
def noteRaiseSeq (s : State) (x : BookRec) (q : U32) : State :=
  if faultKind x 0 then modSource s x.source.toNat fun y => { y with raisedSeq := q } else s

/-- The record at the front of the queue is written or merged, and read back. -/
def writeFront (differing : Nat) (s : State) : State :=
  match s.constable.queue with
  | [] => s
  | y :: rest =>
    if awaitsComparison s y then s else
    let x := withRaiseSeq s y
    let s1 := { s with constable := { s.constable with queue := rest } }
    let newest := s.constable.circ.getLast?
    let same := newest.filter (sameEvent x)
    let s2 := match same with
      | some y => bookRepeat s1 y x.time
      | none => bookStore s1 x
    let q := (same.map fun y => y.seq).getD s.constable.nextSeq
    let s2 := noteRaiseSeq s2 x q
    let s3 := if differing = 0 then s2
      else raise s2 114 (u32 (q.toNat % 131072)) q (u32 differing)
    reportLost s3

/-- BOOK_WRITE (R381). -/
def execBookWrite (t : Time) (differing : Nat) (s : State) : Host.Outcome State Fault Refusal :=
  at_ t s fun s => writeFront differing s

/-- The queue is written out, up to `n` records. -/
def drainBook : Nat → State → State
  | 0, s => s
  | n + 1, s => if s.constable.queue = [] then s else drainBook n (writeFront 0 s)

/-- A power failure with a hold-up that does not cover the supervisor's 5 ms (R356) may tear the record being written, which then fails
its CRC (R381): its circulating slot, and the founding slot when it has one. Whether it does is open. -/
def tearNewest (s : State) : State :=
  match s.constable.circ.getLast? with
  | some x =>
    if s.age.holdup < 50 ∧ Config.free s.draws % 2 = 1 then
      let c := s.constable
      let first := c.founding.any fun y => y.seq == x.seq
      { (draw s) with constable := { c with
          circ := c.circ.dropLast, founding := c.founding.filter fun y => y.seq != x.seq
          torn := c.torn + 1, tornFirst := c.tornFirst + if first then 1 else 0 } }
    else draw s
  | none => s

/-- The clear of R383 as its order of checks, then both areas empty and event 7060h first. -/
def writeClear (s : State) (ch : Nat) (value : U32) : Write :=
  refuseUnless (value == s.constable.nextSeq) 0x0473 <|
  refuseUnless ((assertedModule s).isNone && !s.constable.grave && s.modes.mode != .start && s.modes.mode != .shutdown)
    0x0472 <|
  let first := { bookRec s 0x7060 0xFF 0xF false (s.constable.nextSeq - 1) (u32 ch)
    (u32 ((chanSt s ch).keySlot.getD 0xFF)) with found := true }
  .ok { s with constable := { s.constable with
    founding := [], circ := [], lastClear := s.now, queue := first :: s.constable.queue } }

/-- BOOK_CLEAR (R383, 2500:07). -/
def execBookClear (t : Time) (ch : Fin 8) (value : U32) (s : State) : Host.Outcome State Fault Refusal :=
  writeAt t s ch.val fun s => needAuth s ch.val fun s => writeClear s ch.val value

/-- The scan of step 1 of a start (R378): the next sequence number is one above the highest with a valid CRC. Records torn by
a power failure are discarded; each area with one raises source 112. -/
def bookScan (s : State) : State :=
  let top := s.constable.circ.getLast?.map fun x => x.seq + 1
  let c := s.constable
  let q := top.getD c.nextSeq
  let s1 := { s with constable := { c with nextSeq := q, scanErrs := c.torn + c.tornFirst, torn := 0, tornFirst := 0 } }
  let s2 := if c.tornFirst = 0 then s1 else raise s1 112 0 (u32 c.founding.length) c.tornFirst
  if c.torn = 0 then s2 else raise s2 112 1 (u32 (q.toNat % 131072)) c.torn

end Sys2Proof.Machine
end

