-- ==== Sys2Proof/Machine/Field.lean ====
section
/-!
DEFINITION. Machine/Field.lean: the field side (07): barrier frames (R194 to R198), the Gatehouse and the Lantern (R199 to R201),
configuration (R204), inputs (R205 to R209), outputs and their faults (R211 to R215), analog inputs (R216), the field supply
(R217) and the reset key's stuck check (R219).
-/

namespace Sys2Proof.Machine

/-! ### Frames as bytes (Tables 07-1 and 07-2) -/

/-- Bytes 0 to 27 of a down frame. -/
def downBytes (f : DownFrame) : List Byte :=
  leBytes 4 (f.kind.toNat * 2 ^ 28 + f.lane.toNat * 2 ^ 26 + f.split.toNat * 2 ^ 25 + f.alloff.toNat * 2 ^ 24
      + f.epoch.toNat * 2 ^ 16 + f.test.toNat * 2 ^ 15 + f.page.toNat)
    ++ leBytes 4 f.seq.toNat ++ leBytes 4 f.w2.toNat ++ leBytes 4 f.w3.toNat ++ leBytes 4 f.w4.toNat
    ++ leBytes 4 f.w5.toNat ++ leBytes 4 f.cfgc.toNat

/-- A down frame with its CRC. -/
def sealDown (f : DownFrame) : DownFrame := { f with crc := u32 (crc32c (downBytes f)) }

/-- Bytes 0 to 67 of an up frame. -/
def upBytes (f : UpFrame) : List Byte :=
  let cnt := fun (k : Nat) => (f.cnt.getD k 0).toNat
  leBytes 4 (f.kind.toNat * 2 ^ 28 + f.lane.toNat * 2 ^ 26 + f.unconf.toNat * 2 ^ 25 + f.flost.toNat * 2 ^ 24
      + f.epoch.toNat * 2 ^ 16 + f.flow.toNat * 2 ^ 15 + f.kstuck.toNat * 2 ^ 14 + f.kill.toNat * 2 ^ 12
      + f.key.toNat * 2 ^ 10 + f.fsflt.toNat * 2 ^ 9 + f.lant.toNat * 2 ^ 8 + f.gstale.toNat)
    ++ leBytes 4 f.seq.toNat ++ leBytes 4 f.tick.toNat ++ leBytes 6 f.di.toNat ++ leBytes 2 f.keycnt.toNat
    ++ leBytes 4 (f.aiflt.toNat * 2 ^ 24 + f.pairf.toNat) ++ leBytes 4 f.dorb.toNat ++ leBytes 4 f.doflt.toNat
    ++ ((List.range 8).flatMap fun k => leBytes 2 (cnt k))
    ++ ((List.range 4).flatMap fun k => leBytes 4 (f.aacc.getD k 0).toNat)
    ++ leBytes 2 f.iout.toNat ++ leBytes 2 f.vf.toNat

/-- An up frame with its CRC. -/
def sealUp (f : UpFrame) : UpFrame := { f with crc := u32 (crc32c (upBytes f)) }

/-! ### Access to the channels -/

/-- Change one lane's barrier record. -/
def modBar (s : State) (ln : Lane) (f : BarrierSt → BarrierSt) : State :=
  { s with field := { s.field with bar := s.field.bar.set ln (f (s.field.bar.get ln)) } }

/-- Change the field side. -/
def modField (s : State) (f : FieldSt → FieldSt) : State := { s with field := f s.field }

/-- The sense and drive domains of the field side are on. -/
def fieldUp (s : State) : Bool := (tget {} s.modes.domains 5).state == 2

/-- R197: SEQ exceeds the last accepted SEQ by 1 to 5, modulo 2^32. -/
def seqFollows (last seq : U32) : Bool :=
  let d := (seq - last).toNat
  1 ≤ d && d ≤ 5

/-! ### The Gatehouse (R199) and the Lantern (R201) -/

/-- The members of the group that output `d` belongs to (R212). -/
def outputGroup (c : FieldConfig) (d : Nat) : List Nat :=
  if c.par4.getLsbD (d / 4) then (List.range 4).map fun k => d / 4 * 4 + k
  else if c.par2.getLsbD (d / 2) then [d / 2 * 2, d / 2 * 2 + 1]
  else [d]

/-- The lead of a paralleled group: its lowest member. -/
def leadOf (c : FieldConfig) (d : Nat) : Nat := (outputGroup c d).headD d

/-- The lanes that the Gatehouse holds fresh, each with its latest frame. -/
def freshFrames (s : State) : List DownFrame :=
  allLanes.filterMap fun ln =>
    let b := s.field.bar.get ln
    if b.stale then none else b.latest

/-- A frame that commands output `e` on: KIND 1, SPLIT 0, ALLOFF 0, the current epoch, DOCMD bit set. -/
def commandsOn (s : State) (e : Nat) (f : DownFrame) : Bool :=
  f.kind == 1 && !f.split && !f.alloff && f.epoch == s.field.epoch && f.w3.getLsbD e

/-- Output `d` is energised exactly when every condition of R199 holds. -/
def energised (s : State) (d : Nat) : Bool :=
  match s.field.config with
  | none => false
  | some c =>
    !s.field.unconf && !s.field.flost && s.field.kill == 3
      && (outputGroup c d).all (fun k => !s.field.doflt.getLsbD k)
      && 2 ≤ ((freshFrames s).filter (commandsOn s (leadOf c d))).length
      && (!((freshFrames s).any fun f => f.test) || c.fmask.getLsbD d)

/-- Two lanes are fresh with SPLIT 0 in their latest frames. -/
def refreshed (s : State) : Bool := 2 ≤ ((freshFrames s).filter fun f => !f.split).length

/-- The Lantern's conditions. -/
def lanternRuns (s : State) : Bool := s.field.kill == 3 && refreshed s && !s.field.unconf && !s.field.flost

/-- 2200:07: why the Lantern does not run. -/
def lanternCause (s : State) : U8 :=
  if s.field.kill ≠ 3 then 1
  else if s.field.flost then 3
  else if s.field.unconf then 5
  else if (freshFrames s).any fun f => f.split then 4
  else 2

/-- The Lantern stops, and 2200:07 and :08 keep why and when. -/
def lanternOff (s : State) (cause : U8) : State :=
  if s.field.lant then { s with field := { s.field with lant := false, lantCause := cause, lantTime := s.now } } else s

/-- The Gatehouse re-evaluates every output and the Lantern. -/
def gateEval (s : State) : State :=
  let gate := BitVec.ofNat 24 (bitmap ((List.range 24).map (energised s)))
  let gateTimes := (List.range 24).map fun d =>
    if gate.getLsbD d = s.field.gate.getLsbD d then s.field.gateAt.getD d 0 else s.now
  let run := lanternRuns s
  let stopped := s.field.lant && !run
  modField s fun x => { x with
    gate := gate, gateAt := gateTimes, lant := run,
    lantCause := if stopped then lanternCause s else x.lantCause
    lantTime := if stopped then s.now else x.lantTime }

/-! ### Down frames -/

/-- The lane's code or pattern runs and its port across the barrier is up. -/
def laneSends (s : State) (ln : Lane) : Bool :=
  let n := (domain s (laneNo ln + 1)).state
  (n == 2 || n == 3) && s.modes.mode ≠ .off

/-- R194: the channel that carries the firmware frames during Start: Mill A's, or Mill B's when Mill A has failed its BIST or its power
domain. No event of the spec ends the load; it lies within Start, in which the field side is unconfigured anyway (log 102). -/
def firmwareLane (s : State) : Lane :=
  if (tget {} s.modes.bist 0).result = 2 ∨ (domain s 1).state = 4 then .b else .a

/-- R344, Table 12-2: outputs may be commanded on in this mode. -/
def outputsVoted (s : State) : Bool :=
  match s.modes.mode with
  | .stop | .run | .degraded | .testTrack => true
  | _ => overlapping s

/-- The lane commands every output off: it is not in the vote (R41, Table 02-4), or the mode says so. -/
def allOff (s : State) (ln : Lane) : Bool := !inVote s ln || !outputsVoted s

/-- The field configuration record that the lanes hold. -/
def laneConfig (s : State) : Option FieldConfig := s.station.bind fun d => d.field

/-- R204: the lanes in the vote send configuration while the field side reports UNCONF, outside Start and Watch; its last report
stands while no frame is agreed, and without any it has not been configured. -/
def sendsConfig (s : State) (ln : Lane) : Bool :=
  cyclic s.modes.mode && s.modes.mode ≠ .watch && inVote s ln && (laneConfig s).isSome
    && s.cyc.snap.lastFrame.all fun f => f.unconf

/-- The frame that a lane sends next (R194, R195, R204). In Start only the firmware frames are sent. -/
def downFrame? (s : State) (ln : Lane) : Option DownFrame :=
  let b := s.field.bar.get ln
  let base := { b.reg with
    lane := BitVec.ofNat 2 (laneNo ln), split := s.modes.mode == Mode.split, alloff := allOff s ln, test := fence s,
    page := 0, seq := b.seq + 1, cfgc := ((laneConfig s).map FieldConfig.fchk).getD 0 }
  if laneSends s ln = false then none
  else if s.modes.mode = .start then
    if ln = firmwareLane s then
      some { base with kind := 3, w2 := u32 (Config.free s.draws), w3 := u32 (Config.free (s.draws + 1)),
                       w4 := u32 (Config.free (s.draws + 2)), w5 := u32 (Config.free (s.draws + 3)) }
    else none
  else if sendsConfig s ln then
    let page := base.seq.toNat % 8
    let rec128 := ((laneConfig s).map fun c => c.bytes).getD []
    let w := fun (k : Nat) => u32 (field rec128 (16 * page + 4 * k) 4)
    some { base with kind := 2, page := BitVec.ofNat 3 page, w2 := w 0, w3 := w 1, w4 := w 2, w5 := w 3 }
  else some { base with kind := 1 }

/-- DOWN_FRAME_SEND (R194, R195): the frame goes to the lane's down channel. The first configuration frame starts the 100 ms of
R204. -/
def execDownFrameSend (t : Time) (ln : Lane) (s : State) : Host.Outcome State Fault Refusal :=
  at_ t s fun s =>
    match (downFrame? s ln).filter fun _ => crossRuns s 3 with
    | none => s
    | some f =>
      let s1 := modBar s ln fun b => { b with seq := f.seq, sent := b.sent + 1 }
      let s2 := if f.kind = 3 then { s1 with draws := s1.draws + 4 } else s1
      let s3 := if f.kind = 2 ∧ s2.field.configSince = none
        then modField s2 fun x => { x with configSince := some s.now } else s2
      emit s3 (.downFrame ln (sealDown f))

/-- The latest frames of fresh lanes with a bit of word `w` at 1: at least two of them (R209, R215). -/
def votedBits (s : State) (w : DownFrame → U32) : BitVec 24 :=
  BitVec.ofNat 24 (bitmap ((List.range 24).map fun k =>
    2 ≤ ((freshFrames s).filter fun f => f.kind == 1 && (w f).getLsbD k).length))

/-- A frame whose KIND and LANE fit a lane's down channel (R197). -/
def downFits (ln : Lane) (f : DownFrame) : Bool := (f.kind == 1 || f.kind == 2) && f.lane.toNat == laneNo ln

/-- R198: a frame with another configuration than the applied one does not count as valid. -/
def cfgFits (s : State) (f : DownFrame) : Bool :=
  s.field.unconf || s.field.config.any fun c => c.fchk == f.cfgc

/-- What the Gatehouse keeps of a valid frame: a command frame, or a configuration page while it is unconfigured (R204). -/
def keepDown (s : State) (f : DownFrame) (b : BarrierSt) : BarrierSt :=
  if f.kind = 2 then
    if s.field.unconf then
      { b with latest := some f,
               pages := tput [] b.pages f.page.toNat [f.cfgc, f.w2, f.w3, f.w4, f.w5] }
    else b
  else { b with latest := some f }

/-- A down frame at the Gatehouse (R197, R198), which ignores a KIND 3 frame (R194). A stale channel takes the first frame's SEQ and
becomes fresh on the next valid one; any other frame is discarded and counted. -/
def receiveDown (s : State) (ln : Lane) (f : DownFrame) : State :=
  let b := s.field.bar.get ln
  if f.crc ≠ u32 (crc32c (downBytes f)) then modBar s ln fun b => { b with crcErrors := b.crcErrors + 1 }
  else if f.kind = 3 then s
  else if b.stale && !b.resync then modBar s ln fun b => { b with resync := true, lastSeq := f.seq }
  else if downFits ln f && seqFollows b.lastSeq f.seq && cfgFits s f then
    modBar s ln fun b =>
      { keepDown s f b with lastSeq := f.seq, validSeq := f.seq, stale := false, resync := false, downAt := s.now }
  else modBar s ln fun b => { b with seqErrors := b.seqErrors + 1 }

/-- Channel 2k or 2k + 1 of a pair is non-restrictive (R207). -/
def channelOn (c : FieldConfig) (di : BitVec 48) (i : Nat) : Bool :=
  if i % 2 = 1 ∧ c.panti.getLsbD (i / 2) then !di.getLsbD i else di.getLsbD i

/-- Both channels of a pair are restrictive on the field side. -/
def pairRestrictive (x : FieldSt) (k : Nat) : Bool :=
  x.config.all fun c => !channelOn c x.di (2 * k) && !channelOn c x.di (2 * k + 1)

/-- The two frames of an output's reset edge command it off (R215). -/
def resetFramesOff (s : State) (d : Nat) : Bool :=
  2 ≤ ((freshFrames s).filter fun f => f.kind == 1 && f.w5.getLsbD d && !f.w3.getLsbD d).length

/-- Bits 0 to 23 for which a condition holds. -/
def bits24 (f : Nat → Bool) : BitVec 24 := BitVec.ofNat 24 (bitmap ((List.range 24).map f))

/-- Reset edges at the frame that completes two lanes: a voted PRST or ORST bit that rises is kept until PAIR_RESET or OUTPUT_RESET takes
it, with whether its condition held at this moment (R209, R215). -/
def noteEdges (s : State) : State :=
  let p := votedBits s fun f => f.w4
  let o := votedBits s fun f => f.w5
  modField s fun x =>
    let pe := p &&& ~~~ x.votedPrst
    let oe := o &&& ~~~ x.votedOrst
    { x with
      pairEdge := x.pairEdge ||| pe, outEdge := x.outEdge ||| oe, votedPrst := p, votedOrst := o
      pairSafe := (x.pairSafe &&& ~~~ pe) ||| (pe &&& bits24 (pairRestrictive x))
      outSafe := (x.outSafe &&& ~~~ oe) ||| (oe &&& bits24 fun d => resetFramesOff s d && !x.dorb.getLsbD d) }

/-- GATEHOUSE_EVALUATION (R199, R197): a frame that has arrived, or a changed condition; then every output and the Lantern. -/
def execGatehouseEvaluation (t : Time) (ln : Lane) (f : Option DownFrame) (s : State) :
    Host.Outcome State Fault Refusal :=
  at_ t s fun s =>
    if fieldUp s = false then s else
    let s1 := match f with
      | some x => receiveDown s ln x
      | none => s
    gateEval (noteEdges s1)

/-! ### Field configuration (R204) -/

/-- The content of one page, with its CFGC first, that two lanes have sent alike. -/
def agreedPage (s : State) (p : Nat) : Option (List U32) :=
  let at' := fun (ln : Lane) => tget [] (s.field.bar.get ln).pages p
  let l := allLanes.map at'
  (l.find? fun x => x != [] && 2 ≤ (l.filter fun y => y == x).length)

/-- The record that the eight agreed pages assemble, when their CFGC is one and the CRC of the record. -/
def assembled (s : State) : Option FieldConfig :=
  let pages := (List.range 8).map (agreedPage s)
  let cfgcs := pages.map fun p => p.bind fun x => x.head?
  let bytes := pages.flatMap fun p => ((p.getD []).drop 1).flatMap fun w => leBytes 4 w.toNat
  let c := parseField bytes
  if pages.all Option.isSome ∧ cfgcs.all (fun x => x == some c.fchk) ∧ crc32c (bytes.take 124) = c.fchk.toNat
  then some c else none

/-- FIELD_CONFIG_APPLY (R204): ignored once configured. -/
def execFieldConfigApply (t : Time) (s : State) : Host.Outcome State Fault Refusal :=
  at_ t s fun s =>
    match assembled s with
    | some c =>
      if s.field.unconf && fieldUp s then
        let s1 := modField s fun x => { x with
          unconf := false, config := some c, configSince := none,
          bar := x.bar.map fun b => { b with pages := [] } }
        gateEval s1
      else s
    | none => s

/-- Source 79 of the field side: P1 0 FSFLT, 1 kill monitor, 2 configuration; P3 TICK (Table 07-7). -/
def raiseFieldSide (s : State) (p1 : U32) : State := raise s 79 p1 none32 s.field.tick

/-- FIELD_CONFIG_TIMEOUT (R204): still unconfigured 100 ms after the lanes began to send configuration. -/
def execFieldConfigTimeout (t : Time) (s : State) : Host.Outcome State Fault Refusal :=
  at_ t s fun s =>
    match s.field.configSince with
    | some since => if s.field.unconf ∧ since + ms 100 ≤ s.now then raiseFieldSide s 2 else s
    | none => s

/-- FIELD_SIDE_RESET (R204): the controller is at its power-up state again: unconfigured, latch set, epoch 0; PAIRF and DOFLT clear only
on a reset edge (R209, R215) and stay. While the lanes' cycles run outside Watch this is source 79. -/
def execFieldSideReset (t : Time) (s : State) : Host.Outcome State Fault Refusal :=
  at_ t s fun s =>
    if fieldUp s = false then s else
    let x := s.field
    let chan := fun (b : BarrierSt) => { b with latest := none, stale := true, resync := false, pages := [] }
    let s1 := modField s fun _ => { x with
      bar := x.bar.map chan, unconf := true, config := none, flost := true, epoch := 0, flow := false, kstuck := false,
      seq := 0, tick := 0, di := 0, diRun := [], keycnt := 0, aiflt := 0, aiRun := [], pairRun := [],
      cnt := [], aacc := [], configSince := none, iouSince := none, votedPrst := 0, votedOrst := 0,
      pairEdge := 0, outEdge := 0, pairSafe := 0, outSafe := 0, lowSince := none, okSince := none, keyOn := ⟨none, none⟩, keyOff := none }
    let s2 := gateEval s1
    if cyclic s.modes.mode ∧ s.modes.mode ≠ .watch then raiseFieldSide s2 2 else s2

/-! ### Sampling and up frames (R196, R205, R206, R208, R216) -/

/-- Consecutive 10 us samples that a changed level needs: 0.2, 1, 3 or 10 ms (Table 07-3). -/
def filterSamples : Nat → Nat
  | 0 => 20
  | 1 => 100
  | 2 => 300
  | _ => 1000

/-- The configuration that the field side works by; an unconfigured one filters by 0.2 ms and counts nothing. -/
def FieldSt.inputs (x : FieldSt) : BitVec 12 × BitVec 8 :=
  match x.config with
  | some c => (c.filt, c.cnten)
  | none => (0, 0)

/-- One input after one sample: its filtered level and its run of differing samples (R205). -/
def filterInput (x : FieldSt) (raw : BitVec 48) (i : Nat) : Bool × Nat :=
  let (filt, cnten) := x.inputs
  let was := x.di.getLsbD i
  let now := raw.getLsbD i
  if i < 8 ∧ cnten.getLsbD i then (now, 0)
  else if now = was then (was, 0)
  else
    let n := x.diRun.getD i 0 + 1
    if filterSamples (bits filt.toNat (2 * (i / 8) + 1) (2 * (i / 8))) ≤ n then (now, 0) else (was, n)

/-- Every input after one sample. -/
def filterAll (x : FieldSt) (raw : BitVec 48) : FieldSt :=
  let f := (List.range 48).map (filterInput x raw)
  { x with di := BitVec.ofNat 48 (bitmap (f.map fun p => p.1)), diRun := f.map fun p => p.2 }

/-- The pair's count after a tick (R208). -/
def pairCount (c : FieldConfig) (di : BitVec 48) (k n : Nat) : Nat :=
  if c.pair.getLsbD k ∧ channelOn c di (2 * k) ≠ channelOn c di (2 * k + 1) then n + 1 else 0

/-- The sample of one analog input that joins its sum: 4,095 while it is faulted (R216). -/
def aiSample (x : FieldSt) (s : FieldSample) (i : Nat) : Nat := if x.aiflt.getLsbD i then 4095 else s.ai.getD i 0 % 4096

/-- The converters of one input differ by more than 40 counts. -/
def aiDiffers (s : FieldSample) (i : Nat) : Bool :=
  40 < s.ai.getD i 0 - s.ai2.getD i 0 || 40 < s.ai2.getD i 0 - s.ai.getD i 0

/-- What a 1 ms tick adds: the tick count, one sample of each analog input, the pair counts. -/
def fieldTick (x : FieldSt) (s : FieldSample) : FieldSt :=
  { x with
    tick := x.tick + 1
    aacc := (List.range 4).map fun i => x.aacc.getD i 0 + u32 (aiSample x s i)
    aiRun := (List.range 4).map fun i => if aiDiffers s i then x.aiRun.getD i 0 + 1 else 0
    pairRun := match x.config with
      | some c => (List.range 24).map fun k => pairCount c x.di k (x.pairRun.getD k 0)
      | none => [] }

/-- Since when a condition has held without a break. -/
def since (was : Option Time) (holds : Bool) (now : Time) : Option Time := if holds then some (was.getD now) else none

/-- A reading of the field supply (R217): since when it lies below 16.0 V and above 19.2 V; the lowest one of a sag. -/
def readVf (x : FieldSt) (vf : Nat) (now : Time) : FieldSt :=
  { x with
    vf := vf, vfLow := if x.flow then min x.vfLow vf else vf
    lowSince := since x.lowSince (decide (vf < 1600)) now, okSince := since x.okSince (decide (1920 < vf)) now }

/-- A reading of the key (R219): since when each channel reads 1, and since when both read 0. -/
def readKey (x : FieldSt) (levels : BitVec 2) (now : Time) : FieldSt :=
  { x with
    keyLevels := levels
    keyOn := ⟨since x.keyOn.a (levels.getLsbD 0) now, since x.keyOn.b (levels.getLsbD 1) now⟩
    keyOff := since x.keyOff (levels == 0) now }

/-- The field side after one sample set. -/
def sampled (x : FieldSt) (s : FieldSample) (now : Time) : FieldSt :=
  let (_, cnten) := x.inputs
  let x1 := { readKey (readVf (s.di.foldl filterAll x) s.vf now) s.key now with
    cnt := (List.range 8).map fun i => x.cnt.getD i 0 + if cnten.getLsbD i then u16 (s.edges.getD i 0) else 0
    dorb := s.dorb, iout := s.iout, fsflt := s.fsflt
    iouSince := if 900 < s.iout then some (x.iouSince.getD now) else none, seq := x.seq + 1 }
  if s.tick then fieldTick x1 s else x1

/-- The up frame of the present sample set for one lane (R196). -/
def upFrame (s : State) (ln : Lane) : UpFrame :=
  let x := s.field
  sealUp { kind := 9, lane := BitVec.ofNat 2 (laneNo ln), unconf := x.unconf, flost := x.flost, epoch := x.epoch,
           flow := x.flow, kstuck := x.kstuck, kill := x.kill, key := x.keyLevels, fsflt := x.fsflt, lant := x.lant,
           gstale := gstale s, seq := x.seq, tick := x.tick, di := x.di, keycnt := x.keycnt, aiflt := x.aiflt,
           pairf := x.pairf, dorb := x.dorb, doflt := x.doflt, cnt := (List.range 8).map fun k => x.cnt.getD k 0,
           aacc := (List.range 4).map fun k => x.aacc.getD k 0, vf := u16 x.vf, iout := u16 x.iout, crc := 0 }

/-- R217: VF below 19.2 V sets FLOW and raises source 70. -/
def watchVf (s : State) (vf : Nat) : State :=
  if vf < 1920 then raise (modField s fun x => { x with flow := true }) 70 (u32 vf) none32 none32 else s

/-- UP_FRAME_SEND (R196, R205, R217): one sample set, and the three up frames of the period. -/
def execUpFrameSend (t : Time) (x : FieldSample) (s : State) : Host.Outcome State Fault Refusal :=
  at_ t s fun s =>
    if fieldUp s = false then s else
    let s1 := watchVf (modField s fun y => sampled y x s.now) x.vf
    let s2 := allLanes.foldl (fun st ln => emit st (.upFrame ln (upFrame s1 ln))) s1
    if x.fsflt then raiseFieldSide s2 0 else s2

/-- The CRC of an up frame fits. -/
def upIntact (f : UpFrame) : Bool := f.crc == u32 (crc32c (upBytes f))

/-- UP_FRAME_RECEIVE (R197). -/
def execUpFrameReceive (t : Time) (ln : Lane) (f : UpFrame) (s : State) : Host.Outcome State Fault Refusal :=
  at_ t s fun s =>
    let b := s.field.bar.get ln
    if crossRuns s 4 = false then s
    else if upIntact f = false then modBar s ln fun b => { b with crcErrors := b.crcErrors + 1 }
    else if b.upStale && !b.upResync then modBar s ln fun b => { b with upResync := true, upSeq := f.seq }
    else if f.kind = 9 ∧ f.lane.toNat = laneNo ln ∧ seqFollows b.upSeq f.seq then
      modBar s ln fun b => { b with
        up := some f, upAt := s.now, upPrev := b.up, upPrevAt := b.upAt, upSeq := f.seq, upValidSeq := f.seq, upStale := false,
        upResync := false, upValid := b.upValid + 1 }
    else modBar s ln fun b => { b with seqErrors := b.seqErrors + 1 }

/-! ### Stale channels (R198) and kill lines (R200) -/

/-- The barrier source of a lane. -/
def barrierSource (ln : Lane) : Nat := 64 + laneNo ln

/-- R198: a lane in the vote raises its barrier source, except in Start and Split. In Split the rule exempts the Loom and is silent on the
Mills: DESIGN CHOICE (log 148), no lane raises there, since no lane is in a vote. -/
def raiseBarrier (s : State) (ln : Lane) (up : Bool) : State :=
  let b := s.field.bar.get ln
  if inVote s ln ∧ cyclic s.modes.mode then
    raise s (barrierSource ln) (u32 (laneNo ln)) (u32 up.toNat) (if up then b.upValidSeq else b.validSeq)
  else s

/-- A source 64 to 66 ends with the staleness of both channels as the lane sees them. -/
def withdrawBarrier (s : State) (ln : Lane) : State :=
  if (source s (barrierSource ln)).reported then withdraw s (barrierSource ln) else s

/-- BARRIER_CHANNEL_STALE (R198): no valid frame for 500 us. An inward channel is the lane's own receiver. -/
def execBarrierChannelStale (t : Time) (ln : Lane) (dir : Dir) (s : State) : Host.Outcome State Fault Refusal :=
  at_ t s fun s =>
    let b := s.field.bar.get ln
    match dir with
    | .outward =>
      if b.stale = false ∧ b.downAt + us 500 ≤ s.now then
        gateEval (noteEdges (modBar s ln fun b =>
          { b with stale := true, resync := false, staleCount := b.staleCount + 1 }))
      else s
    | .inward =>
      if b.upStale = false ∧ b.upAt + us 500 ≤ s.now then
        raiseBarrier (modBar s ln fun b =>
          { b with upStale := true, upResync := false, staleCount := b.staleCount + 1 }) ln true
      else s

/-- KILL_LINE_DEAD (R200): no edge for 150 us on a line; every output and the Lantern go off. A line that dies while the
Constable drives it is the kill-line monitor's report (source 79). -/
def execKillLineDead (t : Time) (line : Fin 2) (s : State) : Host.Outcome State Fault Refusal :=
  at_ t s fun s =>
    let s1 := gateEval (modField s fun x => { x with kill := setBit x.kill line.val false })
    if s.constable.kill then raiseFieldSide s1 1 else s1

/-! ### Pairs (R208, R209) -/

/-- PAIR_DISCREPANCY_LATCH (R208): the pair's count has reached its DT. -/
def execPairDiscrepancyLatch (t : Time) (k : Fin 24) (s : State) : Host.Outcome State Fault Refusal :=
  at_ t s fun s =>
    match s.field.config with
    | none => s
    | some c =>
      let dt := c.dt.getD k.val 0
      if c.pair.getLsbD k.val ∧ s.field.pairf.getLsbD k.val = false ∧ dt ≤ s.field.pairRun.getD k.val 0 then
        raise (modField s fun x => { x with pairf := setBit x.pairf k.val true }) 69 (u32 k.val) (u32 dt) s.field.tick
      else s

/-- The bits of all these requests together. -/
def askedBits (l : List (BitVec 24 × Time)) : BitVec 24 := l.foldl (fun v q => v ||| q.1) 0

/-- A write of 2212:01 (R209). -/
def writePairReset (s : State) (mask : U32) : Write :=
  refuseUnless (mask.toNat ≤ 0xFFFFFF) 0x0230 <|
  .ok (modField s fun x => { x with pairReq := x.pairReq ++ [(BitVec.ofNat 24 mask.toNat, s.now)] })

/-- PAIR_RESET_REQUEST (R209, 2212:01): taken at the vote of the first cycle whose snapshot is later. -/
def execPairResetRequest (t : Time) (ch : Fin 8) (mask : U32) (s : State) : Host.Outcome State Fault Refusal :=
  writeAt t s ch.val fun s => needAuth s ch.val fun s => writePairReset s mask

/-- PAIR_RESET (R209): the reset edge of the frame that completes the two lanes. -/
def execPairReset (t : Time) (k : Fin 24) (s : State) : Host.Outcome State Fault Refusal :=
  at_ t s fun s =>
    if s.field.pairEdge.getLsbD k.val then
      modField s fun x =>
        let x1 := { x with pairEdge := setBit x.pairEdge k.val false }
        if x.pairSafe.getLsbD k.val then { x1 with pairf := setBit x.pairf k.val false }
        else { x1 with pairIgn := x.pairIgn + 1 }
    else s

/-! ### Outputs (R211 to R215) -/

/-- DOFLT latches for output `d` and every output paralleled with it (R212). -/
def latchOutput (s : State) (d : Nat) : State :=
  let l := (s.field.config.map fun c => outputGroup c d).getD [d]
  modField s fun x => { x with doflt := l.foldl (fun v k => setBit v k true) x.doflt }

/-- An output fault: latched, source 68 with its reason and IOUT, outputs re-evaluated. -/
def outputFault (s : State) (d : Nat) (reason : U32) : State :=
  gateEval (raise (latchOutput s d) 68 (u32 d) reason (u32 s.field.iout))

/-- OUTPUT_TOTAL_TRIP (R211): more than 9.0 A for 10 ms. -/
def execOutputTotalTrip (t : Time) (s : State) : Host.Outcome State Fault Refusal :=
  at_ t s fun s =>
    match s.field.iouSince with
    | some since =>
      if since + ms 10 ≤ s.now ∧ 900 < s.field.iout then
        gateEval (raise (modField s fun x => { x with doflt := 0xFFFFFF }) 68 0xFF 5 (u32 s.field.iout))
      else s
    | none => s

/-- OUTPUT_TEST_PULSE (R213, R214): both samples of an energised output must read low. -/
def execOutputTestPulse (t : Time) (d : Fin 24) (high1 high2 : Bool) (s : State) : Host.Outcome State Fault Refusal :=
  at_ t s fun s =>
    let tested := s.field.gate.getLsbD d.val && s.field.config.any fun c => !c.tpdis.getLsbD d.val
    if tested ∧ (high1 ∨ high2) then
      outputFault (modField s fun x => { x with pulseFail := x.pulseFail + 1 }) d.val (if high1 then 2 else 3)
    else s

/-- The Gatehouse has held output `d` at its present level for `n` ns. -/
def heldFor (s : State) (d n : Nat) : Bool := s.field.gateAt.getD d 0 + n ≤ s.now

/-- The state that source 67 reports ends when no output that is off reads back high (R367). -/
def endStuckOn (s : State) : State :=
  if (source s 67).reported ∧ s.field.dorb &&& ~~~s.field.gate = 0 then withdraw s 67 else s

/-- OUTPUT_READBACK_FAULT (R214): 2 ms after the Gatehouse switched, the readback is the other level. -/
def execOutputReadbackFault (t : Time) (d : Fin 24) (high : Bool) (s : State) : Host.Outcome State Fault Refusal :=
  at_ t s fun s =>
    let on := s.field.gate.getLsbD d.val
    let s1 := modField s fun x => { x with dorb := setBit x.dorb d.val high }
    if on = high ∨ heldFor s d.val (ms 2) = false then endStuckOn s1
    else if high then raise s1 67 (u32 d.val) (u32 s1.field.dorb.toNat) s.cyc.number
    else outputFault s1 d.val 1

/-- OUTPUT_CURRENT_LIMIT_FAULT (R214): current limit or thermal shutdown of the channel. -/
def execOutputCurrentLimitFault (t : Time) (d : Fin 24) (s : State) : Host.Outcome State Fault Refusal :=
  at_ t s fun s => outputFault s d.val 4

/-- OUTPUT_FEEDBACK_FAULT (R214): FBEN set, and the feedback, the filtered level of the DI that FBIN names, does not follow the output
within FBT. `level` is the level that the comparison finds: one that the state does not show latches nothing. -/
def execOutputFeedbackFault (t : Time) (d : Fin 24) (level : Bool) (s : State) : Host.Outcome State Fault Refusal :=
  at_ t s fun s =>
    match s.field.config with
    | none => s
    | some c =>
      let on := s.field.gate.getLsbD d.val
      let fb := (c.fbin.getD d.val 0).toNat
      if fb.testBit 7 ∧ s.field.di.getLsbD (fb % 64) = level ∧ level = on ∧ heldFor s d.val (ms c.fbt) then outputFault s d.val 6
      else s

/-- A write of 2221:01 (R215). -/
def writeOutputReset (s : State) (mask : U32) : Write :=
  refuseUnless (mask.toNat ≤ 0xFFFFFF) 0x0230 <|
  .ok (modField s fun x => { x with outReq := x.outReq ++ [(BitVec.ofNat 24 mask.toNat, s.now)] })

/-- OUTPUT_RESET_REQUEST (R215, 2221:01). -/
def execOutputResetRequest (t : Time) (ch : Fin 8) (mask : U32) (s : State) : Host.Outcome State Fault Refusal :=
  writeAt t s ch.val fun s => needAuth s ch.val fun s => writeOutputReset s mask

/-- OUTPUT_RESET (R215). -/
def execOutputReset (t : Time) (d : Fin 24) (s : State) : Host.Outcome State Fault Refusal :=
  at_ t s fun s =>
    if s.field.outEdge.getLsbD d.val then
      let s1 := modField s fun x => { x with outEdge := setBit x.outEdge d.val false }
      if s.field.outSafe.getLsbD d.val then
        gateEval (modField s1 fun x => { x with doflt := setBit x.doflt d.val false })
      else modField s1 fun x => { x with outIgn := x.outIgn + 1 }
    else s

/-- AI_CONVERTER_MISMATCH (R216): three consecutive ticks. -/
def execAiConverterMismatch (t : Time) (i : Fin 4) (s : State) : Host.Outcome State Fault Refusal :=
  at_ t s fun s =>
    if 3 ≤ s.field.aiRun.getD i.val 0 ∧ s.field.aiflt.getLsbD i.val = false then
      raise (modField s fun x => { x with aiflt := setBit x.aiflt i.val true }) 68 (u32 (0x40 + i.val)) 7
        (u32 s.field.iout)
    else s

/-! ### Field supply (R217, R218) -/

/-- A reading of the field supply at this moment. -/
def noteVf (s : State) (vf : Nat) : State := watchVf (modField s fun x => readVf x vf s.now) vf

/-- A condition has held for `n` ns. -/
def heldSince (s : State) (from_ : Option Time) (n : Nat) : Bool := from_.any fun t => t + n ≤ s.now

/-- FIELD_LOW (R217): VF below 19.2 V. -/
def execFieldLow (t : Time) (vf : Nat) (s : State) : Host.Outcome State Fault Refusal :=
  at_ t s fun s =>
    if vf < 1920 ∧ fieldUp s then noteVf s vf else s

/-- FIELD_LOST (R217): VF below 16.0 V continuously for 2 ms. A latch that is set already is no new loss. -/
def execFieldLost (t : Time) (vf : Nat) (s : State) : Host.Outcome State Fault Refusal :=
  at_ t s fun s =>
    if fieldUp s = false then s else
    let s0 := noteVf s vf
    if heldSince s0 s0.field.lowSince (ms 2) ∧ s.field.flost = false then
      let s1 := modField s0 fun x => { x with flost := true, lostEvents := x.lostEvents + 1 }
      raise (gateEval s1) 71 (u32 s1.field.vfLow) (u32 s.field.epoch.toNat) s.cyc.number
    else s0

/-- FIELD_RETURN (R217, R218): VF above 19.2 V continuously for 100 ms. -/
def execFieldReturn (t : Time) (vf : Nat) (s : State) : Host.Outcome State Fault Refusal :=
  at_ t s fun s =>
    if fieldUp s = false then s else
    let s0 := noteVf s vf
    if heldSince s0 s0.field.okSince (ms 100) then
      let s1 := modField s0 fun x => { x with
        vfLow := vf, flow := false, flost := false, epoch := if x.flost then x.epoch + 1 else x.epoch }
      let s2 := if (source s1 70).reported then withdraw s1 70 else s1
      gateEval (if (source s2 71).reported then withdraw s2 71 else s2)
    else s0

/-! ### The reset key (R219) -/

/-- A channel of the key has read 1 for more than 3,000 ms. -/
def keyLong (x : FieldSt) (now : Time) : Bool := [x.keyOn.a, x.keyOn.b].any fun f => f.any fun t => decide (t + ms 3000 < now)

/-- RESET_KEY_STUCK (R219): a channel has read 1 for more than 3,000 ms. -/
def execResetKeyStuck (t : Time) (levels : BitVec 2) (s : State) : Host.Outcome State Fault Refusal :=
  at_ t s fun s =>
    if fieldUp s = false then s else
    let s1 := modField s fun x => readKey x levels s.now
    if keyLong s1.field s.now then
      raise (modField s1 fun x => { x with kstuck := true }) 78 (u32 levels.toNat) none32 s.field.tick
    else s1

/-- RESET_KEY_STUCK_CLEAR (R219): both channels have read 0 for 1 s. -/
def execResetKeyStuckClear (t : Time) (s : State) : Host.Outcome State Fault Refusal :=
  at_ t s fun s =>
    if fieldUp s = false ∨ heldSince s s.field.keyOff (sec 1) = false then s else
    let s1 := modField s fun x => { x with kstuck := false }
    if (source s1 78).reported then withdraw s1 78 else s1

/-- R219: an operation is valid by its press and release instants on the 1 ms tick. -/
def validKey (k : KeyOperation) : Bool :=
  let apart := fun (x y : Nat) => x ≤ y + 50 && y ≤ x + 50
  100 ≤ k.release1 - k.press1 && k.release1 - k.press1 ≤ 3000 && 100 ≤ k.release2 - k.press2
    && k.release2 - k.press2 ≤ 3000 && apart k.press1 k.press2 && apart k.release1 k.release2

/-- The operation is counted: KEYCNT, or the operations ignored. -/
def countKey (s : State) (k : KeyOperation) : State :=
  modField s fun x =>
    if validKey k then { x with keycnt := x.keycnt + 1, keyOps := x.keyOps + 1 }
    else { x with keyIgn := x.keyIgn + 1 }

end Sys2Proof.Machine
end

