-- ==== Sys2Proof/Machine/Commons.lean ====
section
/-!
DEFINITION. Machine/Commons.lean: the Commons (03): claim words (R73 to R75), slots (R76), serving requests (R77 to R81), route states
(R82 to R88), release (R89 to R93), emergency release (R94) and cross-zone claims (R95 to R101, R468).
-/

namespace Sys2Proof.Machine

/-! ### Cycles and commands -/

/-- A time of `n` s in vital cycles (R88). -/
def cyclesOfSec (s : State) (n : Nat) : Nat := ceilDiv (n * 1000) s.cyc.c
/-- A time of `n` ms in vital cycles (R183). -/
def cyclesOfMs (s : State) (n : Nat) : Nat := ceilDiv n s.cyc.c

/-- The same command: stamp, sequence, opcode, target, parameter and channel. -/
def sameCmd (c d : Command) : Bool :=
  c.stamp == d.stamp && c.hseq == d.hseq && c.opcode == d.opcode && c.target == d.target && c.param == d.param
    && c.chan == d.chan

/-- Change a command wherever it is kept. -/
def modCmd (s : State) (c : Command) (f : Command → Command) : State :=
  let g := fun d => if sameCmd c d then f d else d
  { s with cyc := { s.cyc with taken := s.cyc.taken.map g, live := s.cyc.live.map g } }

/-- A result decided at this vote (R136, R137); route commands also leave it in the route's record (R102). -/
def answer (s : State) (c : Command) (code : U8) (ref : U32) (final : Bool) : State :=
  let s1 := modCmd s c fun d => { d with given := d.given + 1, final := d.final || final }
  noteResult { s1 with cyc := { s1.cyc with decided := s1.cyc.decided ++ [resultOf s1 c code ref] } } c code ref

/-- R138: the command ends its life without a final result, and what it still reserves is returned. -/
def endSilently (s : State) (c : Command) : State :=
  let left := ((s.cyc.taken ++ s.cyc.live).find? (sameCmd c)).map fun d => d.reserved - d.given
  let s1 := modCmd s c fun d => { d with final := true, reserved := d.given }
  { s1 with cyc := { s1.cyc with reserved := s1.cyc.reserved - left.getD 0 } }

/-- The accepted commands of an opcode for a target that have no final result yet. -/
def pendingOf (s : State) (op target : Nat) : List Command :=
  (s.cyc.live ++ s.cyc.taken).filter fun c =>
    c.opcode.toNat == op && c.target == target && !c.final && (c.answered || 0 < c.given)

/-- Answer every pending command of an opcode for a target, finally. -/
def answerAll (s : State) (op target : Nat) (code : U8) : State :=
  (pendingOf s op target).foldl (fun st c => answer st c code none32 true) s

/-! ### Claims (R73 to R75) -/

/-- The slots in use. -/
def slotList (s : State) : List (Nat × Slot) := s.commons.slots.filter fun p => p.2.route.isSome

/-- The element-list entry of a route for an element. -/
def entryOf (s : State) (r e : Nat) : Option ListEntry := (route? s r).bind fun x => x.list.find? fun y => y.elem == e

/-- Who holds an element: slot number, slot and list entry. -/
def holders (s : State) (e : Nat) : List (Nat × Slot × ListEntry) :=
  (slotList s).filterMap fun p =>
    if p.2.held.contains e then (entryOf s (p.2.route.getD 0) e).map fun y => (p.1, p.2, y) else none

/-- The exclusive holder (R75). -/
def exclHolder (s : State) (e : Nat) : Option (Nat × Slot × ListEntry) := (holders s e).find? fun h => h.2.2.ckind < 2
/-- The FLANK holders. -/
def flankHolders (s : State) (e : Nat) : List (Nat × Slot × ListEntry) := (holders s e).filter fun h => h.2.2.ckind == 2

/-- A slot's route state; 0 for a free slot. -/
def slotState (s : State) (y : Slot) : Nat := (y.route.map fun r => (routeSt s r).state).getD 0

/-- The claim word of an element (Table 03-1). -/
def claimWord (s : State) (e : Nat) : BitVec 32 :=
  let all := holders s e
  let flank := flankHolders s e
  let excl := match exclHolder s e with
    | some (k, _, y) => (y.ckind + 1) * 2 ^ 30 + k * 2 ^ 20 + y.req * 2 ^ 4
    | none => 0
  let flanked := flank.length * 2 ^ 12 + (match flank with
    | h :: _ => h.2.2.req * 2 ^ 8
    | [] => 0)
  let lockd := (all.any fun h => 4 ≤ slotState s h.2.1).toNat
  let pend := (all.any fun h => slotState s h.2.1 == 1).toNat
  let emrg := (all.any fun h => h.2.1.emergency).toNat
  BitVec.ofNat 32 (excl + flanked + lockd * 8 + pend * 4 + emrg * 2)

/-- The element has any claim (R75). -/
def claimed (s : State) (e : Nat) : Bool := holders s e != []

/-- All claim words that are not 0, as a lane's copy holds them. -/
def claimTable (s : State) : Table (BitVec 32) :=
  let l : List Nat := (slotList s).flatMap fun p => p.2.held
  l.foldl (fun t e => tput 0 t e (claimWord s e)) []

/-- The Commons copy that the slot records give, its words on dual rails (R38, R103). -/
def copyOf (s : State) : Table (Rails 32) := (claimTable s).map fun w => (w.1, Rails.code w.2)

/-- 4xxx:04 also follows the claim word: the time of its last change. -/
def noteClaims (before after : State) : State :=
  let l : List Nat := (slotList before ++ slotList after).flatMap fun p => p.2.held
  (l.eraseDups.filter fun e => claimWord before e != claimWord after e).foldl
    (fun st e => modElem st e fun y => { y with since := st.now }) after

/-! ### Boundary elements and their sessions (R95, R468) -/

/-- The Boundary element of a cross-zone or continuation route. -/
def boundaryOf (x : Route) : Option Nat := if x.xzone then some x.exit else if x.contin then some x.entry else none

/-- The partner that a Boundary element is bound to. -/
def boundaryPartner (s : State) (b : Nat) : Option Nat := (elem? s b).bind fun x => x.bind1.partner

/-- The TYPE of the partner of a route's Boundary element. -/
def boundaryType (s : State) (x : Route) : Option Nat :=
  (boundaryOf x).bind fun b => (boundaryPartner s b).bind fun q => (partner? s q).map fun p => p.ptype

/-- NELEM of a Boundary element: its number in the neighbour's data. -/
def nelemOf (s : State) (b : Nat) : Nat := ((elem? s b).map fun x => bits x.kp0.toNat 13 0).getD 0

/-- The open session with the partner of a route's Boundary element. -/
def boundarySlot (s : State) (x : Route) : Option Nat :=
  (boundaryOf x).bind fun b => (boundaryPartner s b).bind fun q => openSlot s q

/-- R95: the neighbour can be asked. -/
def neighbourUsable (s : State) (x : Route) : Bool :=
  match (boundaryOf x).bind (elem? s), boundarySlot s x, boundaryType s x with
  | some b, some k, some t =>
    let y := sess s k
    y.profile == some b.profile && y.period == 1
      && (if t = 1 then y.gen == 4 && y.payload == 64
          else b.bind1.obj < reportRange y.payload && b.bind1.obj < commandRange t y.payload)
  | _, _, _ => false

/-- R468: a route of this module holds the Boundary element past the grant. -/
def boundaryHeld (s : State) (e : Nat) : Bool :=
  (exclHolder s e).any fun h => (route? s (h.2.1.route.getD 0)).any fun x =>
    if x.contin then true else 2 ≤ slotState s h.2.1

/-- The detected state of a Boundary element with a neighbour Kutia (R468). -/
def boundaryReading (s : State) (e : Nat) (x : Element) : U8 :=
  if (elemSlot s x).isNone then 0xFF else if boundaryHeld s e then 1 else 0

/-- Boundary elements read what follows from the exchange. -/
def detectBoundaries (s : State) : State :=
  (elements s).foldl (fun st o =>
    if neighbourBoundary st o.2 then
      let d := boundaryReading st o.1 o.2
      modElem st o.1 fun y => { y with detected := d, since := if d = y.detected then y.since else st.now }
    else st) s

/-- A step that ends what a vote decides: a change of claims is noted, Boundary elements follow it (R468), and it stands in the copies
of the lanes that have written this vote's outcome (R73). -/
def settleClaims (before after : State) : State :=
  if claimTable before = claimTable after then after else
  let s1 := detectBoundaries (noteClaims before after)
  { s1 with lanes := s1.lanes.map fun x => if x.wrote then { x with claims := copyOf s1 } else x }

/-- A step that belongs to the vote of the present cycle: states change only at a vote (R82, R184). -/
def afterVote (t : Time) (s : State) (f : State → State) : Host.Outcome State Fault Refusal :=
  at_ t s fun s => if s.cyc.voted then f s else s

/-- The same for a step about a route's claims. -/
def atVote (t : Time) (s : State) (f : State → State) : Host.Outcome State Fault Refusal :=
  afterVote t s fun s => settleClaims s (f s)

/-- Hand a boundary record to the session of a partner (R96): records go in the order they arise. -/
def sendRecord (s : State) (x : Route) (msg : Nat) (b : BoundaryRec) : State :=
  match boundarySlot s x with
  | some k => modSess s k fun y => { y with records := y.records ++ [(msg, b)] }
  | none => s

/-- A record about a home route (R97): the Boundary element's NELEM, CONT, TOKEN, the route and its Boundary element. -/
def homeRecord (s : State) (r : Nat) (x : Route) (y : Slot) : BoundaryRec :=
  { relem := nelemOf s x.exit, rroute := x.cont.getD 0, token := y.token, cstate := 0, rcode := 0, sroute := r,
    selem := x.exit }

/-- A record about a continuation route (R99). -/
def contRecord (s : State) (r : Nat) (x : Route) (y : Slot) (cstate : Nat) : BoundaryRec :=
  { relem := nelemOf s x.entry, rroute := y.nbrRoute, token := y.token, cstate := cstate, rcode := 0, sroute := r,
    selem := x.entry }

/-! ### Route states -/

/-- One change of a route's state (R82). A granted continuation reports it to the neighbour (R99). -/
def setRouteState (s : State) (r n : Nat) : State :=
  let s1 := modRoute s r fun x => { x with state := n, changed := s.now, movedAt := some s.cyc.number }
  match route? s r, slotOfRoute s r with
  | some x, some k => if x.contin ∧ (slotSt s k).granted then sendRecord s1 x 4 (contRecord s r x (slotSt s k) n) else s1
  | _, _ => s1

/-- The route has changed its state at this vote. -/
def movedNow (s : State) (r : Nat) : Bool := (routeSt s r).movedAt == some s.cyc.number

/-- The SET of a route's slot, while it lives. -/
def setCommand (s : State) (r : Nat) (y : Slot) : Option Command :=
  (s.cyc.live ++ s.cyc.taken).find? fun c =>
    c.opcode == 1 && c.target == r && !c.final && c.stamp == y.stamp && c.hseq == y.hseq

/-- Answer the SET of a route. -/
def answerSet (s : State) (r : Nat) (y : Slot) (code : U8) (ref : U32) (final : Bool) : State :=
  match setCommand s r y with
  | some c => answer s c code ref final
  | none => modRoute s r fun x => { x with result := code, ref := ref }

/-- A route returns to Idle (R93): its slot is free from the next cycle (R76), the pending CANCEL and the confirmed emergency
release are answered 01h, and a SET that never reached Cleared ends without a final result (R138). -/
def toIdle (s : State) (r k : Nat) : State :=
  let y := slotSt s k
  let s1 := match setCommand s r y with
    | some c => endSilently s c
    | none => s
  let arms := (pendingOf s1 3 r).filter fun c => c.param == 1
  let s2 := arms.foldl endSilently s1
  let s3 := answerAll (answerAll s2 2 r 1) 3 r 1
  let s4 := setRouteState s3 r 0
  let s5 := modRoute s4 r fun x => { x with slot := none }
  { s5 with commons := { s5.commons with
      slots := tput {} s5.commons.slots k {}, freed := k :: s5.commons.freed } }

/-! ### Release (R89 to R93, R100) -/

/-- Take claims off a slot. A release ends a stall (R93). -/
def dropClaims (s : State) (r k : Nat) (l : List Nat) : State :=
  let gone := (slotSt s k).held.filter l.contains
  if gone = [] then s else
  let s1 := modSlot s k fun y => { y with held := y.held.filter fun e => !l.contains e, relCycles := 0 }
  if (source s1 63).asserted ∧ (source s1 63).params.getD 0 none32 = u32 r then withdraw s1 63 else s1

/-- Release a home route's Boundary element when its session is open, with RELEASE after a train and CANCEL otherwise; while
the session is closed it stays held and the release is owed (R100, R101). -/
def dropBoundary (s : State) (r k : Nat) (x : Route) : State :=
  let y := slotSt s k
  if y.held.contains x.exit = false then s
  else if (boundarySlot s x).isNone then modSlot s k fun z => { z with owed := true }
  else
    let s1 := if boundaryType s x = some 1 then sendRecord s x (if y.byTrain then 6 else 5) (homeRecord s r x y) else s
    modSlot (dropClaims s1 r k [x.exit]) k fun z => { z with owed := false }

/-- Release a set of elements of a route; the Boundary element of a cross-zone route under its own rule. -/
def releaseElems (s : State) (r k : Nat) (x : Route) (l : List Nat) : State :=
  if x.xzone then
    let s1 := dropClaims s r k (l.filter fun e => e != x.exit)
    if l.contains x.exit then dropBoundary s1 r k x else s1
  else dropClaims s r k l

/-- The route has no claim left: it returns to Idle. -/
def idleWhenEmpty (s : State) (r k : Nat) : State := if (slotSt s k).held = [] then toIdle s r k else s

/-- The PATH Track sections of group `g`. -/
def groupTracks (s : State) (x : Route) (g : Nat) : List Nat :=
  (x.list.filter fun y => y.ckind == 0 && y.rgroup == g && (elem? s y.elem).any fun z => z.kind == 0).map ListEntry.elem

/-- The highest PATH group. -/
def lastGroup (x : Route) : Nat := ((x.list.filter fun y => y.ckind == 0).map ListEntry.rgroup).foldl max 0

/-- The PATH and FLANK elements of group `g`. -/
def groupElems (x : Route) (g : Nat) : List Nat :=
  (x.list.filter fun y => y.ckind != 1 && y.rgroup == g).map ListEntry.elem

/-- The OVERLAP elements. -/
def overlapElems (x : Route) : List Nat := (x.list.filter fun y => y.ckind == 1).map ListEntry.elem

/-- The OVERLAP Track sections. -/
def overlapTracks (s : State) (x : Route) : List Nat :=
  (overlapElems x).filter fun e => (elem? s e).any fun z => z.kind == 0

/-- Seen and clear conditions of a group (R89); group 0 of a continuation waits for the neighbour's RELEASE (R99). -/
def groupMet (s : State) (x : Route) (y : Slot) (g : Nat) : Bool :=
  if x.contin ∧ g = 0 then y.nbrRel
  else
    let l := groupTracks s x g
    l == [] || (y.seen.getLsbD g && l.all (readsClear s))

/-- The groups that release at this vote: in ascending order behind the train, or all together (R89, R90). -/
def releasingGroups (s : State) (x : Route) (y : Slot) : List Nat :=
  let groups := (List.range (lastGroup x + 1)).filter fun g => groupElems x g != []
  let open_ := groups.filter fun g => !y.released.getLsbD g
  if x.noseq ∨ (profile? s x.profile).any (fun p => !p.seqrel) then
    if groups.all (groupMet s x y) then open_ else []
  else open_.takeWhile (groupMet s x y)

/-- The group has a PATH entry. -/
def pathGroup (x : Route) (g : Nat) : Bool := x.list.any fun y => y.ckind == 0 && y.rgroup == g

/-- Seen bits of the PATH groups with an occupied section, and from the start of those without a Track section (R89). -/
def markSeen (s : State) (x : Route) (k : Nat) : State :=
  let seen := (List.range (lastGroup x + 1)).filter fun g =>
    (groupTracks s x g).any (readsOccupied s) || (pathGroup x g && groupTracks s x g == [])
  modSlot s k fun y => { y with seen := seen.foldl (fun v g => setBit v g true) y.seen }

/-- The overlap releases with the highest PATH group when the profile has no overlap timer (R91). -/
def timedOverlap (s : State) (x : Route) : Bool := (profile? s x.profile).any fun p => p.ovltimer

/-- Release the overlap. -/
def dropOverlap (s : State) (r k : Nat) (x : Route) : State :=
  modSlot (dropClaims s r k (overlapElems x)) k fun y => { y with released := setBit y.released 63 true }

/-- The overlap's timer has expired and its sections read clear (R91). -/
def overlapDue (s : State) (x : Route) (y : Slot) : Bool :=
  y.ovlTimer == some 0 && !y.released.getLsbD 63 && (overlapTracks s x).all (readsClear s)

/-- The overlap of a profile without an overlap timer goes with the highest PATH group (R91). -/
def overlapWith (s : State) (r k : Nat) (x : Route) (l : List Nat) : State :=
  if l.contains (lastGroup x) ∧ timedOverlap s x = false ∧ overlapElems x ≠ [] then dropOverlap s r k x else s

/-- One vote of a route in Releasing by train: seen bits, groups, overlap, then Idle when nothing is held. -/
def releaseByTrain (s : State) (r k : Nat) (x : Route) : State :=
  let s1 := markSeen s x k
  let l := releasingGroups s1 x (slotSt s1 k)
  let s2 := l.foldl (fun st g =>
    modSlot (releaseElems st r k x (groupElems x g)) k fun y => { y with released := setBit y.released g true }) s1
  let s3 := overlapWith s2 r k x l
  let s4 := if (slotSt s3 k).owed then dropBoundary s3 r k x else s3
  idleWhenEmpty s4 r k

/-- Releasing without train: every claim at the vote of the first cycle in Releasing (R92), the owed boundary when its
session is open. -/
def releaseAll (s : State) (r k : Nat) (x : Route) : State :=
  let y := slotSt s k
  let s1 := releaseElems s r k x y.held
  let groups := (List.range (lastGroup x + 1)).filter fun g => groupElems x g != []
  let rel := (groups ++ if overlapElems x = [] then [] else [63]).foldl (fun v g => setBit v g true) y.released
  let s2 := modSlot s1 k fun z => { z with released := rel }
  idleWhenEmpty s2 r k

/-- The claims of a route that never moved anything are released at once: Requested to Idle. -/
def abandonRequest (s : State) (r k : Nat) (x : Route) (cancel : Bool) : State :=
  let s1 := if cancel ∧ boundaryType s x = some 1 then sendRecord s x 5 (homeRecord s r x (slotSt s k)) else s
  toIdle (modSlot s1 k fun y => { y with held := [] }) r k

/-! ### Serving requests (R78 to R80) -/

/-- Table 12-2: a SET or a cross-zone claim is permitted. -/
def setPermitted (s : State) : Bool := clearingPermitted s

/-- Table 12-2: CANCEL and EMERGENCY RELEASE are permitted. -/
def cancelPermitted (s : State) : Bool :=
  match s.modes.mode with
  | .stop | .run | .degraded | .testTrack | .hold => inControl s
  | _ => false

/-- The lowest free slot; one freed at this vote is still in use (R76). -/
def freeSlot (s : State) : Option Nat :=
  (List.range 1024).find? fun k => (slotSt s k).route.isNone && !s.commons.freed.contains k

/-- R75: the entry's claim meets no other claim. -/
def claimFits (s : State) (y : ListEntry) : Bool :=
  let flank := flankHolders s y.elem
  (exclHolder s y.elem).isNone
    && (if y.ckind = 2 then flank.length < 255 && flank.all (fun h => h.2.2.req == y.req) else flank == [])

/-- R79: a Point, Crossover pair or Derailer is movable at claim: not blocked, and its sections read clear. -/
def movableAtClaim (s : State) (e : Nat) (z : Element) : Bool := !(elemSt s e).blocked && (sections z).all (readsClear s)

/-- R79: the entry is usable at claim. -/
def usable (s : State) (x : Route) (y : ListEntry) : Bool :=
  match elem? s y.elem with
  | none => false
  | some z =>
    if x.contin ∧ y.elem = x.entry then true
    else
      let somewhere := !inNoState s y.elem
      (somewhere || y.req == 0)
        && (if y.move then
              detectedIn s y.elem y.req || (if isMovable z.kind then movableAtClaim s y.elem z else somewhere)
            else y.req == 0 || z.kind == 0 || z.kind == 7 || detectedIn s y.elem y.req)

/-- The checks of R78 for a route, in order: a result and a reference, or the slot to take. -/
def trySet (s : State) (r : Nat) (host : Bool) : Except (U8 × U32) Nat :=
  match route? s r with
  | none => .error (0x14, none32)
  | some x =>
    if x.contin && host then .error (0x14, none32)
    else if setPermitted s = false then .error (0x15, none32)
    else if (routeSt s r).state ≠ 0 then .error (0x10, u32 x.entry)
    else if x.xzone && !neighbourUsable s x then .error (0x13, u32 x.exit)
    else match freeSlot s with
      | none => .error (0x12, none32)
      | some k =>
        match x.list.find? fun y => !claimFits s y || !usable s x y with
        | some y => .error (if claimFits s y then 0x11 else 0x10, u32 y.elem)
        | none => .ok k

/-- Take the slot: every entry of the list is claimed (R78). -/
def takeSlot (s : State) (r k : Nat) (x : Route) (y : Slot) : State :=
  let s1 := modSlot s k fun _ => { y with route := some r, held := x.list.map ListEntry.elem }
  let s2 := modRoute s1 r fun z => { z with slot := some k }
  { s2 with commons := { s2.commons with peak := max s2.commons.peak (slotList s2).length } }

/-- Counters and source of a refused claim (R104, Table 03-11). DESIGN CHOICE (log 96): a refusal of a neighbour's REQ counts too, and
has no host sequence: P3 is 0. -/
def noteRefusal (s : State) (r : Nat) (code : U8) (hseq : U32) : State :=
  if code = 0x12 then
    raise { s with commons := { s.commons with refused12 := s.commons.refused12 + 1 } } 59 (u32 r) 1024 hseq
  else if code = 0x10 then { s with commons := { s.commons with refused10 := s.commons.refused10 + 1 } }
  else s

/-- A SET served (R83): Claimed with 00h, or Requested with a REQ to the neighbour. TOKEN counts the REQs (R97): DESIGN CHOICE (log 149), it
is incremented before it is used, so that the counter holds the TOKEN last used, and the REQ of a vote that keeps its route Idle takes
a TOKEN as well. -/
def serveSet (s : State) (c : Command) : State :=
  match trySet s c.target true with
  | .error (code, ref) => noteRefusal (answer s c code ref true) c.target code c.hseq
  | .ok k =>
    match route? s c.target with
    | none => s
    | some x =>
      let nbr := x.xzone && boundaryType s x == some 1
      let token := if nbr then s.commons.token + 1 else s.commons.token
      let y : Slot := { stamp := c.stamp, opid := c.opid, hseq := c.hseq, token := if nbr then token else 0,
                        reqCycle := s.cyc.number }
      let s1 := takeSlot { s with commons := { s.commons with token := token } } c.target k x y
      if x.xzone then
        let s3 := setRouteState s1 c.target 1
        if nbr then sendRecord s3 x 1 (homeRecord s3 c.target x (slotSt s3 k)) else s3
      else answer (setRouteState s1 c.target 2) c 0 none32 false

/-- R99: a REQ is checked and served for a continuation route. -/
def serveReq (s : State) (q : RxRecord) : State :=
  let b := q.body
  let back : BoundaryRec :=
    { relem := b.selem, rroute := b.sroute, token := b.token, cstate := 0, rcode := 0, sroute := b.rroute, selem := b.relem }
  let reply := fun (st : State) (msg : Nat) (x : BoundaryRec) =>
    modSess st q.slot fun y => { y with records := y.records ++ [(msg, x)] }
  let fits := (elem? s b.relem).any fun x =>
    x.kind == 7 && nelemOf s b.relem == b.selem && x.bind1.partner == (sess s q.slot).partner
      && (x.bind1.partner.bind (partner? s)).any (fun p => p.ptype == 1)
      && (route? s b.rroute).any fun z => z.contin && z.entry == b.relem
  if fits = false then reply s 3 { back with rcode := 4 }
  else match trySet s b.rroute false with
    | .error (code, _) => noteRefusal (reply s 3 { back with rcode := code.toNat - 0x10 }) b.rroute code 0
    | .ok k =>
      match route? s b.rroute with
      | none => s
      | some x =>
        let y : Slot := { stamp := q.stamp, token := b.token, nbrRoute := b.sroute }
        let s1 := setRouteState (takeSlot s b.rroute k x y) b.rroute 2
        reply (modSlot s1 k fun z => { z with granted := true }) 2 back

/-! ### Clearing and proving (R84 to R87) -/

/-- An entry other than a Track section is detected in its REQ. -/
def entryProven (s : State) (y : ListEntry) : Bool :=
  (elem? s y.elem).any fun z => z.kind == 0 || y.req == 0 || detectedIn s y.elem y.req

/-- The Track sections that must read clear (R84). -/
def clearingTracks (s : State) (x : Route) : List Nat :=
  (x.list.filter fun y => y.ckind != 2 && (elem? s y.elem).any (fun z => z.kind == 0)
    && !(x.shunt && y.ckind == 0 && y.rgroup == lastGroup x)).map ListEntry.elem

/-- The neighbour's part of the clearing conditions. -/
def neighbourClear (s : State) (x : Route) (y : Slot) : Bool :=
  !x.xzone || ((boundarySlot s x).isSome && (if boundaryType s x = some 1 then y.nbrState == 5 else detectedIn s x.exit 1))

/-- The clearing conditions of a route (R84), whatever its state among 4 to 6. -/
def clearingOk (s : State) (x : Route) (y : Slot) : Bool :=
  !y.armed && !y.emergency && !y.cancelPend && x.list.all (entryProven s) && (clearingTracks s x).all (readsClear s)
    && !((!x.contin) && (elemSt s x.entry).blocked) && neighbourClear s x y && clearingPermitted s

/-- Approach locking applies (R87). -/
def approachLocks (s : State) (x : Route) : Bool :=
  !x.contin && ((profile? s x.profile).any (fun p => p.apprall)
    || (x.appr1.toList ++ x.appr2.toList).any fun e => readsOccupied s e || inNoState s e)

/-- The first PATH Track section of the list. -/
def firstTrack (s : State) (x : Route) : Option Nat :=
  (x.list.find? fun y => y.ckind == 0 && (elem? s y.elem).any fun z => z.kind == 0).map ListEntry.elem

/-- A train enters: the first PATH Track section changes from clear to occupied. -/
def trainEnters (s : State) (x : Route) : Bool :=
  (firstTrack s x).any fun e => (elemSt s e).before == 1 && readsOccupied s e

/-- Proving fails: the SET gets its final result, source 61 is raised, and the route releases without train (R83, R86). -/
def failProving (s : State) (r k : Nat) (e : Nat) : State :=
  let throw := (elem? s e).any fun z => isMovable z.kind
  let code : U8 := if throw then 0x18 else 0x11
  let s1 := answerSet s r (slotSt s k) code (u32 e) true
  let s2 := if throw then { s1 with points := { s1.points with failed := s1.points.failed + 1 } } else s1
  let s3 := setRouteState (modSlot s2 k fun y => { y with noTrain := true }) r 7
  raise s3 61 (u32 r) (u32 e) (u32 code.toNat)

/-- Into Releasing without train after a CANCEL. -/
def cancelNow (s : State) (r k : Nat) : State :=
  setRouteState (modSlot s k fun y => { y with noTrain := true, approach := false, apprTimer := 0 }) r 7

/-- Into Approach-Locked: the timer starts (R88). -/
def lockApproach (s : State) (r k : Nat) (x : Route) (pend : Bool) : State :=
  setRouteState (modSlot s k fun y => { y with
    approach := true, cancelPend := pend, apprTimer := cyclesOfSec s x.apprt }) r 6

/-! ### CANCEL and EMERGENCY RELEASE (R83, R94) -/

/-- A CANCEL of a route by its state. A Requested route keeps its claims to the vote (R80), where `voteRequested` ends it. In
Approach-Locked it is the one trigger of this vote, and a timer that has expired acts at the next (R82). -/
def cancelInState (s : State) (c : Command) (k : Nat) (x : Route) : State :=
  let r := c.target
  let y := slotSt s k
  let refuse := answer s c 0x11 none32 true
  if y.armed ∨ y.emergency then refuse else
  match (routeSt s r).state with
  | 1 => if y.cancelPend then refuse else modSlot (answer s c 0 none32 false) k fun z => { z with cancelPend := true }
  | 2 | 3 => cancelNow (answer s c 0 none32 false) r k
  | 4 => if trainEnters s x then refuse else cancelNow (answer s c 0 none32 false) r k
  | 5 =>
    if trainEnters s x then refuse
    else if approachLocks s x then lockApproach (answer s c 0 none32 false) r k x true
    else cancelNow (answer s c 0 none32 false) r k
  | 6 =>
    if trainEnters s x ∨ y.cancelPend then refuse
    else modRoute (modSlot (answer s c 0 none32 false) k fun z => { z with cancelPend := true }) r fun z =>
      { z with movedAt := some s.cyc.number }
  | _ => refuse

/-- A CANCEL served. A route whose state has changed at this vote has its one change behind it (R82). -/
def serveCancel (s : State) (c : Command) : State :=
  match route? s c.target, slotOfRoute s c.target with
  | none, _ => answer s c 0x14 none32 true
  | some x, k =>
    if x.contin then answer s c 0x14 none32 true
    else if cancelPermitted s = false then answer s c 0x15 none32 true
    else match k with
      | none => answer s c 0x11 none32 true
      | some k => if movedNow s c.target then answer s c 0x11 none32 true else cancelInState s c k x

/-- Step 1 of Table 03-4. -/
def armEmergency (s : State) (c : Command) (k : Nat) : State :=
  let y := slotSt s k
  if 4 ≤ (routeSt s c.target).state ∧ y.armed = false ∧ y.emergency = false then
    answer (modSlot s k fun z => { z with
      armed := true, armBy := c.opid, armChan := c.chan, armVotes := 0, armCycle := s.cyc.number }) c 0 none32 false
  else answer s c 0x11 none32 true

/-- Step 2 of Table 03-4, in the order of its checks. The arm's command ends (R138). -/
def confirmEmergency (s : State) (c : Command) (k : Nat) (x : Route) : State :=
  let y := slotSt s k
  if y.armed = false then answer s c 0x11 none32 true
  else if y.armBy ≠ c.opid ∨ y.armChan ≠ c.chan then answer s c 0x17 none32 true
  else if y.armVotes < ceilDiv 10000 s.cyc.c ∨ 60000 / s.cyc.c < y.armVotes then answer s c 0x11 none32 true
  else
    let arms := (pendingOf s 3 c.target).filter fun d => d.param == 1
    let s1 := answer (arms.foldl endSilently s) c 0 none32 false
    modSlot s1 k fun z => { z with armed := false, emergency := true, emrgTimer := cyclesOfSec s x.apprt }

/-- An EMERGENCY RELEASE served. -/
def serveEmergency (s : State) (c : Command) : State :=
  match route? s c.target, slotOfRoute s c.target with
  | none, _ => answer s c 0x14 none32 true
  | some x, k =>
    if x.contin then answer s c 0x14 none32 true
    else if cancelPermitted s = false then answer s c 0x15 none32 true
    else if c.auth = false then answer s c 0x17 none32 true
    else match k with
      | none => answer s c 0x11 none32 true
      | some k => if c.param = 1 then armEmergency s c k else confirmEmergency s c k x

/-! ### Records from a neighbour (R97 to R100) -/

/-- The Requested route that a GRANT or REFUSE answers: route, continuation, TOKEN, Boundary element and session. -/
def answersRoute (s : State) (q : RxRecord) : Option (Nat × Nat × Route) :=
  let b := q.body
  match route? s b.rroute, slotOfRoute s b.rroute with
  | some x, some k =>
    if x.xzone ∧ (routeSt s b.rroute).state = 1 ∧ x.cont = some b.sroute ∧ (slotSt s k).token = b.token
        ∧ b.selem = nelemOf s x.exit ∧ boundaryPartner s x.exit = (sess s q.slot).partner then some (b.rroute, k, x)
    else none
  | _, _ => none

/-- A trigger of Table 03-3 that stands before the GRANT of a Requested route: a CANCEL, or the closed session. -/
def triggered (s : State) (k : Nat) (x : Route) : Bool := (slotSt s k).cancelPend || (boundarySlot s x).isNone

/-- A GRANT (R97, R100): matched within the window, stale before it, in the REQ cycle's own snapshot as well, and answered with CANCEL
otherwise. -/
def serveGrant (s : State) (q : RxRecord) : State :=
  let b := q.body
  let refused := modSess s q.slot fun y => { y with records := y.records ++
    [(5, { relem := b.selem, rroute := b.sroute, token := b.token, cstate := 0, rcode := 0, sroute := b.rroute,
           selem := b.relem })] }
  match answersRoute s q with
  | none => refused
  | some (r, k, x) =>
    let n := cyclesSince (slotSt s k).reqCycle s.cyc.number
    if n < 2 then s
    else if n ≤ 4 then
      if triggered s k x then s else
      let s1 := answerSet s r (slotSt s k) 0 none32 false
      setRouteState (modSlot s1 k fun y => { y with claimedFor := 0 }) r 2
    else refused

/-- Source 60 and its count: why a cross-zone request was abandoned. -/
def noteAbandoned (s : State) (r : Nat) (token : U8) (p3 : Nat) : State :=
  raise { s with commons := { s.commons with abandoned := s.commons.abandoned + 1 } } 60 (u32 r) (u32 token.toNat) (u32 p3)

/-- A REFUSE (R83): the route returns to Idle with 13h. -/
def serveRefuse (s : State) (q : RxRecord) : State :=
  match answersRoute s q with
  | none => s
  | some (r, k, x) =>
    if (slotSt s k).cancelPend ∨ movedNow s r then s else
    let code := 0x10 + q.body.rcode
    let token := (slotSt s k).token
    let s1 := modRoute (answerSet s r (slotSt s k) 0x13 none32 true) r fun z => { z with nbrCode := u8 code }
    noteAbandoned (abandonRequest s1 r k x false) r token (1 + code * 256)

/-- The home route past Requested that a STATE names. -/
def serveState (s : State) (q : RxRecord) : State :=
  let b := q.body
  match route? s b.rroute, slotOfRoute s b.rroute with
  | some x, some k =>
    if x.xzone ∧ x.cont = some b.sroute ∧ (slotSt s k).token = b.token
        ∧ boundaryPartner s x.exit = (sess s q.slot).partner then
      modSlot s k fun y => { y with nbrState := b.cstate }
    else s
  | _, _ => s

/-- The continuation that a CANCEL or RELEASE names. -/
def continuation (s : State) (q : RxRecord) : Option (Nat × Nat × Route) :=
  let b := q.body
  match route? s b.rroute, slotOfRoute s b.rroute with
  | some x, some k =>
    if x.contin ∧ (slotSt s k).token = b.token ∧ (slotSt s k).nbrRoute = b.sroute
        ∧ boundaryPartner s x.entry = (sess s q.slot).partner then some (b.rroute, k, x)
    else none
  | _, _ => none

/-- A CANCEL for a continuation (R99): Releasing without train, unless a train has entered it. A continuation that has already changed
its state at this vote follows at the next (R82). -/
def serveNbrCancel (s : State) (q : RxRecord) : State :=
  match continuation s q with
  | none => s
  | some (r, k, x) =>
    if (routeSt s r).state = 7 ∨ (4 ≤ (routeSt s r).state ∧ trainEnters s x) then s
    else if movedNow s r then modSlot s k fun y => { y with nbrCancel := true }
    else cancelNow s r k

/-- A RELEASE for a continuation (R99): its group 0 may release, and with it the overlap of a route without a higher group (R91). DESIGN
CHOICE (log 97): under R90 (NOSEQ = 1 or SEQREL = 0) group 0 waits for the vote at which all groups release together. -/
def serveNbrRelease (s : State) (q : RxRecord) : State :=
  match continuation s q with
  | none => s
  | some (r, k, x) =>
    let s1 := modSlot s k fun y => { y with nbrRel := true }
    if 4 ≤ (routeSt s r).state ∧ (slotSt s k).noTrain = false ∧ x.noseq = false
        ∧ (profile? s x.profile).any (fun p => p.seqrel) then
      let s2 := modSlot (dropClaims s1 r k (groupElems x 0)) k fun y => { y with released := setBit y.released 0 true }
      let s3 := overlapWith s2 r k x [0]
      if movedNow s r then s3 else idleWhenEmpty s3 r k
    else s1

/-- A record of the snapshot other than REQ (Table 03-5). -/
def serveRecord (s : State) (q : RxRecord) : State :=
  match q.msg with
  | 2 => serveGrant s q
  | 3 => serveRefuse s q
  | 4 => serveState s q
  | 5 => serveNbrCancel s q
  | 6 => serveNbrRelease s q
  | _ => s

/-! ### One vote of a route (Table 03-3) -/

/-- Requested: a CANCEL taken, then a closed session, ends it; a foreign interlocking grants by STATE 1 within the window (R101). -/
def voteRequested (s : State) (r k : Nat) (x : Route) : State :=
  let y := slotSt s k
  let n := cyclesSince y.reqCycle s.cyc.number
  if y.cancelPend then abandonRequest s r k x true
  else if (boundarySlot s x).isNone then
    let s1 := answerSet s r y 0x13 none32 true
    noteAbandoned (abandonRequest s1 r k x false) r y.token 2
  else if boundaryType s x = some 2 ∧ 2 ≤ n ∧ n ≤ 4 ∧ detectedIn s x.exit 1 then
    setRouteState (answerSet s r y 0 none32 false) r 2
  else s

/-- Proving: a MOVE = 0 entry that left its REQ fails it; every entry proven locks it. -/
def voteProving (s : State) (r k : Nat) (x : Route) : State :=
  if x.list.all (entryProven s) then setRouteState s r 4
  else match x.list.find? fun y => !y.move && !entryProven s y with
    | some y => failProving s r k y.elem
    | none => s

/-- A train has entered: Releasing by train, seen bits start (R89). -/
def enterByTrain (s : State) (r k : Nat) (x : Route) : State :=
  markSeen (setRouteState (modSlot s k fun y => { y with byTrain := true, approach := false, apprTimer := 0 }) r 7) x k

/-- The route reaches Cleared: 01h for the SET the first time. -/
def enterCleared (s : State) (r k : Nat) : State :=
  let y := slotSt s k
  let s1 := if y.cleared then s else answerSet s r y 1 none32 true
  let s2 := modRoute (setRouteState s1 r 5) r fun z => { z with cleared := z.cleared + 1 }
  countUp (modSlot s2 k fun z => { z with cleared := true, approach := false, apprTimer := 0 }) 8 1

/-- Locked, Cleared, Approach-Locked. -/
def voteLocked (s : State) (r k : Nat) (x : Route) (state : Nat) : State :=
  let y := slotSt s k
  if trainEnters s x then enterByTrain s r k x
  else match state with
    | 4 => if clearingOk s x y then enterCleared s r k else s
    | 5 =>
      if clearingOk s x y then s
      else if approachLocks s x then lockApproach s r k x false
      else setRouteState s r 4
    | _ => if y.apprTimer ≠ 0 ∧ clearingOk s x y then enterCleared s r k else s

/-- Releasing: behind the train, or everything at once. -/
def voteReleasing (s : State) (r k : Nat) (x : Route) : State :=
  if (slotSt s k).noTrain then releaseAll s r k x else releaseByTrain s r k x

/-- While the session is closed, continuation routes of it are held unchanged (R100). -/
def frozenContinuation (s : State) (x : Route) : Bool := x.contin && (boundarySlot s x).isNone

/-- The emergency timer of a running release has expired: EMERGENCY_TIMER_EXPIRY is the route's one change of this vote (R82, R94). -/
def emergencyDue (y : Slot) : Bool := y.emergency && y.emrgTimer == 0

/-- One vote of a route that has not changed its state at this vote. A route whose last claim went while its one change was spent
returns to Idle, and a CANCEL of the neighbour received then takes effect (R82, R93, R99). -/
def voteRoute (s : State) (r : Nat) : State :=
  match route? s r, slotOfRoute s r with
  | some x, some k =>
    if movedNow s r || frozenContinuation s x || emergencyDue (slotSt s k) then s
    else if (slotSt s k).held = [] then toIdle s r k
    else if (slotSt s k).nbrCancel ∧ (routeSt s r).state ≠ 7 ∧ ((routeSt s r).state < 4 ∨ trainEnters s x = false) then cancelNow s r k
    else match (routeSt s r).state with
    | 1 => voteRequested s r k x
    | 2 => setRouteState s r 3
    | 3 => voteProving s r k x
    | 7 => voteReleasing s r k x
    | 0 => s
    | n => voteLocked s r k x n
  | _, _ => s

/-- The overlap timer starts at the first vote at which BERTH reads occupied (R91); an overlap whose timer expired at an
earlier vote releases as soon as it is clear. -/
def voteOverlap (s : State) (r k : Nat) (x : Route) (expired : Bool) : State :=
  let y := slotSt s k
  let n := (routeSt s r).state
  if frozenContinuation s x || emergencyDue y then s else
  let loads := y.ovlTimer.isNone && timedOverlap s x && (n == 5 || n == 6 || (n == 7 && y.byTrain))
    && x.berth.any (readsOccupied s) && overlapElems x != []
  if loads then modSlot s k fun z => { z with ovlTimer := some (cyclesOfSec s x.ovlt) }
  else if expired && overlapDue s x y then idleWhenEmpty (dropOverlap s r k x) r k
  else s

/-- The timers of one slot at a vote (R88): counted down to 0, the others up. -/
def tickSlot (state : Nat) (y : Slot) : Slot :=
  { y with
    apprTimer := if state = 6 then y.apprTimer - 1 else y.apprTimer
    ovlTimer := y.ovlTimer.map fun n => n - 1
    emrgTimer := y.emrgTimer - 1
    armVotes := if y.armed then y.armVotes + 1 else y.armVotes
    claimedFor := if state = 2 ∨ state = 3 then y.claimedFor + 1 else y.claimedFor
    relCycles := if state = 7 then y.relCycles + 1 else y.relCycles }

/-- The timers of every slot. -/
def tickSlots (s : State) : State :=
  { s with commons := { s.commons with slots := tmap {} (fun _ y => tickSlot (slotState s y) y) s.commons.slots } }

end Sys2Proof.Machine
end

