-- ==== Sys2Proof/Machine/Points.lean ====
section
/-!
DEFINITION. Machine/Points.lean: points, signals and safe stop (06): throws and their supervision (R170 to R174), signals (R175,
R176), command and report items (R177 to R179), drive groups (R183 to R190), blocks and section resets (R133).
-/

namespace Sys2Proof.Machine

/-! ### Drive groups in a snapshot (R183) -/

/-- The drive group of a local element, when its record is defined. -/
def driveOf (s : State) (x : Element) : Option (Nat × GroupRec) :=
  if x.remote = false ∧ x.bind1.drive then (group? s x.bind1.dgroup).map fun g => (x.bind1.dgroup, g) else none

/-- The encoder rate f of R183 in thousandths of a pulse/s, in which pulses x 1,000 / C is exact for every cycle length of Table 01-1. -/
def encoderRate (s : State) (g : Nat) : Nat := s.cyc.snap.pulses.getD g 0 * 1000000 / s.cyc.c
/-- A rate of the station data, in pulses/s, on the same scale. -/
def milli (n : Nat) : Nat := n * 1000
/-- The mean current in counts. -/
def motorCurrent (s : State) (g : Nat) : Nat := s.cyc.snap.means.getD g 4095
/-- FB1 and FB2 as the snapshot shows them. -/
def feedbackOf (s : State) (g : Nat) : BitVec 2 :=
  BitVec.ofNat 2 (bitmap [s.cyc.snap.di.getLsbD (8 + 2 * g), s.cyc.snap.di.getLsbD (9 + 2 * g)])

/-- The cycles over IMAX in a row, counted while Running. -/
def overCount (s : State) (g : Nat) (r : GroupRec) (y : GroupSt) : Nat :=
  if y.state = 2 ∧ r.imax < motorCurrent s g then y.overRun + 1 else 0

/-- What each vote reads of a group; in Stopping the count j moves on. -/
def tickGroup (s : State) (g : Nat) (r : GroupRec) : State :=
  modGroup s g fun y => { y with
    prevRate := y.rate, rate := encoderRate s g, current := motorCurrent s g, feedback := feedbackOf s g,
    overRun := overCount s g r y, j := if y.state = 4 then y.j + 1 else y.j }

/-- The defined groups. -/
def groupsIn (s : State) : List (Nat × GroupRec) :=
  (List.range 4).filterMap fun g => (group? s g).map fun r => (g, r)

/-- A defined group is Idle after a start. DESIGN CHOICE (log 151): no rule gives its state after a start; one that was Locked out before
is Idle too. -/
def startGroups (s : State) : State :=
  (groupsIn s).foldl (fun st p => modGroup st p.1 fun y => { y with state := 1 }) s

/-- R185: FB1 or FB2 still reads 1 in the first snapshot at least 50 ms after the energising frame. -/
def pullInFails (s : State) (g : Nat) : Bool :=
  let y := groupSt s g
  y.state == 2 && y.onAt.any (fun t =>
    t + ms 50 ≤ s.cyc.snap.at_ && s.cyc.lastS < t + ms 50) && y.feedback != 0

/-- R186, 02h: the current has stayed above IMAX for ISTALL. -/
def obstructed (s : State) (g : Nat) (r : GroupRec) : Bool := cyclesOfMs s r.istall ≤ (groupSt s g).overRun

/-- R186, 04h: too slow, STARTD after the first energising frame. -/
def tooSlow (s : State) (g : Nat) (r : GroupRec) : Bool :=
  let y := groupSt s g
  r.frunmin != 0 && y.onAt.any (fun t => t + ms r.startd ≤ s.cyc.snap.at_) && y.rate < milli r.frunmin

/-! ### Answers of POINT MOVE and POINT STOP (R173, R174) -/

/-- The waiting POINT MOVE commands of an element. -/
def waitingMoves (s : State) (e : Nat) : List Command := (pendingOf s 0x10 e).filter fun c => !c.run

/-- One throw failed (2300:04). DESIGN CHOICE (log 152): every POINT MOVE answered 18h counts one, a joined or never started one too, and
so does every route that fails. -/
def countFailed (s : State) : State := { s with points := { s.points with failed := s.points.failed + 1 } }

/-- The answer of a POINT MOVE whose throw has ended. -/
def moveCode (s : State) (e : Nat) (c : Command) : U8 :=
  if detectedIn s e c.param.toNat then 1 else if c.lost then 0x11 else 0x18

/-- Answer the POINT MOVE commands of the throw that has ended. -/
def answerMoves (s : State) (e : Nat) : State :=
  ((pendingOf s 0x10 e).filter fun c => c.run).foldl (fun st c =>
    let code := moveCode st e c
    let st1 := answer st c code none32 true
    if code = 0x18 then countFailed st1 else st1) s

/-- Answer the waiting POINT MOVE commands, finally; nothing waits any more. -/
def dropWaiting (s : State) (e : Nat) (code : U8) : State :=
  let s1 := (waitingMoves s e).foldl (fun st c =>
    let st1 := answer st c code none32 true
    if code = 0x18 then countFailed st1 else st1) s
  modElem s1 e fun y => { y with waiting := 0 }

/-- A safe stop has ended in Idle or Stopped, or in Locked out: its commands are answered (R173, R174). -/
def endStop (s : State) (e : Nat) (locked : Bool) : State :=
  let s1 := modElem s e fun y => { y with stopping := false, stopReason := 0 }
  let s2 := answerMoves s1 e
  let s3 := answerAll s2 0x13 e (if locked then 0x18 else 1)
  if locked then dropWaiting s3 e 0x18 else s3

/-! ### Group state changes (R184 to R189) -/

/-- The group is Locked out: source 72 to 75, and its element is in no state (R169). -/
def lockOut (s : State) (g : Nat) (e : Nat) (reason : U8) : State :=
  let s1 := modGroup s g fun y => { y with
    state := 6, reason := reason, lock := true, lockTime := s.now, sense := 0, envelope := none, resetAt := none }
  let s2 := modElem s1 e fun y => { y with
    detected := 0xFF, since := if y.detected = 0xFF then y.since else s.now, throwing := 0, throwTimer := 0 }
  endStop (raise s2 (72 + g) (u32 g) (u32 reason.toNat) (u32 e)) e true

/-- torque_off of R187: K1 and K2 off at this vote, Confirming. -/
def torqueOff (s : State) (g : Nat) (lock : Bool) (reason : U8) : State :=
  modGroup s g fun y => { y with
    state := 5, lock := lock, reason := reason, offAt := none, envelope := none }

/-- The limit of the envelope in cycle j (R187). -/
def envelopeLimit (s : State) (r : GroupRec) (y : GroupSt) : Nat :=
  max r.fstop (y.f0 * (r.dect - y.j * s.cyc.c) / milli r.dect) + r.fmarg

/-- One Stopping cycle (R187); the window's expiry is a step of its own. -/
def stopCycle (s : State) (g : Nat) (r : GroupRec) : State :=
  let y := groupSt s g
  let lim := envelopeLimit s r y
  let s1 := modGroup s g fun z => { z with envelope := some lim }
  if milli lim < y.rate then torqueOff s1 g true 0x10
  else if y.rate ≤ milli r.fstop ∧ y.prevRate ≤ milli r.fstop then torqueOff s1 g y.lock y.reason
  else s1

/-- A safe stop starts (R186, R174, R179): the throw's supervision ends; the group enters Stopping, or CMD 3 is sent. -/
def startStop (s : State) (e : Nat) (x : Element) (reason : U8) : State :=
  let s1 := modElem s e fun y => { y with
    throwing := 0, throwTimer := 0, stopping := true, stopReason := reason, stopAt := s.now, cmdStop := x.remote }
  let lost := if reason = 5 then (pendingOf s1 0x10 e).filter fun c => c.run else []
  let s2 := lost.foldl (fun st c => modCmd st c fun d => { d with lost := true }) s1
  let s3 := countUp { s2 with points := { s2.points with stops := s2.points.stops + 1 } } 10 1
  match driveOf s x with
  | some (g, _) => modGroup s3 g fun y => { y with
      state := 4, reason := reason, lock := decide (1 ≤ reason.toNat ∧ reason.toNat ≤ 4), f0 := y.rate, j := 0,
      envelope := none }
  | none => s3

/-! ### Throws (R170 to R172) -/

/-- The number of a movement: 0 Hold, 1 Normal or On, 2 Reverse or Off. -/
def moveNo : Move → Nat
  | .hold => 0
  | .normal => 1
  | .rev => 2

/-- The movement towards a state. -/
def moveOf : Nat → Move
  | 1 => .normal
  | 2 => .rev
  | _ => .hold

/-- A throw starts: supervision, counts, and the commands that wait for it (R170, R171, R173). -/
def beginThrow (s : State) (e : Nat) (x : Element) (dir : Nat) : State :=
  let s1 := modElem s e fun y => { y with
    throwing := dir, throwTimer := cyclesOfSec s (throwSeconds x), throwAt := s.now, cmdStop := false,
    waiting := if y.waiting = dir then 0 else y.waiting }
  let mine := (waitingMoves s1 e).filter fun c => c.param.toNat == dir
  let s2 := mine.foldl (fun st c => modCmd st c fun d => { d with run := true }) s1
  let s3 := countUp { s2 with points := { s2.points with throws := s2.points.throws + 1 } } 9 1
  match driveOf s x with
  | some (g, _) => modGroup s3 g fun y => { y with
      state := 2, sense := dir, onAt := none, overRun := 0, throws := y.throws + 1 }
  | none => s3

/-- R170: everything else that a throw needs to start. A local element without a drive group has none that is Idle. -/
def canStart (s : State) (e : Nat) (x : Element) (dir : Nat) : Bool :=
  !detectedIn s e dir && movable s e x && movementPermitted s
    && (x.remote || (driveOf s x).any fun p => (groupSt s p.1).state == 1)

/-- CLOSE of a Level crossing, 30 s of a Generic element (R86). -/
def provingLimit (s : State) (x : Element) : Option Nat :=
  match x.kind with
  | 4 => some (cyclesOfSec s (bits x.kp0.toNat 7 0))
  | 8 => some (cyclesOfSec s 30)
  | _ => none

/-- A Level crossing or Generic entry with MOVE = 1 has not proved in its time since Claimed (R86). -/
def provingLate (s : State) (y : Slot) (z : ListEntry) : Bool :=
  z.move && !entryProven s z && ((elem? s z.elem).bind (provingLimit s)).any fun n => n ≤ y.claimedFor

/-- A throw's supervision has expired at this vote (R171): the element is not detected, and no pull-in check fails (R186). -/
def supervisionExpired (s : State) (e : Nat) (x : Element) : Bool :=
  let y := elemSt s e
  y.throwing != 0 && y.throwTimer == 0 && !detectedIn s e y.throwing && !(driveOf s x).any (fun p => pullInFails s p.1)

/-- A route may still take the Proving trigger of Table 03-3 at this vote: in Proving, unmoved, and not held by a closed session. -/
def provingOpen (s : State) (y : Slot) : Bool :=
  match y.route with
  | none => false
  | some r => slotState s y == 3 && !movedNow s r && (route? s r).any fun x => !frozenContinuation s x

/-- The route in a slot leaves Proving at this vote by a step of its own (PROVING_TIMEOUT, THROW_SUPERVISION_EXPIRY). -/
def leavesProving (s : State) (y : Slot) : Bool :=
  provingOpen s y && (y.route.bind (route? s)).any fun x => x.list.any fun z =>
    provingLate s y z || (z.move && (elem? s z.elem).any (supervisionExpired s z.elem))

/-- What the lanes propose for a movable element (R85): the claims of routes that are Claimed or Proving after this vote, else the
POINT MOVE that waits; Hold for every other claimed element. -/
def moveProposal (s : State) (e : Nat) : Move :=
  let need := (holders s e).find? fun h =>
    (slotState s h.2.1 == 2 || (slotState s h.2.1 == 3 && !leavesProving s h.2.1)) && h.2.2.move && !detectedIn s e h.2.2.req
  match need with
  | some h => moveOf h.2.2.req
  | none => if claimed s e then .hold else moveOf (elemSt s e).waiting

/-- The first stop trigger of Table 06-6 that holds for a running throw; 01h and 02h are steps of their own. -/
def stopTrigger (s : State) (e : Nat) (x : Element) (dir : Nat) : U8 :=
  let y := elemSt s e
  let slow := fun (p : Nat × GroupRec) =>
    if milli p.2.fmax < (groupSt s p.1).rate then 3 else if tooSlow s p.1 p.2 then 4 else 0
  let local_ : U8 := ((driveOf s x).map slow).getD 0
  if y.throwTimer = 0 then 1
  else if (driveOf s x).any fun p => obstructed s p.1 p.2 then 2
  else if local_ ≠ 0 then local_
  else if dir ≠ 0 ∧ dir ≠ y.throwing then 5
  else if y.stopReason = 6 then 6
  else if movementPermitted s = false then 7
  else 0

/-- A claim that needs the other state overtakes a waiting POINT MOVE (R173). -/
def overtakeWaiting (s : State) (e : Nat) : State :=
  let y := elemSt s e
  let other := (holders s e).any fun h => h.2.2.req != 0 && h.2.2.req != y.waiting
  if y.waiting ≠ 0 ∧ other then dropWaiting s e 0x11 else s

/-- One vote of a movable element, with its voted movement. A throw that ends by detection, a failed pull-in check and the
triggers 01h and 02h are steps of their own. -/
def voteElement (s : State) (e : Nat) (x : Element) (m : Move) : State :=
  let s1 := overtakeWaiting (modElem s e fun y => { y with moveVoted := m }) e
  let y := elemSt s1 e
  let dir := moveNo m
  if y.throwing ≠ 0 then
    if detectedIn s1 e y.throwing ∨ (driveOf s1 x).any (fun p => pullInFails s1 p.1) then s1
    else
      let why := stopTrigger s1 e x dir
      if 3 ≤ why.toNat then startStop s1 e x why else s1
  else if dir ≠ 0 ∧ y.stopping = false ∧ canStart s1 e x dir then beginThrow s1 e x dir
  else s1

/-- The supervision timers (R171) and the votes since a section reset was taken. -/
def tickElem (y : ElemSt) : ElemSt :=
  { y with throwTimer := y.throwTimer - 1, resetVotes := if y.resetting then y.resetVotes + 1 else y.resetVotes }

/-- The timers of every element at a vote. -/
def tickThrows (s : State) : State :=
  { s with points := { s.points with elems := tmap {} (fun _ y => tickElem y) s.points.elems } }

/-! ### Remote safe stops (R179) and signals (R176) -/

/-- A remote stop ends Locked out: source 76, and no state until STATUS 0. -/
def remoteLocked (s : State) (e : Nat) (x : Element) (why : U32) : State :=
  let s1 := modElem s e fun y => { y with
    lockedOut := true, detected := 0xFF, since := if y.detected = 0xFF then y.since else s.now }
  endStop (raise s1 76 (u32 e) why (u32 (x.bind1.partner.getD 0x3FF))) e true

/-- The reports of a remote movable element at a vote; Stopped or Locked out ends CMD 3 (R177). -/
def voteReport (s : State) (e : Nat) (x : Element) : State :=
  let y := elemSt s e
  match y.report with
  | none => s
  | some w =>
    let s1 := if repStatus w = 3 ∨ repStatus w = 4 then modElem s e fun z => { z with cmdStop := false } else s
    if y.lockedOut then
      if repStatus w = 0 ∧ y.stopping = false then detectElem (modElem s1 e fun z => { z with lockedOut := false }) e x else s1
    else if y.stopping ∧ repStatus w = 3 then endStop s1 e false
    else if y.stopping ∧ repStatus w = 4 then remoteLocked s1 e x 4
    else s1

/-- The command that a report in this cycle is judged against (R176): the newest built 1 + 2P cycles ago or more. -/
def commandInForce (s : State) (y : ElemSt) (period : Nat) : Option U8 :=
  ((y.history.filter fun h => 1 + 2 * period ≤ cyclesSince h.1 s.cyc.number).getLast?).map fun h => h.2

/-- A signal shows above its command, or no longer does (R176): it is detected anew at this vote, in no state while it does. -/
def markAbove (s : State) (e : Nat) (x : Element) (on : Bool) : State :=
  detectElem (modElem s e fun y => { y with above := on }) e x

/-- A signal's report judged against the command in force (R176), in a cycle whose snapshot brings one. -/
def judgeSignal (s : State) (e : Nat) (x : Element) : State :=
  match (x.bind1.partner.bind (slotOfPartner s)), (elemSt s e).report with
  | some k, some w =>
    if (s.cyc.snap.mail.any fun m => m.slot == k) = false then s else
    match commandInForce s (elemSt s e) (sess s k).period with
    | none => s
    | some d =>
      let want := (elemClassOf s x d).getD 0
      match elemClassOf s x (repShown w) with
      | some c =>
        if c < want then
          let s1 := markAbove s e x false
          { s1 with points := { s1.points with fallbacks := s1.points.fallbacks + 1 } }
        else if c = want then markAbove s e x false
        else raise (markAbove s e x true) 77 (u32 e) (u32 d.toNat) (u32 (repShown w).toNat)
      | none => raise (markAbove s e x true) 77 (u32 e) (u32 d.toNat) (u32 (repShown w).toNat)
  | _, _ => s

/-- The reports of every remote element at a vote. -/
def voteReports (s : State) : State :=
  (elements s).foldl (fun st o =>
    if o.2.remote = false then st
    else if isMovable o.2.kind then voteReport st o.1 o.2
    else if o.2.kind = 3 then judgeSignal st o.1 o.2
    else st) s

/-! ### Reset of a drive group (R190) -/

/-- The condition that fails, as 2301 + g:0E codes it, or 0. -/
def resetRefusal (s : State) (g : Nat) (r : GroupRec) : U8 :=
  if feedbackOf s g ≠ 3 then 1
  else if r.izero ≤ motorCurrent s g then 2
  else if milli r.fstop < encoderRate s g then 3
  else if s.cyc.snap.flost then 4
  else 0

/-- A requested reset at the vote of the first cycle whose snapshot is later than the write. -/
def voteReset (s : State) (g : Nat) (r : GroupRec) : State :=
  let y := groupSt s g
  if y.state = 6 ∧ y.resetAt.any (fun t => t < s.cyc.snap.at_) then
    let why := resetRefusal s g r
    if why = 0 then
      let s1 := modGroup s g fun z => { z with state := 1, lock := false, resetAt := none, refusal := 0 }
      match elem? s r.elem with
      | some x => detectElem s1 r.elem x
      | none => s1
    else modGroup s g fun z => { z with resetAt := none, refusal := why }
  else s

/-! ### Serving element commands (R133, R174) -/

/-- Table 12-2: an element command is permitted; no POINT MOVE while an update is activated (R423). -/
def elementPermitted (s : State) (op : Nat) (param : U32) : Bool :=
  if op = 0x10 ∧ s.update.state = 6 then false else
  match s.modes.mode with
  | .watch => op == 0x13 || ((op == 0x11 || op == 0x20) && param == 1)
  | .stop | .run | .degraded | .testTrack => inControl s
  | .hold => inControl s && op != 0x10
  | _ => false

/-- The command names an element of its kind (Table 04-12). -/
def elementTarget (s : State) (op target : Nat) : Option Element :=
  (elem? s target).filter fun x => match op with
    | 0x10 | 0x11 | 0x13 => isMovable x.kind
    | 0x12 => x.kind == 0 && axle x
    | _ => x.kind == 3

/-- A POINT MOVE, past the checks every element command shares. -/
def servePointMove (s : State) (c : Command) (x : Element) : State :=
  let e := c.target
  let y := elemSt s e
  let dir := c.param.toNat
  if claimed s e then answer s c 0x10 none32 true
  else if detectedIn s e dir then answer s c 1 none32 true
  else if movable s e x = false then answer s c 0x11 none32 true
  else
    let s1 := answer s c 0 none32 false
    if y.throwing = dir ∧ y.stopping = false then
      let s2 := if y.waiting ≠ 0 then
          modElem ((waitingMoves s e).foldl (fun st d => answer st d 0x11 none32 true) s1) e fun z => { z with waiting := 0 }
        else s1
      modCmd s2 c fun d => { d with run := true }
    else if y.waiting = dir then s1
    else
      let s2 := (waitingMoves s e).foldl (fun st d => answer st d 0x11 none32 true) s1
      modElem s2 e fun z => { z with waiting := dir }

/-- A POINT STOP (R174). DESIGN CHOICE (log 153): a waiting throw is a POINT MOVE that waits; the movement that only a route asks for is
none, and the answer is 11h. -/
def servePointStop (s : State) (c : Command) : State :=
  let e := c.target
  let y := elemSt s e
  let running := y.throwing != 0 && !detectedIn s e y.throwing
  if running = false ∧ y.waiting = 0 then answer s c 0x11 none32 true
  else
    let s1 := answer s c 0 none32 false
    let s2 := if y.waiting ≠ 0 then dropWaiting s1 e 0x11 else s1
    if running then modElem s2 e fun z => { z with stopReason := 6 }
    else answer s2 c 1 none32 true

/-- A block or its end (R133). -/
def serveBlock (s : State) (c : Command) : State :=
  let want := c.param == 1
  if (elemSt s c.target).blocked = want then answer s c 0x11 none32 true
  else answer (modElem s c.target fun y => { y with blocked := want }) c 1 none32 true

/-- A SECTION RESET (R133): the latch is cleared, and clear cycles count from this one. -/
def serveSectionReset (s : State) (c : Command) (x : Element) : State :=
  let e := c.target
  let held := (holders s e).any fun h => 4 ≤ slotState s h.2.1
  if (elemSt s e).resetting ∨ readsClear s e ∨ held then answer s c 0x11 none32 true
  else
    let run := if rawReading s e x = some 1 then 1 else 0
    answer (modElem s e fun y => { y with latched := false, clearRun := run, resetting := true, resetVotes := 0 }) c 0
      none32 false

/-- An element command served: kind, mode, authorisation, then the command's own rules. -/
def serveElement (s : State) (c : Command) : State :=
  let op := c.opcode.toNat
  match elementTarget s op c.target with
  | none => answer s c 0x14 none32 true
  | some x =>
    if elementPermitted s op c.param = false then answer s c 0x15 none32 true
    else if (op = 0x12 ∨ ((op = 0x11 ∨ op = 0x20) ∧ c.param = 0)) ∧ c.auth = false then answer s c 0x17 none32 true
    else match op with
      | 0x10 => servePointMove s c x
      | 0x13 => servePointStop s c
      | 0x12 => serveSectionReset s c x
      | _ => serveBlock s c

/-- The section resets in progress at a vote: clear ends them with 01h, an occupied reading or no state with 11h. -/
def voteSectionReset (s : State) (e : Nat) (x : Element) : State :=
  let y := elemSt s e
  if y.resetting = false then s
  else if rawReading s e x ≠ some 1 then
    answerAll (modElem s e fun z => { z with resetting := false, latched := true }) 0x12 e 0x11
  else if clrf x ≤ y.clearRun then
    let s1 := modElem s e fun z => { z with
      resetting := false, detected := 1, since := if z.detected = 1 then z.since else s.now }
    answerAll s1 0x12 e 1
  else s

/-! ### Command items (R175, R177) -/

/-- The first code of class 0 of a signal's profile. -/
def stopCode (s : State) (x : Element) : U8 :=
  (((profile? s x.profile).bind fun p => (p.aspect.getD 0 []).head?)).getD 0

/-- CMD of an element (Table 06-1). -/
def cmdOf (s : State) (e : Nat) (x : Element) : Nat :=
  let y := elemSt s e
  match x.kind with
  | 0 => if y.resetting then 1 else 0
  | 1 | 2 | 5 => if y.throwing ≠ 0 then y.throwing else if y.cmdStop then 3 else 0
  | 4 | 8 =>
    match (holders s e).find? fun h => h.2.2.move && 2 ≤ slotState s h.2.1 with
    | some h => h.2.2.req
    | none => 0
  | 7 => if (exclHolder s e).isSome ∧ neighbourBoundary s x = false then 1 else 0
  | _ => 0

/-- The detail that a signal is commanded to show: the voted one, or Stop while it is in no state (R17, R175). -/
def commandedDetail (s : State) (e : Nat) (x : Element) : U8 :=
  if inNoState s e then stopCode s x else (elemSt s e).detail

/-- The 16-bit command item of an element. -/
def commandItem (s : State) (e : Nat) (x : Element) : Nat :=
  if x.kind = 3 then
    let d := commandedDetail s e x
    d.toNat * 256 + ((elemClassOf s x d).getD 0) * 64
  else cmdOf s e x

/-! ### The steps of their own -/

/-- A step about an element that the station data holds. -/
def onElement (s : State) (e : Nat) (f : Element → State) : State :=
  match elem? s e with
  | some x => f x
  | none => s

/-- PULL_IN_CHECK (R185): Confirming with reason 08h and the lock held; no torque-assisted stop. -/
def execPullInCheck (t : Time) (g : Fin 4) (s : State) : Host.Outcome State Fault Refusal :=
  afterVote t s fun s =>
    match group? s g.val with
    | none => s
    | some r =>
      if pullInFails s g.val then
        torqueOff (modElem s r.elem fun y => { y with
          throwing := 0, throwTimer := 0, stopping := true, stopReason := 8, stopAt := s.now }) g.val true 8
      else s

/-- R188: confirmation passes. -/
def confirmed (s : State) (g : Nat) (r : GroupRec) : Bool := feedbackOf s g == 3 && motorCurrent s g < r.izero

/-- The first snapshot at least 50 ms after torque off has come. -/
def confirmDue (s : State) (y : GroupSt) : Bool :=
  (y.state == 3 || y.state == 5) && y.offAt.any fun t => t + ms 50 ≤ s.cyc.snap.at_

/-- TORQUE_OFF_CONFIRMATION (R188): Idle, or Locked out with the held reason or 12h. -/
def execTorqueOffConfirmation (t : Time) (g : Fin 4) (s : State) : Host.Outcome State Fault Refusal :=
  afterVote t s fun s =>
    match group? s g.val with
    | none => s
    | some r =>
      let y := groupSt s g.val
      if confirmDue s y = false then s
      else if confirmed s g.val r = false then lockOut s g.val r.elem 0x12
      else if y.state = 5 ∧ y.lock then lockOut s g.val r.elem y.reason
      else
        let s1 := modGroup s g.val fun z => { z with state := 1, sense := 0 }
        if y.state = 5 then endStop s1 r.elem false else s1

/-- THROW_SUPERVISION_EXPIRY (R171): a safe stop with reason 01h, and proving fails for every route
that moves the element (R75, R83). -/
def execThrowSupervisionExpiry (t : Time) (e : Nat) (s : State) : Host.Outcome State Fault Refusal :=
  atVote t s fun s => onElement s e fun x =>
    if supervisionExpired s e x = false then s
    else
      let proving := (holders s e).filter fun h => h.2.2.move && provingOpen s h.2.1
      proving.foldl (fun st h => failProving st (h.2.1.route.getD 0) h.1 e) (startStop s e x 1)

/-- THROW_COMPLETE (R170, R173): the throw ends by detection; the group goes to Ending. -/
def execThrowComplete (t : Time) (e : Nat) (s : State) : Host.Outcome State Fault Refusal :=
  afterVote t s fun s => onElement s e fun x =>
    let y := elemSt s e
    if y.throwing = 0 ∨ detectedIn s e y.throwing = false then s
    else
      let s1 := answerMoves s e
      let s2 := modElem s1 e fun z => { z with throwing := 0, throwTimer := 0, stopReason := 0 }
      match driveOf s x with
      | some (g, _) => modGroup s2 g fun z => { z with
          state := 3, offAt := none, lastThrow := (s.now - y.throwAt) / 1000000 }
      | none => s2

/-- OBSTRUCTION_CURRENT_EXPIRY (R186): reason 02h, unless the pull-in check fails or supervision has expired at this vote. -/
def execObstructionCurrentExpiry (t : Time) (g : Fin 4) (s : State) : Host.Outcome State Fault Refusal :=
  afterVote t s fun s =>
    match group? s g.val with
    | none => s
    | some r => onElement s r.elem fun x =>
      let y := elemSt s r.elem
      if (groupSt s g.val).state = 2 ∧ obstructed s g.val r ∧ pullInFails s g.val = false ∧ y.throwTimer ≠ 0
          ∧ detectedIn s r.elem y.throwing = false then startStop s r.elem x 2
      else s

/-- SAFE_STOP_WINDOW_EXPIRY (R187): torque is removed with the lock held, reason 11h. -/
def execSafeStopWindowExpiry (t : Time) (g : Fin 4) (s : State) : Host.Outcome State Fault Refusal :=
  afterVote t s fun s =>
    match group? s g.val with
    | none => s
    | some r =>
      let y := groupSt s g.val
      if y.state = 4 ∧ cyclesOfMs s r.sstw ≤ y.j then torqueOff s g.val true 0x11 else s

/-- Down frames command all outputs off, or the field-lost latch has set (R189). -/
def torqueLost (s : State) : Bool := !outputsVoted s || s.cyc.snap.flost

/-- R189 for one group: Running, Ending, Stopping or Confirming is Locked out with reason 13h. -/
def torqueOffNow (s : State) (g : Nat) (r : GroupRec) : State :=
  let y := groupSt s g
  if 2 ≤ y.state ∧ y.state ≤ 5 then lockOut s g r.elem 0x13 else s

/-- IMMEDIATE_TORQUE_OFF (R189): a group changes its state only at a vote (R184), or with the entry into Safe State, which has none. -/
def execImmediateTorqueOff (t : Time) (s : State) : Host.Outcome State Fault Refusal :=
  at_ t s fun s =>
    if torqueLost s ∧ (s.cyc.voted ∨ s.cyc.running = false) then (groupsIn s).foldl (fun st p => torqueOffNow st p.1 p.2) s else s

/-- REMOTE_SAFE_STOP_TIMEOUT (R179): neither STATUS 3 nor 4 within 6,000 ms. -/
def execRemoteSafeStopTimeout (t : Time) (e : Nat) (s : State) : Host.Outcome State Fault Refusal :=
  at_ t s fun s => onElement s e fun x =>
    let y := elemSt s e
    if x.remote ∧ y.stopping ∧ y.stopAt + ms 6000 ≤ s.now then remoteLocked s e x 0xFF else s

/-- SECTION_RESET_TIMEOUT (R133): not clear 30 s after the vote that took the command. DESIGN CHOICE (log 99): the latch is set again here
too, as on the occupied reading for which the rule says so. -/
def execSectionResetTimeout (t : Time) (e : Nat) (s : State) : Host.Outcome State Fault Refusal :=
  afterVote t s fun s =>
    let y := elemSt s e
    if y.resetting ∧ cyclesOfMs s 30000 ≤ y.resetVotes then
      answerAll (modElem s e fun z => { z with resetting := false, latched := true }) 0x12 e 0x11
    else s

/-- A write of 2311 + g:01 (R190). -/
def writeGroupReset (s : State) (g : Nat) (value : U8) : Write :=
  refuseUnless (value == 1) 0x0230 <|
  refuseUnless ((groupSt s g).state == 6) 0x0450 <|
  .ok (modGroup s g fun y => { y with resetAt := some s.now })

/-- DRIVE_GROUP_RESET (R190, 2311 + g:01). -/
def execDriveGroupReset (t : Time) (ch : Fin 8) (g : Fin 4) (value : U8) (s : State) : Host.Outcome State Fault Refusal :=
  writeAt t s ch.val fun s => needAuth s ch.val fun s => writeGroupReset s g.val value

/-! ### Commons steps of their own -/

/-- A step about a route that holds a slot. -/
def onRoute (s : State) (r : Nat) (f : Nat → Route → State) : State :=
  match route? s r, slotOfRoute s r with
  | some x, some k => f k x
  | _, _ => s

/-- APPROACH_TIMER_EXPIRY (R83): Releasing without train when a cancel is pending, Locked otherwise. -/
def execApproachTimerExpiry (t : Time) (r : Nat) (s : State) : Host.Outcome State Fault Refusal :=
  atVote t s fun s => onRoute s r fun k _ =>
    let y := slotSt s k
    if (routeSt s r).state = 6 ∧ y.apprTimer = 0 ∧ movedNow s r = false then
      if y.cancelPend then cancelNow s r k
      else setRouteState (modSlot s k fun z => { z with approach := false }) r 4
    else s

/-- OVERLAP_TIMER_EXPIRY (R91): the overlap releases when every OVERLAP section reads clear. -/
def execOverlapTimerExpiry (t : Time) (r : Nat) (s : State) : Host.Outcome State Fault Refusal :=
  atVote t s fun s => onRoute s r fun k x =>
    if overlapDue s x (slotSt s k) ∧ frozenContinuation s x = false then idleWhenEmpty (dropOverlap s r k x) r k else s

/-- EMERGENCY_TIMER_EXPIRY (R94): every claim is released, occupied sections included; a boundary whose session is closed
stays owed. Source 62 with the number of claims released. -/
def execEmergencyTimerExpiry (t : Time) (r : Nat) (s : State) : Host.Outcome State Fault Refusal :=
  atVote t s fun s => onRoute s r fun k x =>
    let y := slotSt s k
    if emergencyDue y then
      let by_ := ((pendingOf s 3 r).find? fun c => c.param == 2).map fun c => c.opid
      let s1 := modSlot s k fun z => { z with emergency := false, noTrain := true, approach := false, apprTimer := 0 }
      let s2 := releaseAll { s1 with commons := { s1.commons with emergency := s1.commons.emergency + 1 } } r k x
      let left := (slotSt s2 k).held.length
      let s3 := if left ≠ 0 ∧ (routeSt s2 r).state ≠ 7 then setRouteState s2 r 7 else s2
      raise s3 62 (u32 r) (by_.getD y.armBy) (u32 (y.held.length - left))
    else s

/-- EMERGENCY_ARM_LAPSE (R94): event 3040h; the arm's command ends without a final result (R138). -/
def execEmergencyArmLapse (t : Time) (r : Nat) (s : State) : Host.Outcome State Fault Refusal :=
  afterVote t s fun s => onRoute s r fun k _ =>
    let y := slotSt s k
    if y.armed ∧ 60000 / s.cyc.c + 1 ≤ y.armVotes then
      let arms := (pendingOf s 3 r).filter fun c => c.param == 1
      let s1 := arms.foldl endSilently (modSlot s k fun z => { z with armed := false })
      bookEvent s1 0x3040 (u32 r) y.armBy y.armCycle
    else s

/-- CROSS_ZONE_TIMEOUT (R97, R101): no grant by the snapshot of the third cycle after the send cycle: 13h, source 60, and a
CANCEL to a neighbour Kutia. -/
def execCrossZoneTimeout (t : Time) (r : Nat) (s : State) : Host.Outcome State Fault Refusal :=
  atVote t s fun s => onRoute s r fun k x =>
    let y := slotSt s k
    if (routeSt s r).state = 1 ∧ 4 ≤ cyclesSince y.reqCycle s.cyc.number ∧ movedNow s r = false then
      let s1 := answerSet s r y 0x13 none32 true
      noteAbandoned (abandonRequest s1 r k x true) r y.token 0
    else s

/-- The lowest group that is not released. DESIGN CHOICE (log 150): 63 when every group counts as released and only an owed Boundary
element is held (R100). -/
def lowestGroup (x : Route) (y : Slot) : Nat :=
  (((List.range 64).filter fun g => (groupElems x g != [] || (g == 63 && overlapElems x != [])) && !y.released.getLsbD g).head?).getD 63

/-- RELEASE_STALL (R93): no claim released for 600 s. -/
def execReleaseStall (t : Time) (r : Nat) (s : State) : Host.Outcome State Fault Refusal :=
  at_ t s fun s => onRoute s r fun k x =>
    let y := slotSt s k
    if (routeSt s r).state = 7 ∧ cyclesOfSec s 600 ≤ y.relCycles then
      raise s 63 (u32 r) (u32 (lowestGroup x y)) (u32 ((s.now - (routeSt s r).changed) / sec 1))
    else s

/-- PROVING_TIMEOUT (R86): a Level crossing or Generic entry with MOVE = 1 has not proved in its time since Claimed. -/
def execProvingTimeout (t : Time) (r : Nat) (e : Nat) (s : State) : Host.Outcome State Fault Refusal :=
  atVote t s fun s => onRoute s r fun k x =>
    if provingOpen s (slotSt s k) ∧ (x.list.any fun y => y.elem == e && provingLate s (slotSt s k) y) then failProving s r k e else s

end Sys2Proof.Machine
end

