-- ==== Sys2Proof/Machine/Program.lean ====
section
/-!
DEFINITION. Machine/Program.lean: the rule program's variables: initial values (R123), timers, edge detectors and counters (R125 to
R127), forces (R160 to R163), and the carry-over of an on-line change (R150 to R153). The instruction encoding is not given
(R118): what the program writes and calls in a cycle enters with SNAPSHOT_COMPLETE.
-/

namespace Sys2Proof.Machine

/-! ### Variables -/

/-- A Mill's variant of a pair. -/
def variantOf (p : ProgPair) : Lane → Variant
  | .b => p.vb
  | _ => p.va

/-- The stored bytes of a variable's initial value in true form: variant B holds vital words complemented (R45). -/
def initBytes (v : Variant) (m : MapEntry) : List Byte :=
  let raw := (v.init.drop m.offset).take m.width
  if v.variant = 1 ∧ m.cls ≠ 0 then raw.map fun x => ~~~ x else raw

/-- An edge detector before its first execution (R123). -/
def idleEdge : Edge := ⟨false, false, false⟩

/-- A variable's initial value (R123). -/
def initCell (v : Variant) (m : MapEntry) : Cell :=
  let bytes := initBytes v m
  if m.typ ≤ 6 then .scalar (u64 (leNat bytes))
  else if m.typ ≤ 9 then
    let preset := leNat (bytes.take 4)
    .timer ⟨preset, if m.typ = 8 then preset else 0, false, false, false, 0⟩
  else if m.typ ≤ 11 then .edge idleEdge
  else .counter ⟨(BitVec.ofNat 32 (leNat (bytes.take 4))).toInt, idleEdge, idleEdge⟩

/-- The value of a variable. -/
def cellAt (t : Table Cell) (n : Nat) : Cell := tget (.scalar 0) t n
/-- Store a variable. -/
def setCell (t : Table Cell) (n : Nat) (c : Cell) : Table Cell := tput (.scalar 0) t n c

/-- Every variable of a variant at its initial value. -/
def initVars (v : Variant) : Table Cell := v.map.foldl (fun t m => setCell t m.varnum (initCell v m)) []

/-- The map entry of a VARNUM. -/
def mapEntry (v : Variant) (n : Nat) : Option MapEntry := v.map.find? fun m => m.varnum == n

/-! ### Stored forms -/

/-- The stored form of a variable (Tables 04-6 and 04-8, R127), in true form. -/
def edgeWord (x : Edge) : Nat := bitmap [x.prev, x.q, x.init]

/-- A timer instance in its 16 bytes (Table 04-8). -/
def timerBytes (x : Timer) : List Byte :=
  leBytes 4 x.preset ++ leBytes 4 x.elapsed ++ leBytes 4 (bitmap [x.pin, x.q, x.run]) ++ leBytes 4 x.execn.toNat

/-- A variable's bytes. The layout of a counter's 8 bytes is not given: the count, then its two edge detectors. -/
def cellBytes (width : Nat) : Cell → List Byte
  | .scalar v => leBytes width v.toNat
  | .timer x => timerBytes x
  | .edge x => leBytes 4 (edgeWord x)
  | .counter x => leBytes 4 (i32 x.count).toNat ++ leBytes 2 (edgeWord x.up) ++ leBytes 2 (edgeWord x.down)

/-! ### Timers, edge detectors, counters -/

/-- PRESET of an execution (R126): a negative PT counts as 0. -/
def presetOf (pt : Int) (c : Nat) : Nat := ceilDiv pt.toNat c

/-- One execution of a TON. -/
def runTon (x : Timer) (preset : Nat) (inp : Bool) : Timer :=
  let e := if inp = false ∨ x.pin = false then 0 else min (x.elapsed + 1) preset
  { x with preset := preset, elapsed := e, q := inp && e == preset, pin := inp }

/-- One execution of a TOF. -/
def runTof (x : Timer) (preset : Nat) (inp : Bool) : Timer :=
  let e := if inp ∨ x.pin then 0 else min (x.elapsed + 1) preset
  { x with preset := preset, elapsed := e, q := inp || e < preset, pin := inp }

/-- One execution of a TP. -/
def runTp (x : Timer) (preset : Nat) (inp : Bool) : Timer :=
  let starts := inp && !x.pin && !x.run
  let e := min (if starts then 0 else if x.run then x.elapsed + 1 else x.elapsed) preset
  let run := (starts || x.run) && e < preset
  { x with preset := preset, elapsed := e, run := run, q := run, pin := inp }

/-- One execution of a timer by its TYPE (Table 04-9). -/
def runTimer (typ : Nat) (x : Timer) (preset : Nat) (inp : Bool) (cycle : U32) : Timer :=
  let y := match typ with
    | 7 => runTon x preset inp
    | 8 => runTof x preset inp
    | _ => runTp x preset inp
  { y with execn := cycle }

/-- One execution of an edge detector (R127): the first gives no edge. -/
def runEdge (rising : Bool) (x : Edge) (clk : Bool) : Edge :=
  if x.init then ⟨clk, if rising then clk && !x.prev else x.prev && !clk, true⟩ else ⟨clk, false, true⟩

/-- ET of a timer in ms (R126). -/
def timerEt (x : Timer) (c : Nat) : Nat := x.elapsed * c

/-- One execution of a counter (R127): it counts rising edges of its count inputs. How R, LD and PV act, the manual does not say:
DESIGN CHOICE (log 95), they do nothing, and what a program does with them enters as a write of the counter's variable. -/
def runCounter (x : Counter) (up down : Bool) : Counter :=
  let u := runEdge true x.up up
  let d := runEdge true x.down down
  ⟨x.count + u.q.toNat - d.q.toNat, u, d⟩

/-- One block call of the program. -/
def runCall (typ : Nat) (x : Cell) (b : BlockCall) (c : Nat) (cycle : U32) : Cell :=
  match x with
  | .timer y => .timer (runTimer typ y (presetOf b.pt c) b.inp cycle)
  | .edge y => .edge (runEdge (typ == 10) y b.inp)
  | .counter y => .counter (runCounter y b.inp b.inp2)
  | .scalar v => .scalar v

/-! ### One cycle of the program (R124, R162) -/

/-- The force on a variable. -/
def forceOf (s : State) (n : Nat) : Option ForceRow := s.change.forces.find? fun f => f.varnum == n

/-- The forced values in place, as every read of the cycle finds them. -/
def withForces (s : State) (t : Table Cell) : Table Cell :=
  s.change.forces.foldl (fun u f => setCell u f.varnum (.scalar f.value)) t

/-- A value cut to a variable's stored width. -/
def cutTo (m : MapEntry) (x : U64) : U64 := u64 (x.toNat % 256 ^ m.width)

/-- The generic variables, CLASS 1, stand for what the lane holds at the end of Intake (R57, R58). -/
def genericVar (m : MapEntry) : Bool := decide (m.typ ≤ 6) && m.cls == 1

/-- What steps 1 and 2 of R124 fill: the input variables (ROLE 1) of a Mill while the program executes, and the generic ones. -/
def filledInLogic (executes : Bool) (ln : Lane) (m : MapEntry) : Bool :=
  genericVar m || (decide (m.typ ≤ 6) && m.role == 1 && executes && ln != .l)

/-- Every variable that `which` picks takes its value from what the lane holds, a forced one its forced value (R162). -/
def fillVars (s : State) (v : Variant) (which : MapEntry → Bool) (held : List Byte) (t : Table Cell) : Table Cell :=
  v.map.foldl (fun u m =>
    if which m then
      setCell u m.varnum (.scalar (((forceOf s m.varnum).map fun f => f.value).getD (cutTo m (Config.filledValue m.symid held))))
    else u) t

/-- The program may write its own variables only (R118): those that neither Intake nor the generic code fills. -/
def writable (m : MapEntry) : Bool := m.cls != 1 && m.role != 1

/-- A Mill's vital data memory while it runs: what the trailing core has retired, and the pending stores of the leading core (R43). -/
structure CoreMemory where
  retired : Table Cell
  stores  : List (Nat × Cell)

/-- The leading core reads its own newest pending store of a variable, else the memory. -/
def CoreMemory.read (x : CoreMemory) (n : Nat) : Cell :=
  ((x.stores.reverse.find? fun w => w.1 == n).map fun w => w.2).getD (cellAt x.retired n)

/-- The leading core stores: the buffer has four entries, and the trailing core retires the oldest into the memory to make room. -/
def CoreMemory.store (x : CoreMemory) (n : Nat) (c : Cell) : CoreMemory :=
  match x.stores with
  | (k, d) :: rest =>
    if 4 ≤ x.stores.length then ⟨setCell x.retired k d, rest ++ [(n, c)]⟩ else ⟨x.retired, x.stores ++ [(n, c)]⟩
  | [] => ⟨x.retired, [(n, c)]⟩

/-- What one cycle of the program leaves: forced variables keep their value, calls advance what they call, and the last stores are still
pending. -/
def programVars (s : State) (v : Variant) (t : Table Cell) (run : ProgramRun) : CoreMemory :=
  let put := fun (u : CoreMemory) (w : Nat × U64) => match mapEntry v w.1 with
    | some m =>
      match forceOf s w.1, u.read w.1 with
      | none, .scalar _ => if writable m then u.store w.1 (.scalar (cutTo m w.2)) else u
      | none, .counter y => if writable m then u.store w.1 (.counter { y with count := (BitVec.ofNat 32 w.2.toNat).toInt }) else u
      | _, _ => u
    | none => u
  let call := fun (u : CoreMemory) (b : BlockCall) => match mapEntry v b.varnum with
    | some m => u.store b.varnum (runCall m.typ (u.read b.varnum) b s.cyc.c s.cyc.number)
    | none => u
  run.calls.foldl call (run.writes.foldl put ⟨withForces s t, []⟩)

/-- The trailing core retires the pending stores, oldest first, into the vital data memory (R43). -/
def retireStores (s : State) (ln : Lane) : State :=
  modLane s ln fun x => { x with vars := x.stores.foldl (fun t w => setCell t w.1 w.2) x.vars, stores := [] }

/-- Program writes to forced variables are discarded and counted (R162); filling an input is no program write. -/
def countDiscarded (s : State) (v : Variant) (run : ProgramRun) : State :=
  let n := fun (f : ForceRow) => (run.writes.filter fun w => w.1 == f.varnum && (mapEntry v w.1).any writable).length
  { s with change := { s.change with
      forces := s.change.forces.map fun f => { f with discarded := f.discarded + u32 (n f) } } }

/-! ### Digests (R57, R58, R128) -/

/-- The variables of one CLASS in map order, as the digest covers them: stored width, little-endian, true form. -/
def classBytes (v : Variant) (cls : Nat) (t : Table Cell) : List Byte :=
  (v.map.filter fun m => m.cls == cls).flatMap fun m => cellBytes m.width (cellAt t m.varnum)

/-- A digest: CRC-64 over the cycle number and the variables of a CLASS. -/
def classDigest (s : State) (v : Variant) (cls : Nat) (t : Table Cell) : U64 :=
  u64 (crc64 (leBytes 4 s.cyc.number.toNat ++ classBytes v cls t))

/-- The VARNUM of the first CLASS 2 variable of the map in which the Mills differ (R61), or FFFFFFFFh. -/
def firstDiffering (v : Variant) (x y : Table Cell) : U32 :=
  ((v.map.find? fun m => m.cls == 2 && cellAt x m.varnum != cellAt y m.varnum).map fun m => u32 m.varnum).getD none32

/-- The Mill whose program state is readable: A, or B while A is not in the vote (R140). -/
def readableMill (s : State) : Lane := if inVote s .a then .a else .b

/-- A lane's verdicts on the telegrams of the snapshot are generic variables (R276); their place among these is not given, and they follow
the mapped ones (log 112). -/
def verdictBytes (x : LaneSt) : List Byte := x.snapVerdicts.map fun v => u8 v.toNat

/-- The end of a lane's Intake: its generic variables are filled, and its digests cover the state as it then stands (R58). The Loom holds
the generic variables only. -/
def intakeVars (s : State) (ln : Lane) (held : List Byte) : State :=
  match s.program.pair with
  | none => modLane s ln fun x => { x with gsum := u64 (crc64 (leBytes 4 s.cyc.number.toNat ++ verdictBytes x)), psum := 0 }
  | some p =>
    let v := variantOf p ln
    modLane s ln fun x =>
      let t := fillVars s v genericVar held (if ln = .l then x.vars else withForces s x.vars)
      let generic := leBytes 4 s.cyc.number.toNat ++ classBytes v 1 t ++ verdictBytes x
      { x with vars := t, gsum := u64 (crc64 generic), psum := if ln = .l then 0 else classDigest s v 2 t }

/-- Steps 1 and 2 of R124 at the start of a lane's Logic. -/
def logicVars (s : State) (ln : Lane) (held : List Byte) : State :=
  match s.program.pair with
  | none => s
  | some p => modLane s ln fun x => { x with
      vars := fillVars s (variantOf p ln) (filledInLogic (programExecuted s) ln) held x.vars }

/-- A Mill runs the program on its own variables; the last stores stay in the buffer until the lane delivers. -/
def runProgram (s : State) (ln : Lane) (run : ProgramRun) : State :=
  match s.program.pair, ln with
  | none, _ | _, .l => s
  | some p, _ =>
    let v := variantOf p ln
    let s1 := modLane s ln fun x =>
      let y := programVars s v x.vars run
      { x with vars := y.retired, stores := y.stores }
    if ln = readableMill s then countDiscarded s1 v run else s1

/-! ### Forces -/

/-- CLASS 2 forces end at the boundary that leaves Test Track, each with event 7041h (R162). -/
def dropVitalForces (s : State) : State :=
  let gone := s.change.forces.filter fun f => f.cls == 2
  let s1 := gone.foldl (fun st f => bookEvent st 0x7041 (u32 (f.symid.toNat % 2 ^ 32)) (u32 (f.symid.toNat / 2 ^ 32))
    (u32 f.varnum)) s
  { s1 with change := { s1.change with
      forces := s1.change.forces.filter fun f => f.cls != 2, dropped := s1.change.dropped + u32 gone.length } }

/-- Put one force in the table, in ascending SYMID. -/
def insertForce (l : List ForceRow) (f : ForceRow) : List ForceRow :=
  (l.filter fun x => x.symid.toNat < f.symid.toNat) ++ [f] ++ (l.filter fun x => f.symid.toNat < x.symid.toNat)

/-- One request of a committed force group. DESIGN CHOICE (log 155): a force set again keeps its count of discarded writes and takes a new
Since. -/
def applyForce (s : State) (q : ForceReq) : State :=
  if q.remove then
    { s with change := { s.change with forces := s.change.forces.filter fun f => f.symid != q.symid } }
  else match (s.program.pair.map fun p => p.va).bind fun v => v.map.find? fun m => m.symid == q.symid with
    | none => s
    | some m =>
      let old := s.change.forces.find? fun f => f.symid == q.symid
      let row : ForceRow := { symid := q.symid, value := q.value, varnum := m.varnum, cls := m.cls, since := s.now,
                              discarded := (old.map fun f => f.discarded).getD 0 }
      { s with change := { s.change with forces := insertForce s.change.forces row } }

/-- A commit of group 31 accepted before S applies all its requests at S (R162). -/
def applyForces (s : State) : State :=
  match s.change.queued with
  | none => s
  | some l => l.foldl applyForce { s with change := { s.change with queued := none } }

/-! ### On-line change (R150 to R155) -/

/-- Where a variable of the new map stands in the old one: same SYMID, TYPE and WIDTH (R150). -/
def carriedFrom (old : Variant) (m : MapEntry) : Option MapEntry :=
  old.map.find? fun x => x.symid == m.symid && x.typ == m.typ && x.width == m.width

/-- The disposition of a variable of the new map (Table 05-4). -/
def disposition (old : Variant) (m : MapEntry) : Nat :=
  if (carriedFrom old m).isSome then 0 else if old.map.any fun x => x.symid == m.symid then 3 else 1

/-- Carried variables and their bytes. -/
def carriedVars (old new : Variant) : List MapEntry := new.map.filter fun m => disposition old m == 0

/-- TCARRY in us (R152). -/
def tcarry (old new : Variant) : Nat :=
  let l := carriedVars old new
  ceilDiv (60 * l.length + 2 * l.foldl (fun n m => n + m.width) 0) 1000

/-- Every variable of the new map in cycle K: carried, or at its initial value (R153). -/
def carryVars (old new : Variant) (t : Table Cell) : Table Cell :=
  new.map.foldl (fun u m => setCell u m.varnum (match carriedFrom old m with
    | some x => cellAt t x.varnum
    | none => initCell new m)) []

/-- Forces re-keyed by SYMID; the others are dropped with event 7040h (R163). -/
def rekeyForces (s : State) (old new : Variant) : State :=
  let place := fun (f : ForceRow) => new.map.find? fun m => m.symid == f.symid && disposition old m == 0
  let gone := s.change.forces.filter fun f => (place f).isNone
  let s1 := gone.foldl (fun st f => bookEvent st 0x7040 (u32 (f.symid.toNat % 2 ^ 32)) (u32 (f.symid.toNat / 2 ^ 32))
    (u32 f.varnum)) s
  { s1 with change := { s1.change with
      forces := s1.change.forces.filterMap fun f => (place f).map fun m => { f with varnum := m.varnum, cls := m.cls }
      dropped := s1.change.dropped + u32 gone.length } }

/-- What the Loom holds of a map: its generic variables. -/
def loomPart (ln : Lane) (v : Variant) : Variant := if ln = .l then { v with map := v.map.filter genericVar } else v

/-- The lanes carry their variables from one pair to another: the Mills all of them, the Loom its generic ones. -/
def switchVars (s : State) (old new : ProgPair) : State :=
  let go := fun (st : State) (ln : Lane) => modLane st ln fun x => { x with
    vars := carryVars (variantOf old ln) (loomPart ln (variantOf new ln)) x.vars }
  let s1 := allLanes.foldl go s
  { s1 with program := { s1.program with shown := (s1.lanes.get (readableMill s1)).vars } }

/-- A PROGID's low 32 bits, as events carry it. -/
def progLow (p : ProgPair) : U32 := u32 (p.va.progid.toNat % 2 ^ 32)

/-- The program digest of cycle K covers the new map after the re-keying (R153). -/
def digestAfterSwitch (s : State) (new : ProgPair) : State :=
  let go := fun (st : State) (ln : Lane) => modLane st ln fun x =>
    let t := withForces s x.vars
    { x with vars := t, psum := classDigest s (variantOf new ln) 2 t }
  go (go s .a) .b

/-- The switch at cycle K (R148, R153): to the prepared pair, or back to the retained one. -/
def switchProgram (s : State) (old new : ProgPair) (micros : Nat) : State :=
  let s1 := digestAfterSwitch (rekeyForces (switchVars s old new) old.va new.va) new
  let roll := s.change.isRoll
  let s2 := { s1 with
    program := { s1.program with pair := some new },
    change := { s1.change with
      stateC := if roll then 0 else 5, prepared := none, retained := if roll then none else some old, isRoll := false,
      switched := true, switchAt := s.cyc.begun, armedAt := none, lastK := s.change.kSwitch, byMirror := false, since := s.now } }
  if roll then bookEvent s2 0x7044 s.change.kSwitch (progLow new) 0
  else bookEvent s2 0x7042 s.change.kSwitch (progLow new) (u32 micros)

/-- The pair that an Armed change or rollback switches to. -/
def switchTarget (s : State) : Option ProgPair := if s.change.isRoll then s.change.retained else s.change.prepared

/-- This is cycle K, and the Mills have not switched yet. -/
def switchPending (s : State) : Bool :=
  s.change.stateC == 4 && s.cyc.number == s.change.kSwitch && s.cyc.running && s.program.pair.isSome && (switchTarget s).isSome

end Sys2Proof.Machine
end

