-- ==== Sys2Proof/Machine/Host.lean ====
section
/-!
DEFINITION. Machine/Host.lean: the host link apart from the transfers (10): frames and buses (R285 to R290, R316), authorisation
(R302 to R306), staged groups (R300, R301, R313), on-line change and force groups (R143 to R162), events (R307) and the Steward's
restart (R308).
-/

namespace Sys2Proof.Machine

/-! ### Buses and frames -/

/-- A host bus. -/
def hostBus (s : State) : HostBus → HostBusSt
  | .hl1 => s.host.hl1
  | .hl2 => s.host.hl2

/-- Change a host bus. -/
def modHostBus (s : State) (b : HostBus) (f : HostBusSt → HostBusSt) : State :=
  match b with
  | .hl1 => { s with host := { s.host with hl1 := f s.host.hl1 } }
  | .hl2 => { s with host := { s.host with hl2 := f s.host.hl2 } }

/-- HL1 is 1 and HL2 is 2 in every record. -/
def busNo : HostBus → Nat
  | .hl1 => 1
  | .hl2 => 2

/-- A bus can send: error active or error passive. -/
def busSends (x : HostBusSt) : Bool := x.state == 1 || x.state == 2

/-- The smallest FD length that holds `n` bytes. -/
def fdLength (n : Nat) : Nat := if n ≤ 8 then n else ([12, 16, 20, 24, 32, 48].find? fun k => n ≤ k).getD 64

/-- A payload padded with 00h to an FD length (R290). -/
def padded (l : List Byte) : List Byte := l ++ List.replicate (fdLength l.length - l.length) 0

/-- The 29-bit identifier of a frame (Table 10-1). -/
def hostWord (func : Nat) (dir : Bool) (pos chan : Nat) (tid : U8) : U32 :=
  u32 (func % 8 * 2 ^ 26 + dir.toNat * 2 ^ 25 + pos % 64 * 2 ^ 19 + chan % 8 * 2 ^ 16 + tid.toNat * 2 ^ 8)

/-- The controller's buffers reach the service fabric: crossing 10 or 11 is not Stopped (R331). -/
def hostCrosses (s : State) (b : HostBus) : Bool := crossRuns s (9 + busNo b)

/-- Send one frame on a host bus, DIR 1 and POS the own position (R288); a bus in bus-off, silent or disabled loses it, and so does one
whose crossing is Stopped. -/
def sendHost (s : State) (b : HostBus) (func chan : Nat) (tid : U8) (bytes : List Byte) : State :=
  if busSends (hostBus s b) && hostCrosses s b then
    emit (modHostBus s b fun x => { x with sent := x.sent + 1 })
      (.hostFrame b (hostWord func true s.host.position chan tid) (padded bytes))
  else s

/-- A request or response payload (Table 10-2). -/
def reply (s : State) (b : HostBus) (chan : Nat) (tid : U8) (op index sub size : Nat) (data : List Byte) : State :=
  sendHost s b 2 chan tid ([u8 op] ++ leBytes 2 index ++ [u8 sub] ++ leBytes 4 size ++ data)

/-- An abort frame (R294). -/
def sendAbort (s : State) (b : HostBus) (chan : Nat) (tid : U8) (index sub : Nat) (code : U16) : State :=
  sendHost s b 1 chan tid ([0xFF] ++ leBytes 2 index ++ [u8 sub] ++ leBytes 2 code.toNat ++ [0, 0])

/-- A block acknowledge (R292). -/
def sendBlockAck (s : State) (b : HostBus) (chan : Nat) (tid : U8) (next blk : Nat) : State :=
  sendHost s b 6 chan tid (leBytes 3 next ++ [u8 blk])

/-- HOST_BUS_STATE_CHANGE (R316): a controller enters 1 error active, 2 error passive or 3 bus-off. A bus that is disabled or
silent has no controller at work. Its two error counters are the controller's own: free values. -/
def execHostBusStateChange (t : Time) (bus : HostBus) (state : Fin 5) (errors : Nat) (s : State) :
    Host.Outcome State Fault Refusal :=
  at_ t s fun s =>
    let x := hostBus s bus
    if x.state = 0 ∨ x.state = 4 ∨ state.val = 0 ∨ state.val = 4 ∨ state.val = x.state then s
    else
      let s1 := modHostBus (draw (draw s)) bus fun y => { y with
        state := state.val, errors := u32 errors,
        txErr := Config.free s.draws % 256, rxErr := Config.free (s.draws + 1) % 256,
        busOff := if state.val = 3 then y.busOff + 1 else y.busOff }
      let src := 107 + busNo bus
      if state.val = 3 then raise s1 src (u32 (busNo bus)) 0 (u32 errors)
      else if state.val = 2 then raise s1 src (u32 (busNo bus)) 1 (u32 errors)
      else s1

/-! ### Authorisation (R302 to R306) -/

/-- A length that does not fit: longer than the entry's range 0203h, shorter 0201h (R291, R296). -/
def lengthCode (data : List Byte) (n : Nat) : U16 := if n < data.length then 0x0203 else 0x0201

/-- The system address, FFFFh while no valid station image applies (R287). -/
def systemAddress (s : State) : Nat := if (header? s).isSome then sysAddr s s.host.position else 0xFFFF

/-- A channel's authorisation ends. -/
def endAuth (s : State) (ch : Nat) : State := modChan s ch fun c => { c with keySlot := none }

/-- A read of 2D00:01 (R303): a new challenge for the channel, and its 16 bytes. -/
def newChallenge (s : State) (ch : Nat) : State × List Byte :=
  let x := leBytes 16 (Config.challenge s.draws).toNat
  (modChan (draw s) ch fun c => { c with challenge := some (x, s.now) }, x)

/-- CHALLENGE (R303). -/
def execChallenge (t : Time) (ch : Fin 8) (s : State) : Host.Outcome State Fault Refusal :=
  at_ t s fun s => if stewardServes s then touch (newChallenge s ch.val).1 ch.val else s

/-- The key in a slot. -/
def keyOf (s : State) (slot : Nat) : Option (List Byte) := (tget {} s.host.keys slot).key

/-- Refused responses of the last 10 min. -/
def recentRefusals (s : State) : List Time := s.host.refusals.filter fun x => s.now < x + sec 600

/-- Authentication is locked out (R305). -/
def lockedOut (s : State) : Bool := s.host.lockout.any fun t => s.now < t + sec 60

/-- A refused response is counted; the fifth within 10 min locks authentication out and raises source 110 (R305). -/
def refuseResponse (s : State) (ch slot : Nat) (code : U16) : Attempt :=
  let l := recentRefusals s ++ [s.now]
  let s1 := { s with host := { s.host with refusals := l } }
  (if 5 ≤ l.length then
    raise { s1 with host := { s1.host with lockout := some s.now } } 110 (u32 ch) (u32 slot) 0
  else s1, some code)

/-- The message of R303. -/
def authMessage (s : State) (ch slot : Nat) (chal : List Byte) : List Byte :=
  chal ++ leBytes 2 (systemAddress s) ++ [u8 ch, u8 slot]

/-- A write of 2D00:02 (R303, R305): a challenge serves one response. -/
def writeResponse (s : State) (ch : Nat) (data : List Byte) : Attempt :=
  let slot := (data.headD 0).toNat
  if lockedOut s then (s, some 0x0305)
  else if data.length ≠ 33 then (s, some (lengthCode data 33))
  else if 3 < slot then (s, some 0x0230)
  else
    let chal := (chanSt s ch).challenge
    let s1 := modChan s ch fun c => { c with challenge := none }
    match keyOf s slot, chal with
    | none, _ => refuseResponse s1 ch slot 0x0303
    | some _, none => refuseResponse s1 ch slot 0x0302
    | some k, some (x, at') =>
      if s.now < at' + sec 60 ∧ hmac256 k (authMessage s ch slot x) = data.drop 1 then
        (modChan s1 ch fun c => { c with keySlot := some slot }, none)
      else refuseResponse s1 ch slot 0x0302

/-- RESPONSE (R303). -/
def execResponse (t : Time) (ch : Fin 8) (data : List Byte) (s : State) : Host.Outcome State Fault Refusal :=
  attemptAt t s ch.val fun s => writeResponse s ch.val data

/-- A write of 2D00:04 (R302). -/
def writeDeauthorise (s : State) (mask : U8) : Write :=
  .ok (((List.range 8).filter fun c => mask.getLsbD c).foldl endAuth s)

/-- DEAUTHORISE (R302): from any channel. -/
def execDeauthorise (t : Time) (ch : Fin 8) (mask : U8) (s : State) : Host.Outcome State Fault Refusal :=
  writeAt t s ch.val fun s => writeDeauthorise s mask

/-- AUTHORISATION_TIMEOUT (R302): 30 min without any frame on the channel. -/
def execAuthorisationTimeout (t : Time) (ch : Fin 8) (s : State) : Host.Outcome State Fault Refusal :=
  at_ t s fun s => if (chanSt s ch.val).activity + sec 1800 ≤ s.now then endAuth s ch.val else s

/-- AUTHENTICATION_LOCKOUT_END (R305). -/
def execAuthenticationLockoutEnd (t : Time) (s : State) : Host.Outcome State Fault Refusal :=
  at_ t s fun s => if lockedOut s then s else { s with host := { s.host with lockout := none } }

/-- S24 of the start reading is on (R349). -/
def s24 (s : State) : Bool := s.modes.sealStart.getLsbD 23

/-- A write of 2D10 + s:01 (R306): in Stop with S24 on, and from an authorised channel once any slot holds a key. A changed or
erased slot ends the authorisations that used it (R302). -/
def writeKey (s : State) (ch slot : Nat) (data : List Byte) : Write :=
  refuseUnless (data.length == 32) (lengthCode data 32) <|
  refuseUnless (s.modes.mode == .stop && s24 s
    && ((List.range 4).all (fun k => (keyOf s k).isNone) || authorised s ch)) 0x0304 <|
  let new : KeySt := { key := if allZero data then none else some data, at_ := s.now }
  let users := (List.range 8).filter fun c => (chanSt s c).keySlot == some slot
  .ok (users.foldl endAuth { s with host := { s.host with keys := tput {} s.host.keys slot new } })

/-- KEY (R306). -/
def execKey (t : Time) (ch : Fin 8) (slot : Fin 4) (data : List Byte) (s : State) : Host.Outcome State Fault Refusal :=
  writeAt t s ch.val fun s => writeKey s ch.val slot.val data

/-! ### Staged groups (R300, R301, R313) -/

/-- A staged group. -/
def groupShadow (s : State) (g : Nat) : GroupShadow := tget {} s.host.groups g
/-- Change a staged group. -/
def modShadow (s : State) (g : Nat) (f : GroupShadow → GroupShadow) : State :=
  { s with host := { s.host with groups := tput {} s.host.groups g (f (groupShadow s g)) } }

/-- The groups that the chapters define: 1 host link, 30 change, 31 forces, 40 windows. -/
def groupDefined (g : Nat) : Bool := g == 1 || g == 30 || g == 31 || g == 40

/-- A number of exactly `n` bytes that lies in a range. -/
def fixedNat (data : List Byte) (n : Nat) (ok : Nat → Bool) : Option U16 :=
  if data.length ≠ n then some 0x0201 else if ok (leNat data) then none else some 0x0230

/-- R384: the windows a source may be given. -/
def windowOk (src n : Nat) : Bool :=
  match srcClass src with
  | 1 | 2 | 3 => 1 ≤ n && n ≤ 1000
  | _ => n == 0

/-- The group of an RWS entry, and the abort code of a value outside its type or range. -/
def rwsEntry (index sub : Nat) (data : List Byte) : Option (Nat × Option U16) :=
  if index = 0x1100 then
    match sub with
    | 1 => some (1, fixedNat data 2 fun n => n == 500 || n == 1000)
    | 2 => some (1, fixedNat data 1 fun n => n == 2 || n == 5 || n == 8)
    | 5 => some (1, fixedNat data 1 fun n => 1 ≤ n && n ≤ 3)
    | _ => none
  else if index = 0x3800 then
    match sub with
    | 3 => some (30, fixedNat data 1 fun n => n ≤ 5)
    | 4 => some (30, fixedNat data 4 fun _ => true)
    | 5 => some (30, fixedNat data 8 fun _ => true)
    | _ => none
  else if index = 0x3880 ∧ sub = 1 then
    some (31, if data.length ≠ 20 then some (lengthCode data 20)
      else if data.headD 0 = 1 ∨ data.headD 0 = 2 then none else some 0x0230)
  else if 0x2400 ≤ index ∧ index ≤ 0x247F ∧ sub = 6 then
    some (40, fixedNat data 2 (windowOk (index - 0x2400)))
  else none

/-- A force request (Table 05-8). -/
def parseForce (data : List Byte) : ForceReq :=
  { remove := data.headD 0 == 2, symid := u64 (field data 4 8), value := u64 (field data 12 8) }

/-- The requests in the shadow list. -/
def shadowForces (s : State) : List ForceReq := (groupShadow s 31).shadow.map fun x => parseForce x.2.2

/-- The running program's map entry of a SYMID. -/
def mapOf (s : State) (symid : U64) : Option MapEntry :=
  (s.program.pair.map fun p => p.va).bind fun v => v.map.find? fun m => m.symid == symid

/-- The rule of R160 that a request breaks, Hold being within Test Track (R341); removing a force breaks none. For a CLASS 0 force in Safe
State or Shutdown the manual gives no abort code: DESIGN CHOICE (log 105), 0441h. -/
def forceRule (s : State) (q : ForceReq) : Option U16 :=
  if q.remove then none else
  match mapOf s q.symid with
  | none => none
  | some m =>
    if 6 < m.typ then some 0x0443
    else if m.cls = 1 then some 0x0442
    else if m.cls = 2 ∧ s.modes.mode ≠ .testTrack ∧ s.modes.mode ≠ .hold then some 0x0441
    else if s.modes.mode = .safeState ∨ s.modes.mode = .shutdown then some 0x0441
    else none

/-- R161: how many variables would be forced: the active ones and the new SYMIDs of the shadow list. -/
def forcesWith (s : State) (q : ForceReq) : Nat :=
  let new := ((shadowForces s ++ [q]).filter fun x => !x.remove
    && s.change.forces.all fun f => f.symid != x.symid).map ForceReq.symid
  s.change.forces.length + new.eraseDups.length

/-- A force request at the write (R160, R161). The shadow list holds up to 256 records (R167); the code of the one beyond is 0640h too,
which the manual does not say (DESIGN CHOICE, log 106). -/
def forceWriteCode (s : State) (data : List Byte) : Option U16 :=
  let q := parseForce data
  if 256 < forcesWith s q ∨ 256 ≤ (groupShadow s 31).shadow.length then some 0x0640 else forceRule s q

/-- What a written record keeps: the reserved bytes 1 to 3 of a force request read as 0 (R5). -/
def keptData (g : Nat) (data : List Byte) : List Byte :=
  if g = 31 then data.take 1 ++ [0, 0, 0] ++ data.drop 4 else data

/-- A write of an RWS entry (R300): range, force rules, owner, pending commit; then into the shadow. A later write of a field
replaces the earlier one; force requests are a list. -/
def writeShadow (s : State) (ch index sub : Nat) (data : List Byte) : Write :=
  match rwsEntry index sub data with
  | none => .error 0x0101
  | some (_, some code) => .error code
  | some (g, none) =>
    let x := groupShadow s g
    refuseUnless (x.owner.isNone || x.owner == some ch) 0x0504 <|
    refuseUnless (x.status != 2) 0x0505 <|
    match if g = 31 then forceWriteCode s data else none with
    | some code => .error code
    | none =>
      let kept := if g = 31 then x.shadow else x.shadow.filter fun y => !(y.1 == index && y.2.1 == sub)
      .ok (modShadow s g fun y => { y with status := 1, owner := some ch, shadow := kept ++ [(index, sub, keptData g data)] })

/-- A field of a group: from the shadow, or the value in force (R300). -/
def stagedField (s : State) (g index sub dflt : Nat) : Nat :=
  match (groupShadow s g).shadow.find? fun y => y.1 == index && y.2.1 == sub with
  | some y => leNat y.2.2
  | none => setting s index sub dflt

/-- Free a group and discard its shadow; `status` is 0, or 3 when a restart discards it. -/
def freeGroup (s : State) (g status : Nat) : State :=
  modShadow s g fun x => { x with status := status, owner := none, shadow := [] }

/-- A write of 20F0:02 (R300): from any channel. A commit that is accepted and not yet applied has no shadow left. -/
def writeGroupAbort (s : State) (g : Nat) : Write :=
  refuseUnless (1 ≤ g && g ≤ 63) 0x0230 <|
  .ok (if (groupShadow s g).status = 2 then s else freeGroup s g 0)

/-- GROUP_ABORT (R300). -/
def execGroupAbort (t : Time) (ch : Fin 8) (g : U8) (s : State) : Host.Outcome State Fault Refusal :=
  writeAt t s ch.val fun s => writeGroupAbort s g.toNat

/-- GROUP_OWNER_TIMEOUT (R300): the owner has been silent for 30 min. -/
def execGroupOwnerTimeout (t : Time) (g : Fin 64) (s : State) : Host.Outcome State Fault Refusal :=
  at_ t s fun s =>
    match (groupShadow s g.val).owner with
    | some ch => if (chanSt s ch).activity + sec 1800 ≤ s.now then freeGroup s g.val 3 else s
    | none => s

/-- The EKIND 4 event. -/
def groupEvent (s : State) (g outcome : Nat) (code : U16) : State :=
  pushEvent s 4 ([u8 g, u8 outcome] ++ leBytes 2 code.toNat)

/-- A refused commit: its code stays in the group's status (R313). -/
def commitRefused (s : State) (g : Nat) (code : U16) : Attempt :=
  (groupEvent (modShadow s g fun x => { x with code := code }) g 2 code, some code)

/-- An accepted commit that applies at once. -/
def commitDone (s : State) (g : Nat) : State :=
  groupEvent (modShadow (freeGroup s g 0) g fun x => { x with code := 0 }) g 1 0

/-- The written fields of a group become the values in force. -/
def applyFields (s : State) (g : Nat) : State :=
  (groupShadow s g).shadow.foldl (fun st y => putSetting st y.1 y.2.1 (leNat y.2.2)) s

/-- R286: the check of group 1. -/
def linkFieldsOk (s : State) : Bool :=
  let arb := stagedField s 1 0x1100 1 500
  let data := stagedField s 1 0x1100 2 2
  data * 1000 ≤ 10 * arb && stagedField s 1 0x1100 5 3 != 0

/-- Commit of group 40: each written window is in force from its source's next raise (R384). -/
def applyWindows (s : State) : State :=
  (groupShadow s 40).shadow.foldl (fun st y =>
    modSource st (y.1 - 0x2400) fun x => { x with window := some (leNat y.2.2) }) s

end Sys2Proof.Machine
end

