-- ==== Sys2Proof/Machine/Package.lean ====
section
/-!
DEFINITION. Machine/Package.lean: update packages (15): header and entries (R415), difference bodies (R416), identities (R412)
and the checks of a verification (R421).
-/

namespace Sys2Proof.Machine

/-- An image entry of a package (Table 15-4). -/
structure PkgEntry where
  kind   : Nat
  tlen   : Nat
  base   : Nat
  target : Nat
  thash  : List Byte
  doff   : Nat
  dlen   : Nat
  deriving DecidableEq, Repr

/-! ### The flash image store (R412, R413) -/

/-- The block size of the flash image store. -/
def blockSize : Nat := 65536

/-- So many MiB in bytes. -/
def mib (n : Nat) : Nat := n * 1048576

/-- The slot size of a kind (Table 15-1). -/
def slotSize (kind : Nat) : Nat := if kind = 2 ∨ kind = 3 ∨ kind = 5 then mib 16 else mib 8

/-- The parts of the store (Table 15-2). -/
inductive StoreArea where
  | loader | records | programs | images | reserved | journal | staging
  deriving DecidableEq, Repr

/-- Table 15-2, with the sizes in bytes; each part follows the one before. -/
def storeSizes : List (StoreArea × Nat) :=
  [(.loader, mib 4), (.records, mib 4), (.programs, mib 64), (.images, mib 40), (.reserved, mib 16), (.journal, mib 256),
   (.staging, mib 128)]

/-- The size of a part. -/
def areaSize (a : StoreArea) : Nat := ((storeSizes.find? fun x => x.1 == a).map fun x => x.2).getD 0

/-- The offset of a part: the sizes of those before it. -/
def areaOffset (a : StoreArea) : Nat := ((storeSizes.takeWhile fun x => x.1 != a).map fun x => x.2).sum

/-- The offset of a kind's slot: kinds 2 and 3 in each program bank, then kinds 1, 4, 5 and 6 in that order. -/
def slotOffset (bank kind : Nat) : Nat :=
  if kind = 2 ∨ kind = 3 then areaOffset .programs + bank * mib 32 + (kind - 2) * mib 16
  else areaOffset .images + ((([1, 4, 5, 6] : List Nat).takeWhile fun k => k != kind).map slotSize).sum

/-- The blocks of a slot. -/
def slotBlocks (kind : Nat) : Nat := slotSize kind / blockSize

/-- The offset of a block of a slot, numbered from 0 within it. -/
def blockOffset (bank kind b : Nat) : Nat := slotOffset bank kind + b * blockSize

/-- The journal slots, each of one block. -/
def journalSlots : Nat := areaSize .journal / blockSize

/-- NIMG. -/
def pkgCount (p : List Byte) : Nat := field p 6 2

/-- The image entries, in the package's order. -/
def pkgEntries (p : List Byte) : List PkgEntry :=
  (chunks 64 (min (pkgCount p) 6) (p.drop 64)).map fun e =>
    { kind := (byteAt e 0).toNat, tlen := field e 4 4, base := field e 8 8, target := field e 16 8,
      thash := (e.drop 24).take 32, doff := field e 56 4, dlen := field e 60 4 }

/-- The first 8 bytes of a SHA-256 digest, as a number. -/
def digest8 (l : List Byte) : Nat := leNat ((sha256 l).take 8)

/-- The identity of an image (Table 15-1): COMMIT, or a digest; 0 for none. -/
def imageIdentity (kind : Nat) (img : List Byte) : Nat :=
  if img = [] then 0
  else match kind with
    | 1 => (parseHeader img).commit.toNat
    | 2 | 3 => (parseVariant img).commit.toNat
    | _ => digest8 img

/-! ### Differences (R416) -/

/-- `n` bytes of an image from an offset, zeros beyond its end. -/
def bytesAt (img : List Byte) (off n : Nat) : List Byte :=
  let l := (img.drop off).take n
  l ++ List.replicate (n - l.length) 0

/-- The base of a difference: the installed image, or none for a full image, which may not copy. -/
abbrev Base := Option (List Byte)

/-- Up to `n` operations: the bytes they produce, and what follows them; none for a TYPE that is not defined, for a copy in a full image,
and for an operation that the body's end cuts short. -/
def runOps (base : Base) : Nat → List Byte → Option (List Byte × List Byte)
  | 0, d => some ([], d)
  | n + 1, d =>
    let len := field d 4 4
    let whole := len + (4 - len % 4) % 4
    let rest := d.drop 8
    if d.length < 8 then none else
    match (byteAt d 0).toNat, base with
    | 1, _ => if rest.length < whole then none else (runOps base n (rest.drop whole)).map fun r => (rest.take len ++ r.1, r.2)
    | 2, some img =>
      if rest.length < 4 then none
      else (runOps base n (rest.drop 4)).map fun r => (bytesAt img (field rest 0 4) len ++ r.1, r.2)
    | 3, _ => (runOps base n rest).map fun r => (List.replicate len 0 ++ r.1, r.2)
    | _, _ => none

/-- The changed blocks of a difference body: block number and new content. `fuel` bounds their number. -/
def runDiff (base : Base) : Nat → List Byte → Option (List (Nat × List Byte))
  | 0, d => if d = [] then some [] else none
  | n + 1, d =>
    if d = [] then some []
    else if d.length < 8 then none
    else
      match runOps base (field d 4 4) (d.drop 8) with
      | some (bytes, rest) =>
        if bytes.length = blockSize then (runDiff base n rest).map fun l => (field d 0 4, bytes) :: l else none
      | none => none

/-- Put a block into a slot's content. -/
def setBlock (img : List Byte) (b : Nat) (bytes : List Byte) : List Byte :=
  bytesAt img 0 (b * blockSize) ++ bytes ++ img.drop ((b + 1) * blockSize)

/-- The changed blocks of an entry, in ascending order, applied to the installed image. A full image lists every block of its slot: bytes
beyond TLEN are zero, and a block that is not listed keeps its content (DEDUCED, log 161). -/
def entryBlocks (p : List Byte) (e : PkgEntry) (installed : List Byte) : Option (List (Nat × List Byte)) :=
  let n := slotBlocks e.kind
  let l := runDiff (if e.base = 0 then none else some installed) n ((p.drop e.doff).take e.dlen)
  l.filter fun bs =>
    if e.base = 0 then decide (bs.map (fun b => b.1) = List.range n)
    else decide ((bs.map fun b => b.1).Pairwise (· < ·)) && bs.all fun b => b.1 < n

/-- The target image of an entry. -/
def expandEntry (p : List Byte) (e : PkgEntry) (installed : List Byte) : Option (List Byte) :=
  (entryBlocks p e installed).map fun l =>
    bytesAt (l.foldl (fun img b => setBlock img b.1 b.2) installed) 0 e.tlen

/-- The journal plan of a package: every changed block in ascending order of kind and then block (R424). -/
def journalPlan (p : List Byte) (images : Table (List Byte)) : List JournalRec :=
  (List.range 7).flatMap fun kind =>
    ((pkgEntries p).filter fun e => e.kind == kind).flatMap fun e =>
      let img := tget [] images kind
      ((entryBlocks p e img).getD []).map fun b =>
        { kind := kind, block := b.1, old := bytesAt img (b.1 * blockSize) blockSize, new := b.2, valid := false }

/-- The images after an activation of a package. -/
def imagesAfter (p : List Byte) (images : Table (List Byte)) : Table (List Byte) :=
  (pkgEntries p).foldl (fun t e =>
    match expandEntry p e (tget [] images e.kind) with
    | some img => tput [] t e.kind img
    | none => t) images

/-! ### Verification (R421, Table 15-6) -/

/-- 01h: header, entries, PKGLEN and PKGID. -/
def pkgHeaderOk (p : List Byte) (pkgid : U64) (pkglen : Nat) : Bool :=
  let n := pkgCount p
  let l := pkgEntries p
  p.length == pkglen && leNat (p.take 4) == 0x5055544B && field p 4 2 == 1 && 1 ≤ n && n ≤ 6 && field p 8 4 == pkglen
    && pkglen ≤ areaSize .staging && 64 + 64 * n + 64 ≤ pkglen
    && field p 16 8 == pkgid.toNat && digest8 ((p.take (pkglen - 64)).drop 24) == pkgid.toNat
    && (byteAt p 24).toNat ≤ 1
    && l.all (fun e => 1 ≤ e.kind && e.kind ≤ 6 && e.tlen ≤ slotSize e.kind 
      && 64 + 64 * n ≤ e.doff && e.doff + e.dlen ≤ pkglen - 64)
    && decide ((l.map PkgEntry.kind).Nodup)

/-- The signer that a kind requires (Table 15-1): 1 owner, 0 factory. -/
def signerOf (kind : Nat) : Nat := if kind ≤ 4 then 1 else 0

/-- 02h: the signature, and the signer of every kind. -/
def pkgSigned (p : List Byte) (ownerKey : Option (List Byte)) : Bool :=
  let signer := (byteAt p 24).toNat
  let key := if signer = 0 then some (leBytes 32 Config.factoryKey) else ownerKey
  let n := p.length - 64
  (pkgEntries p).all (fun e => signerOf e.kind == signer) && key.any fun k => ed25519Verify k (p.take n) (p.drop n)

/-- The first failing check of a verified package: result and kind (FFh for none). -/
def verifyPackage (p : List Byte) (pkgid : U64) (pkglen : Nat) (ownerKey : Option (List Byte))
    (images : Table (List Byte)) : Nat × Nat :=
  let l := pkgEntries p
  let has := fun (k : Nat) => l.any fun e => e.kind == k
  let after := imagesAfter p images
  let img := fun (k : Nat) => tget [] after k
  let station := imageIdentity 1 (img 1)
  let badOf := fun (f : PkgEntry → Bool) => (l.find? fun e => !f e).map PkgEntry.kind
  let whole := fun (ok : Bool) (code : Nat) => if ok then none else some (code, 0xFF)
  let each := fun (f : PkgEntry → Bool) (code : Nat) => (badOf f).map fun k => (code, k)
  let paired := imageIdentity 2 (img 2) == field (img 3) 24 8 && imageIdentity 3 (img 3) == field (img 2) 24 8
  let programs := [2, 3].filter fun k => img k != []
  (firstFail [
    whole (pkgHeaderOk p pkgid pkglen) 1,
    whole (pkgSigned p ownerKey) 2,
    each (fun e => e.base == 0 || e.base == imageIdentity e.kind (tget [] images e.kind)) 3,
    each (fun e => (expandEntry p e (tget [] images e.kind)).any fun x =>
      sha256 x == e.thash && imageIdentity e.kind x == e.target) 4,
    whole (has 2 == has 3 && (!has 2 || paired)) 5,
    whole (!has 1 || tget [] images 1 == [] || (parseHeader (img 1)).tag != (parseHeader (tget [] images 1)).tag
      || imageIdentity 1 (img 1) == imageIdentity 1 (tget [] images 1)) 6,
    (programs.find? fun k => (parseVariant (img k)).station.toNat != station).map fun k => (7, k),
    whole (img 4 == [] || (Config.patternCommit (img 4)).toNat == station) 8]).getD (0, 0xFF)

end Sys2Proof.Machine
end

