-- ==== Sys2Proof/Machine/Change.lean ====
section
/-!
DEFINITION. Machine/Change.lean: on-line change and forces through staged groups 30 and 31 (R143 to R162), and the commit of every
staged group (R300, R301).
-/

namespace Sys2Proof.Machine

/-! ### Results and events -/

/-- Event 7043h: change result, state at the time, failing reference. -/
def changeEvent (s : State) (result : U8) (state : Nat) (ref : U32) : State :=
  bookEvent s 0x7043 (u32 result.toNat) (u32 state) ref

/-- A change that is refused returns to None with its result; the event's P2 is the state it was refused in. -/
def refuseChange (s : State) (result : U8) (ref : U32) : State :=
  changeEvent { s with change := { s.change with
    stateC := 0, result := result, prepared := none, since := s.now } } result s.change.stateC ref

/-- S21 read on at the start: the seal acts through the start reading alone (R349). -/
def s21 (s : State) : Bool := s.modes.sealStart.getLsbD 20

/-- R144: the modes of preparation and arming. -/
def changeMode (s : State) : Bool :=
  match s.modes.mode with
  | .run | .stop | .testTrack | .standby => true
  | _ => false

/-- R144: 0440h for mode, lanes or role, 0445h for S21. -/
def changePermitted (s : State) : Option U16 :=
  if !changeMode s || (voters s).length ≠ 3 || s.twin.role == .unresolved then some 0x0440
  else if s21 s then some 0x0445
  else none

/-! ### The package that a change takes (15) -/

/-- The package in the staging area. -/
def stagedPackage (s : State) : List Byte := (s.update.pieces.flatMap fun p => p.2).take s.update.pkglen

/-- The pair that a verified package of kinds 2 and 3 alone expands to: both images. -/
def stagedImages (s : State) : Option (List Byte × List Byte) :=
  let p := stagedPackage s
  let l := pkgEntries p
  if s.update.state = 4 ∧ l.length = 2 ∧ l.all fun e => e.kind == 2 || e.kind == 3 then
    let after := imagesAfter p s.update.images
    some (tget [] after 2, tget [] after 3)
  else none

/-- PROGID of the verified program package. -/
def stagedProgid (s : State) : Option Nat := (stagedImages s).map fun x => (parseVariant x.1).progid.toNat

/-! ### Preparation (R143, R147, R152) -/

/-- A pair of variants from their images. -/
def pairOf (x : List Byte × List Byte) : ProgPair := ⟨parseVariant x.1, parseVariant x.2⟩

/-- R143: old and new fit together in both memories of each Mill. -/
def fitsBeside (old new : ProgPair) : Bool :=
  old.va.codelen + new.va.codelen ≤ 8388608 && old.vb.codelen + new.vb.codelen ≤ 8388608
    && old.va.datalen + new.va.datalen ≤ 4194304 && old.vb.datalen + new.vb.datalen ≤ 4194304

/-- R152: TWC + TCARRY within the budget, in both directions. -/
def withinBudget (old new : ProgPair) (c : Nat) : Bool :=
  let fwd := tcarry old.va new.va
  let back := tcarry new.va old.va
  new.va.twc + fwd ≤ logicBudget c && new.vb.twc + fwd ≤ logicBudget c
    && old.va.twc + back ≤ logicBudget c && old.vb.twc + back ≤ logicBudget c

/-- The first entry of a map whose SYMID an earlier entry has (26h). -/
def symidTwice (v : Variant) : Option Nat :=
  (List.range v.map.length).find? fun i => (v.map[i]?).any fun m => (v.map.take i).any fun x => x.symid == m.symid

/-- The failing reference of 08h and 26h: the number of the first failing map entry, in variant A or else in B; which number it is, the
manual does not say (log 103). -/
def mapRef (x : List Byte × List Byte) (f : List Byte → Variant → Option Nat) : U32 :=
  (((f x.1 (parseVariant x.1)).orElse fun _ => f x.2 (parseVariant x.2)).map u32).getD none32

/-- Loading (R143, R144): 20h when preparation is no longer permitted, or the staged package no longer Verified, for which the manual
gives no result (DESIGN CHOICE, log 104); 21h when the pairs do not fit together. -/
def loadingResult (s : State) (images : Option (List Byte × List Byte)) : U8 :=
  match images with
  | none => 0x20
  | some x =>
    if (changePermitted s).isSome then 0x20
    else if (s.program.pair.any fun old => !fitsBeside old (pairOf x)) then 0x21
    else 0

/-- Checking (R121, R147, Table 05-3): the result, 00h when the new pair is Ready, and the failing reference. -/
def checkingResult (s : State) (x : List Byte × List Byte) (differing : List Lane) : U8 × U32 :=
  let new := pairOf x
  let station := ((header? s).map fun h => h.commit).getD 0
  let codeA := checkProgram x.1 x.2 0 station s.cyc.c
  let codeB := checkProgram x.2 x.1 1 station s.cyc.c
  if (changePermitted s).isSome then (0x20, none32)
  else if differing ≠ [] ∨ codeA ≠ codeB then (0x09, none32)
  else if codeA ≠ 0 then (u8 codeA, if codeA = 8 then mapRef x mapFails else none32)
  else if (s.program.pair.any fun old => !withinBudget old new s.cyc.c) then (0x22, none32)
  else if (s.program.pair.any fun old => old.va.commit == new.va.commit && old.vb.commit == new.vb.commit) then (0x23, none32)
  else if (symidTwice new.va).isSome || (symidTwice new.vb).isSome then (0x26, mapRef x fun _ v => symidTwice v)
  else (0, none32)

/-- The Steward expands the package into the program bank that is not installed, and the change is Ready (R145). -/
def makeReady (s : State) (images : List Byte × List Byte) : State :=
  let new := pairOf images
  { s with
    update := { s.update with otherBank := [images.1, images.2] }
    change := { s.change with
      stateC := 3, result := 0, prepared := some new, since := s.now,
      tcarry := ((s.program.pair.map fun old => tcarry old.va new.va)).getD 0 } }

/-- Loading ends: Checking begins, or the change is refused. -/
def endLoading (s : State) : State :=
  let code := loadingResult s (stagedImages s)
  if code = 0 then { s with change := { s.change with stateC := 2 } } else refuseChange s code none32

/-- Checking ends: Ready, or the change is refused. -/
def endChecking (differing : List Lane) (s : State) : State :=
  match stagedImages s with
  | none => refuseChange s 0x20 none32
  | some x =>
    let r := checkingResult s x differing
    if r.1 = 0 then makeReady s x else refuseChange s r.1 r.2

/-- CHANGE_PREPARATION_COMPLETE (R145, R147): the part of the preparation that is under way ends, in Loading the loading, in Checking
the checks (log 39). A lane that differs is not excluded; the change is refused with 09h. -/
def execChangePreparationComplete (t : Time) (differing : List Lane) (s : State) : Host.Outcome State Fault Refusal :=
  at_ t s fun s =>
    if s.change.stateC = 1 then endLoading s
    else if s.change.stateC = 2 then endChecking differing s
    else s

/-- CHANGE_PREPARATION_TIMEOUT (R147): 60 s. -/
def execChangePreparationTimeout (t : Time) (s : State) : Host.Outcome State Fault Refusal :=
  at_ t s fun s =>
    if (s.change.stateC = 1 ∨ s.change.stateC = 2) ∧ s.change.since + sec 60 ≤ s.now then refuseChange s 0x24 none32 else s

/-! ### Group 30 (R146) -/

/-- The staged action, switch cycle and expected PROGID. -/
def stagedAction (s : State) : Nat := stagedField s 30 0x3800 3 0

/-- The PROGID that an action expects (Table 05-2). -/
def expectedProgid (s : State) (action : Nat) : Option Nat :=
  let idOf := fun (p : Option ProgPair) => p.map fun x => x.va.progid.toNat
  match action with
  | 1 => stagedProgid s
  | 2 => idOf s.change.prepared
  | 3 => idOf s.change.retained
  | 4 => idOf s.program.pair
  | _ => if s.change.isRoll then idOf s.change.retained else idOf s.change.prepared

/-- The state in which an action is allowed (Table 05-2). -/
def actionAllowed (s : State) (action : Nat) : Bool :=
  let n := s.change.stateC
  match action with
  | 1 => n == 0
  | 2 => n == 3
  | 3 | 4 => n == 5
  | _ => n == 3 || n == 4

/-- K: 0 stands for n + 2. -/
def switchCycle (s : State) : U32 :=
  let k := stagedField s 30 0x3800 4 0
  if k = 0 then s.cyc.number + 2 else u32 k

/-- A switch cycle is 0, or n + 2 to n + 65,535 (modulo 2^32). -/
def switchCycleOk (s : State) : Bool :=
  let k := stagedField s 30 0x3800 4 0
  let d := cyclesSince s.cyc.number (u32 k)
  k == 0 || (2 ≤ d && d ≤ 65535)

/-- R144: a rollback is permitted under S21, with any lanes, and in Degraded. -/
def rollbackMode (s : State) : Bool := changeMode s || s.modes.mode == .degraded

/-- R149: in a pair, the standby reports that it is Ready with the same COMMIT pair. No field of the health report carries this,
so what it reports is a free value. -/
def standbyReady (s : State) : Bool :=
  !(s.twin.role == .active && s.twin.paired) || Config.free s.draws % 2 == 1

/-- The checks of an action in order: state, PROGID, cycle, R144, R149. -/
def actionRefusal (s : State) (action : Nat) : Option U16 :=
  if action = 0 then none
  else if actionAllowed s action = false then some 0x0530
  else if expectedProgid s action ≠ some (stagedField s 30 0x3800 5 0) then some 0x0531
  else if (action = 2 ∨ action = 3) ∧ switchCycleOk s = false then some 0x0532
  else match action with
    | 1 => changePermitted s
    | 2 => (changePermitted s).orElse fun _ => if standbyReady s then none else some 0x0444
    | 3 => if rollbackMode s = false then some 0x0440 else if standbyReady s then none else some 0x0444
    | _ => none

/-- Prepare: Loading begins. -/
def doPrepare (s : State) : State :=
  { s with change := { s.change with stateC := 1, since := s.now, prepared := none, isRoll := false, tcarry := 0 } }

/-- Arm or rollback: Armed for cycle K. -/
def doArm (s : State) (roll : Bool) : State :=
  { s with change := { s.change with
      stateC := 4, isRoll := roll, kSwitch := switchCycle s, armedAt := some s.cyc.number, byMirror := false, since := s.now } }

/-- Commit: the running pair becomes the installed program, and the retained pair is discarded (R156). -/
def doCommit (s : State) : State :=
  { s with change := { s.change with stateC := 6, retained := none, since := s.now } }

/-- Cancel: Ready to None; Armed back to Ready or Trial. DESIGN CHOICE (log 39): Table 05-3 has no result for a host's cancel, and P1 of the
event is the latest result. -/
def doCancel (s : State) : State :=
  let x := s.change
  let next := if x.stateC = 4 then (if x.isRoll then 5 else 3) else 0
  changeEvent { s with change := { x with
    stateC := next, isRoll := false, armedAt := none, since := s.now, kSwitch := x.lastK, byMirror := false,
    prepared := if next = 0 then none else x.prepared } } x.result x.stateC none32

/-- The accepted action. -/
def doAction (s : State) (action : Nat) : State :=
  match action with
  | 1 => doPrepare s
  | 2 => doArm s false
  | 3 => doArm s true
  | 4 => doCommit s
  | 5 => doCancel s
  | _ => s

/-! ### Group 31 (R160 to R162) -/

/-- A value fits its type (R161). -/
def valueFits (m : MapEntry) (v : U64) : Bool := if m.typ = 0 then v.toNat ≤ 1 else v.toNat < 256 ^ m.width

/-- R161: why a commit of group 31 is refused. -/
def forceRefusal (s : State) : Option U16 :=
  let l := shadowForces s
  let bad := fun (q : ForceReq) => match mapOf s q.symid with
    | none => true
    | some m => !q.remove && m.typ ≤ 6 && !valueFits m q.value
  if l.any bad || !decide ((l.map ForceReq.symid).Nodup) then some 0x0533
  else l.findSome? (forceRule s)

/-! ### Commit (R300, R301) -/

/-- The check of a group as a whole. -/
def groupRefusal (s : State) (g : Nat) : Option U16 :=
  match g with
  | 1 => if linkFieldsOk s then none else some 0x0502
  | 30 => actionRefusal s (stagedAction s)
  | 31 => forceRefusal s
  | _ => none

/-- An accepted commit: group 31 waits for S (R301); every other group applies at once. -/
def applyGroup (s : State) (g : Nat) : State :=
  match g with
  | 30 => commitDone (doAction (applyFields s 30) (stagedAction s)) 30
  | 31 =>
    let s1 := { s with change := { s.change with queued := some (shadowForces s) } }
    modShadow (freeGroup s1 31 2) 31 fun x => { x with code := 0, pending := some s.now }
  | 40 => commitDone (applyWindows s) 40
  | _ => commitDone (applyFields s g) g

/-- A write of 20F0:01 (R300): the order of its checks, then the group's own. -/
def writeCommit (s : State) (ch g : Nat) : Attempt :=
  let x := groupShadow s g
  if g = 0 ∨ 63 < g then (s, some 0x0230)
  else if groupDefined g = false then commitRefused s g 0x0501
  else if x.status ≠ 1 then commitRefused s g 0x0503
  else if x.owner ≠ some ch then commitRefused s g 0x0504
  else if authorised s ch = false then commitRefused s g 0x0340
  else match groupRefusal s g with
    | some code => commitRefused (if g = 30 then draw s else s) g code
    | none => (applyGroup (if g = 30 then draw s else s) g, none)

/-- A commit of group 30 whose staged action is `action`; any other commit is no step of this row. -/
def commitAction (s : State) (ch action : Nat) : Attempt :=
  if stagedAction s = action then writeCommit s ch 30 else (s, none)

/-- GROUP_COMMIT (R300). -/
def execGroupCommit (t : Time) (ch : Fin 8) (g : U8) (s : State) : Host.Outcome State Fault Refusal :=
  attemptAt t s ch.val fun s => writeCommit s ch.val g.toNat

/-- CHANGE_PREPARE (R147). -/
def execChangePrepare (t : Time) (ch : Fin 8) (s : State) : Host.Outcome State Fault Refusal :=
  attemptAt t s ch.val fun s => commitAction s ch.val 1

/-- CHANGE_ARM (R146, R149). -/
def execChangeArm (t : Time) (ch : Fin 8) (s : State) : Host.Outcome State Fault Refusal :=
  attemptAt t s ch.val fun s => commitAction s ch.val 2

/-- CHANGE_ROLLBACK (R155). -/
def execChangeRollback (t : Time) (ch : Fin 8) (s : State) : Host.Outcome State Fault Refusal :=
  attemptAt t s ch.val fun s => commitAction s ch.val 3

/-- CHANGE_COMMIT (R156). -/
def execChangeCommit (t : Time) (ch : Fin 8) (s : State) : Host.Outcome State Fault Refusal :=
  attemptAt t s ch.val fun s => commitAction s ch.val 4

/-- CHANGE_CANCEL (R146). -/
def execChangeCancel (t : Time) (ch : Fin 8) (s : State) : Host.Outcome State Fault Refusal :=
  attemptAt t s ch.val fun s => commitAction s ch.val 5

/-- FORCE_REQUEST (R161): a record for the shadow list of group 31. -/
def execForceRequest (t : Time) (ch : Fin 8) (data : List Byte) (s : State) : Host.Outcome State Fault Refusal :=
  writeAt t s ch.val fun s => writeShadow s ch.val 0x3880 1 data

/-- FORCE_COMMIT (R162). -/
def execForceCommit (t : Time) (ch : Fin 8) (s : State) : Host.Outcome State Fault Refusal :=
  attemptAt t s ch.val fun s => writeCommit s ch.val 31

/-- At an S later than their commit the queued force requests apply, and the group is free (R162, R301). -/
def applyForceGroup (s : State) : State :=
  if s.change.queued.isSome ∧ (groupShadow s 31).pending.any (fun t => t < s.now) then
    groupEvent (modShadow (applyForces s) 31 fun x => { x with status := 0, pending := none }) 31 1 0
  else s

/-- Forces survive neither a start nor a Shutdown (R160, R164). DESIGN CHOICE (log 154): a commit of group 31 that still waits for its S
then lapses, and the group is free. -/
def dropForces (s : State) : State :=
  modShadow { s with change := { s.change with forces := [], queued := none } } 31 fun x =>
    if x.status = 2 then { x with status := 0, pending := none } else x

/-! ### The installed-program record (R156) -/

/-- The bytes of an image record before its CRC. Its layout is not given (DESIGN CHOICE, log 160): SEQ, then the fields in the order of
R414, little-endian. -/
def imageRecBytes (x : ImageRec) : List Byte :=
  leBytes 4 x.seq.toNat ++ x.ids.flatMap (fun k => leBytes 8 k.toNat) ++ [u8 x.bank, u8 x.state] ++ leBytes 4 x.pointer
    ++ [u8 x.reverse.toNat]

/-- A copy is valid: its CRC-32 fits (R414). -/
def imageRecValid (x : ImageRec) : Bool := x.crc == u32 (crc32c (imageRecBytes x))

/-- The sequence number of a copy; one that was never written has none. -/
def copySeq (x : Option ImageRec) : Nat := (x.map fun y => y.seq.toNat + 1).getD 0

/-- The record that applies: the valid copy with the higher sequence number. -/
def imageRecord (s : State) : Option ImageRec :=
  let a := s.update.copyA.filter imageRecValid
  let b := s.update.copyB.filter imageRecValid
  if copySeq b < copySeq a then a else b

/-- The identities of the installed images, kinds 1 to 6 (Table 15-1). -/
def installedCommits (s : State) : List U64 :=
  (List.range 6).map fun k => u64 (imageIdentity (k + 1) (tget [] s.update.images (k + 1)))

/-- A new image record goes into the copy with the lower sequence number (R414). -/
def writeImageRecord (s : State) : State :=
  let u := s.update
  let x : ImageRec := {
    seq := u32 (max (copySeq u.copyA) (copySeq u.copyB)), ids := installedCommits s, bank := u.bank, state := u.state
    pointer := u.pointer, reverse := u.reverse, crc := 0 }
  let y := some { x with crc := u32 (crc32c (imageRecBytes x)) }
  { s with update := if copySeq u.copyA ≤ copySeq u.copyB then { u with copyA := y } else { u with copyB := y } }

/-- At a start the record that applies gives the update state, the bank, the pointer and the direction. -/
def applyImageRecord (s : State) : State :=
  match imageRecord s with
  | some x => { s with update := { s.update with state := x.state, bank := x.bank, pointer := x.pointer, reverse := x.reverse } }
  | none => s

/-- Event 70A0h and the new update state, with a new image record (R414, R418, R431). -/
def setUpdateState (s : State) (n : Nat) : State :=
  if s.update.state = n then s else
  bookEvent (writeImageRecord { s with update := { s.update with state := n, changedAt := s.now } }) 0x70A0 (u32 n)
    (u32 s.update.state) (u32 (s.update.pkgid.toNat % 2 ^ 32))

/-- R156: the program bank that holds the running pair becomes the installed one. -/
def switchBank (s : State) : State :=
  let old := [tget [] s.update.images 2, tget [] s.update.images 3]
  let new := s.update.otherBank
  { s with update := { s.update with
      images := tput [] (tput [] s.update.images 2 (new.getD 0 [])) 3 (new.getD 1 []),
      otherBank := old, bank := 1 - s.update.bank } }

/-- INSTALLED_RECORD_WRITTEN (R156): state None, event 7045h; the update becomes Confirmed (R418). -/
def execInstalledRecordWritten (t : Time) (s : State) : Host.Outcome State Fault Refusal :=
  at_ t s fun s =>
    if s.change.stateC ≠ 6 then s else
    let s1 := writeImageRecord <| switchBank { s with change := { s.change with stateC := 0, since := s.now } }
    let s2 := if s1.update.state = 4 then setUpdateState s1 8 else s1
    bookEvent s2 0x7045 s.cyc.number ((s.program.pair.map progLow).getD 0) 0

/-! ### Events and the Steward (R307, R308) -/

/-- The buses of 1120:01. -/
def eventBuses (s : State) : List HostBus :=
  let n := setting s 0x1120 1 3
  (if n.testBit 0 then [HostBus.hl1] else []) ++ (if n.testBit 1 then [.hl2] else [])

/-- The payload of an event frame. -/
def eventBytes (e : Event) : List Byte := [u8 e.kind, 0] ++ leBytes 2 e.eseq.toNat ++ [0, 0, 0, 0] ++ e.bytes

/-- An EKIND 6 event as soon as there is room (R307). -/
def reportDropped (s : State) : State :=
  if 0 < s.host.dropDue ∧ s.host.events.length < 256 then
    queueEvent { s with host := { s.host with dropDue := 0 } } 6 (leBytes 4 s.host.dropDue)
  else s

/-- EVENT_PUSH (R307): the oldest event goes out on every enabled bus; a bus in bus-off loses it. -/
def execEventPush (t : Time) (s : State) : Host.Outcome State Fault Refusal :=
  at_ t s fun s =>
    if stewardServes s = false then s else
    match s.host.events with
    | [] => s
    | e :: rest =>
      let s1 := { s with host := { s.host with events := rest } }
      reportDropped ((eventBuses s1).foldl (fun st b => sendHost st b 3 0 0 (eventBytes e)) s1)

/-- A channel after a restart: its transfer has ended and its authorisation is gone. -/
def restartChannel (x : ChannelSt) : ChannelSt :=
  { x with
    transfer := none, keySlot := none, challenge := none
    cut := match x.transfer with
      | some (.sending _ tid ..) => some tid
      | some (.receiving _ tid ..) => some tid
      | none => x.cut }

/-- A staged group after a restart: the shadow is discarded with state 3; an accepted commit stays accepted. -/
def restartGroup (x : GroupShadow) : GroupShadow :=
  if x.status = 1 then { x with status := 3, owner := none, shadow := [] } else x

/-- R370: the windows of the Steward's sources stop while it is not serving, and run again from zero. -/
def holdStewardWindows (s : State) (until' : Time) : State :=
  { s with constable := { s.constable with
      sources := tmap {} (fun n x =>
        if srcHandler n = 2 ∧ x.pending then { x with elapsed := 0, ticked := until' } else x)
        s.constable.sources } }

/-- What a restart ends (R308), the Steward serving again from `back` on. -/
def restartUntil (s : State) (back : Time) : State :=
  let s1 := holdStewardWindows s back
  let s2 := { s1 with host := { s1.host with
    channels := tmap {} (fun _ x => restartChannel x) s1.host.channels
    groups := tmap {} (fun _ x => restartGroup x) s1.host.groups
    events := [], eseq := 0, dropDue := 0, servingAt := back } }
  queueEvent s2 5 (leBytes 8 s.now)

/-- A restart: the Steward serves again within 2 s; when, is a free value. -/
def restartSteward (s : State) : State := restartUntil (draw s) (s.now + Config.free s.draws % (sec 2 + 1))

/-- STEWARD_RESTART (R308). -/
def execStewardRestart (t : Time) (s : State) : Host.Outcome State Fault Refusal :=
  at_ t s fun s => if s.host.serving then restartSteward s else s

end Sys2Proof.Machine
end

