-- ==== Sys2Proof/Machine/Bus.lean ====
section
/-!
DEFINITION. Machine/Bus.lean: the time-triggered bus (08): frames (R225 to R228), delays and synchronisation (R229 to R236), engine
states and coldstart (R237 to R240), positions and the guardian (R233, R244, R245), arbitration (R248), Split (R249, R250).
-/

namespace Sys2Proof.Machine

/-! ### Frames (R225, R226) -/

/-- Bytes 4 to 15 of a frame, the header of Table 08-2, and its body. -/
def busBytes (f : BusFrame) : List Byte :=
  leBytes 4 (f.ftype * 2 ^ 28 + chanNo f.chan * 2 ^ 27 + f.split.toNat * 2 ^ 26 + f.node * 2 ^ 16 + f.pos * 2 ^ 8 + f.bcyc * 4)
    ++ leBytes 4 (f.matrix.toNat * 2 ^ 16 + f.body.length)
    ++ leBytes 4 (f.sched.toNat * 2 ^ 16 + f.rank.toNat * 2 ^ 8 + f.flags.toNat) ++ f.body

/-- The link CRC (R226). -/
def busCrc (f : BusFrame) : Nat := crc 32 0x04C11DB7 0xFFFFFFFF true true 0xFFFFFFFF (busBytes f)

/-- The gap G of R225 in us. -/
def gapUs (rate : Nat) : Nat := if rate = 200 then 1 else if rate = 100 then 2 else 4

/-- The positions that a body of `len` bytes needs: preamble, header and CRC are 20 bytes more (R225, R226). -/
def frameSpan (rate len : Nat) : Nat := ceilDiv (8 * (len + 20) + gapUs rate * rate) (5 * rate)

/-- The module runs in Split, or in Safe State or Shutdown from Split, where the bus engines stay as they are (R344). -/
def inSplit (s : State) : Bool := s.modes.mode == .split || s.modes.splitRun

/-- The bit rate of a channel, or of a port in Split (R249). -/
def rateOn (s : State) (c : Chan) : Nat :=
  rateMbit ((s.station.map fun d => match c with
    | .a => d.cluster.rate
    | .b => if inSplit s then d.cluster.ratep else d.cluster.rate).getD 2)

/-- The own node number on a channel or port. -/
def nodeOn (s : State) (c : Chan) : Nat :=
  match c with
  | .a => s.bus.node
  | .b => if inSplit s then ((cluster? s).map fun x => x.nodep).getD 0x3FF else s.bus.node

/-- The own coldstart rank on a channel or port. -/
def rankOn (s : State) (c : Chan) : Option Nat :=
  match c with
  | .a => s.bus.rank
  | .b => if inSplit s then (cluster? s).bind fun x => x.rankp else s.bus.rank

/-- The schedule entry of a position on a channel. -/
def schedAt (s : State) (c : Chan) (b p : Nat) : SchedEntry :=
  match cluster? s, c with
  | some x, .a => tget freeEntry x.tableA (160 * b + p)
  | some x, .b => tget freeEntry x.tableB (160 * b + p)
  | none, _ => freeEntry

/-- SCHED as frames carry it: the low 16 bits. -/
def ownSched (s : State) : U16 := u16 (((cluster? s).map fun x => x.sched.toNat).getD 0)

/-- The two nodes of the zone's pair, or the own node. -/
def zoneNodes (s : State) : List Nat :=
  match cluster? s with
  | some x => if pairedZone s then [x.nodeA, x.nodeB] else [s.bus.node]
  | none => [s.bus.node]

/-- The port that a channel belongs to: outside Split one engine runs both channels (R249). -/
def portOf (s : State) (c : Chan) : Chan := if inSplit s then c else .a

/-- The engine of a channel. -/
def port (s : State) (c : Chan) : PortSt :=
  match portOf s c with
  | .a => s.bus.toPortSt
  | .b => s.bus.portB

/-- Change the engine of a channel. -/
def modPort (s : State) (c : Chan) (f : PortSt → PortSt) : State :=
  match portOf s c with
  | .a => { s with bus := { s.bus with toPortSt := f s.bus.toPortSt } }
  | .b => { s with bus := { s.bus with portB := f s.bus.portB } }

/-- The channels of a channel's engine. -/
def portChans (s : State) (c : Chan) : List Chan := if inSplit s then [c] else [.a, .b]

/-- The state of a channel's engine (Table 08-4). -/
def engineOn (s : State) (c : Chan) : Nat := (port s c).engine

/-- Enter an engine state; leaving Active starts the unsynchronised time of 1200:0D, which follows port A as the Belfry does, and ends a
time master's steering (R236). -/
def setEngine (s : State) (c : Chan) (n : Nat) : State :=
  let since := if n = 5 then 0 else if s.bus.engine = 5 then s.now else s.bus.unsyncFrom
  let s1 := if portOf s c = .a then
      { s with bus := { s.bus with unsyncFrom := since, steer := if n = 5 then s.bus.steer else 0 } }
    else s
  modPort s1 c fun p => { p with engine := n }

/-- The time master that a channel's engine has heard. -/
def masterOn (s : State) (c : Chan) : Option Nat := (port s c).master

/-- This node is the time master of the channel's cluster. -/
def isMaster (s : State) (c : Chan) : Bool := engineOn s c == 5 && masterOn s c == some (nodeOn s c)

/-- Note a time master; on port A a change of master is counted (1200:0A), and the steering of a node that is master no longer ends. -/
def setMaster (s : State) (c : Chan) (n : Nat) : State :=
  let changed := portOf s c == .a && (masterOn s c).any fun m => m != n
  let s1 := if changed then { s with bus := { s.bus with takeovers := s.bus.takeovers + 1, steer := 0 } } else s
  modPort s1 c fun p => { p with master := some n }

/-- One channel's record. -/
def chanBus (s : State) (c : Chan) : ChanSt := s.bus.ch.get c
/-- Change one channel's record. -/
def modBus (s : State) (c : Chan) (f : ChanSt → ChanSt) : State :=
  { s with bus := { s.bus with ch := s.bus.ch.set c (f (chanBus s c)) } }

/-- An expected length: timing frames have 16 bytes, and an exclusive frame fits the span of its entry (R226). What positions a frame of
another schedule occupies is not known here: R228 judges it. -/
def lengthFits (s : State) (f : BusFrame) : Bool :=
  let n := frameSpan (rateOn s f.chan) f.body.length
  let timing := f.ftype == 0 || f.ftype == 1 || f.ftype == 5 || f.ftype == 6
  (!timing || f.body.length == 16)
    && (if f.sched ≠ ownSched s then true
        else if f.pos < 160 then n ≤ (schedAt s f.chan f.bcyc f.pos).span
        else if f.pos = 160 then f.ftype ≤ 1
        else f.pos + n ≤ 200)

/-- A frame that R226 discards. -/
def linkBad (s : State) (f : BusFrame) : Bool :=
  !f.codeOk || f.crc.toNat != busCrc f || 8 ≤ f.ftype || !lengthFits s f

/-- Positions 161 to 199 that a frame of `len` body bytes fills count towards the arbitrating load (130x:09). -/
def noteBusy (s : State) (c : Chan) (p len : Nat) : State :=
  if 161 ≤ p then modBus s c fun x => { x with busy := x.busy + frameSpan (rateOn s c) len } else s

/-- The node has its own time, against which the acceptance window of R232 stands. -/
def hasTime (s : State) (c : Chan) : Bool := engineOn s c == 4 || engineOn s c == 5

/-- A frame on this channel has an expected arrival (R229): the node has its own time, and knows the channel's delay to the centre. -/
def expects (s : State) (c : Chan) : Bool := hasTime s c && (chanBus s c).delay.isSome

/-- A start within the acceptance window (R232). -/
def inWindow (f : BusFrame) : Bool := decide (-400 ≤ f.off) && decide (f.off ≤ 400)

/-- A valid frame of the peer's node in a PAIR position (R391); before admission after a PD4 restart it shows that the peer has taken over
(R359). -/
def notePeer (s : State) : State :=
  { s with
    bus := { s.bus with peerSeen := some s.now }
    twin := { s.twin with silent := false, peerTook := s.twin.peerTook || (s.twin.pd4Watch && s.bus.engine != 5) } }

/-- A received frame: discarded and counted by R226, R228 or R232, or counted as valid; a valid one ends the silence of its
channel, and one from the peer's node in a PAIR position is noted (R391, R403). `timed` is set where the acceptance window of R232
applies to frames that have an expected arrival (log 111). -/
def receive (s : State) (f : BusFrame) (timed : Bool) : State × Bool :=
  let c := f.chan
  if linkBad s f then (modBus s c fun x => { x with crcErrors := x.crcErrors + 1 }, false)
  else if f.sched ≠ ownSched s then
    let s1 := modBus s c fun x => { x with foreign := x.foreign + 1 }
    (modPort s1 c fun p => { p with foreignSeen := true, matrixOk := false }, false)
  else if timed ∧ expects s c ∧ inWindow f = false then (modBus s c fun x => { x with window := x.window + 1 }, false)
  else
    let s1 := noteBusy (modBus s c fun x => { x with valid := x.valid + 1, silent := 0, link := true }) c f.pos f.body.length
    let e := schedAt s c f.bcyc f.pos
    let peer := e.pair && (zoneNodes s).contains e.node && f.node != s.bus.node && f.pos < 160
    let s2 := if peer then notePeer s1 else s1
    let src := 80 + chanNo c
    (if (source s2 src).reported then withdraw s2 src else s2, true)

/-- A frame that a running engine receives: in Off nothing is received. -/
def hear (s : State) (f : BusFrame) (timed : Bool) : State × Bool :=
  if engineOn s f.chan = 0 then (s, false) else receive s f timed

/-- The blank of a frame that this node builds. -/
def ownFrame (ftype : Nat) (body : List Byte) : BusFrame :=
  { ftype := ftype, chan := .a, split := false, node := 0, pos := 0, bcyc := 0, matrix := 0, sched := 0, rank := 0xFF,
    flags := 0, body := body, crc := 0, codeOk := true, off := 0 }

/-- Cluster time on a channel: the Belfry, and in Split on port B the time of that port's own cluster (R249). -/
def clusterTime (s : State) (c : Chan) : Nat :=
  match portOf s c with
  | .a => s.now
  | .b => ((s.now : Int) + s.bus.portB.clusterOff).toNat

/-- The basic cycle in progress (1200:07): until the end of its position 199. -/
def currentBcyc (s : State) : Nat := if s.now < s.bus.turnAt then (s.bus.bcyc + 63) % 64 else s.bus.bcyc

/-- A frame with the header of the position it is sent in, and its CRC. A delay request carries the send instant as TSEND (R227). -/
def dress (s : State) (c : Chan) (b p : Nat) (f : BusFrame) : BusFrame :=
  let g := { f with
    chan := c, split := inSplit s, node := nodeOn s c, pos := p, bcyc := b, matrix := (port s c).matrix, sched := ownSched s
    rank := match rankOn s c with
      | some r => u8 r
      | none => 0xFF
    flags := busFlags (port s c) (nodeOn s c)
    body := if f.ftype = 5 then leBytes 8 (clusterTime s c) ++ List.replicate 8 0 else f.body }
  { g with crc := u32 (busCrc g) }

/-- Send a frame in a position. -/
def sendBus (s : State) (c : Chan) (b p : Nat) (f : BusFrame) : State :=
  let s1 := noteBusy (modBus s c fun x => { x with sent := x.sent + 1 }) c p f.body.length
  emit s1 (.busFrame c (dress s c b p f))

/-- Put a frame into the arbitrating queue of a channel. -/
def queueOn (s : State) (c : Chan) (f : BusFrame) : State := modBus s c fun x => { x with queue := x.queue ++ [⟨s.now, f⟩] }

/-- R247: the channel with the shorter queue, A when they are equal. -/
def queueFrame (s : State) (f : BusFrame) : State :=
  queueOn s (if s.bus.ch.b.queue.length < s.bus.ch.a.queue.length then .b else .a) f

/-! ### Grid of the vital cycle (R234, R235) -/

/-- The first cluster time from `t` on at which a vital cycle may start: a boundary of a basic cycle b with b mod (C / 1 ms) = OFFS. -/
def gridFrom (s : State) (t : Int) : Int :=
  let offs := ((cluster? s).map fun x => x.offs).getD 0
  t + (s.bus.origin + (ms offs : Int) - t) % (ms s.cyc.c : Int)

/-- The present instant is such a boundary. -/
def onGrid (s : State) : Bool := gridFrom s s.now == (s.now : Int)

/-- The cycle in progress ends at the first such boundary that lies at least C of elapsed time after its start, when cluster time is
`off` ahead of the Belfry (R235). -/
def stretchCycle (s : State) (off : Int) : State :=
  if s.cyc.running then
    { s with cyc := { s.cyc with endAt := some (gridFrom s ((s.cyc.begun + ms s.cyc.c : Nat) + off)).toNat } }
  else s

/-- A step of the Belfry by a signed time. -/
def stepTime (t : Time) (d : Int) : Time := ((t : Int) + d).toNat

/-- R235 at admission: a difference of more than 500 ns is removed by one step, after which the cycle in progress has still run as
long as before. -/
def admitTime (s : State) : State :=
  let d := s.bus.clusterOff
  let s1 := stretchCycle s d
  if -500 ≤ d ∧ d ≤ 500 then s1
  else { s1 with
    now := stepTime s1.now d
    cyc := { s1.cyc with begun := stepTime s1.cyc.begun d }
    bus := { s1.bus with
      steps := s1.bus.steps + 1, clusterOff := 0,
      lastStep := max (-2147483648) (min 2147483647 d) } }

/-! ### Entering engine states (R237, R238) -/

/-- PD4 comes up, or the engine loses its cluster: Listen (Table 08-4). -/
def enterListen (s : State) (c : Chan) : State :=
  modPort (setEngine s c 1) c fun p => { p with
    listenFrom := s.now, collided := 0, noSync := 0, missedRun := 0, limitRun := 0, observing := false }

/-- PD4 comes up again: Mute alone lasts until the next start of Kutia (Table 08-4). -/
def relisten (s : State) (c : Chan) : State := if engineOn s c = 7 then s else enterListen s c

/-- A channel whose delay is to be measured anew: what was measured and asked is gone. -/
def unmeasured (x : ChanSt) : ChanSt :=
  { x with delay := none, measured := [], asked := none, sentAt := none, queue := x.queue.filter fun q => q.frame.ftype != 5 }

/-- A valid coldstart or sync frame leads to Integrate: delays are measured anew. -/
def enterIntegrate (s : State) (c : Chan) : State :=
  let s1 := (portChans s c).foldl (fun st x => modBus st x unmeasured) (setEngine s c 3)
  modPort s1 c fun p => { p with noSync := 0, missedRun := 0, limitRun := 0, observing := false }

/-- Mute (R238): until the next start; source 83 with the own rank, why, and the other node. -/
def enterMute (s : State) (c : Chan) (why other : Nat) : State :=
  raise (setEngine s c 7) 83 (u32 ((rankOn s c).getD 0xFF)) (u32 why) (u32 other)

/-- DMAX in ns. -/
def dmaxNs (s : State) : Nat := ((cluster? s).map fun x => 10 * x.dmax).getD 0

/-- A delay above DMAX raises source 82, P2 = 1 (R230). -/
def delayTooLong (s : State) (c : Chan) : State := raise s 82 (i32 (port s c).deviation) 1 (u32 (chanNo c))

/-- A time master measures d from the readback of its own frame: the time from send to readback is 2d (R230). -/
def masterDelay (s : State) (c : Chan) (readback : Option Nat) : State :=
  match readback with
  | none => s
  | some n =>
    if dmaxNs s < n / 2 then delayTooLong s c
    else modBus s c fun x => { x with delay := some (n / 2), measured := [], asked := none }

/-- Clean readback: time master. The coldstart frame marks position 160 of basic cycle 63, so matrix 0 begins 200 us later. -/
def becomeMaster (s : State) (c : Chan) (read : Chan → Option Nat) : State :=
  let s1 := setMaster (setEngine s c 5) c (nodeOn s c)
  let s2 := (portChans s c).foldl (fun st x => masterDelay st x (read x)) s1
  let s3 := modPort s2 c fun p => { p with
    matrix := 0xFFFF, bcyc := 63, turnAt := 0, collided := 0, noSync := 0, missedRun := 0, limitRun := 0, clusterOff := 0
    origin := (s.now + us 200 : Nat) }
  if portOf s c = .a then stretchCycle s3 0 else s3

/-- A coldstart frame on the engine's channels at once: MATRIX FFFFh, BCYC 63, POS 160, CTIME its Belfry time. -/
def sendColdstart (s : State) (c : Chan) : State :=
  let f := ownFrame 1 (leBytes 8 s.now ++ List.replicate 8 0)
  (portChans s c).foldl (fun st x => sendBus st x 63 160 f) (modPort s c fun p => { p with matrix := 0xFFFF })

/-- One coldstart attempt with its readbacks (R238). -/
def coldstart (s : State) (c : Chan) (read : Chan → Option Nat) : State :=
  let s1 := modPort (setEngine s c 2) c fun p => { p with listenFrom := s.now }
  let s2 := sendColdstart s1 c
  if (portChans s c).all fun x => (read x).isSome then becomeMaster s2 c read
  else
    let s3 := modPort s2 c fun p => { p with collided := p.collided + 1 }
    if 3 ≤ (port s3 c).collided then enterMute s3 c 0 0x3FF else s3

/-- The readbacks of both channels: the time from send to readback, or none where it does not match what was sent. -/
def readOf (a b : Option Nat) : Chan → Option Nat
  | .a => a
  | .b => b

/-- LISTEN_END (R238): 128 ms + RANK x 1 ms of listening, coldstart-capable nodes only. -/
def execListenEnd (p : PortTime) (readA readB : Option Nat) (s : State) : Host.Outcome State Fault Refusal :=
  at_ p.t s fun s =>
    match rankOn s p.chan with
    | some r =>
      if engineOn s p.chan = 1 ∧ (port s p.chan).listenFrom + ms (128 + r) ≤ s.now then coldstart s p.chan (readOf readA readB) else s
    | none => s

/-- COLDSTART_RETRY (R238): (1 + RANK) ms after the collided frame. -/
def execColdstartRetry (p : PortTime) (readA readB : Option Nat) (s : State) : Host.Outcome State Fault Refusal :=
  at_ p.t s fun s =>
    match rankOn s p.chan with
    | some r =>
      if engineOn s p.chan = 2 ∧ 1 ≤ (port s p.chan).collided ∧ (port s p.chan).listenFrom + ms (1 + r) ≤ s.now then
        coldstart s p.chan (readOf readA readB)
      else s
    | none => s

/-- An engine that hears a valid coldstart or sync frame of another node (Table 08-4, R238). -/
def hearMaster (s : State) (f : BusFrame) : State :=
  let c := f.chan
  if f.node = nodeOn s c then s
  else match engineOn s c with
    | 1 | 2 => enterIntegrate (setMaster s c f.node) c
    | 5 => match rankOn s c with
      | some r => if f.rank.toNat = r then enterMute s c 1 f.node else s
      | none => s
    | _ => s

/-- COLDSTART_FRAME (R238). -/
def execColdstartFrame (t : Time) (f : BusFrame) (s : State) : Host.Outcome State Fault Refusal :=
  at_ t s fun s =>
    if f.ftype ≠ 1 then s else
    match hear s f true with
    | (s1, true) => hearMaster s1 f
    | (s1, false) => s1

/-! ### Synchronisation (R230, R231) -/

/-- A channel at the end of a basic cycle's sync position: its link falls after 8 silent basic cycles (130x:01). -/
def tickChan (x : ChanSt) : ChanSt :=
  { x with silent := x.silent + 1, link := x.link && decide (x.silent + 1 < 8), asked := x.asked.map fun n => n + 1 }

/-- The end of a basic cycle's sync position: silence, pending delay requests and foreign frames are counted by basic cycle. -/
def tickBasic (s : State) (c : Chan) : State :=
  let s1 := (portChans s c).foldl (fun st x => modBus st x tickChan) s
  modPort s1 c fun p => { p with
    bcyc := (p.bcyc + 1) % 64, turnAt := s.now + us 200, foreignRun := if p.foreignSeen then p.foreignRun + 1 else 0, foreignSeen := false }

/-- A sync frame on one channel. One outside the acceptance window is a window discard and tells nothing else than its deviation, which
R231 measures beyond the window too (log 111). -/
def hearSync (s : State) (f : BusFrame) : State × List BusFrame :=
  if f.ftype ≠ 0 ∨ engineOn s f.chan = 0 then (s, []) else
  match receive s f true with
  | (s1, true) => (hearMaster s1 f, [f])
  | (s1, false) => (s1, if linkBad s f = false ∧ f.sched = ownSched s then [f] else [])

/-- The deviation D of a basic cycle: one channel's, or the mean of both (R231). -/
def deviation (l : List BusFrame) : Int :=
  match l with
  | [x, y] => (x.off + y.off) / 2
  | [x] => x.off
  | _ => 0

/-- The correction -D, limited to 500 ns (R231). -/
def correction (d : Int) : Int := max (-500) (min 500 (-d))

/-- |D| above 500 ns. -/
def beyondLimit (d : Int) : Bool := d < -500 || 500 < d

/-- P3 of source 82: the channel of the frame; where both were averaged the manual names none. -/
def limitChannel (s : State) (l : List BusFrame) : U32 :=
  match l with
  | [x] => u32 (chanNo x.chan)
  | _ => u32 (Config.free s.draws)

/-- What the dictionary keeps of a deviation in Active (1202:05, 1202:06, 2C00:04): of port A's cluster, which the Belfry follows. -/
def noteDeviation (s : State) (c : Chan) (d : Int) : State :=
  if portOf s c = .b then s else
  { s with bus := { s.bus with
      worst := max s.bus.worst d.natAbs, corrSum := s.bus.corrSum + correction d
      limitHits := if beyondLimit d then s.bus.limitHits + 1 else s.bus.limitHits } }

/-- R231 in Active: correction, worst deviation, and two limit hits in a row. -/
def applyDeviation (s : State) (c : Chan) (l : List BusFrame) : State :=
  let d := deviation l
  let s1 := modPort (noteDeviation s c d) c fun p => { p with
    deviation := d, correction := correction d, limitRun := if beyondLimit d then p.limitRun + 1 else 0 }
  if 2 ≤ (port s1 c).limitRun then raise (setEngine (draw s1) c 6) 82 (i32 d) 0 (limitChannel s l) else s1

/-- A sync frame missed by the time master (1202:07). -/
def noteMissed (s : State) (c : Chan) : State :=
  if portOf s c = .a then { s with bus := { s.bus with missed := s.bus.missed + 1 } } else s

/-- A basic cycle without a valid sync frame. -/
def lackSync (s : State) (c : Chan) : State :=
  modPort (noteMissed s c) c fun p => { p with matrixOk := false, missedRun := p.missedRun + 1, noSync := p.noSync + 1 }

/-- A basic cycle without any sync frame applies no correction. -/
def missSync (s : State) (c : Chan) : State :=
  modPort (lackSync s c) c fun p => { p with correction := 0, limitRun := 0 }

/-- What a time master hears of the sync position: its own frame, read back clean, is the valid sync frame of the basic cycle. -/
def masterSync (s : State) (c : Chan) : State :=
  modPort s c fun p => { p with ownSync := false, noSync := if p.ownSync then 0 else p.noSync + 1 }

/-- The frames that the deviation is measured on: those of channels whose delay is known, and of these the valid ones where there is one
(R231, log 41). -/
def measuredOn (s : State) (l : List BusFrame) : List BusFrame :=
  let known := l.filter fun f => (chanBus s f.chan).delay.isSome
  let valid := known.filter inWindow
  if valid = [] then known else valid

/-- The deviation of a basic cycle acts: in Observe on the matrix, in Active as a correction. -/
def takeDeviation (s : State) (c : Chan) (l : List BusFrame) : State :=
  match engineOn s c, l with
  | _, [] => modPort s c fun p => { p with correction := 0 }
  | 4, _ => modPort s c fun p => { p with deviation := deviation l, matrixOk := p.matrixOk && !beyondLimit (deviation l) }
  | 5, _ => applyDeviation s c l
  | _, _ => s

/-- The frame that cluster time is taken from: on a channel whose delay is known, if there is one. -/
def timeFrame (s : State) (l : List BusFrame) : Option BusFrame :=
  (l.find? fun f => (chanBus s f.chan).delay.isSome).orElse fun _ => l.head?

/-- What the sync frames of a basic cycle tell: the place in the matrix, cluster time, the master, the deviation. CTIME is the cluster
time at which the frame passed the centre, d before it arrived here; a sync frame starts 800 us into its basic cycle. A frame outside the
acceptance window tells its deviation alone (log 111). -/
def takeSync (s : State) (c : Chan) (l : List BusFrame) : State :=
  match timeFrame s (l.filter fun f => !expects s f.chan || inWindow f) with
  | none =>
    if isMaster s c then masterSync s c
    else if l = [] then missSync s c
    else takeDeviation (lackSync s c) c (measuredOn s l)
  | some x =>
    let ctime := field x.body 0 8
    let d := (chanBus s x.chan).delay.getD 0
    let s1 := modPort (setMaster s c x.node) c fun p => { p with
      bcyc := (x.bcyc + 1) % 64, matrix := x.matrix, noSync := 0, missedRun := 0, ownSync := false
      synced := if engineOn s c = 4 then p.synced + 1 else p.synced
      clusterOff := (ctime : Int) + d - s.now, origin := (ctime : Int) - us 800 - ms x.bcyc }
    takeDeviation s1 c (measuredOn s l)

/-- SYNC_FRAME (R231): the sync position of a basic cycle, with what each channel of the engine delivered. -/
def execSyncFrame (p : PortTime) (fa fb : Option BusFrame) (s : State) : Host.Outcome State Fault Refusal :=
  at_ p.t s fun s =>
    if engineOn s p.chan = 0 then s else
    let frames := (portChans s p.chan).flatMap fun x => ((if x = .a then fa else fb).filter fun f => f.chan == x).toList
    let heard := frames.foldl (fun (a : State × List BusFrame) f =>
      let r := hearSync a.1 f
      (r.1, a.2 ++ r.2)) (tickBasic s p.chan, [])
    takeSync heard.1 p.chan heard.2

/-- A delay request of this node goes into the arbitrating queue (R230). -/
def askDelay (s : State) (c : Chan) : State :=
  modBus (queueOn s c (ownFrame 5 (List.replicate 16 0))) c fun x => { x with asked := none, sentAt := none }

/-- DELAY_REQUEST (R230): the time master answers with TPASS. The time of a node in Integrate is provisional, and its request has no
expected arrival. -/
def execDelayRequest (t : Time) (f : BusFrame) (tpass : Time) (s : State) : Host.Outcome State Fault Refusal :=
  at_ t s fun s =>
    match hear s f false with
    | (s1, true) =>
      if f.ftype = 5 ∧ isMaster s1 f.chan then
        queueOn s1 f.chan (ownFrame 6 (leBytes 8 tpass ++ leBytes 2 f.node ++ List.replicate 6 0))
      else s1
    | (s1, false) => s1

/-- The mean of the middle two of four measurements (R230). -/
def middleMean (l : List Nat) : Nat :=
  let x := l.mergeSort (fun p q => decide (p ≤ q))
  (x.getD 1 0 + x.getD 2 0) / 2

/-- One measurement of d on a channel. Above DMAX: source 82, P2 = 1. The fourth gives d, and leads from Integrate to
Observe. -/
def measure (s : State) (c : Chan) (d : Nat) : State :=
  let s1 := modBus s c fun x => { x with asked := none, sentAt := none }
  if dmaxNs s < d then delayTooLong s1 c
  else
    let l := (chanBus s c).measured ++ [d]
    if l.length < 4 then modBus s1 c fun x => { x with measured := l }
    else
      let s2 := modBus s1 c fun x => { x with delay := some (middleMean l), measured := [] }
      if engineOn s2 c = 3 then modPort (setEngine s2 c 4) c fun p => { p with observing := false, matrixOk := false } else s2

/-- The initial offset of a joining node: TPASS is the cluster time at which its request passed the centre, d after TSEND (R230). -/
def takeOffset (s : State) (c : Chan) (tpass tsend d : Nat) : State :=
  if engineOn s c = 3 then modPort s c fun p => { p with clusterOff := (tpass : Int) - (tsend + d : Nat) } else s

/-- DELAY_RESPONSE (R230): the round trip from send to readback is 2d. A frame that names the other channel is none of the channel it
arrives on. -/
def execDelayResponse (t : Time) (chan : Chan) (f : BusFrame) (s : State) : Host.Outcome State Fault Refusal :=
  at_ t s fun s =>
    if f.chan ≠ chan then s else
    match hear s f true with
    | (s1, true) =>
      match (chanBus s1 f.chan).sentAt with
      | some (tsend, trip) =>
        if f.ftype = 6 ∧ field f.body 8 2 = nodeOn s1 f.chan ∧ (chanBus s1 f.chan).asked.isSome then
          measure (takeOffset s1 f.chan (field f.body 0 8) tsend (trip / 2)) f.chan (trip / 2)
        else s1
      | none => s1
    | (s1, false) => s1

/-- DELAY_REQUEST_RETRY (R230): no response within 2 basic cycles. -/
def execDelayRequestRetry (t : Time) (chan : Chan) (s : State) : Host.Outcome State Fault Refusal :=
  at_ t s fun s =>
    if (chanBus s chan).asked.any (fun n => 2 ≤ n) ∧ (engineOn s chan = 3 ∨ engineOn s chan = 5) then askDelay s chan else s

/-! ### Losing and regaining the master (R237, R240) -/

/-- NO_SYNC_TIMEOUT (Table 08-4): 8 basic cycles without a valid sync frame. -/
def execNoSyncTimeout (p : PortTime) (s : State) : Host.Outcome State Fault Refusal :=
  at_ p.t s fun s =>
    if 3 ≤ engineOn s p.chan ∧ engineOn s p.chan ≤ 5 ∧ 8 ≤ (port s p.chan).noSync then
      modPort (enterListen s p.chan) p.chan fun x => { x with master := none }
    else s

/-- The sync frame of a time master in position 160 (R238), with the time of its cluster. -/
def syncBody (s : State) (c : Chan) : BusFrame := ownFrame 0 (leBytes 8 (clusterTime s c) ++ List.replicate 8 0)

/-- SYNC_TAKEOVER (R240): in basic cycle k + 1 + r after the second missed sync frame in k, unless another node was heard; on the
channels whose delay is measured (R237). -/
def execSyncTakeover (p : PortTime) (s : State) : Host.Outcome State Fault Refusal :=
  at_ p.t s fun s =>
    match rankOn s p.chan with
    | some r =>
      if engineOn s p.chan = 5 ∧ isMaster s p.chan = false ∧ (port s p.chan).missedRun = 2 + r then
        let old := (masterOn s p.chan).getD 0x3FF
        let s1 := modPort (setMaster s p.chan (nodeOn s p.chan)) p.chan fun y => { y with
          missedRun := 0, noSync := 0, ownSync := true }
        let s2 := ((portChans s p.chan).filter fun x => (chanBus s x).delay.isSome).foldl (fun st x =>
          sendBus st x (port st p.chan).bcyc 160 (syncBody st x)) s1
        raise s2 87 (u32 (nodeOn s p.chan)) (u32 old) (u32 (port s p.chan).matrix.toNat)
      else s
    | none => s

/-- PASSIVE_REJOIN (Table 08-4): the next basic cycle. -/
def execPassiveRejoin (p : PortTime) (s : State) : Host.Outcome State Fault Refusal :=
  at_ p.t s fun s => if engineOn s p.chan = 6 then enterIntegrate s p.chan else s

/-- GUARDIAN_SUPPRESSION (R233): the attempt is suppressed, and a node that was sending or joining re-joins. The guardian's own schedule
and macrotick are the module's, so that a difference from them enters as this command. -/
def execGuardianSuppression (t : Time) (chan : Chan) (bcyc : Fin 64) (pos : Fin 200) (s : State) :
    Host.Outcome State Fault Refusal :=
  at_ t s fun s =>
    if engineOn s chan = 0 then s else
    let s1 := if 2 ≤ engineOn s chan ∧ engineOn s chan ≤ 5 then setEngine s chan 6 else s
    raise s1 84 (u32 pos.val) (u32 bcyc.val) (u32 (chanNo chan))

/-- FOREIGN_SCHEDULE_DETECTED (R228): the frame of the 64th consecutive basic cycle. -/
def execForeignScheduleDetected (t : Time) (f : BusFrame) (s : State) : Host.Outcome State Fault Refusal :=
  at_ t s fun s =>
    let s1 := (hear s f false).1
    if engineOn s f.chan ≠ 0 ∧ linkBad s f = false ∧ f.sched ≠ ownSched s ∧ 63 ≤ (port s f.chan).foreignRun then
      raise (modPort s1 f.chan fun p => { p with foreignRun := 0 }) 86 (u32 f.node) (u32 f.sched.toNat)
        (u32 (ownSched s).toNat)
    else s1

/-- CHANNEL_DOWN (R251): 8 basic cycles without a valid frame while Active. -/
def execChannelDown (t : Time) (chan : Chan) (s : State) : Host.Outcome State Fault Refusal :=
  at_ t s fun s =>
    if engineOn s chan = 5 ∧ 8 ≤ (chanBus s chan).silent then
      raise (modBus s chan fun x => { x with link := false }) (80 + chanNo chan) (u32 (nodeOn s chan)) (u32 (engineOn s chan))
        (u32 (port s chan).matrix.toNat)
    else s

/-- R236: a time master with SYNCIN = 1 steers towards the pulses: slower when cluster time is ahead of the second, faster when it is
behind, by at most 0.2 ppm; by how much, the manual leaves open: a free value, in 0.001 ppm. -/
def steerTo (s : State) : State :=
  let phase := s.now % sec 1
  let rate : Int := (Config.free s.draws % 201 : Nat)
  let s1 := draw s
  { s1 with bus := { s1.bus with steer := if phase = 0 then 0 else if phase < ms 500 then -rate else rate } }

/-- SYNC_IN_PULSE (R236). -/
def execSyncInPulse (t : Time) (s : State) : Host.Outcome State Fault Refusal :=
  at_ t s fun s =>
    let s1 := { s with bus := { s.bus with pulses := s.bus.pulses + 1 } }
    if isMaster s1 .a ∧ ((cluster? s1).any fun x => x.syncin) then steerTo s1 else s1

/-! ### Positions (R233, R244, R245) -/

/-- The module may send in a position of this entry: its own node, or its pair's while it is the active module and has not seen its peer
take over (R359). -/
def ownsEntry (s : State) (c : Chan) (e : SchedEntry) : Bool :=
  if e.pair then (zoneNodes s).contains e.node && s.twin.role == .active && !s.twin.peerTook else e.node == nodeOn s c

/-- Modes and roles in which Kutia sends no session frame of any kind (R256, Table 12-2). -/
def sessionSilent (s : State) : Bool :=
  s.twin.role == .standby || (match s.modes.mode with
    | .off | .start | .standby | .safeState | .shutdown => true
    | _ => false)

/-- What stands ready for an exclusive entry: a down frame, a telegram, a non-vital frame. DESIGN CHOICE (log 156): a body that is handed to
the bus names no receiver, and the oldest non-vital frame goes out whatever PEER the entry names. -/
def readyFor (s : State) (c : Chan) (e : SchedEntry) : Option BusFrame :=
  if sessionSilent s ∧ e.kind ≠ 5 then none else
  match e.kind with
  | 2 => let b := tget [] s.bus.telegrams (512 + e.peer); if b = [] then none else some (ownFrame 3 b)
  | 4 => ((slotsInUse s).find? fun k => k.2.node == e.peer && tget [] s.bus.telegrams k.1 != []).map fun k =>
      ownFrame 2 (tget [] s.bus.telegrams k.1)
  | 5 => ((chanBus s c).queue.map Queued.frame).find? fun f => f.ftype == 4
  | _ => none

/-- The readback of a frame in a PAIR position (R407): differing basic cycles in a row. -/
def notePair (s : State) (b : Nat) (ok : Bool) : State :=
  if ok then s else
  let at' := s.bus.matrix.toNat * 64 + b
  let run := if s.bus.diffAt = some at' then s.bus.diffRun
    else if s.bus.diffAt.any (fun x => (x + 1) % (65536 * 64) == at') then s.bus.diffRun + 1 else 1
  { s with bus := { s.bus with diffRun := run, diffAt := some at' } }

/-- Remove the first queued frame that equals `f`. -/
def dropSent (s : State) (c : Chan) (f : BusFrame) : State :=
  modBus s c fun x => { x with queue := x.queue.eraseP fun q => q.frame == f }

/-- The guardian's window over `span` positions closes 400 ns before their end: a frame of `len` body bytes that is still being sent then is
cut (R233). -/
def guardianCuts (rate len span : Nat) : Bool := decide ((5000 * span - 400) * rate < 8000 * (len + 20))

/-- An exclusive position of this node. A frame that the guardian cuts is lost; a non-vital one is not sent again (R247). -/
def sendExclusive (s : State) (c : Chan) (b p : Nat) (ok : Bool) : State :=
  let e := schedAt s c b p
  match if ownsEntry s c e then readyFor s c e else none with
  | none => s
  | some f =>
    let s1 := if f.ftype = 4 then dropSent s c f else s
    if guardianCuts (rateOn s c) f.body.length e.span then modBus s1 c fun x => { x with cuts := x.cuts + 1 }
    else
      let s2 := sendBus s1 c b p f
      if e.pair then notePair s2 b ok else s2

/-- The first matrix boundary at least 2 ms after a position (R264). -/
def openingMatrix (s : State) (b p : Nat) : U16 :=
  if ms 2 ≤ ms (64 - b) - us (5 * p) then s.bus.matrix + 1 else s.bus.matrix + 2

/-- The slot that an ACCEPT names, if a frame is one. -/
def acceptSlot (f : BusFrame) : Option Nat := if f.ftype = 7 ∧ f.body.headD 0 = 2 then some (field f.body 18 2) else none

/-- Slots in use, and their peak since the start (16E0:03). -/
def notePeak (s : State) : State :=
  { s with sessions := { s.sessions with peak := max s.sessions.peak (slotsInUse s).length } }

/-- The promise for a slot is taken back. -/
def dropPromise (s : State) (k : Nat) : State :=
  { s with sessions := { s.sessions with promised := s.sessions.promised.filter fun x => x.slot != k } }

/-- An ACCEPT is being sent: it names its matrix boundary, and the same one when it is sent again (R264). Once it has gone out clean, its
slot is Opening (Table 09-1). -/
def stampAccept (s : State) (b p : Nat) (f : BusFrame) (ok : Bool) : State × BusFrame :=
  match acceptSlot f with
  | none => (s, f)
  | some k =>
    let named := fun (m : U16) => { f with body := f.body.take 36 ++ leBytes 2 m.toNat ++ f.body.drop 38 }
    match s.sessions.promised.find? fun x => x.slot == k with
    | none => (s, named (sess s k).opensAt)
    | some x =>
      let m := openingMatrix s b p
      (if ok then notePeak (modSess (dropPromise s k) k fun _ => { x.sess with opensAt := m, stamped := true }) else s, named m)

/-- What a clean arbitrating frame leaves: its wait (130x:0A), and of a delay request its TSEND and the time to its readback. The time
master needs no response to its own request: the readback is the measurement. -/
def sentClean (s : State) (c : Chan) (f : BusFrame) (trip : Nat) : State :=
  let wait := (((chanBus s c).queue.find? fun q => q.frame == f).map fun q => s.now - q.since).getD 0
  let s1 := modBus (dropSent s c f) c fun x => { x with
    tries := 0, backoff := 0, waitSum := x.waitSum + wait, waits := x.waits + 1 }
  if f.ftype ≠ 5 then s1
  else if isMaster s1 c then measure s1 c (trip / 2)
  else modBus s1 c fun x => { x with asked := some 0, sentAt := some (s.now, trip) }

/-- The 16th collision drops a frame (R248); an ACCEPT that is dropped was never sent. -/
def dropFrame (s : State) (c : Chan) (f : BusFrame) : State :=
  let s1 := modBus (dropSent s c f) c fun x => { x with drops := x.drops + 1, tries := 0, backoff := 0 }
  match acceptSlot f with
  | some k => dropPromise s1 k
  | none => s1

/-- The generator of a channel's back-off, seeded with NODE and MATRIX (R248). -/
def backoffDraw (s : State) (c : Chan) : Nat := Config.backoff (nodeOn s c) (port s c).matrix.toNat s.draws

/-- An arbitrating frame goes out in a position: clean, or a collision with its back-off; the 16th drops it (R248). -/
def sendArbitrating (s : State) (c : Chan) (b p : Nat) (f : BusFrame) (readback : Option Nat) : State :=
  let a := stampAccept s b p f readback.isSome
  let s1 := sendBus a.1 c b p a.2
  match readback with
  | some trip => sentClean s1 c f trip
  | none =>
    let n := (chanBus s1 c).tries + 1
    let s2 := modBus s1 c fun x => { x with collisions := x.collisions + 1, tries := n }
    if 16 ≤ n then dropFrame s2 c f
    else modBus (draw s2) c fun x => { x with backoff := backoffDraw s2 c % 2 ^ min n 6 }

/-- This node has exclusive positions for its non-vital frames on a channel (KIND 5). -/
def ownsNonVital (s : State) (c : Chan) : Bool :=
  (cluster? s).any fun x => (match c with
    | .a => x.tableA
    | .b => x.tableB).any fun e => e.2.kind == 5 && ownsEntry s c e.2

/-- An opening frame may go out: not while Kutia sends no session frame, but for the CLOSE frames of a Shutdown (R355). -/
def opensNow (s : State) (f : BusFrame) : Bool := !sessionSilent s || (s.modes.mode == .shutdown && f.body.headD 0 == 4)

/-- The frame that may go out next in the arbitrating span: in Integrate, and on a channel whose delay is not known, only a
delay request (R230, R237); of the non-vital frames, those that have no exclusive position (R248). -/
def nextArbitrating (s : State) (c : Chan) : Option BusFrame :=
  let x := chanBus s c
  (x.queue.map Queued.frame).find? fun f =>
    if engineOn s c = 5 ∧ x.delay.isSome then (f.ftype != 7 || opensNow s f) && (f.ftype != 4 || !ownsNonVital s c)
    else f.ftype == 5

/-- The last arbitrating position open to this node: 199 in Active, 180 in Integrate, none elsewhere (R230, R233). -/
def arbitratingTop (s : State) (c : Chan) : Nat :=
  match engineOn s c with
  | 5 => 199
  | 3 => 180
  | _ => 0

/-- A frame of `len` body bytes may start in position `p`: the guardian's span is open, and the frame ends within it (R248). -/
def arbitratingFits (s : State) (c : Chan) (p len : Nat) : Bool :=
  161 ≤ p && p + frameSpan (rateOn s c) len ≤ arbitratingTop s c + 1

/-- An arbitrating position: a first attempt, or one position of the back-off. -/
def arbitrate (s : State) (c : Chan) (b p : Nat) (readback : Option Nat) : State :=
  let x := chanBus s c
  let asks := x.delay.isNone && x.asked.isNone && x.queue.all fun q => q.frame.ftype != 5
  let s1 := if asks then askDelay s c else s
  if 0 < x.tries then modBus s1 c fun y => { y with backoff := y.backoff - 1 }
  else match nextArbitrating s1 c with
    | some f => if arbitratingFits s1 c p f.body.length then sendArbitrating s1 c b p f readback else s1
    | none => s1

/-- Frames held for an output position of a Split gateway, received at least 10 us ago (R250): in a position that the output table gives
this module, cut where it is longer than the guardian's window (R233). -/
def forwardOut (s : State) (c : Chan) (b p : Nat) : State :=
  let l := ((cluster? s).map fun x => x.fwd).getD []
  let e := schedAt s c b p
  let mine := (List.range l.length).filter fun k => (l[k]?).any fun e => e.inport != c && e.obcyc == b && e.opos == p
  if ownsEntry s c e = false then s else
  mine.foldl (fun st k =>
    match tget none st.bus.fwdHeld k with
    | some h =>
      if st.now < h.since + us 10 then st
      else
        let st0 := { st with bus := { st.bus with fwdHeld := tput none st.bus.fwdHeld k none } }
        if guardianCuts (rateOn st c) h.body.length e.span then modBus st0 c fun x => { x with cuts := x.cuts + 1 }
        else
          let st1 := sendBus st0 c b p (ownFrame h.ftype h.body)
          { st1 with bus := { st1.bus with forwarded := st1.bus.forwarded + 1 } }
    | none => st) s

/-- Non-vital frames that are handed to the bus since the last position (R247): each goes to one channel. -/
def takeOffered (s : State) (offered : List (List Byte)) : State :=
  if inSplit s then s else offered.foldl (fun st l => queueFrame st (ownFrame 4 l)) s

/-- The sync position of a time master, which measures d from its own readback (R230, R237). -/
def sendSync (s : State) (c : Chan) (b : Nat) (readback : Option Nat) : State :=
  if isMaster s c ∧ (chanBus s c).delay.isSome then
    let s1 := masterDelay (sendBus s c b 160 (syncBody s c)) c readback
    if readback.isSome then modPort s1 c fun p => { p with ownSync := true } else s1
  else s

/-- The place of a port in the matrix at a position that it is told of: past the sync position the next basic cycle stands ready. -/
def placeAt (s : State) (b p : Nat) (x : PortSt) : PortSt :=
  if p < 160 then { x with bcyc := b, turnAt := 0 }
  else if p = 160 then (if x.bcyc = (b + 1) % 64 then x else { x with bcyc := b, turnAt := 0 })
  else { x with bcyc := (b + 1) % 64, turnAt := s.now + us (5 * (200 - p)) }

/-- TRANSMIT_POSITION (R245): what this node sends in a position, within the guardian's window. `readback` is the time from send to
readback, none where the readback differs from what was sent. -/
def execTransmitPosition (t : Time) (chan : Chan) (bcyc : Fin 64) (pos : Fin 200) (x : Sending) (s : State) :
    Host.Outcome State Fault Refusal :=
  at_ t s fun s =>
    let b := bcyc.val
    let p := pos.val
    if engineOn s chan = 0 then s else
    let s1 := modPort (takeOffered s x.offered) chan (placeAt s b p)
    if p < 160 then
      if engineOn s1 chan ≠ 5 ∨ (chanBus s1 chan).delay.isNone then s1
      else if inSplit s1 then forwardOut s1 chan b p
      else sendExclusive s1 chan b p x.readback.isSome
    else if p = 160 then sendSync s1 chan b x.readback
    else if arbitratingTop s1 chan = 0 then s1
    else arbitrate s1 chan b p x.readback

/-- ARBITRATION_RETRY (R248): the back-off has ended. -/
def execArbitrationRetry (t : Time) (chan : Chan) (bcyc : Fin 64) (pos : Fin 200) (readback : Option Nat) (s : State) :
    Host.Outcome State Fault Refusal :=
  at_ t s fun s =>
    let x := chanBus s chan
    match if 0 < x.tries ∧ x.backoff = 0 then nextArbitrating s chan else none with
    | some f =>
      if arbitratingFits s chan pos.val f.body.length then sendArbitrating s chan bcyc.val pos.val f readback else s
    | none => s

/-- FORWARD_FRAME (R250): a frame in the input position of a forwarding entry; a newer one replaces an older one. A port takes frames to
forward in Active only (R237). -/
def execForwardFrame (t : Time) (f : BusFrame) (s : State) : Host.Outcome State Fault Refusal :=
  at_ t s fun s =>
    match hear s f true with
    | (s1, true) =>
      let l := ((cluster? s1).map fun x => x.fwd).getD []
      let mine := (List.range l.length).filter fun k =>
        (l[k]?).any fun e => e.inport == f.chan && e.ibcyc == f.bcyc && e.ipos == f.pos
      if inSplit s1 = false ∨ engineOn s1 f.chan ≠ 5 then s1 else
      mine.foldl (fun st k =>
        let older := (tget none st.bus.fwdHeld k).isSome
        { st with bus := { st.bus with
            replaced := if older then st.bus.replaced + 1 else st.bus.replaced
            fwdHeld := tput none st.bus.fwdHeld k (some ⟨st.now, f.ftype, f.body⟩) } }) s1
    | (s1, false) => s1

/-- NON_VITAL_FRAME (R247): received once, on one channel; its body is free to the sender. -/
def execNonVitalFrame (t : Time) (f : BusFrame) (s : State) : Host.Outcome State Fault Refusal :=
  at_ t s fun s => (hear s f true).1

/-- MULTI_PARTNER_DOWN_FRAME (R272): received and counted. Its slices are for object controllers, and Kutia's own sessions with
those receive vital telegrams (Table 09-2): no slice is for this module. -/
def execMultiPartnerDownFrame (t : Time) (f : BusFrame) (s : State) : Host.Outcome State Fault Refusal :=
  at_ t s fun s => (hear s f true).1

/-- TWO_ACTIVE_DETECTED (R407): two consecutive basic cycles; the module at POS_B enters Safe State by source 122. -/
def execTwoActiveDetected (t : Time) (bcyc : Fin 64) (pos : Fin 200) (s : State) : Host.Outcome State Fault Refusal :=
  at_ t s fun s =>
    if 2 ≤ s.bus.diffRun ∧ s.twin.role = .active ∧ pairedZone s ∧ atPosA s = false then
      raise { s with bus := { s.bus with diffRun := 0, diffAt := none } } 122 (u32 s.host.position) (u32 bcyc.val) (u32 pos.val)
    else s

end Sys2Proof.Machine
end

