-- ==== Sys2Proof/Machine/Health.lean ====
section
/-!
DEFINITION. Machine/Health.lean: ageing of the lanes (R433 to R438), wear (R439 to R441), lifetime counters (R443) and the
trace port (R444 to R446).
-/

namespace Sys2Proof.Machine

/-! ### Rings -/

/-- The power domain of a lane (Table 12-8). -/
def laneDomain : Lane → Nat
  | .a => 1
  | .b => 2
  | .l => 3

/-- The domain that holds the lane is on. -/
def lanePowered (s : State) (ln : Lane) : Bool := (tget {} s.modes.domains (laneDomain ln)).state == 2

/-- R434: a period normalised to 55 degrees and VNOM, in ps; `temp` in 0.1 degree, supply in mV. -/
def normalise (ln ring pm : Nat) (temp : Int) (mv : Nat) : Int :=
  let v : Int := Config.vnom
  let unit : Int := 10000000 * v
  let den := unit + Config.ringKt ln ring * (temp - 550) * v - Config.ringKv ln ring * 10000 * (mv - v)
  (pm : Int) * unit / den

/-- The added delay of a ring in 0.01%. -/
def ringDelta (ln ring : Nat) (pn : Int) : Int :=
  (pn - Config.ringP0 ln ring) * 10000 / Config.ringP0 ln ring

/-- The median of a list, the mean of the two middle values for an even count. -/
def median (l : List Int) : Int :=
  let x := l.mergeSort (fun p q => decide (p ≤ q))
  let n := x.length
  if n = 0 then 0
  else if n % 2 = 1 then x.getD (n / 2) 0 else (x.getD (n / 2 - 1) 0 + x.getD (n / 2) 0) / 2

/-- T outside 0 to 100 degrees or V outside VNOM +-5% lies outside the calibration. -/
def inCalibration (temp : Int) (mv : Nat) : Bool :=
  0 ≤ temp && temp ≤ 1000 && 95 * Config.vnom ≤ 100 * mv && 100 * mv ≤ 105 * Config.vnom

/-- R436: the projected slow-corner margin in 0.1% for a worst-case time of `twc` us. -/
def projectedMargin (twc span : Nat) (delta : Int) : Nat :=
  ((11500 * span * 1000 - twc * (10000 + delta) * 1000) / (11500 * span)).toNat

/-- The Logic span in us (Table 04-1). -/
def logicSpan (c : Nat) : Nat := c * 1000 - 2500

/-- TWC of the variant that a Mill runs. -/
def twcOf (s : State) : Lane → Option Nat
  | .a => s.program.pair.map fun p => p.va.twc
  | .b => s.program.pair.map fun p => p.vb.twc
  | .l => none

/-- The lane's added delay: the largest daily mean over its valid rings (R435). A lane that has no reading of the day keeps its last
one (DESIGN CHOICE, log 122). -/
def laneDelta (h : HealthSt) : Int :=
  let means := (List.range 8).filterMap fun k =>
    match h.sums[k]? with
    | some (sum, n) => if h.valid.getLsbD k ∧ 0 < n then some (sum / n) else none
    | none => none
  match means with
  | [] => h.delta
  | m :: rest => rest.foldl max m

/-- Replace one lane's health record. -/
def setHealth (s : State) (ln : Lane) (h : HealthSt) : State :=
  { s with age := { s.age with lanes := s.age.lanes.set ln h } }

/-- 2701 + l:05 (R436): the projected margin of the installed program, FFFFh for the Loom and before the first reading. -/
def laneMargin (s : State) (ln : Lane) : Nat :=
  let h := s.age.lanes.get ln
  match twcOf s ln with
  | some w => if h.deltas = [] then 0xFFFF else projectedMargin w (logicSpan s.cyc.c) h.delta
  | none => 0xFFFF

/-- RING_MEASUREMENT (R433, R434). A lane that is off or clamped gives no reading, and none crosses while crossing 2 is Stopped. -/
def execRingMeasurement (t : Time) (ln : Lane) (temp : Int) (mv : Nat) (periods : List Nat) (s : State) :
    Host.Outcome State Fault Refusal :=
  at_ t s fun s =>
    let h := s.age.lanes.get ln
    let k := laneNo ln
    if lanePowered s ln = false ∨ crossRuns s 2 = false then s
    else if inCalibration temp mv = false then
      setHealth s ln { h with discarded := h.discarded + 1, temp := temp, mv := mv }
    else
      let pns := (List.range 8).map fun r => normalise k r (periods.getD r 0) temp mv
      let deltas := (List.range 8).map fun r => ringDelta k r (pns.getD r 0)
      let mid := median (((List.range 8).filter fun r => h.valid.getLsbD r).map fun r => deltas.getD r 0)
      let bad := (List.range 8).filter fun r =>
        h.valid.getLsbD r && (300 < deltas.getD r 0 - mid || 300 < mid - deltas.getD r 0)
      let valid := bad.foldl (fun v r => setBit v r false) h.valid
      let sums := (List.range 8).map fun r =>
        let old := h.sums.getD r (0, 0)
        (old.1 + deltas.getD r 0, old.2 + 1)
      let h1 := { h with
        temp := temp, mv := mv, periods := pns.map Int.toNat, deltas := deltas, valid := valid, sums := sums }
      bad.foldl (fun st r => raiseHealth st 127 0 (u32 k) (u32 r)) (setHealth s ln { h1 with delta := laneDelta h1 })

/-! ### Logarithm and exponential of R437, in 10^-18 -/

/-- The unit. -/
def fixOne : Nat := 10 ^ 18

/-- The next terms of z + z^3/3 + z^5/5 + …: how many, the denominator, the power of z; `sq` is z squared. -/
def oddSeries (sq : Nat) : Nat → Nat → Nat → Nat
  | 0, _, _ => 0
  | n + 1, k, p => p / k + oddSeries sq n (k + 2) (p * sq / fixOne)

/-- ln m for 1 ≤ m ≤ 2, by z = (m - 1) / (m + 1). -/
def lnMantissa (m : Nat) : Nat :=
  let z := (m - fixOne) * fixOne / (m + fixOne)
  2 * oddSeries (z * z / fixOne) 40 1 z

/-- ln a of a whole number from 1 on. -/
def lnWhole (a : Nat) : Nat := lnMantissa (a * fixOne / 2 ^ a.log2) + a.log2 * lnMantissa (2 * fixOne)

/-- The next terms of the exponential series: how many, the index, the present term. -/
def expSeries (y : Nat) : Nat → Nat → Nat → Nat
  | 0, _, _ => 0
  | n + 1, k, p => p + expSeries y n (k + 1) (p * y / (k * fixOne))

/-- e^y for y up to 30. -/
def expFix (y : Nat) : Nat := expSeries y 160 1 fixOne

/-! ### The estimate (R437) -/

/-- The least-squares slope of ln delta against ln t, where every point has both logarithms; else open. -/
def fitSlope (l : List (Nat × Int)) : Int :=
  let pts : List (Int × Int) := l.map fun p => ((lnWhole p.1 : Int), (lnWhole p.2.toNat : Int))
  let total := fun (f : Int × Int → Int) => pts.foldl (fun n p => n + f p) 0
  let n : Int := pts.length
  let sx := total fun p => p.1
  let sy := total fun p => p.2
  let den := n * total (fun p => p.1 * p.1) - sx * sx
  if (l.all fun p => decide (0 < p.1) && decide (0 < p.2)) && den != 0 then
    (n * total (fun p => p.1 * p.2) - sx * sy) * fixOne / den
  else Config.fitExponent l

/-- tE - t0 in months of 730 h, for a delay below 15% and an exponent above 0: tE = t0 * (15 / delta0)^(1 / n). Beyond e^30 times t0 every
result exceeds the range. -/
def monthsTo (t0 : Nat) (delta n : Int) : Nat :=
  if delta ≤ 0 then Config.monthsFrom t0 delta n else
  let y := (lnWhole 1500 - lnWhole delta.toNat) * fixOne / n.toNat
  if 30 * fixOne < y then 65534 else t0 * (expFix y - fixOne) / (730 * fixOne)

/-- R437: the months that an exponent leaves, with the readings FFFFh, FFFEh and 0; `t0` is the powered time in hours. -/
def monthsLeft (h : HealthSt) (t0 : Nat) (n : Int) : Nat :=
  if h.history.length < 30 then 0xFFFF
  else if 1500 ≤ h.delta then 0
  else if n ≤ 0 ∨ 65533 < monthsTo t0 h.delta n then 0xFFFE
  else monthsTo t0 h.delta n

/-- R437: a lane's estimate from its history, at the hours of the newest point; the exponent reads in 0.001, rounded down, and 0 while no
fit is made. -/
def estimate (h : HealthSt) (t0 : Nat) : HealthSt :=
  let n := fitSlope h.history
  { h with
    exponent := if h.history.length < 30 then 0 else min 65535 (n.toNat * 1000 / fixOne)
    months := monthsLeft h t0 n, bound := monthsLeft h t0 (Config.fitUpper h.history) }

/-- A powered day has passed since the lane's newest history point. -/
def dayPassed (h : HealthSt) (hours : Nat) : Bool := ((h.history.getLast?.map fun p => p.1).getD 0) / 24 < hours / 24

/-- R438: source 124 while a lane's bound is below 24 months. -/
def judgeLife (s : State) : State :=
  let near := allLanes.filter fun ln => (s.age.lanes.get ln).bound < 24
  match near with
  | [] => if (source s 124).asserted then withdraw s 124 else s
  | ln :: _ =>
    let h := s.age.lanes.get ln
    raiseHealth s 124 (u32 (laneNo ln)) (u32 h.bound) (i32 h.delta)

/-- HISTORY_POINT (R435, R437): once per powered day one point for each lane, and the estimate afresh. -/
def execHistoryPoint (t : Time) (s : State) : Host.Outcome State Fault Refusal :=
  at_ t s fun s =>
    let hours := s.age.counters.getD 0 0 / 3600
    let point := fun (h : HealthSt) =>
      if dayPassed h hours = false then h else
      let l := h.history ++ [(hours, laneDelta h)]
      estimate { h with history := if 7300 < l.length then l.drop 1 else l, delta := laneDelta h, sums := [] } hours
    judgeLife { s with age := { s.age with lanes := s.age.lanes.map point } }

/-! ### Wear of the outputs -/

/-- The voted change of an output from 0 to 1 counts one operation (R441). -/
def countOperation (s : State) (d : Nat) : State :=
  let n := s.age.ops.getD d 0 + 1
  let ops := (List.range 24).map fun k => if k = d then n else s.age.ops.getD k 0
  let r := s.age.ratings.getD d 0
  let s1 := { s with age := { s.age with ops := ops } }
  if r = 0 then s1 else
  let s2 := if 10 * n = 9 * r ∨ (9 * r < 10 * n ∧ 10 * (n - 1) < 9 * r)
    then bookEvent s1 0x70C0 (u32 d) (u32 n) (u32 r) else s1
  if r = n then raiseHealth s2 126 (u32 d) (u32 n) (u32 r) else s2

/-- A write of 2722:01 (R441): the replaced output's count restarts. -/
def writeCountReset (s : State) (ch : Nat) (value : U8) : Write :=
  refuseUnless (value.toNat < 24) 0x0230 <|
  let d := value.toNat
  let ops := (List.range 24).map fun k => if k = d then 0 else s.age.ops.getD k 0
  let s1 := bookEvent { s with age := { s.age with ops := ops, lastReset := value } } 0x70C1 (u32 d)
    (u32 (s.age.ops.getD d 0)) (u32 ch)
  .ok (if (source s 126).asserted ∧ (source s 126).params.getD 0 0 = u32 d then withdraw s1 126 else s1)

/-- COUNT_RESET (R441, 2722:01). -/
def execCountReset (t : Time) (ch : Fin 8) (value : U8) (s : State) : Host.Outcome State Fault Refusal :=
  writeAt t s ch.val fun s => needAuth s ch.val fun s => writeCountReset s ch.val value

/-! ### Counters -/

/-- The counters of 2900:01 to 0E, as the capture holds them after the cycle number. -/
def captureBytes (s : State) : List Byte :=
  leBytes 4 s.cyc.number.toNat ++ [0, 0, 0, 0] ++ (List.range 14).flatMap fun k => leBytes 8 (s.age.counters.getD k 0)

/-- A write of 2901:01 (R443). -/
def writeCapture (s : State) (value : U8) : Write :=
  refuseUnless (value == 1) 0x0230 <| .ok { s with age := { s.age with capDue := true } }

/-- CAPTURE (R443, 2901:01): the set is captured at the next vote. -/
def execCapture (t : Time) (ch : Fin 8) (value : U8) (s : State) : Host.Outcome State Fault Refusal :=
  writeAt t s ch.val fun s => writeCapture s value

/-- The powered seconds since the last update join 2900:01. -/
def tickPowered (s : State) : State :=
  let n := s.now / sec 1 - s.age.savedAt / sec 1
  let s1 := countUp s 1 n
  { s1 with age := { s1.age with savedAt := s.now } }

/-- COUNTER_SAVE (R443): the running set is written to PD0. -/
def execCounterSave (t : Time) (s : State) : Host.Outcome State Fault Refusal :=
  at_ t s fun s =>
    if s.modes.mode = .off then s else
    let s1 := tickPowered s
    { s1 with age := { s1.age with saved := s1.age.counters } }

/-! ### Trace -/

/-- A trace record as it goes out (Table 16-2). The CRC-8 is over bytes 0 to 14 and goes last (DESIGN CHOICE, log 123). -/
def traceBytes (r : TraceRec) : List Byte :=
  let body := leBytes 2 r.tseq.toNat ++ [0, u8 (r.kind * 16 + r.lane * 4)] ++ leBytes 4 r.time.toNat ++ leBytes 4 r.p1.toNat
    ++ leBytes 3 r.p2.toNat
  body ++ [u8 (crc 8 7 0 false false 0 body)]

/-- The phase of the cycle in progress, as a KIND 1 record names it (Table 16-3). -/
def phaseNo (s : State) : Nat :=
  if s.now < logicStart s then 0 else if s.now < votePoint s then 1 else if s.now < issueStart s then 2 else 3

/-- P1 and P2 of a record: a KIND 1 record's are the cycle number, the mode and the phase; what a lane retires or decides comes with
the record. -/
def traceWords (s : State) (kind : Nat) (p1 : U32) (p2 : BitVec 24) : U32 × BitVec 24 :=
  if kind = 1 then (s.cyc.number, BitVec.ofNat 24 (modeCode s.modes.mode * 4 + phaseNo s)) else (p1, p2)

/-- The port runs: it is enabled, and PD7 is up (R444). -/
def portRuns (s : State) : Bool := s.age.traceOn && (tget {} s.modes.domains 7).state == 2

/-- The records that the port sends on its own while it runs: 160 ns each, from the time it is free (R444). -/
def traceDrain (s : State) : State :=
  let a := s.age
  if portRuns s = false ∨ s.now < a.portFree then s else
  let k := min a.fifo.length ((s.now - a.portFree) / 160 + 1)
  { s with age := { a with fifo := a.fifo.drop k, portFree := a.portFree + 160 * k, sentRecs := a.sentRecs + u64 k },
           out := s.out ++ (a.fifo.take k).map fun r => Output.traceRec (traceBytes r) }

/-- Put one record in the FIFO, or send it at once when the port is idle. -/
def tracePut (s : State) (kind lane : Nat) (p1 : U32) (p2 : BitVec 24) : State :=
  let a := s.age
  let r : TraceRec := ⟨kind, lane, a.tseq, u32 s.now, p1, p2⟩
  let since := if kind = 0 then 0 else a.sinceSync + 1
  let a1 := { a with tseq := a.tseq + 1, sinceSync := since, syncs := if kind = 0 then a.syncs + 1 else a.syncs }
  if a.fifo = [] ∧ a.portFree ≤ s.now then
    { s with age := { a1 with portFree := s.now + 160, sentRecs := a1.sentRecs + 1 }, out := s.out ++ [.traceRec (traceBytes r)] }
  else { s with age := { a1 with fifo := a1.fifo ++ [r], peak := max a1.peak (a1.fifo.length + 1) } }

/-- 2910:01 is written (R444): what the port could send until now has gone out, and a port that is started is free from now on. -/
def setTrace (s : State) (on : Bool) : State :=
  let s1 := traceDrain s
  { s1 with age := { s1.age with traceOn := on, portFree := if s.age.traceOn then s1.age.portFree else max s1.age.portFree s.now } }

/-- The KIND 0 record of Table 16-3. -/
def traceSync (s : State) : State :=
  tracePut s 0 3 (u32 (s.now / 2 ^ 32)) (BitVec.ofNat 24 s.cyc.number.toNat)

/-- Trace records are taken while PD7 is up and the port enabled, of the kinds and lanes that 2910 enables; a lane's also need
crossing 13 (Table 11-6). The port itself writes those of KIND 0 and KIND 7. -/
def traceTaken (s : State) (kind : Nat) (ln : Option Lane) : Bool :=
  portRuns s && kind != 7 && (kind == 0 || s.age.kinds.getLsbD kind)
    && ln.all fun x => s.age.laneMask.getLsbD (laneNo x) && crossRuns s 13

/-- The KIND 7 record: how many records found no room, and of which kinds. -/
def traceLost (s : State) : State :=
  if s.age.dropNew = 0 then s else
  let s1 := if s.age.kinds.getLsbD 7 then tracePut s 7 3 (u32 s.age.dropNew) (BitVec.ofNat 24 s.age.dropKinds.toNat) else s
  { s1 with age := { s1.age with dropNew := 0, dropKinds := 0 } }

/-- TRACE_RECORD (R445): into the FIFO of 16,384 records, 256 of them kept for KIND 6, or dropped and counted. A KIND 7
record precedes the first record that finds room again, and a KIND 0 record every 255 others and an empty FIFO. -/
def execTraceRecord (t : Time) (kind : Fin 16) (ln : Option Lane) (p1 : U32) (p2 : BitVec 24) (s : State) :
    Host.Outcome State Fault Refusal :=
  at_ t s fun s =>
    if traceTaken s kind.val ln = false then s else
    let s1 := traceDrain s
    let room := decide (s1.age.fifo.length < if kind.val = 6 then 16384 else 16384 - 256)
    if room = false then
      { s1 with age := { s1.age with dropped := s1.age.dropped + 1, dropNew := s1.age.dropNew + 1,
                                     dropKinds := setBit s1.age.dropKinds kind.val true } }
    else
      let s2 := traceLost s1
      if kind.val = 0 then traceSync s2 else
      let s3 := if s2.age.fifo = [] ∨ 255 ≤ s2.age.sinceSync then traceSync s2 else s2
      let w := traceWords s kind.val p1 p2
      tracePut s3 kind.val ((ln.map laneNo).getD 3) w.1 w.2

end Sys2Proof.Machine
end

