-- ==== Sys2Proof/Machine/Vote.lean ====
section
/-!
DEFINITION. Machine/Vote.lean: the vote (R49 to R56), the digests' judgement (R57 to R61, R467), misses and overrun (R112 to R114),
and what a vote's generic outcome is: requests served in stamp order (R77, R135), route transitions (R82), throws and groups.
-/

namespace Sys2Proof.Machine

/-! ### The vote point -/

/-- The lanes in the vote: not excluded, and delivered by the vote point (R49). -/
def onTime (s : State) : List Lane := (voters s).filter fun ln => (s.lanes.get ln).delivered.isSome

/-- The vote phase of the present cycle has come and has not been run. -/
def voteDue (s : State) : Bool := s.cyc.running && !s.cyc.voted && s.cyc.phase != 2 && decide (votePoint s ≤ s.now)

/-! ### Serving in stamp order (R77, R135) -/

/-- A request of a cycle: a host command or a cross-zone REQ. -/
inductive Request where
  | host (c : Command)
  | zone (q : RxRecord)
  deriving DecidableEq, Repr

/-- Stamp, kind (host commands first), target. -/
def Request.key : Request → Nat × Nat × Nat
  | .host c => (c.stamp, 0, c.target)
  | .zone q => (q.stamp, 1, q.body.rroute)

/-- The first request is served before the second. -/
def Request.before (p q : Request) : Bool :=
  let (a, b, c) := p.key
  let (x, y, z) := q.key
  a < x || (a == x && (b < y || (b == y && c < z)))

/-- Insert a request behind those that are served before it or tie with it. -/
def insertRequest (p : Request) : List Request → List Request
  | [] => [p]
  | q :: rest => if p.before q then p :: q :: rest else q :: insertRequest p rest

/-- The requests of the cycle in the order in which they are served. -/
def requests (s : State) : List Request :=
  let l := s.cyc.taken.map Request.host
    ++ (s.cyc.snap.records.filter fun q => q.msg == 1).map Request.zone
  l.foldl (fun acc p => insertRequest p acc) []

/-- One request served. -/
def serveOne (s : State) : Request → State
  | .zone q => serveReq s q
  | .host c =>
    match c.opcode.toNat with
    | 1 => serveSet s c
    | 2 => serveCancel s c
    | 3 => serveEmergency s c
    | _ => serveElement s c

/-! ### The generic outcome -/

/-- The report items of an accepted telegram, for every element bound to the partner (R271). -/
def takeReports (s : State) (q : Nat) (y : Sess) (payload : List Byte) : State :=
  (elements s).foldl (fun st e =>
    if e.2.remote ∧ e.2.bind1.partner = some q ∧ e.2.bind1.obj < reportRange y.payload then
      modElem st e.1 fun z => { z with report := some (u16 (field payload (4 + 2 * e.2.bind1.obj) 2)) }
    else st) s

/-- The report items of the snapshot's telegrams take effect, in arrival order. -/
def applyMail (s : State) : State :=
  s.cyc.snap.mail.foldl (fun st m =>
    let y := sess st m.slot
    if y.state = 2 then takeReports st (y.partner.getD 0xFFFF) y m.payload else st) s

/-- Timers, group readings and detection of this vote: what every lane takes from the snapshot. -/
def prepareVote (s0 : State) : State :=
  let s := applyMail s0
  let s1 := tickThrows (tickSlots { s with commons := { s.commons with freed := [] } })
  let s2 := (groupsIn s1).foldl (fun st p => tickGroup st p.1 p.2) s1
  voteReports (detectBoundaries (detectAll s2))

/-- The slots whose overlap timer had expired at an earlier vote. -/
def expiredOverlaps (s : State) : List Nat := ((slotList s).filter fun p => p.2.ovlTimer == some 0).map fun p => p.1

/-- One vote of the route in a slot. -/
def voteSlot (expired : List Nat) (s : State) (k : Nat) : State :=
  match (slotSt s k).route with
  | none => s
  | some r =>
    let s1 := voteRoute s r
    match (slotSt s1 k).route, route? s1 r with
    | some _, some x => voteOverlap s1 r k x (expired.contains k)
    | _, _ => s1

/-- What the generic principles make of the snapshot: requests, records of neighbours, transitions, section resets. DESIGN CHOICE
(log 98): the records other than REQ follow all requests, whatever their stamps; a REFUSE stands before a GRANT, as in Table 03-3. -/
def genericOutcome (expired : List Nat) (s : State) : State :=
  let s1 := (requests s).foldl serveOne s
  let rest := s1.cyc.snap.records.filter fun q => q.msg != 1
  let s2 := (rest.filter (fun q => q.msg == 3) ++ rest.filter fun q => q.msg != 3).foldl serveRecord s1
  let s3 := ((slotList s2).map fun p => p.1).foldl (voteSlot expired) s2
  (elements s3).foldl (fun st o => if o.2.kind = 0 then voteSectionReset st o.1 o.2 else st) s3

/-! ### Proposals of the lanes (R50) -/

/-- What a lane proposes in place of the generic outcome. -/
def devOf (s : State) (ln : Lane) : List Deviation := ((s.lanes.get ln).delivered.map fun d => d.dev).getD []

/-- A lane's generic class for a signal. -/
def propG (s : State) (e base : Nat) (ln : Lane) : Nat :=
  ((devOf s ln).findSome? fun d => match d with
    | .gclass n g => if n = e then some g else none
    | _ => none).getD base

/-- A lane's movement for an element. -/
def propMove (s : State) (e : Nat) (base : Move) (ln : Lane) : Move :=
  ((devOf s ln).findSome? fun d => match d with
    | .movement n m => if n = e then some m else none
    | _ => none).getD base

/-- A lane's next state of a route. -/
def propRoute (s : State) (r base : Nat) (ln : Lane) : Nat :=
  ((devOf s ln).findSome? fun d => match d with
    | .route n x _ _ => if n = r then some x else none
    | _ => none).getD base
/-- The result code and reference that a deviating lane proposes for a route (R81). -/
def propResult (s : State) (r : Nat) (ln : Lane) : Option (U8 × U32) :=
  (devOf s ln).findSome? fun d => match d with
    | .route n _ code ref => if n = r then some (code, ref) else none
    | _ => none

/-- A lane's release of a claim. -/
def propRelease (s : State) (r e : Nat) (base : Bool) (ln : Lane) : Bool :=
  ((devOf s ln).findSome? fun d => match d with
    | .release n m x => if n = r ∧ m = e then some x else none
    | _ => none).getD base

/-- `agreed` of R53 to R55: two of three, both of two, or the fallback. -/
def agreed {α : Type} [DecidableEq α] (l : List α) (fallback : α) : α :=
  match l with
  | [x, y, z] => if x = y ∨ x = z then x else if y = z then y else fallback
  | [x, y] => if x = y then x else fallback
  | _ => fallback

/-- No value is agreed: the item falls back. -/
def fellBack {α : Type} [DecidableEq α] (l : List α) : Bool :=
  match l with
  | [x, y, z] => decide (x ≠ y ∧ x ≠ z ∧ y ≠ z)
  | [x, y] => decide (x ≠ y)
  | _ => false

/-- R51: the median of three classes, the smaller of two. -/
def permission (l : List Nat) : Nat :=
  match l with
  | [x, y, z] => max (min x y) (min (max x y) z)
  | [x, y] => min x y
  | [x] => x
  | _ => 0

/-- R53: the voted movement; A and B in different directions hold the point. -/
def votedMove (f : Lane → Move) (lanes : List Lane) : Move :=
  if lanes.contains .a ∧ lanes.contains .b ∧ f .a ≠ .hold ∧ f .b ≠ .hold ∧ f .a ≠ f .b then .hold
  else agreed (lanes.map f) .hold

/-- A and B conflict in direction. -/
def conflict (f : Lane → Move) (lanes : List Lane) : Bool :=
  lanes.contains .a && lanes.contains .b && f .a != .hold && f .b != .hold && f .a != f .b

/-! ### Signals (R50 to R52) -/

/-- G of a signal by the routes that are Cleared from it. -/
def genericClass (s : State) (e : Nat) : Nat :=
  ((slotList s).filterMap fun p => (route? s (p.2.route.getD 0)).bind fun x =>
    if x.contin = false ∧ x.entry = e ∧ slotState s p.2 = 5 then some x.maxcls else none).foldl max 0

/-- R52: a Mill's code clipped to the permission. -/
def clip (p : Profile) (perm : Nat) (code : U8) : U8 :=
  match classOf p code with
  | none => (p.aspect.getD 0 []).headD 0
  | some c => if perm < c then (p.aspect.getD perm []).headD 0 else code

/-- Codes in order: by class, then by position in the class list. -/
def codeRank (p : Profile) (code : U8) : Nat := (p.aspect.flatten.findIdx? fun x => x == code).getD 0

/-- The lowest of the clipped codes in the vote. -/
def lowestCode (p : Profile) (l : List U8) : U8 :=
  match l with
  | [] => (p.aspect.getD 0 []).headD 0
  | x :: xs => xs.foldl (fun best y => if codeRank p y < codeRank p best then y else best) x

/-- The detail code that a Mill proposes: its own, and the first code of class 0 where it has none, as while the program does not
execute (R129). -/
def detailOf (s : State) (x : Element) (e : Nat) (ln : Lane) : U8 :=
  match (s.lanes.get ln).delivered.bind fun d => d.details.find? fun p => p.1 == e with
    | some p => p.2
    | none => stopCode s x

/-- The voted permission and detail of one signal. A lane that does not deviate has the class that its own proposed route states give
(R50): that of the generic outcome `post`, whatever the vote makes of the routes. -/
def voteSignal (post : State) (lanes : List Lane) (s : State) (e : Nat) (x : Element) : State :=
  match profile? s x.profile with
  | none => s
  | some p =>
    let perm := permission (lanes.map (propG s e (genericClass post e)))
    let mills := lanes.filter fun ln => ln != .l
    let codes := mills.map (detailOf s x e)
    let shown := lowestCode p (codes.map (clip p perm))
    let differ := mills.length == 2 && codes.head? != codes.getLast?
    let s1 := modElem s e fun y => { y with perm := perm, detail := shown, cls := (classOf p shown).getD 0 }
    if differ then { s1 with vote := { s1.vote with details := s1.vote.details + 1 } } else s1

/-! ### Judging the lanes (R59 to R61) -/

/-- The items that some lane deviates in. -/
def contested (s : State) (lanes : List Lane) : List Deviation := (lanes.flatMap (devOf s)).eraseDups

/-- A lane's value of an item as a number, the generic outcome's otherwise. `post` is the generic outcome. -/
def itemValue (s post : State) (d : Deviation) (ln : Lane) : Nat :=
  match d with
  | .gclass e _ => propG s e (genericClass post e) ln
  | .movement e _ => moveNo (propMove s e (moveProposal post e) ln)
  | .route r _ _ _ => propRoute s r (routeSt post r).state ln
  | .detail _ _ | .claim _ _ | .boundary _ _ => 0
  | .release r e _ =>
    let base := match slotOfRoute s r with
      | some k => (slotSt s k).held.contains e && !((slotOfRoute post r).any fun j => (slotSt post j).held.contains e)
      | none => false
    (propRelease s r e base ln).toNat

/-- The element or route number of an item. -/
def itemNumber : Deviation → Nat
  | .gclass e _ => e
  | .movement e _ => e
  | .route r _ _ _ => r
  | .release _ e _ => e
  | .detail e _ => e
  | .claim e _ => e
  | .boundary r _ => r

/-- The two other lanes. -/
def others : Lane → Lane × Lane
  | .a => (.b, .l)
  | .b => (.a, .l)
  | .l => (.a, .b)

/-- The lane's last delivered generic digest. -/
def digestOf (s : State) (ln : Lane) : U64 := ((s.lanes.get ln).delivered.map fun d => d.gdigest.value).getD 0
/-- The lane's last delivered program digest. -/
def programDigest (s : State) (ln : Lane) : U64 := ((s.lanes.get ln).delivered.map fun d => d.pdigest.value).getD 0

/-- The first item in which a lane differs from what the two others propose in common. -/
def differingItem (s post : State) (ln : Lane) : Option Deviation :=
  let (x, y) := others ln
  (contested s allLanes).find? fun d =>
    itemValue s post d x == itemValue s post d y && itemValue s post d ln != itemValue s post d x

/-- R59: with three lanes, a lane disagrees by its digest or by a proposal. -/
def disagrees (s post : State) (ln : Lane) : Bool :=
  let (x, y) := others ln
  (digestOf s x == digestOf s y && digestOf s ln != digestOf s x) || (differingItem s post ln).isSome

/-- R60: no single lane can be identified. -/
def isSplit (s post : State) (lanes : List Lane) : Bool :=
  match lanes with
  | [x, y, z] => digestOf s x != digestOf s y && digestOf s x != digestOf s z && digestOf s y != digestOf s z
  | [x, y] => digestOf s x != digestOf s y || (contested s lanes).any fun d => itemValue s post d x != itemValue s post d y
  | _ => false

/-- R61: both Mills are in the vote and their program digests differ. -/
def programSplits (s : State) (lanes : List Lane) : Bool :=
  lanes.contains .a && lanes.contains .b && programDigest s .a != programDigest s .b

/-- The split and program streaks after this vote. -/
def judgeStreaks (s post : State) (lanes : List Lane) : State :=
  { s with vote := { s.vote with
      split := if isSplit s post lanes then s.vote.split + 1 else 0,
      prog := if programSplits s lanes then s.vote.prog + 1 else 0 } }

/-- The disagreement streak of every lane in the vote (R59), 3 at most. DESIGN CHOICE (log 100): with two lanes no lane can be found in
disagreement, and both streaks are 0. -/
def judgeLanes (s pre post : State) (lanes : List Lane) : State :=
  if lanes.length ≠ 3 then
    lanes.foldl (fun st ln => modLane st ln fun x => { x with streak := 0, judged := false }) s
  else lanes.foldl (fun st ln => modLane st ln fun x =>
    if disagrees pre post ln then
      { x with streak := min 3 (x.streak + 1), judged := true,
               differing := match differingItem pre post ln with
                 | some d => u32 (itemNumber d)
                 | none => none32 }
    else { x with streak := 0, judged := false }) s

/-- R113: the miss window of a lane that is not excluded. -/
def countMiss (x : LaneSt) : LaneSt := { x with misses := (x.delivered.isNone :: x.misses).take 64 }

/-! ### Where the lanes do not agree with the generic outcome -/

/-- The results of a route's commands are withdrawn: those decided at this vote, or with `own` those of the commands served in it. -/
def withdrawResults (pre s : State) (r : Nat) (own : Bool) : State :=
  let mine := fun (x : ResultRec) => !own || s.cyc.taken.any fun c => c.hseq == x.hseq && c.opcode == x.opcode && c.target == r
  let kept := s.cyc.decided.filter fun x =>
    x.target.toNat != r || 3 < x.opcode.toNat || pre.cyc.decided.contains x || !mine x
  { s with cyc := { s.cyc with decided := kept, live := if own then s.cyc.live else s.cyc.live.map fun c =>
    if c.target = r ∧ c.opcode.toNat ≤ 3 then { c with given := 0, final := false } else c } }

/-- The commands for a route that were served in this cycle get one result in place of what was decided. -/
def giveResults (s : State) (r : Nat) (code : U8) (ref : U32) : State :=
  (s.cyc.taken.filter fun c => c.target == r && c.opcode.toNat ≤ 3).foldl (fun st c =>
    answer (modCmd st c fun d => { d with given := 0, final := false }) c code ref (code != 0)) s

/-- R81: the result is the code of the first lane, in the order A, B, L, whose proposed state is the voted one; 11h with FFFFFFFFh where
no lane proposed it. A lane that does not deviate proposes the generic result, which stands only with the generic state. -/
def replaceResults (pre s : State) (r voted : Nat) (lanes : List Lane) (base : Nat) : State :=
  match lanes.find? fun ln => propRoute pre r base ln == voted with
  | none => giveResults (withdrawResults pre s r false) r 0x11 none32
  | some ln => match propResult pre r ln with
    | none => s
    | some (code, ref) => giveResults (withdrawResults pre s r (voted == base)) r code ref

/-- The boundary records about a route that this vote has queued, of the MSGs that `drop` names, are taken back: they told of an outcome
that was not voted. -/
def unqueue (pre : State) (drop : Nat → Bool) (s : State) (r : Nat) : State :=
  let go := fun (k : Nat) (y : Sess) =>
    let n := (sess pre k).records.length
    { y with records := y.records.take n ++ (y.records.drop n).filter fun m => !(m.2.sroute == r && drop m.1) }
  { s with sessions := { s.sessions with slots := tmap {} go s.sessions.slots } }

/-- A REQ that was granted at this vote and whose route stays Idle is refused (R99) with the code of the first lane that proposed so, else
with 11h (R81). -/
def refuseUngranted (pre : State) (lanes : List Lane) (s : State) (r : Nat) : State :=
  match (s.cyc.snap.records.filter fun q => q.msg == 1 && q.body.rroute == r).getLast? with
  | some q =>
    let granted := (((sess s q.slot).records.drop (sess pre q.slot).records.length).any fun m => m.1 == 2 && m.2.sroute == r)
    let code := ((lanes.findSome? (propResult pre r)).map fun x => x.1.toNat).getD 0x11
    let b := q.body
    let reply : BoundaryRec := { relem := b.selem, rroute := b.sroute, token := b.token, cstate := 0, rcode := code - 0x10
                                 sroute := b.rroute, selem := b.relem }
    let s1 := unqueue pre (fun _ => true) s r
    if granted then modSess s1 q.slot fun y => { y with records := y.records ++ [(3, reply)] } else s1
  | none => unqueue pre (fun _ => true) s r

/-- A third state that is voted: the STATE record of a granted continuation carries it (R99), and a REQ is sent for Requested alone. -/
def writeThird (pre s : State) (r voted : Nat) : State :=
  let s1 := unqueue pre (fun m => m == 1 || m == 4) s r
  let s2 := modRoute s1 r fun x => { x with state := voted, changed := s.now, movedAt := some s.cyc.number }
  match route? s r, slotOfRoute s r with
  | some x, some k =>
    if x.contin ∧ (slotSt s k).granted then sendRecord s2 x 4 (contRecord s r x (slotSt s k) voted) else s2
  | _, _ => s2

/-- A route whose voted state is its previous one stays as it was before the vote (R54), and sends nothing of another outcome; a third
state is written alone. -/
def keepRoute (pre : State) (lanes : List Lane) (s : State) (r voted : Nat) : State :=
  let base := (routeSt s r).state
  let old := routeSt pre r
  let s2 :=
    if voted = base then s
    else if voted ≠ old.state then writeThird pre s r voted
    else
      let s1 := match old.slot, (routeSt s r).slot with
        | some k, _ => { s with commons := { s.commons with
            slots := tput {} s.commons.slots k (slotSt pre k), freed := s.commons.freed.filter fun j => j != k } }
        | none, some k => { s with commons := { s.commons with slots := tput {} s.commons.slots k {} } }
        | none, none => s
      modRoute (refuseUngranted pre lanes s1 r) r fun _ => old
  replaceResults pre s2 r voted lanes base

/-- The routes that some lane deviates in, each with its voted state. -/
def voteRouteStates (pre : State) (lanes : List Lane) (s : State) : State :=
  let l := ((contested pre lanes).filterMap fun d => match d with
    | .route r _ _ _ => some r
    | _ => none).eraseDups
  l.foldl (fun st r => keepRoute pre lanes st r
    (agreed (lanes.map (propRoute pre r (routeSt s r).state)) (routeSt pre r).state)) s

/-- The groups whose release takes an element's claim: those of its entries, 63 for the overlap (R91). -/
def groupsOf (x : Route) (e : Nat) : List Nat :=
  (x.list.filter fun y => y.elem == e).map fun y => if y.ckind == 1 then 63 else y.rgroup

/-- R55: a claim whose release is not agreed is kept, its group counts as before and its RELEASE or CANCEL is not sent; one that two lanes
release is released. -/
def voteClaim (pre : State) (lanes : List Lane) (s : State) (r e : Nat) : State :=
  match slotOfRoute pre r with
  | none => s
  | some k =>
    let was := (slotSt pre k).held.contains e
    let free := was && !((slotOfRoute s r).any fun j => (slotSt s j).held.contains e)
    let voted := agreed (lanes.map (propRelease pre r e free)) false
    if was = false ∨ voted = free then s
    else if voted then
      idleWhenEmpty (dropClaims s r k [e]) r k
    else
      let rest := ((slotOfRoute s r).map fun j => (slotSt s j).held).getD []
      let s1 := keepRoute pre lanes s r (routeSt pre r).state
      let s2 := if (route? s r).any fun x => x.exit == e then unqueue pre (fun m => m == 5 || m == 6) s1 r else s1
      let again := ((route? s r).map fun x => groupsOf x e).getD []
      modSlot s2 k fun y => { y with
        held := (slotSt pre k).held.filter fun n => n == e || rest.contains n
        released := again.foldl (fun v g => setBit v g ((slotSt pre k).released.getLsbD g)) y.released }

/-- The claims that some lane deviates in. -/
def voteClaims (pre : State) (lanes : List Lane) (s : State) : State :=
  let l := ((contested pre lanes).filterMap fun d => match d with
    | .release r e _ => some (r, e)
    | _ => none).eraseDups
  l.foldl (fun st p => voteClaim pre lanes st p.1 p.2) s

/-- Movements voted, throws started, stops started, group by group. A lane that does not deviate proposes the movement of its own
proposed route states (R85): those of the generic outcome `post`. -/
def voteMovements (post : State) (lanes : List Lane) (s : State) : State :=
  (elements s).foldl (fun st o =>
    if isMovable o.2.kind then
      let f := propMove st o.1 (moveProposal post o.1)
      let held := conflict f lanes
      let st1 := if held then { st with vote := { st.vote with directions := st.vote.directions + 1 } } else st
      voteElement st1 o.1 o.2 (votedMove f lanes)
    else st) s

/-- The groups: Stopping cycles, and requested resets. -/
def voteGroups (s : State) : State :=
  (groupsIn s).foldl (fun st p =>
    let y := groupSt st p.1
    let st1 := if y.state = 4 ∧ 0 < y.j then stopCycle st p.1 p.2 else st
    voteReset st1 p.1 p.2) s

/-- 2110:02 counts a cycle in which any item fell back under R53 to R55. -/
def anyFellBack (s post : State) (lanes : List Lane) : Bool :=
  (contested s lanes).any fun d => match d with
    | .gclass _ _ => false
    | .movement e _ =>
      let f := propMove s e (moveProposal post e)
      conflict f lanes || fellBack (lanes.map f)
    | _ => fellBack (lanes.map (itemValue s post d))

/-- Reset requests of pairs and outputs for the frames of this cycle (R209, R215). -/
def voteResets (s : State) : State :=
  let due := fun (q : BitVec 24 × Time) => decide (q.2 < s.cyc.snap.at_)
  let keyed : BitVec 24 := if s.cyc.snap.keyOp then ((s.cyc.snap.frame.map fun f => f.pairf).getD 0) else 0
  modField s fun x =>
    { x with
      prst := askedBits (x.pairReq.filter due) ||| keyed, orst := askedBits (x.outReq.filter due)
      pairReq := x.pairReq.filter fun q => !due q, outReq := x.outReq.filter fun q => !due q }

/-- An element's state and voted outcome. -/
def elemStateBytes (y : ElemSt) : List Byte :=
  [y.detected, u8 y.latched.toNat, u8 y.clearRun, u8 y.blocked.toNat, u8 y.throwing, y.detail, u8 y.perm, u8 (moveNo y.moveVoted)]
    ++ leBytes 4 y.throwTimer

/-- What a lane writes into its readback memory after a vote (R320): DESIGN CHOICE (log 146), since its layout is not given, the states of
the elements and routes, the claim words, and the lane's variables in map order. -/
def readbackOf (s : State) (ln : Lane) : List Byte :=
  (s.points.elems.flatMap fun e => leBytes 2 e.1 ++ elemStateBytes e.2)
    ++ (s.commons.routes.flatMap fun r => leBytes 2 r.1 ++ [u8 r.2.state])
    ++ ((claimTable s).flatMap fun w => leBytes 2 w.1 ++ leBytes 4 w.2.toNat)
    ++ match s.program.pair with
      | some p => (variantOf p ln).map.flatMap fun m => cellBytes m.width (cellAt (s.lanes.get ln).vars m.varnum)
      | none => []

/-- The voted outcome in a lane's own Commons copy and in its readback memory (R56, R320). -/
def writeOutcome (s : State) (ln : Lane) : State :=
  modLane s ln fun x => { x with claims := copyOf s, wrote := true, current := true, readback := readbackOf s ln }

/-- The lane's down-frame register takes the voted outcome of this cycle (R108, Table 07-1): CYCLE, DOCMD, PRST, ORST, and the EPOCH
of the snapshot (R218). -/
def loadReg (s : State) (ln : Lane) : State :=
  modBar s ln fun b => { b with
    loaded := true
    reg := { b.reg with
      epoch := s.cyc.snap.epoch, w2 := s.cyc.number, w3 := u32 s.field.docmd.toNat, w4 := u32 s.field.prst.toNat
      w5 := u32 s.field.orst.toNat } }

/-- The lanes that write the outcome at the vote: those in it, one that has delivered since the vote point (R112), and a shadow lane. -/
def writers (s : State) : List Lane :=
  allLanes.filter fun ln =>
    ((s.lanes.get ln).delivered.isSome || (s.lanes.get ln).late) && (inVote s ln || (s.lanes.get ln).state == 6)

/-- The copies that hold the last voted claims follow a change of the claims that this vote makes after it has written them, as an applied
mirror snapshot does (R398). -/
def refreshCopies (s : State) : State :=
  { s with lanes := s.lanes.map fun x => if x.current then { x with claims := copyOf s } else x }

/-- The outcome is written; the copy of a lane that does not write it is behind. -/
def writeAll (s : State) : State :=
  (writers s).foldl writeOutcome { s with lanes := s.lanes.map fun x => { x with current := false } }

/-- The voted value of an item, as `itemValue` numbers it. -/
def votedValue (s post : State) (lanes : List Lane) (d : Deviation) : Nat :=
  let l := lanes.map (itemValue s post d)
  match d with
  | .gclass _ _ => permission l
  | .movement e _ => moveNo (votedMove (propMove s e (moveProposal post e)) lanes)
  | .route r _ _ _ => agreed l (routeSt s r).state
  | .release _ _ _ => agreed l 0
  | .detail _ _ | .claim _ _ | .boundary _ _ => 0

/-- A shadow lane matches the vote (Table 02-4, step 7): its generic digest, a Mill's program digest, and every generic proposal. -/
def shadowMatches (pre post : State) (lanes : List Lane) (dig : U64) (ln : Lane) : Bool :=
  (pre.lanes.get ln).delivered.isSome && digestOf pre ln == dig
    && (ln == .l || programDigest pre ln == programDigest pre (readableMill pre))
    && (contested pre (ln :: lanes)).all fun d => itemValue pre post d ln == votedValue pre post lanes d

/-- Every shadow cycle counts towards the 256 of step 6, and one that does not match breaks the run of 16. -/
def judgeShadows (s pre post : State) (lanes : List Lane) (dig : U64) : State :=
  { s with lanes := ⟨go .a s.lanes.a, go .b s.lanes.b, go .l s.lanes.l⟩ }
where
  /-- One lane's count. -/
  go (ln : Lane) (x : LaneSt) : LaneSt :=
    if x.state ≠ 6 then x
    else { x with shadows := x.shadows + 1, matching := if shadowMatches pre post lanes dig ln then x.matching + 1 else 0 }

/-- The counters of a voted cycle. -/
def countCycle (s : State) : State :=
  let s1 := countUp s 4 1
  let s2 := match s.modes.mode with
    | .run => countUp s1 5 1
    | .degraded => countUp s1 6 1
    | _ => s1
  let s3 := if programExecuted s then { s2 with program := { s2.program with executed := s2.program.executed + 1 } } else s2
  if s.age.capDue then { s3 with age := { s3.age with capDue := false, captured := captureBytes s3 } } else s3

/-- The outcome of a vote that is written: `pre` is the state all lanes start from. -/
def voteOutcome (pre : State) (lanes : List Lane) (expired : List Nat) : State :=
  let post := genericOutcome expired pre
  let s1 := voteClaims pre lanes (voteRouteStates pre lanes post)
  let s2 := if anyFellBack pre post lanes then { s1 with vote := { s1.vote with splits := s1.vote.splits + 1 } } else s1
  let s3 := voteGroups (voteMovements post lanes s2)
  let s4 := (elements s3).foldl (fun st o => if o.2.kind = 3 then voteSignal post lanes st o.1 o.2 else st) s3
  let s5 := judgeLanes (voteResets (detectBoundaries s4)) pre post lanes
  let dig := agreed (lanes.map (digestOf pre)) s5.vote.generic
  let s6 := { s5 with vote := { s5.vote with generic := dig, lastCycle := s5.cyc.number },
                      cyc := { s5.cyc with voted := true } }
  writeAll (countCycle (judgeShadows s6 pre post lanes dig))

/-! ### Overrun (R114) and Watch (R340) -/

/-- Fewer than two lanes at the vote point: the watchdog stops the sequencer, source 9, Safe State. -/
def overrun (s : State) (lanes : List Lane) : State :=
  let map := bitmap (allLanes.map fun ln => lanes.contains ln)
  let s1 := { s with cyc := { s.cyc with running := false } }
  let s2 := raise s1 9 (u32 map) s.cyc.number (u32 ((votePoint s - s.cyc.begun) / 1000))
  enterSafeState s2 9

/-- The first proposal of Mill A outside the bounds of R339: kind and number. Of boundary records MSG 0 and 3 lie within them. -/
def watchBreach (s : State) : Option (Nat × Nat) :=
  (devOf s .a).findSome? fun d => match d with
    | .gclass e g => if g = 0 then none else some (0, e)
    | .movement e m => if m = .hold then none else some (1, e)
    | .release _ e free => if free then some (2, e) else none
    | .claim e _ => some (2, e)
    | .route r x _ _ => if x = (routeSt s r).state then none else some (3, r)
    | .boundary r msg => if msg = 0 ∨ msg = 3 then none else some (4, r)
    | .detail _ _ => none

/-- A detail of Mill A that is not the first code of class 0. -/
def watchDetail (s : State) : Option (Nat × Nat) :=
  (((s.lanes.a.delivered.map fun d => d.details).getD []).find? fun p =>
    (elem? s p.1).any fun x => stopCode s x != p.2).map fun p => (0, p.1)

/-- A Watch cycle: only restrictive proposals, element commands as Table 12-2 permits, a REQ refused with RCODE 5. -/
def watchOutcome (s : State) : State :=
  let s1 := (requests s).foldl serveOne s
  let s2 := (elements s1).foldl (fun st o =>
    if o.2.kind = 3 then modElem st o.1 fun y => { y with perm := 0, detail := stopCode st o.2, cls := 0 }
    else if isMovable o.2.kind then modElem st o.1 fun y => { y with moveVoted := .hold }
    else st) s1
  let s3 := { s2 with cyc := { s2.cyc with voted := true }, vote := { s2.vote with lastCycle := s2.cyc.number } }
  writeAll (countUp (judgeShadows (detectBoundaries s3) s s2 [.a] (digestOf s .a)) 4 1)

/-- WATCH_CROSS_CHECK (R340). -/
def voteWatch (s : State) : State :=
  let s0 := if inVote s .a then modLane s .a countMiss else s
  if s.lanes.a.delivered.isNone then latchAll s0 else
  match (watchBreach s0).orElse fun _ => watchDetail s0 with
  | some (kind, n) => enterSafeState (raise s0 8 (u32 kind) (u32 n) s.cyc.number) 8
  | none => watchOutcome (prepareVote s0)

/-! ### The vote -/

/-- A vote with two or three lanes: judged first, written unless a streak has reached 3 (R467). -/
def voteLanes (s : State) (lanes : List Lane) : State :=
  let s0 := allLanes.foldl (fun st ln => if inVote st ln then modLane st ln countMiss else st) s
  let expired := expiredOverlaps s0
  let pre := prepareVote s0
  let judged := judgeStreaks s0 (genericOutcome expired pre) lanes
  if 3 ≤ judged.vote.split ∨ 3 ≤ judged.vote.prog then judged
  else voteOutcome { pre with vote := judged.vote } lanes expired

/-! ### What follows a vote by a step of its own -/

/-- DISAGREEMENT_EXCLUSION (R59): a lane's streak has reached 3; the vote stands. -/
def execDisagreementExclusion (t : Time) (ln : Lane) (s : State) : Host.Outcome State Fault Refusal :=
  at_ t s fun s =>
    let x := s.lanes.get ln
    if x.judged ∧ 3 ≤ x.streak ∧ x.state = 0 then
      raiseLane { s with vote := { s.vote with disagreed := s.vote.disagreed + 1 } } ln 3 x.differing
    else s

/-- GENERIC_SPLIT (R60, R467). -/
def execGenericSplit (t : Time) (s : State) : Host.Outcome State Fault Refusal :=
  at_ t s fun s =>
    if 3 ≤ s.vote.split ∧ cyclic s.modes.mode then
      raise s 56 0xFF s.cyc.number (u32 (bitmap (allLanes.map fun ln => (onTime s).contains ln)))
    else s

/-- PROGRAM_SPLIT (R61, R467): the comparison of the CLASS 2 variables begins. -/
def execProgramSplit (t : Time) (s : State) : Host.Outcome State Fault Refusal :=
  at_ t s fun s =>
    if 3 ≤ s.vote.prog ∧ cyclic s.modes.mode then
      raise { s with vote := { s.vote with comparing := some s.now } } 57 0xFF s.cyc.number none32
    else s

/-- PROGRAM_SPLIT_COMPARISON_END (R61): the Mills' CLASS 2 variables, compared in true form and map order over the values of that vote
point, give P3 of the waiting record when the comparison has ended; FFFFFFFFh 20 ms after the raise, ended or not. The record may then be
written. -/
def execProgramSplitComparisonEnd (t : Time) (ended : Bool) (s : State) : Host.Outcome State Fault Refusal :=
  at_ t s fun s =>
    match s.vote.comparing with
    | none => s
    | some since =>
      if ended = false ∧ s.now < since + ms 20 then s else
      let found := (s.program.pair.map fun p => firstDiffering p.va s.lanes.a.vars s.lanes.b.vars).getD none32
      let p3 := if since + ms 20 ≤ s.now then none32 else found
      let fix := fun (x : BookRec) => if x.code = 0x3809 ∧ x.time = since then { x with p3 := p3 } else x
      let s1 := modSource s 57 fun x => { x with params := x.params.take 2 ++ [p3] }
      { s1 with vote := { s1.vote with comparing := none },
                constable := { s1.constable with queue := s1.constable.queue.map fix } }

/-- Misses in the last 64 cycles. -/
def missCount (x : LaneSt) : Nat := (x.misses.filter id).length

/-- CYCLE_MISS_EXCLUSION (R112, R113): three misses in 64 cycles, at the end of the Vote phase, or still in Logic at the end of the
cycle. -/
def execCycleMissExclusion (t : Time) (ln : Lane) (s : State) : Host.Outcome State Fault Refusal :=
  at_ t s fun s =>
    let x := s.lanes.get ln
    let over' := s.cyc.running && s.cyc.started && x.delivered.isNone && !x.late && decide (cycleEnd s ≤ s.now)
    let voted' := 3 ≤ missCount x ∧ s.cyc.phase ≠ 1 ∧ issueStart s ≤ s.now
    if x.state = 0 ∧ (voted' ∨ over') then raiseLane s ln 4 (u32 (missCount x)) else s

/-! ### The Logic phase (R111, R124) -/

/-- A lane runs cycles: in the vote, or shadowing (Table 02-4). -/
def runsCycles (s : State) (ln : Lane) : Bool := inVote s ln || (s.lanes.get ln).state == 6

/-! ### What a lane holds at the end of Intake (R57) -/

/-- A boundary record of the snapshot (Table 04-3). -/
def recordBytesOf (q : RxRecord) : List Byte :=
  leBytes 2 q.slot ++ [u8 q.msg] ++ leBytes 2 q.body.relem ++ leBytes 2 q.body.rroute
    ++ [q.body.token, u8 q.body.cstate, u8 q.body.rcode] ++ leBytes 2 q.body.sroute ++ leBytes 2 q.body.selem ++ leBytes 8 q.stamp

/-- A session event of the snapshot. -/
def eventBytesOf : SessEvent → List Byte
  | .opened k t => leBytes 2 k ++ [0, 0] ++ leBytes 8 t
  | .closed k reason t => leBytes 2 k ++ [1, reason] ++ leBytes 8 t

/-- A host command of the snapshot. -/
def commandBytesOf (c : Command) : List Byte :=
  [c.opcode, u8 c.chan] ++ leBytes 2 c.target ++ leBytes 4 c.param.toNat ++ leBytes 4 c.opid.toNat ++ leBytes 4 c.hseq.toNat
    ++ [u8 c.auth.toNat] ++ leBytes 8 c.stamp

/-- The Twin status of the snapshot: the role, the link, the peer and its synchronisation. -/
def twinBytesOf (x : TwinSt) : List Byte :=
  [u8 (roleCode x.role), u8 x.link.toNat, u8 x.paired.toNat, u8 x.synced.toNat, x.preference, x.peerPos]

/-- The snapshot's bytes: field inputs, the time of S, telegram payloads, boundary records and session events. -/
def snapBytes (x : Snapshot) : List Byte :=
  leBytes 6 x.di.toNat ++ leBytes 3 x.pairs.toNat ++ x.pulses.flatMap (leBytes 2) ++ x.means.flatMap (leBytes 2)
    ++ [u8 x.flost.toNat, x.epoch, u8 x.keyOp.toNat] ++ leBytes 8 x.at_ ++ (x.mail.flatMap fun m => leBytes 2 m.slot ++ m.payload)
    ++ x.records.flatMap recordBytesOf ++ x.events.flatMap eventBytesOf

/-- A claim slot's timers and marks. -/
def slotTimerBytes (y : Slot) : List Byte :=
  leBytes 4 y.apprTimer ++ leBytes 4 (y.ovlTimer.getD 0xFFFFFFFF) ++ leBytes 4 y.emrgTimer ++ leBytes 8 y.released.toNat
    ++ leBytes 8 y.seen.toNat

/-- A list without its entries of the numbers `gone`, counted from `base`. -/
def keepItems {α : Type} (gone : List Nat) : Nat → List α → List α
  | _, [] => []
  | base, x :: rest => if gone.contains base then keepItems gone (base + 1) rest else x :: keepItems gone (base + 1) rest

/-- The snapshot without some of its items (R319). They are numbered in the order commands, boundary records, session events, telegrams;
the commands that are left out are pending still. -/
def dropItems (gone : List Nat) (s : State) : State :=
  if gone = [] then s else
  let c := s.cyc
  let r := c.taken.length
  let e := r + c.snap.records.length
  let m := e + c.snap.events.length
  let kept := keepItems gone 0 c.taken
  { s with cyc := { c with
      taken := kept, cmdq := (c.taken.filter fun x => !kept.contains x) ++ c.cmdq
      snap := { c.snap with
        records := keepItems gone r c.snap.records, events := keepItems gone e c.snap.events
        mail := keepItems gone m c.snap.mail } } }

/-- What a lane has of the snapshot: not the items that its reads have missed (R319), and nothing of an origin whose marker it has not had
(R326). -/
def laneView (s : State) (ln : Lane) : State :=
  let x := s.lanes.get ln
  let s1 := dropItems x.absent s
  let s2 := if x.emptyBus then
      { s1 with cyc := { s1.cyc with snap := { s1.cyc.snap with records := [], events := [], mail := [] } } } else s1
  if x.emptyQueue then { s2 with cyc := { s2.cyc with taken := [] } } else s2

/-- The items that every lane in the vote has missed: they are absent for all (R319). -/
def agreeAbsent (s : State) : State :=
  match onTime s with
  | [] => s
  | ln :: rest => dropItems ((s.lanes.get ln).absent.filter fun k => rest.all fun m => (s.lanes.get m).absent.contains k) s

/-- What the generic variables stand for (R57): the input snapshot with all of Table 04-3, element states, route states, claim words of
the lane's own copy, timers, and the voted outcome of the previous cycle. Which of it a variable holds is free
(`Config.filledValue`). -/
def heldBytes (s : State) (ln : Lane) : List Byte :=
  leBytes 4 s.cyc.number.toNat ++ snapBytes (laneView s ln).cyc.snap
    ++ (laneView s ln).cyc.taken.flatMap commandBytesOf ++ leBytes 3 s.modes.sealNow.toNat
    ++ twinBytesOf s.twin ++ s.points.elems.flatMap (fun e => leBytes 2 e.1 ++ elemStateBytes e.2)
    ++ s.commons.routes.flatMap (fun r => leBytes 2 r.1 ++ [u8 r.2.state])
    ++ (s.lanes.get ln).claims.flatMap (fun w => leBytes 2 w.1 ++ leBytes 4 w.2.value.toNat)
    ++ s.commons.slots.flatMap fun k => leBytes 2 k.1 ++ slotTimerBytes k.2

/-! ### The scrub of a Logic phase (R35, R103) -/

/-- The fields of a claim word that R103 compares: EXCL, OWNER, FCOUNT, FREQ and XREQ. -/
def scrubbed (w : BitVec 32) : BitVec 32 := w &&& 0xFFFFFFF0

/-- The lowest element whose word in a lane's copy differs from what the slot records give. -/
def wrongClaim (s : State) (ln : Lane) : Option Nat :=
  let copy := (s.lanes.get ln).claims
  let right := claimTable s
  let bad := (copy.map fun e => e.1) ++ (right.map fun e => e.1) |>.filter fun e =>
    scrubbed (tget (Rails.code 0) copy e).value != scrubbed (tget 0 right e)
  match bad with
  | [] => none
  | e :: rest => some (rest.foldl min e)

/-- A fault has changed a word of the lane's copy. -/
def corrupt (s : State) (ln : Lane) (x : Scrub) : State :=
  match x with
  | .claimWord e w => modLane s ln fun y => { y with claims := tput (Rails.code 0) y.claims e (Rails.code w) }
  | _ => s

/-- R103: the lane checks its copy in every cycle, while the copy holds the last voted claims. -/
def checkCopy (s : State) (ln : Lane) : State :=
  if (s.lanes.get ln).current = false then s else
  match wrongClaim s ln with
  | some e => raise s 58 (u32 (laneNo ln)) s.cyc.number (u32 e)
  | none => s

/-- R35: a table entry that fails its check. -/
def noteScrub (s : State) (ln : Lane) (x : Scrub) : State :=
  match x with
  | .tableEntry ref => raiseLane s ln 5 ref
  | _ => s

/-- The lane holds the agreed frame: its own, or one that it took over the lane exchange with its CRC-32 intact (R110). -/
def holdsFrame (s : State) (ln : Lane) (got : Option UpFrame) : Bool :=
  (s.lanes.get ln).held || got.any fun f => upIntact f && s.cyc.snap.frame.any fun g => g.seq == f.seq

/-- Intake of the lanes that have not ended it. -/
def endIntake (s : State) : State :=
  allLanes.foldl (fun st ln => if (s.lanes.get ln).complete then st else intakeVars st ln (heldBytes s ln)) s

/-- PROGRAM_SWITCH (R148, R150, R153, R155): in cycle K, Intake ends with the old map, and at the start of Logic, before a Mill runs a
program, the variables are carried and the forces re-keyed. -/
def execProgramSwitch (t : Time) (micros : Nat) (s : State) : Host.Outcome State Fault Refusal :=
  at_ t s fun s =>
    match s.program.pair, switchTarget s with
    | some old, some new =>
      if switchPending s ∧ s.lanes.a.complete = false ∧ s.lanes.b.complete = false ∧ s.cyc.voted = false then
        switchProgram (endIntake s) old new micros
      else s
    | _, _ => s

/-- SNAPSHOT_COMPLETE (R111, R124): from the end of Intake on, the lane holds both markers and the agreed frame, and its Logic phase
runs: variables filled, digests, the rule program, the scrub. A Mill's Logic of cycle K begins with the switch (R153). -/
def execSnapshotComplete (t : Time) (ln : Lane) (x : LaneIntake) (scrub : Scrub) (s : State) : Host.Outcome State Fault Refusal :=
  at_ t s fun s =>
    let l := s.lanes.get ln
    if s.cyc.running ∧ runsCycles s ln ∧ l.markBus ∧ l.markQueue ∧ l.complete = false ∧ logicStart s ≤ s.now
        ∧ holdsFrame s ln x.got ∧ (ln = .l ∨ switchPending s = false) then
      let s0 := corrupt s ln scrub
      let s1 := modLane s0 ln fun y => { y with
        complete := true, held := true, logicLast := x.run.micros, logicPeak := max y.logicPeak x.run.micros }
      let held := heldBytes s1 ln
      let s2 := logicVars (if s.change.switched then s1 else intakeVars s1 ln held) ln held
      let s3 := if programExecuted s then runProgram s2 ln x.run else s2
      checkCopy (noteScrub s3 ln scrub) ln
    else s

/-! ### Deliveries (R112) -/

/-- 5% of the Logic span in us (source 10). -/
def marginLimit (c : Nat) : Nat := logicSpan c / 20

/-- Source 10 and 3002:07: how long before the vote point a lane delivered. -/
def noteMargin (s : State) (ln : Lane) : State :=
  let left := (votePoint s - s.now) / 1000
  let s1 := { s with cyc := { s.cyc with least := some ((s.cyc.least.map (min left)).getD left) } }
  if left < marginLimit s.cyc.c then raise s1 10 (u32 (laneNo ln)) s.cyc.number (u32 left) else s1

/-- The detail codes that a Mill copies out: DESIGN CHOICE (log 101), the ROLE 2 variables in map order stand for the Signals in element
order. None while the program does not execute (R129). -/
def programDetails (s : State) (ln : Lane) : List (Nat × U8) :=
  match s.program.pair, programExecuted s, ln with
  | some p, true, .a | some p, true, .b =>
    let v := variantOf p ln
    let vars := (s.lanes.get ln).vars
    let signals := ((elements s).filter fun e => e.2.kind == 3).map fun e => e.1
    signals.zip ((v.map.filter fun m => m.role == 2).map fun m => match cellAt vars m.varnum with
      | .scalar x => BitVec.ofNat 8 (x.toNat % 256)
      | _ => 0)
  | _, _, _ => []

/-- What a lane delivers at its vote port: the digests of its state (R57, R58), its program's details and its proposals (R50), as a
fault of the lane has changed them. -/
def deliveryOf (s : State) (ln : Lane) (p : Proposal) : Delivery :=
  let x := s.lanes.get ln
  { gdigest := Rails.code (x.gsum ^^^ p.gerr)
    pdigest := Rails.code (if ln = .l then 0 else x.psum ^^^ p.perr)
    details := (p.dev.filterMap fun d => match d with
      | .detail e code => some (e, code)
      | _ => none) ++ programDetails s ln
    dev := p.dev }

/-- PROPOSAL_DELIVERY (R112): by the vote point the delivery counts; later in the cycle it is a miss, and the lane writes the voted
outcome late. A lane that has not delivered at the end of the cycle is still in Logic. The trailing core has retired every store of the
cycle when the lane delivers (R43). -/
def execProposalDelivery (t : Time) (ln : Lane) (p : Proposal) (s : State) : Host.Outcome State Fault Refusal :=
  at_ t s fun s =>
    let x := s.lanes.get ln
    if s.cyc.running = false ∨ runsCycles s ln = false ∨ x.complete = false ∨ x.delivered.isSome ∨ x.late ∨ cycleEnd s ≤ s.now then s
    else
      let d := deliveryOf s ln p
      let s1 := modLane (retireStores s ln) ln fun y =>
        { y with gdigest := d.gdigest.value, pdigest := d.pdigest.value, deliveredAt := s.now }
      if s.now ≤ votePoint s ∧ s.cyc.voted = false then
        let s2 := modLane s1 ln fun y => { y with delivered := some d }
        if inVote s ln then noteMargin s2 ln else s2
      else
        let s2 := modLane s1 ln fun y => { y with late := true }
        if s.cyc.voted = false then s2
        else if s.cyc.phase = 3 ∧ s.modes.mode ≠ .standby then loadReg (writeOutcome s2 ln) ln
        else writeOutcome s2 ln

end Sys2Proof.Machine
end

