-- ==== Sys2Proof/Machine/Stile.lean ====
section
/-!
DEFINITION. Machine/Stile.lean: the Stile bridges (R317 to R326) and the clock crossings (R327 to R332).
-/

namespace Sys2Proof.Machine

/-! ### Stiles -/

/-- A lane's Stile. -/
def stile (s : State) (ln : Lane) : StileSt := s.stiles.stiles.get ln
/-- Change a lane's Stile. -/
def modStile (s : State) (ln : Lane) (f : StileSt → StileSt) : State :=
  { s with stiles := { s.stiles with stiles := s.stiles.stiles.set ln (f (stile s ln)) } }

/-- The bound on every read across a Stile, 20 us (R319, R320), and on a wait for a P credit (R321). -/
def readLimit : Nat := 20000

/-- Entries of a P queue (Table 11-1). -/
def queueDepth : Nat := 32

/-- 2B0x:01: 0 running, 1 service side in reset, 2 lane side in reset. Both at once: DESIGN CHOICE (log 147), 1. -/
def StileSt.state (x : StileSt) : Nat := if x.svcReset then 1 else if x.laneReset then 2 else 0

/-- Class P of a direction. -/
def StileSt.side (x : StileSt) : Dir → PSide
  | .outward => x.out
  | .inward => x.inw

/-- Change class P of a direction. -/
def StileSt.modSide (x : StileSt) (dir : Dir) (f : PSide → PSide) : StileSt :=
  match dir with
  | .outward => { x with out := f x.out }
  | .inward => { x with inw := f x.inw }

/-- The other direction. -/
def opposite : Dir → Dir
  | .outward => .inward
  | .inward => .outward

/-- The direction towards a side. -/
def towards : Side → Dir
  | .service => .outward
  | .laneSide => .inward

/-- A side of the Stile is in reset. -/
def StileSt.inReset (x : StileSt) : Side → Bool
  | .service => x.svcReset
  | .laneSide => x.laneReset

/-- The side that a direction comes from is in reset, and so sends nothing. -/
def senderReset (x : StileSt) : Dir → Bool
  | .outward => x.laneReset
  | .inward => x.svcReset

/-- The side that a direction leads to is in reset, and so takes nothing (R325). -/
def receiverReset (x : StileSt) (dir : Dir) : Bool := senderReset x (opposite dir)

/-- Direction bit of a tag word (R323): 0 out, 1 in. -/
def dirBit : Dir → Nat
  | .outward => 0
  | .inward => 1

/-! ### Class P (R317, R321 to R324) -/

/-- The 16 bytes of a message (Table 11-3). -/
def msgBytes (m : StileMsg) : List Byte :=
  leBytes 2 m.tag.toNat ++ [m.origin, m.mtype] ++ leBytes 4 m.param.toNat ++ leBytes 4 m.addr.toNat ++ [m.reason, 0, 0, 0]

/-- A message without address and reason; its tag is set when it is posted. -/
def msgOf (mtype origin : Nat) (param : U32) : StileMsg := ⟨u8 mtype, u8 origin, 0, param, 0, 0⟩

/-- The message of an entry. -/
def PEntry.msg? (e : PEntry) : Option StileMsg :=
  match e.body with
  | .message m => some m
  | .write _ _ => none

/-- The `n` oldest entries are delivered, in order; the receiver has the last message among them. -/
def PSide.deliver (x : PSide) (n : Nat) : PSide :=
  { x with queue := x.queue.drop n, got := (((x.queue.take n).filterMap PEntry.msg?).getLast?).orElse fun _ => x.got }

/-- Every queued entry has been delivered: what arrives behind them shows it (R318). -/
def PSide.flush (x : PSide) : PSide := x.deliver x.queue.length

/-- The history record of a write; a message leaves none (R324). -/
def historyOf (s : State) (dir : Dir) (tag : U16) : PBody → List Posted
  | .write addr data => [⟨tag, dir, data.length, addr, s.cyc.number, u32 (s.now % 2 ^ 32)⟩]
  | .message _ => []

/-- The history keeps the last 256 writes of a direction. -/
def keepHistory (l : List Posted) : List Posted := l.drop (l.length - 256)

/-- A message carries the tag of its entry. -/
def PBody.tagged (b : PBody) (tag : U16) : PBody :=
  match b with
  | .message m => .message { m with tag := tag }
  | .write a d => .write a (d.take 64)

/-- An entry of a direction: it takes the sender's next tag, stands in the queue, and its tag `arrived` is checked at the receiving end,
where a gap or a repeat is source 107 (R323). -/
def enterP (s : State) (ln : Lane) (dir : Dir) (b : PBody) (arrived : U16) : State :=
  let x := (stile s ln).side dir
  let s1 := modStile s ln fun y => y.modSide dir fun z => { z with
    tag := z.tag + 1, posted := z.posted + 1, expect := arrived + 1
    queue := z.queue ++ [⟨z.tag, b.tagged z.tag, s.now⟩]
    hist := keepHistory (z.hist ++ historyOf s dir z.tag b) }
  if arrived = x.expect then s1 else raise s1 107 (u32 (laneNo ln)) (u32 x.expect.toNat) (u32 arrived.toNat)

/-- The entry that waits takes its place in the queue, where there is one. -/
def admitWaiting (s : State) (ln : Lane) (dir : Dir) : State :=
  let x := (stile s ln).side dir
  match x.wait with
  | none => s
  | some w =>
    if receiverReset (stile s ln) dir || decide (queueDepth ≤ x.queue.length) then s
    else enterP (modStile s ln fun y => y.modSide dir fun z => { z with wait := none }) ln dir w.body w.arrived

/-- How many queued entries have been delivered since the direction was last looked at is free: the manual bounds no delivery (log 120).
A lane that has waited for 8 us while the service side runs has its credit (R321). -/
def settleP (s : State) (ln : Lane) (dir : Dir) : State :=
  let x := (stile s ln).side dir
  let owed := dir == .outward && x.wait.any fun w => decide (w.since + us 8 ≤ s.now)
  match x.queue, receiverReset (stile s ln) dir with
  | [], false => admitWaiting s ln dir
  | _ :: _, false =>
    let n := max (Config.free s.draws % (x.queue.length + 1)) owed.toNat
    admitWaiting (modStile (draw s) ln fun y => y.modSide dir fun z => z.deliver n) ln dir
  | _, true => s

/-- A direction's port is open: its sender runs, no entry of it waits for credit, and the lane's own port is not held by a read (R319). -/
def portOpen (x : StileSt) (dir : Dir) : Bool :=
  !senderReset x dir && (x.side dir).wait.isNone && (dir == .inward || x.reading.isNone)

/-- A posted write that failed: counted, with the source of the Stile (R323). -/
def postedFailed (s : State) (ln : Lane) (dir : Dir) (tag : U16) (reason : U8) (addr : U32) : State :=
  let w := u32 (dirBit dir * 65536 + tag.toNat)
  let s1 := modStile s ln fun y => { y with failures := y.failures + 1, lastTag := w, lastReason := reason }
  raise s1 (99 + laneNo ln) (u32 reason.toNat) addr w

/-- The far address of an entry; a message has none. -/
def PBody.addr : PBody → U32
  | .write a _ => a
  | .message _ => none32

/-- An entry is posted (R317): with a place in the queue it stands there, else it waits and holds its sender's port. Towards a side in
reset there is no credit: a lane's entry waits (R321), and one of the service side is lost with reason 05h. -/
def postP (s : State) (ln : Lane) (dir : Dir) (b : PBody) (arrived : U16) : State :=
  let s1 := settleP s ln dir
  let x := stile s1 ln
  if portOpen x dir = false then s1
  else if receiverReset x dir ∧ dir = .inward then postedFailed s1 ln dir x.inw.tag 5 b.addr
  else if receiverReset x dir ∨ queueDepth ≤ (x.side dir).queue.length then
    modStile s1 ln fun y => y.modSide dir fun z => { z with wait := some ⟨b, arrived, s.now⟩ }
  else enterP s1 ln dir b arrived

/-- A message arrives: it is ordered behind every entry posted before it, so all of these have been delivered, and it with them
(R318, R322). -/
def arriveMsg (s : State) (ln : Lane) (dir : Dir) (m : StileMsg) (arrived : U16) : State :=
  let flush := fun (st : State) => modStile st ln fun y => y.modSide dir PSide.flush
  flush (enterP (flush (admitWaiting (flush s) ln dir)) ln dir (.message m) arrived)

/-- A message can arrive in a direction: neither side is in reset, and a lane sends none while its port is held by a read. -/
def messagesPass (x : StileSt) (dir : Dir) : Bool := x.state == 0 && (dir == .inward || x.reading.isNone)

/-- POSTED_WRITE (R317, R323, R324). -/
def execPostedWrite (t : Time) (ln : Lane) (dir : Dir) (addr : U32) (data : List Byte) (tag : U16) (s : State) :
    Host.Outcome State Fault Refusal :=
  at_ t s fun s => postP s ln dir (.write addr data) tag

/-- POSTED_CREDIT_TIMEOUT (R321): a lane's write has waited 20 us for a credit. The sending Stile discards it with reason 04h and releases
the port; its tag is not used. -/
def execPostedCreditTimeout (t : Time) (ln : Lane) (_addr : U32) (s : State) : Host.Outcome State Fault Refusal :=
  at_ t s fun s0 =>
    let s := settleP s0 ln .outward
    match (stile s ln).out.wait with
    | some w =>
      if w.since + readLimit ≤ s.now then
        postedFailed (modStile s ln fun y => { y with out := { y.out with wait := none } }) ln .outward (stile s ln).out.tag 4 w.body.addr
      else s
    | none => s

/-- The address of a failed write, from the history (R324). -/
def historyAddr (x : StileSt) (dir : Dir) (tag : U16) : U32 :=
  (((x.side dir).hist.reverse.find? fun e => e.tag == tag).map fun e => e.addr).getD none32

/-- The ORIGIN of a message that reports a failed write (Table 11-3): the lane for one of the service side; for a lane's write the owner
of the far address, which is not given. -/
def failOrigin (s : State) : Dir → Nat
  | .inward => 4
  | .outward => Config.free s.draws % 4

/-- POSTED_WRITE_ERROR (R323): the message comes back against the direction of the write, with a tag of its own. A REASON outside
Table 11-4 is reserved. -/
def execPostedWriteError (t : Time) (m : MsgHead) (dir : Dir) (tag : U16) (reason : Fin 6) (s : State) :
    Host.Outcome State Fault Refusal :=
  at_ t s fun s =>
    if messagesPass (stile s m.ln) (opposite dir) = false then s else
    let addr := historyAddr (stile s m.ln) dir tag
    let w := u32 (dirBit dir * 65536 + tag.toNat)
    let s1 := arriveMsg (draw s) m.ln (opposite dir) { msgOf 3 (failOrigin s dir) w with addr := addr, reason := u8 reason.val } m.tag
    if reason.val = 0 then s1 else postedFailed s1 m.ln dir tag (u8 reason.val) addr

/-- TELEGRAM_ARRIVED (R322): MTYPE 01h, ordered behind the writes of its telegram: inward from a bus engine, outward from a lane to the
engine. -/
def execTelegramArrived (t : Time) (m : MsgHead) (mailbox : MailboxRef) (s : State) : Host.Outcome State Fault Refusal :=
  at_ t s fun s =>
    let origin := match mailbox.dir with
      | .inward => 0
      | .outward => 4
    postP s m.ln mailbox.dir (.message (msgOf 1 origin mailbox.number)) m.tag

/-- SESSION_EVENT (R322): MTYPE 06h. -/
def execSessionEvent (t : Time) (m : MsgHead) (slot : Fin 512) (s : State) : Host.Outcome State Fault Refusal :=
  at_ t s fun s => postP s m.ln .inward (.message (msgOf 6 0 (u32 slot.val))) m.tag

/-- MIRROR_SNAPSHOT_COMPLETE (R322): MTYPE 07h. -/
def execMirrorSnapshotComplete (t : Time) (m : MsgHead) (s : State) : Host.Outcome State Fault Refusal :=
  at_ t s fun s => postP s m.ln .inward (.message (msgOf 7 2 0)) m.tag

/-! ### Reads (classes N and C; R318 to R320) -/

/-- The lane misses the item that it has read: it is absent from its snapshot (R319). -/
def noteAbsent (s : State) (ln : Lane) (addr : U32) : State :=
  if runsCycles s ln ∧ (s.lanes.get ln).complete = false then
    modLane s ln fun x => { x with absent := x.absent ++ [Config.itemAt addr] }
  else s

/-- A read that is answered passes no entry posted before it, and neither does its completion (Table 11-2). -/
def readFlushes (x : StileSt) : StileSt := { x with out := x.out.flush, inw := x.inw.flush }

/-- STILE_READ (R319): one read at a time; towards a side in reset it completes at once with RESET (R325). A read answered within
20 us completes; any other is outstanding. -/
def execStileRead (t : Time) (ln : Lane) (addr : U32) (latency : Option Nat) (s : State) : Host.Outcome State Fault Refusal :=
  at_ t s fun s =>
    let x := stile s ln
    if x.laneReset ∨ x.reading.isSome ∨ x.out.wait.isSome then s
    else if x.svcReset then
      noteAbsent (modStile s ln fun y => { y with reads := y.reads + 1, done := some ⟨addr, .reset, []⟩ }) ln addr
    else modStile s ln fun y => match latency.filter fun n => n ≤ readLimit with
      | some n => readFlushes { y with reads := y.reads + 1, longest := max y.longest n, done := some ⟨addr, .data, []⟩ }
      | none => { y with reads := y.reads + 1, reading := some (addr, s.now) }

/-- STILE_READ_TIMEOUT (R319): the Stile completes the read with TIMEOUT and no data and releases the port; the item read is absent. -/
def execStileReadTimeout (t : Time) (ln : Lane) (s : State) : Host.Outcome State Fault Refusal :=
  at_ t s fun s =>
    match (stile s ln).reading with
    | some (addr, t0) =>
      if t0 + readLimit ≤ s.now then
        let s1 := modStile s ln fun y => { y with
          reading := none, done := some ⟨addr, .timeout, []⟩, expired := y.expired + 1, timeouts := y.timeouts + 1, longest := readLimit }
        raise (noteAbsent s1 ln addr) (96 + laneNo ln) (u32 (laneNo ln)) addr s.cyc.number
      else s
    | none => s

/-- LATE_COMPLETION (R319): discarded and counted. -/
def execLateCompletion (t : Time) (ln : Lane) (s : State) : Host.Outcome State Fault Refusal :=
  at_ t s fun s =>
    if 0 < (stile s ln).expired then
      modStile s ln fun y => { y with expired := y.expired - 1, lateCount := y.lateCount + 1 }
    else s

/-- Up to 64 bytes of a lane's readback memory (R320), which the lane has written after the last vote. -/
def readbackAt (s : State) (ln : Lane) (addr : U32) : List Byte := ((s.lanes.get ln).readback.drop addr.toNat).take 64

/-- The completions of the service side's reads are delivered in the order of their reads: none passes an earlier one, and a read that is
outstanding holds back what stands behind it (R318). -/
def deliverReads (s : State) (ln : Lane) : State :=
  let l := (stile s ln).serviceRds
  let ready := l.takeWhile fun r => r.answer.isSome
  let s1 := if ready = [] then s else modStile s ln fun y => readFlushes { y with serviceRds := l.dropWhile fun r => r.answer.isSome }
  ready.foldl (fun st r => modChan st r.chan fun c => { c with fetched := (r.answer.map Completion.data).getD [] }) s1

/-- SERVICE_READ (R320): at most 4 outstanding; the readback memory answers without holding the lane, and the read passes no posted
entry. -/
def execServiceRead (t : Time) (ln : Lane) (addr : U32) (ch : Fin 8) (answered : Bool) (s : State) :
    Host.Outcome State Fault Refusal :=
  at_ t s fun s =>
    let x := stile s ln
    if x.state ≠ 0 ∨ 4 ≤ x.serviceRds.length then s
    else
      let c : Option Completion := if answered then some ⟨addr, .data, readbackAt s ln addr⟩ else none
      deliverReads (modStile s ln fun y => { y with serviceRds := y.serviceRds ++ [⟨addr, ch.val, s.now, c⟩] }) ln

/-- The transfer on a channel ends with an abort, if one is in progress (R294). -/
def abortOpen (s : State) (ch : Nat) (code : U16) : State :=
  let s1 := noteAbort s ch code
  match (chanSt s ch).transfer with
  | some (.sending bus tid index sub _ _ _ _) => modChan (sendAbort s1 bus ch tid index sub code) ch fun c => { c with transfer := none }
  | some (.receiving bus tid index sub _ _ _ _ _) =>
    modChan (sendAbort s1 bus ch tid index sub code) ch fun c => { c with transfer := none }
  | none => s1

/-- R37: a segmented read of 1011 that is in progress when a new station image activates ends with 0421h. -/
def cutStationReads (s : State) : State :=
  (List.range 8).foldl (fun st c =>
    match (chanSt st c).transfer with
    | some (.sending _ _ index _ _ _ _ _) => if index = 0x1011 then abortOpen st c 0x0421 else st
    | _ => st) s

/-- SERVICE_READ_TIMEOUT (R320): the dictionary transfer that needed the read is aborted with 0706h. -/
def execServiceReadTimeout (t : Time) (ln : Lane) (s : State) : Host.Outcome State Fault Refusal :=
  at_ t s fun s =>
    match (stile s ln).serviceRds with
    | r :: rest =>
      if r.since + readLimit ≤ s.now then
        deliverReads (abortOpen (modStile s ln fun y => { y with serviceRds := rest, timeouts := y.timeouts + 1 }) r.chan 0x0706) ln
      else s
    | [] => s

/-! ### Intake markers (R111, R326) -/

/-- The lane holds the marker of an origin for this cycle. -/
def holdMarker (s : State) (ln : Lane) (origin : MarkerOrigin) : State :=
  modLane s ln fun y => match origin with
    | .busEngine => { y with markBus := true }
    | .commandQueue => { y with markQueue := true }

/-- The lane holds the marker already. -/
def markerHeld (x : LaneSt) : MarkerOrigin → Bool
  | .busEngine => x.markBus
  | .commandQueue => x.markQueue

/-- ORIGIN of Table 11-3. -/
def originNo : MarkerOrigin → Nat
  | .busEngine => 0
  | .commandQueue => 1

/-- INTAKE_MARKER (R322): it counts for the cycle whose S it closes. -/
def execIntakeMarker (t : Time) (m : MsgHead) (origin : MarkerOrigin) (closes : U32) (s : State) : Host.Outcome State Fault Refusal :=
  at_ t s fun s =>
    if messagesPass (stile s m.ln) .inward = false then s else
    let s1 := arriveMsg s m.ln .inward (msgOf 2 (originNo origin) closes) m.tag
    if s.cyc.running ∧ closes = u32 (s.cyc.begun % 2 ^ 32) then holdMarker s1 m.ln origin else s1

/-- Every lane in the vote takes an origin as empty: its items wait for the next snapshot. One lane alone takes it so in its own view
(`laneView`). -/
def emptyOrigin (s : State) (origin : MarkerOrigin) : State :=
  match origin with
  | .commandQueue =>
    if (voters s).all fun ln => (s.lanes.get ln).emptyQueue then
      { s with cyc := { s.cyc with cmdq := s.cyc.taken ++ s.cyc.cmdq, taken := [] } }
    else s
  | .busEngine =>
    if (voters s).all fun ln => (s.lanes.get ln).emptyBus then
      let snap := s.cyc.snap
      { s with
        sessions := { s.sessions with
          records := snap.records ++ s.sessions.records, mailbox := snap.mail ++ s.sessions.mailbox
          events := snap.events ++ s.sessions.events }
        cyc := { s.cyc with snap := { snap with records := [], mail := [], events := [] } } }
    else s

/-- INTAKE_MARKER_TIMEOUT (R326): 2.0 ms after S, or at once while the origin's side is in reset. -/
def execIntakeMarkerTimeout (t : Time) (ln : Lane) (origin : MarkerOrigin) (s : State) : Host.Outcome State Fault Refusal :=
  at_ t s fun s =>
    let x := s.lanes.get ln
    if s.cyc.running ∧ runsCycles s ln ∧ markerHeld x origin = false ∧ x.complete = false
        ∧ (s.cyc.begun + ms 2 ≤ s.now ∨ (stile s ln).svcReset) then
      let s1 := modLane (holdMarker s ln origin) ln fun y => match origin with
        | .busEngine => { y with emptyBus := true }
        | .commandQueue => { y with emptyQueue := true }
      let s2 := { s1 with stiles := { s1.stiles with markers := s1.stiles.markers + 1 } }
      emptyOrigin (raise s2 102 (u32 (laneNo ln)) (u32 (originNo origin)) s.cyc.number) origin
    else s

/-! ### Reset across a Stile (R325) -/

/-- The side that a message of a reset comes from (Table 11-3). -/
def sideOrigin : Side → Nat
  | .service => 3
  | .laneSide => 4

/-- What ends with the reset of a side: the reads outstanding towards it complete with RESET, those of its own are gone with it, and so is
an entry that it had waiting for credit. What a dictionary transfer does then is not said: DESIGN CHOICE (log 147), 0706h as after a
timeout. -/
def resetReads (s : State) (ln : Lane) (side : Side) : State :=
  let x := stile s ln
  match side with
  | .service =>
    let s1 := modStile s ln fun y => { y with
      reading := none, serviceRds := [], inw := { y.inw with wait := none }
      done := (x.reading.map fun r => (⟨r.1, .reset, []⟩ : Completion)).orElse fun _ => y.done }
    match x.reading with
    | some r => noteAbsent s1 ln r.1
    | none => s1
  | .laneSide =>
    let s1 := modStile s ln fun y => { y with reading := none, serviceRds := [], out := { y.out with wait := none } }
    x.serviceRds.foldl (fun st r => abortOpen st r.chan 0x0706) s1

/-- The tags restart at 0, and with them the order check. -/
def PSide.restart (x : PSide) : PSide := { x with tag := 0, expect := 0, queue := [] }

/-- A Stile side resets, once: MTYPE 04h is the last entry that the other side has from it, and everything before it has been delivered;
outstanding reads end; what had not been delivered to the resetting side is discarded and reported in one message, as 32 entries are one
tag range; tags restart at 0. How many of the queue's entries had been delivered is open. -/
def resetStile (s : State) (ln : Lane) (side : Side) (arrived : U16) : State :=
  if (stile s ln).inReset side then s else
  let dir := towards side
  let s0 := settleP s ln dir
  let x := stile s0 ln
  let lost := (x.side dir).queue
  let s1 := if receiverReset x (opposite dir) then s0 else arriveMsg s0 ln (opposite dir) (msgOf 4 (sideOrigin side) 0) arrived
  let s2 := raise s1 106 (u32 (laneNo ln)) (u32 (match side with
    | .service => 0
    | .laneSide => 1)) (u32 lost.length)
  let s3 := resetReads s2 ln side
  let s4 := modStile s3 ln fun y => { y with
    svcReset := y.svcReset || side == .service, laneReset := y.laneReset || side == .laneSide
    out := y.out.restart, inw := y.inw.restart }
  match lost with
  | [] => s4
  | e :: _ => postedFailed s4 ln dir e.tag 5 (historyAddr x dir e.tag)

/-- FAR_SIDE_RESET_BEGINS (R325). -/
def execFarSideResetBegins (t : Time) (m : MsgHead) (side : Side) (s : State) : Host.Outcome State Fault Refusal :=
  at_ t s fun s => resetStile s m.ln side m.tag

/-- FAR_SIDE_RESET_ENDS (R325): MTYPE 05h, and traffic resumes behind it. -/
def execFarSideResetEnds (t : Time) (m : MsgHead) (side : Side) (s : State) : Host.Outcome State Fault Refusal :=
  at_ t s fun s =>
    if (stile s m.ln).inReset side = false then s else
    let s1 := modStile s m.ln fun y => match side with
      | .service => { y with svcReset := false }
      | .laneSide => { y with laneReset := false }
    if (stile s1 m.ln).state = 0 then arriveMsg s1 m.ln (opposite (towards side)) (msgOf 5 (sideOrigin side) 0) m.tag else s1

/-! ### Crossings (R327 to R332) -/

/-- The kind of a crossing (Table 11-6): 1 toggle, 2 snapshot, 3 counter. -/
def crossKind (c : Nat) : Nat := ([2, 1, 3, 2, 2, 3, 2, 2, 3, 2, 2, 2, 3, 2, 2, 2] : List Nat).getD c 2

/-- The crossings that Table 11-6 gives both ways. -/
def crossBothWays (c : Nat) : Bool := [6, 7, 9, 10, 11].contains c

/-- A crossing. -/
def crossing (s : State) (c : Nat) : CrossSt := tget {} s.stiles.crossings c
/-- Change a crossing. -/
def modCross (s : State) (c : Nat) (f : CrossSt → CrossSt) : State :=
  { s with stiles := { s.stiles with crossings := tput {} s.stiles.crossings c (f (crossing s c)) } }

/-- A direction of a crossing; one that goes one way has one. -/
def crossWay (s : State) (c : Nat) (dir : Dir) : CrossWay :=
  if crossBothWays c && dir == .inward then (crossing s c).back else (crossing s c).out
/-- Change a direction of a crossing. -/
def modWay (s : State) (c : Nat) (dir : Dir) (f : CrossWay → CrossWay) : State :=
  modCross s c fun y => if crossBothWays c && dir == .inward then { y with back := f y.back } else { y with out := f y.out }

/-- A protocol error (R328, R330): source 105. -/
def crossError (s : State) (c : Nat) (what : U32) : State :=
  let s1 := modCross s c fun y => { y with protocol := y.protocol + 1, lastFault := s.now }
  raise { s1 with stiles := { s1.stiles with protocol := s1.stiles.protocol + 1, lastFault := u8 c } } 105 (u32 c) what
    s.cyc.number

/-- A transfer starts and waits for its acknowledge. -/
def startCross (s : State) (c : Nat) (dir : Dir) (f : CrossWay → CrossWay) : State :=
  modCross (modWay s c dir fun y => { f y with waiting := some s.now }) c fun y => { y with transfers := y.transfers + 1 }

/-- A counter's delta: at most FFFFh, with the overflow flag above it (R330). A delta that is sent again keeps its flag (R332). -/
def startDelta (s : State) (c : Nat) (dir : Dir) (n : Nat) : State :=
  startCross s c dir fun y => { y with delta := min n 65535, overflow := y.overflow || decide (65535 < n), gathered := 0 }

/-- A snapshot: the holding register takes the whole value at one instant (R329). -/
def startSnapshot (s : State) (c : Nat) (dir : Dir) : State := startCross s c dir fun y => { y with holding := y.current }

/-- The acknowledge returns: the receiver has the value or the delta, an overflow flag raises source 105 there, and what has gathered
meanwhile goes next (R329, R330). -/
def acknowledgeCross (s : State) (c : Nat) (dir : Dir) : State :=
  let x := crossWay s c dir
  match crossKind c with
  | 1 => modWay s c dir fun y => { y with waiting := none }
  | 2 =>
    let s1 := modWay s c dir fun y => { y with waiting := none, received := y.holding }
    if x.current = x.holding then s1 else startSnapshot s1 c dir
  | _ =>
    let s1 := modWay s c dir fun y => { y with waiting := none, total := y.total + y.delta, delta := 0, overflow := false }
    let s2 := if x.overflow then crossError s1 c 2 else s1
    if x.gathered = 0 then s2 else startDelta s2 c dir x.gathered

/-- CROSSING_TRANSFER (R327 to R330). A crossing that is Stopped or in reset makes no transfer; what it should carry gathers. -/
def execCrossingTransfer (t : Time) (c : Fin 16) (x : CrossMove) (s : State) : Host.Outcome State Fault Refusal :=
  at_ t s fun s =>
    let y := crossWay s c.val x.dir
    let runs := (crossing s c.val).state == 0
    let idle := runs && y.waiting.isNone
    match x.what, crossKind c.val with
    | .toggle, 1 =>
      if idle then startCross s c.val x.dir fun z => { z with level := !z.level } else if runs then crossError s c.val 1 else s
    | .value v, 2 =>
      let s1 := modWay s c.val x.dir fun z => { z with current := v }
      if idle then startSnapshot s1 c.val x.dir else s1
    | .events n, 3 =>
      if idle then startDelta s c.val x.dir (y.gathered + n)
      else modWay s c.val x.dir fun z => { z with gathered := z.gathered + n }
    | .acknowledged, _ => if runs ∧ y.waiting.isSome then acknowledgeCross s c.val x.dir else s
    | _, _ => s

/-- The source of a crossing that stops (Table 11-6). The barrier crossings stand for all lanes, and which lane's has stopped is open; P2
is its direction (Table 07-7), open for the error counts that come from both, and P3 the last valid SEQ in it. -/
def crossSource (s : State) (c : Nat) : State :=
  if c = 0 ∨ c = 1 ∨ c = 14 then raise s 103 (u32 c) 0 (u32 (s.now % 2 ^ 32))
  else if 3 ≤ c ∧ c ≤ 5 then
    let n := Config.free s.draws % 3
    let b := s.field.bar.get ((laneOf n).getD .a)
    let up := c == 4 || (c == 5 && Config.free (s.draws + 1) % 2 == 1)
    raise (draw (draw s)) (64 + n) (u32 n) (u32 up.toNat) (if up then b.upValidSeq else b.validSeq)
  else raise s 104 (u32 c) 0 s.cyc.number

/-- A transfer of a crossing has waited for 2 us. -/
def crossOverdue (s : State) (x : CrossSt) : Bool :=
  [x.out, x.back].any fun y => y.waiting.any fun t0 => decide (t0 + us 2 ≤ s.now)

/-- CROSSING_ACK_TIMEOUT (R331): 2 us without an acknowledge. -/
def execCrossingAckTimeout (t : Time) (c : Fin 16) (s : State) : Host.Outcome State Fault Refusal :=
  at_ t s fun s =>
    let x := crossing s c.val
    if x.state = 0 ∧ crossOverdue s x then
      let s1 := modCross s c.val fun y => { y with state := 1, timeouts := y.timeouts + 1, lastFault := s.now }
      crossSource { s1 with stiles := { s1.stiles with timeouts := s1.stiles.timeouts + 1, lastFault := u8 c.val } } c.val
    else s

/-- R332: one direction crosses anew: the current value, or all unacknowledged events in one delta. -/
def resyncWay (c : Nat) (s : State) (dir : Dir) : State :=
  let s1 := modWay s c dir fun y => { y with waiting := none }
  let x := crossWay s1 c dir
  match crossKind c with
  | 1 => s1
  | 2 => startSnapshot s1 c dir
  | _ => if x.delta + x.gathered = 0 then s1 else startDelta s1 c dir (x.delta + x.gathered)

/-- The directions of a crossing. -/
def crossDirs (c : Nat) : List Dir := if crossBothWays c then [.outward, .inward] else [.outward]

/-- CROSSING_RESUME (R331): the island's clock monitor reports how long the clock has run; from 10 us on the crossing resynchronises. -/
def execCrossingResume (t : Time) (c : CrossClock) (s : State) : Host.Outcome State Fault Refusal :=
  at_ t s fun s =>
    let s1 := modCross s c.c.val fun y => { y with clockRan := c.ran }
    if (crossing s c.c.val).state = 1 ∧ us 10 ≤ c.ran then
      (crossDirs c.c.val).foldl (resyncWay c.c.val) (modCross s1 c.c.val fun y => { y with state := 0 })
    else s1

/-- A reset on one side of a direction begins: the receiver counts it, a partial transfer is flushed, and the sender's pending transfer is
discarded with its own reset; a counter's running total stays (R332). -/
def resetCross (s : State) (c : Nat) (dir : Dir) (receiver : Bool) : State :=
  let s1 := modCross s c fun y => { y with state := 2, resets := y.resets + 1 }
  modWay s1 c dir fun y =>
    if receiver then { y with waiting := none } else { y with waiting := none, delta := 0, overflow := false, gathered := 0 }

/-- A reset of a crossing ends: after one of the receiver the value that is current now, or all events still unacknowledged, cross. -/
def crossAfter (s : State) (c : Nat) (dir : Dir) (receiver : Bool) : State :=
  if (crossing s c).state ≠ 2 then s else
  let s1 := modCross s c fun y => { y with state := 0 }
  if receiver then resyncWay c s1 dir else s1

/-- CROSSING_RESET (R332). -/
def execCrossingReset (t : Time) (c : Fin 16) (x : CrossEdge) (s : State) : Host.Outcome State Fault Refusal :=
  at_ t s fun s => if x.ends then crossAfter s c.val x.dir x.receiver else resetCross s c.val x.dir x.receiver

end Sys2Proof.Machine
end

