-- ==== Sys2Proof/Machine/Sessions.lean ====
section
/-!
DEFINITION. Machine/Sessions.lean: partner sessions (09): opening and negotiation (R261 to R267), closing (R268), verification of a
received telegram (R269 to R277), and what the Issue phase builds (R270 to R274).
-/

namespace Sys2Proof.Machine

/-! ### Partners and policies -/

/-- The session address of a partner (R255). -/
def partnerAddr (q : Partner) : Nat := if q.ptype = 1 then 0xF000 + q.naddrA else q.ident.toNat % 65536

/-- The partner entry of an identity: its type, and its ID or, for a Kutia, its session address (R262). -/
def partnerOf (s : State) (ptype : Nat) (ident : U32) : Option (Nat × Partner) :=
  (((s.station.map fun d => d.partners).getD []).filterMap fun e => e.2.map fun q => (e.1, q)).find? fun e =>
    e.2.ptype == ptype
      && (if ptype = 1 then ident.toNat % 65536 == partnerAddr e.2 else ident == e.2.ident)

/-- The policy of a partner type; 3 is the policy of strangers (R257). -/
def policy? (s : State) (n : Nat) : Option Policy := s.station.bind fun d => tget none d.policies n

/-- A safety-code profile. -/
def sc? (s : State) (n : Nat) : Option ScProfile := s.station.bind fun d => tget none d.scs n

/-- The width of a safety-code profile. -/
def scWidth (s : State) (n : Nat) : Nat := ((sc? s n).map fun x => x.width).getD 0

/-- The partner type of a session. -/
def sessType (s : State) (y : Sess) : Nat := ((y.partner.bind (partner? s)).map fun q => q.ptype).getD 0

/-- TMO of a policy; 0 stands for 3 (Table 09-3). -/
def tmoOf (s : State) (y : Sess) : Nat :=
  match policy? s (sessType s y) with
  | some p => if p.tmo = 0 then 3 else p.tmo
  | none => 3

/-! ### Opening frames (R261) -/

/-- A body of Table 09-6. -/
def openBody (op : Nat) (o : OpenFrame) : List Byte :=
  [u8 op, o.reason] ++ leBytes 2 o.target ++ leBytes 4 o.ident.toNat ++ [u8 o.ptype, o.gens, o.pls, o.opts, o.pers, o.prof]
    ++ leBytes 2 o.profs.toNat ++ leBytes 2 o.codes.toNat ++ leBytes 2 o.sess.toNat
    ++ (o.slices.flatMap fun x => leBytes 2 x.toNat) ++ leBytes 4 o.schka.toNat ++ leBytes 4 o.schkb.toNat
    ++ leBytes 2 o.matrix.toNat ++ List.replicate 10 0

/-- Kutia's own opening frame, every other field 0. -/
def ownOpen (s : State) (target : Nat) (reason : U8) : OpenFrame :=
  { reason := reason, target := target, ident := u32 (ownSession s), ptype := 1, gens := 0, pls := 0, opts := 0, pers := 0,
    prof := 0, profs := 0, codes := 0, sess := 0, slices := [0, 0, 0, 0], schka := 0, schkb := 0, matrix := 0 }

/-- Hand an opening frame to the arbitrating span; in Split it stays on the port that is spoken to (R249). -/
def sendOpenFrame (s : State) (c : Chan) (op : Nat) (o : OpenFrame) : State :=
  let f := ownFrame 7 (openBody op o)
  if inSplit s then queueOn s c f else queueFrame s f

/-- REFUSE, CLOSE or DIAG reply: only the reason, and in a DIAG reply the station TAG. -/
def sendReason (s : State) (c : Chan) (op node : Nat) (reason : U8) (sessField : U16) : State :=
  sendOpenFrame s c op { ownOpen s node reason with sess := sessField }

/-- TARGET is this module's node, or its pair's; in Split the node of the port (R249). -/
def targetsUs (s : State) (c : Chan) (o : OpenFrame) : Bool :=
  if inSplit s then o.target == nodeOn s c else (zoneNodes s).contains o.target

/-- An opening frame is for this module. A module that sends no session frame takes none, but for a standby, which takes as its own what is
addressed to either node and answers nothing (R398). -/
def openForUs (s : State) (c : Chan) (o : OpenFrame) : Bool :=
  (!sessionSilent s || s.modes.mode == .standby) && engineOn s c == 5 && targetsUs s c o

/-- The body of a frame is that of an opening frame (Table 09-6): 48 bytes, of which the last 10 are reserved. -/
def openingOf (op : Nat) (f : BusFrame) (o : OpenFrame) : Bool :=
  f.ftype == 7 && f.body.length == 48 && f.body.take 38 == (openBody op o).take 38

/-- An opening frame arrives on a channel (R253). -/
def hearOpening (s : State) (c : Chan) (op : Nat) (f : BusFrame) (o : OpenFrame) : State × Bool :=
  if f.chan ≠ c ∨ openingOf op f o = false then (s, false) else hear s f true

/-- An opening frame acts on what its reception leaves; one that is discarded does nothing else. -/
def openingAt (p : PortTime) (op : Nat) (f : BusFrame) (o : OpenFrame) (s : State) (act : State → State) :
    Host.Outcome State Fault Refusal :=
  at_ p.t s fun s =>
    match hearOpening s p.chan op f o with
    | (s1, true) => act s1
    | (s1, false) => s1

/-! ### Negotiation (R260, R263) -/

/-- The chosen options of a session. -/
structure Options where
  gen     : Nat
  payload : Nat
  option  : Nat
  period  : Nat
  pa      : Nat
  pb      : Nat
  profile : Nat
  deriving DecidableEq, Repr

/-- Payload and option codes that a generation allows go up to this (Table 09-5). -/
def genTop (gen : Nat) : Nat := min gen 3

/-- The widest code of a generation (Table 09-5). -/
def genWidth : Nat → Nat
  | 1 => 32
  | 2 => 48
  | _ => 64

/-- The payload that a PLL nibble or PLS bit stands for. -/
def payloadBytes (code : Nat) : Nat := 16 * 2 ^ (code - 1)

/-- The bit of PERS for a period of 1, 2 or 4 cycles. -/
def periodBit : Nat → Nat
  | 1 => 0
  | 2 => 1
  | _ => 2

/-- R263: each parameter in its order, the first of Kutia's list that is offered and allowed, or the refusal code. -/
def negotiate (s : State) (o : OpenFrame) (pol : Policy) (q : Partner) : Except U8 Options :=
  match pol.genl.find? fun g => o.gens.getLsbD (g - 1) with
  | none => .error 1
  | some gen =>
    match pol.pll.find? fun c => o.pls.getLsbD (c - 1) && c ≤ genTop gen with
    | none => .error 2
    | some pl =>
      match pol.perl.find? fun e => o.pers.getLsbD (periodBit e) with
      | none => .error 3
      | some per =>
        match pol.optl.find? fun c => o.opts.getLsbD (c - 1) && c ≤ genTop gen with
        | none => .error 4
        | some opt =>
          match pol.pairs.find? fun p => o.codes.getLsbD p.1 && o.codes.getLsbD p.2 && scWidth s p.1 ≤ genWidth gen
              && scWidth s p.2 ≤ genWidth gen with
          | none => .error 5
          | some pair =>
            match q.pref.find? fun n => o.profs.getLsbD n with
            | none => .error 6
            | some prof =>
              .ok { gen := gen, payload := payloadBytes pl, option := opt, period := per, pa := pair.1, pb := pair.2,
                    profile := prof }

/-- The options of a session. -/
def optionsOf (y : Sess) : Options :=
  { gen := y.gen, payload := y.payload, option := y.option, period := y.period, pa := y.pa, pb := y.pb,
    profile := y.profile.getD 0xFF }

/-- The options that an ACCEPT carries. -/
def acceptOptions (o : OpenFrame) : Options :=
  { gen := o.gens.toNat, payload := o.pls.toNat, option := o.opts.toNat, period := o.pers.toNat,
    pa := bits o.codes.toNat 7 4, pb := bits o.codes.toNat 3 0, profile := o.prof.toNat }

/-- Kutia's own offer to a neighbour: its TYPE 1 policy, and ALLOW of the partner entry (R261). -/
def ownOffer (s : State) (q : Partner) (target : Nat) : OpenFrame :=
  match policy? s 1 with
  | none => ownOpen s target 0
  | some p =>
    let set := fun (l : List Nat) (f : Nat → Nat) => l.foldl (fun (v : U8) n => setBit v (f n) true) 0
    { ownOpen s target 0 with
      gens := set p.genl fun g => g - 1
      pls := set p.pll fun c => c - 1
      opts := set p.optl fun c => c - 1
      pers := set p.perl periodBit
      profs := q.allow
      codes := p.pairs.foldl (fun v x => setBit (setBit v x.1 true) x.2 true) 0 }

/-! ### Positions and slices (R262) -/

/-- Some entry of the schedule meets a condition; both tables hold the same entries in each basic cycle (R243). -/
def anyEntry (s : State) (f : SchedEntry → Bool) : Bool := ((cluster? s).map fun x => x.tableA.any fun e => f e.2).getD false

/-- The entry is one that this zone sends in. -/
def zoneSends (s : State) (e : SchedEntry) : Bool := (zoneNodes s).contains e.node

/-- The positions that a partner's type needs. -/
def positionsOk (s : State) (ptype node : Nat) : Bool :=
  (ptype == 1 || anyEntry s fun e => e.kind == 1 && e.node == node && (zoneNodes s).contains e.peer)
    && (ptype == 0 || anyEntry s fun e => e.kind == 4 && zoneSends s e && e.peer == node)

/-- Kutia's down-frame groups, rising. -/
def downGroups (s : State) : List Nat :=
  (List.range 32).filter fun g => anyEntry s fun e => e.kind == 2 && zoneSends s e && e.peer == g

/-- The slices that sessions hold or have been promised, as 16 x group + slice. -/
def heldSlices (s : State) : List Nat :=
  ((slotsInUse s).flatMap fun e => e.2.slices) ++ s.sessions.promised.flatMap fun x => x.sess.slices

/-- The lowest free slices, group by group. -/
def freeSlices (s : State) (n : Nat) : List Nat :=
  (((downGroups s).flatMap fun g => (List.range 16).map fun i => 16 * g + i).filter fun x => !(heldSlices s).contains x).take n

/-- A slot is promised to an ACCEPT that is still to be sent. -/
def promisedTo (s : State) (k : Nat) : Bool := s.sessions.promised.any fun x => x.slot == k

/-- The lowest Free slot (R264) that no waiting ACCEPT names. -/
def freeSess (s : State) : Option Nat := (List.range 512).find? fun k => (sess s k).state == 0 && !promisedTo s k

/-! ### Strangers (R266) -/

/-- A stranger's frame: its record is made or refreshed; beyond 32 it is ignored and counted, with source 94. -/
def noteStranger (s : State) (node : Nat) (ident : U32) (reason : U8) : State :=
  let l := s.sessions.strangers
  let same := fun (x : Stranger) => x.node == node && x.ident == ident
  if l.any same then
    { s with sessions := { s.sessions with
        strangers := l.map fun x => if same x then { x with reason := reason, last := s.now } else x } }
  else if l.length < 32 then
    { s with sessions := { s.sessions with strangers := l ++ [⟨node, ident, reason, s.now⟩] } }
  else raise { s with sessions := { s.sessions with ignored := s.sessions.ignored + 1 } } 94 (u32 node) 32 ident

/-- The record of a sender, if it is a known stranger. -/
def strangerOf (s : State) (node : Nat) (o : OpenFrame) : Option Stranger :=
  s.sessions.strangers.find? fun x => x.node == node && x.ident == o.ident

/-- An opening frame of a sender that is a stranger refreshes its record, with the reason kept (R266). -/
def strangerFrame (s : State) (node : Nat) (o : OpenFrame) : State :=
  match strangerOf s node o, partnerOf s o.ptype o.ident with
  | some x, _ => noteStranger s node o.ident x.reason
  | none, none => noteStranger s node o.ident 0
  | none, some _ => s

/-- STRANGER_RECORD_EXPIRY (R266): 10 s after its last frame. -/
def execStrangerRecordExpiry (t : Time) (node : Nat) (s : State) : Host.Outcome State Fault Refusal :=
  at_ t s fun s =>
    { s with sessions := { s.sessions with
        strangers := s.sessions.strangers.filter fun x => x.node != node || s.now < x.last + sec 10 } }

/-- A frame of a known stranger refreshes its record, whatever becomes of the frame (R266). -/
def refreshStranger (s : State) (node : Nat) (o : OpenFrame) : State :=
  match strangerOf s node o with
  | some x => noteStranger s node o.ident x.reason
  | none => s

/-- DIAG_REQUEST (R266): a stranger gets the last reason and the station TAG, when the stranger policy is defined. -/
def execDiagRequest (p : PortTime) (f : BusFrame) (o : OpenFrame) (s : State) : Host.Outcome State Fault Refusal :=
  openingAt p 5 f o s fun s =>
    if openForUs s p.chan o = false ∨ inSplit s then s else
    let s1 := strangerFrame s f.node o
    match strangerOf s1 f.node o with
    | some x =>
      if (policy? s 3).isSome ∧ sessionSilent s = false then
        sendReason s1 p.chan 6 f.node x.reason (((header? s).map fun h => h.tag).getD 0) else s1
    | none => s1

/-- DIAG_REPLY (R261, R266): Kutia sends no DIAG request of its own; a stranger's reply refreshes its record. -/
def execDiagReply (p : PortTime) (f : BusFrame) (o : OpenFrame) (s : State) : Host.Outcome State Fault Refusal :=
  openingAt p 6 f o s fun s => if openForUs s p.chan o = false ∨ inSplit s then s else strangerFrame s f.node o

/-! ### OPEN (R262 to R265) -/

/-- REFUSE with its source: 95 when all slots are in use, else 88. A sender that is not in the partner table is a stranger, whatever the
reason, and so is a partner that is refused for 01h to 06h (R266); the record of one that is known already takes every later reason. -/
def refuseOpen (s : State) (c : Chan) (node : Nat) (o : OpenFrame) (reason : U8) : State :=
  let s1 := sendReason s c 3 node reason 0
  let stranger := (partnerOf s o.ptype o.ident).isNone || (1 ≤ reason.toNat && reason.toNat ≤ 6) || (strangerOf s node o).isSome
  let s2 := if stranger then noteStranger s1 node o.ident reason else s1
  if reason = 7 then
    raise { s2 with sessions := { s2.sessions with
      full := s2.sessions.full + 1, quiet := s2.sessions.quiet ++ [node] } } 95 (u32 node) 512 o.ident
  else
    raise { s2 with sessions := { s2.sessions with refused := s2.sessions.refused + 1 } } 88 (u32 node) (u32 reason.toNat) o.ident

/-- The Loom can check telegrams in Watch: it holds its pattern and section 07h, and is not excluded (R339). -/
def loomAble (s : State) : Bool :=
  s.lanes.l.loadCode == 0 && s.lanes.l.state != 1 && s.lanes.l.state != 2
    && ((s.station.map fun d => !d.policies.isEmpty).getD false)

/-- Check 1 of R262. -/
def modeRefuses (s : State) : Bool :=
  match s.modes.mode with
  | .split => true
  | .watch => !loomAble s
  | _ => false

/-- The slices of an ACCEPT: four words, FFFFh unused. -/
def sliceWords (l : List Nat) : List U16 := (List.range 4).map fun i => ((l[i]?).map u16).getD 0xFFFF

/-- The ACCEPT of an Opening slot that the partner opened. -/
def acceptFrame (s : State) (k : Nat) (y : Sess) : OpenFrame :=
  { ownOpen s y.node 0 with
    gens := u8 y.gen, pls := u8 y.payload, opts := u8 y.option, pers := u8 y.period, prof := u8 (y.profile.getD 0xFF)
    codes := u16 (16 * y.pa + y.pb), sess := u16 k
    slices := if sessType s y = 0 then sliceWords y.slices else [0, 0, 0, 0]
    schka := ((sc? s y.pa).map fun x => x.schk).getD 0, schkb := ((sc? s y.pb).map fun x => x.schk).getD 0 }

/-- A session for a partner as it stands when its slot becomes Opening. -/
def openingSess (q node : Nat) (x : Options) (slices : List Nat) (o : OpenFrame) (carried : Nat) (byUs : Bool) : Sess :=
  { state := 1, partner := some q, node := node, gen := x.gen, payload := x.payload, option := x.option, period := x.period,
    profile := some x.profile, pa := x.pa, pb := x.pb, slices := slices, rseq := 0xFFFFFFFF, carried := carried, byUs := byUs,
    offer := some o, opensAt := if byUs then o.matrix else 0, stamped := byUs }

/-- An ACCEPT is handed to the arbitrating span; its slot is promised until it is sent (Table 09-1). -/
def promise (s : State) (c : Chan) (k : Nat) (node : Nat) (o : OpenFrame) (y : Sess) : State :=
  let s1 := { s with sessions := { s.sessions with promised := s.sessions.promised ++ [⟨k, s.now, node, o, y⟩] } }
  sendOpenFrame s1 c 2 (acceptFrame s1 k y)

/-- A promised ACCEPT is taken back before it is sent. -/
def takeBack (s : State) (k : Nat) : State :=
  let drop := fun (x : ChanSt) => { x with queue := x.queue.filter fun q => acceptSlot q.frame != some k }
  dropPromise (modBus (modBus s .a drop) .b drop) k

/-- Checks 5 and 6 of R262 and the ACCEPT. -/
def admitTo (s : State) (c : Chan) (node : Nat) (o : OpenFrame) (q : Nat) (x : Partner) (k : Nat) : State :=
  match policy? s x.ptype with
  | none => refuseOpen s c node o 1
  | some pol =>
    match negotiate s o pol x with
    | .error code => refuseOpen s c node o code
    | .ok opt =>
      let need := if x.ptype = 0 then opt.payload / 16 else 0
      let l := freeSlices s need
      if !positionsOk s x.ptype node || l.length ≠ need then refuseOpen s c node o 9
      else promise s c k node o (openingSess q node opt l o k false)

/-- R265: the promise that an OPEN with the same arrival stamp from a lower node takes over: that of the highest node. -/
def rivalOf (s : State) (node : Nat) : Option Promise :=
  (s.sessions.promised.filter fun x => x.since == s.now && node < x.node).foldl (fun best x =>
    if best.all fun (y : Promise) => y.node < x.node then some x else best) none

/-- Checks 4 to 6 of R262. For the last Free slot the earlier stamp wins, and at equal stamps the lower node (R265). DESIGN CHOICE (log
157): the lower node takes the slot from its rival before its own checks 5 and 6 are known; where it fails them, both are refused, and the
slot stays Free. -/
def admitPartner (s : State) (c : Chan) (node : Nat) (o : OpenFrame) (q : Nat) (x : Partner) : State :=
  match freeSess s, rivalOf s node with
  | some k, _ => admitTo s c node o q x k
  | none, some r => admitTo (refuseOpen (takeBack s r.slot) c r.node r.offer 7) c node o q x r.slot
  | none, none => refuseOpen s c node o 7

/-- The bus engine's note of a closing event, taken by the next snapshot (R109, R268). -/
def noteClosing (s : State) (k : Nat) (reason : U8) : State :=
  { s with sessions := { s.sessions with events := s.sessions.events ++ [.closed k reason s.now] } }

/-- Two OPENs make the same offer: they are the same but for TARGET, which names the node of the pair that is spoken to. -/
def sameOffer (x y : OpenFrame) : Bool := { x with target := y.target } == y

/-- An OPEN from an identity that holds a slot (R264): the same ACCEPT again, or the session closes at the next snapshot. -/
def openAgain (s : State) (c : Chan) (node : Nat) (o : OpenFrame) (k : Nat) : State :=
  let y := sess s k
  if y.state = 1 ∧ y.byUs = false ∧ y.offer.any (sameOffer o) then sendOpenFrame s c 2 (acceptFrame s k y)
  else refuseOpen (if y.state = 3 then s else noteClosing s k 0x0A) c node o 0x0A

/-- An OPEN from an identity whose ACCEPT still waits to be sent: the same offer is being answered, another one is taken instead. -/
def openPromised (s : State) (c : Chan) (node : Nat) (o : OpenFrame) (q : Nat) (x : Partner) (p : Promise) : State :=
  if sameOffer o p.offer then s else admitPartner (takeBack s p.slot) c node o q x

/-- The node that an opening frame of a partner came from, and the SESS of its ACCEPT: what a standby knows of the partner
(R398). -/
def noteNode (s : State) (c : Chan) (node : Nat) (o : OpenFrame) (accept : Bool) : State :=
  match partnerOf s o.ptype o.ident with
  | some (q, _) =>
    if targetsUs s c o then
      let was := tget (0x3FF, 0) s.sessions.heardAs q
      { s with sessions := { s.sessions with
          heardAs := tput (0x3FF, 0) s.sessions.heardAs q (node, if accept then o.sess.toNat else was.2) } }
    else s
  | none => s

/-- SESSION_OPEN (R262): the checks in order, answered with ACCEPT or with the reason of the first that fails. -/
def execSessionOpen (p : PortTime) (f : BusFrame) (o : OpenFrame) (s : State) : Host.Outcome State Fault Refusal :=
  openingAt p 1 f o s fun s0 =>
    let node := f.node
    let s1 := noteNode s0 p.chan node o false
    if openForUs s1 p.chan o = false then s1
    else if sessionSilent s1 then strangerFrame s1 node o else
    let s := refreshStranger s1 node o
    if s.sessions.quiet.contains node then s
    else if modeRefuses s then refuseOpen s p.chan node o 0x0B
    else match partnerOf s o.ptype o.ident with
      | none => refuseOpen s p.chan node o 8
      | some (q, x) =>
        match slotOfPartner s q, s.sessions.promised.find? fun y => y.sess.partner == some q with
        | some k, _ => openAgain s p.chan node o k
        | none, some y => openPromised s p.chan node o q x y
        | none, none => admitPartner s p.chan node o q x

/-- SESSION_OPEN_SEND (R261): the Kutia with the lower session address; the manual does not say where the neighbour's node
comes from. -/
def execSessionOpenSend (t : Time) (partner : Nat) (s : State) : Host.Outcome State Fault Refusal :=
  at_ t s fun s =>
    match partner? s partner with
    | some q =>
      if q.ptype = 1 ∧ ownSession s < partnerAddr q ∧ sessionSilent s = false ∧ modeRefuses s = false ∧ s.bus.engine = 5
          ∧ slotOfPartner s partner = none ∧ s.sessions.waiting.contains partner = false then
        let target := Config.free s.draws % 1023
        let s1 := sendOpenFrame (draw s) .a 1 (ownOffer s q target)
        { s1 with sessions := { s1.sessions with
            sentOpen := (s1.sessions.sentOpen.filter fun x => x != partner) ++ [partner] } }
      else s
    | none => s

/-- An OPEN of this module has been answered. -/
def openAnswered (s : State) (q : Nat) : State :=
  { s with sessions := { s.sessions with sentOpen := s.sessions.sentOpen.filter fun x => x != q } }

/-- No new OPEN to this partner before the next matrix boundary. -/
def waitBoundary (s : State) (q : Nat) : State :=
  { s with sessions := { s.sessions with waiting := s.sessions.waiting ++ [q] } }

/-- SESSION_ACCEPT (R264). -/
def execSessionAccept (p : PortTime) (f : BusFrame) (o : OpenFrame) (s : State) : Host.Outcome State Fault Refusal :=
  openingAt p 2 f o s fun s0 =>
    let node := f.node
    let s1 := noteNode s0 p.chan node o true
    if openForUs s1 p.chan o = false ∨ inSplit s1 then s1 else
    let s := strangerFrame s1 node o
    match partnerOf s o.ptype o.ident with
    | some (q, x) =>
      if x.ptype ≠ 1 ∨ s.sessions.sentOpen.contains q = false ∨ slotOfPartner s q ≠ none then s else
      let s1 := openAnswered s q
      match freeSess s with
      | some k => notePeak (modSess s1 k fun _ => openingSess q node (acceptOptions o) [] o o.sess.toNat true)
      | none => waitBoundary (sendReason s1 p.chan 4 node 7 0) q
    | none => s

/-- SESSION_REFUSE (R265): the OPEN is answered; after 07h the next one waits for a matrix boundary. -/
def execSessionRefuse (p : PortTime) (f : BusFrame) (o : OpenFrame) (s : State) : Host.Outcome State Fault Refusal :=
  openingAt p 3 f o s fun s0 =>
    if openForUs s0 p.chan o = false ∨ inSplit s0 then s0 else
    let s := strangerFrame s0 f.node o
    match partnerOf s o.ptype o.ident with
    | some (q, _) =>
      if s.sessions.sentOpen.contains q then
        let s1 := openAnswered s q
        if o.reason = 7 then waitBoundary s1 q else s1
      else s
    | none => s

/-- SESSION_CLOSE (R268): an Opening or Open session closes at the snapshot that holds the CLOSE. -/
def execSessionClose (p : PortTime) (f : BusFrame) (o : OpenFrame) (s : State) : Host.Outcome State Fault Refusal :=
  openingAt p 4 f o s fun s0 =>
    if openForUs s0 p.chan o = false ∨ inSplit s0 then s0 else
    let s := strangerFrame s0 f.node o
    match (partnerOf s o.ptype o.ident).bind fun y => slotOfPartner s y.1 with
    | some k => if (sess s k).state = 3 then s else noteClosing s k 0
    | none => s

/-- SESSION_CLOSE_REQUEST (R282). -/
def writeClose (s : State) (k : Nat) (value : U8) : Write :=
  refuseUnless (value == 1) 0x0230 <|
  refuseUnless ((sess s k).state == 2) 0x0460 <|
  .ok (modSess s k fun y => { y with closeReq := some s.now })

/-- SESSION_CLOSE_REQUEST (R282): a write to 14xx:12. -/
def execSessionCloseRequest (t : Time) (ch : Fin 8) (slot : Fin 512) (value : U8) (s : State) :
    Host.Outcome State Fault Refusal :=
  writeAt t s ch.val fun s => needAuth s ch.val fun s => writeClose s slot.val value

/-! ### Closing (R268) -/

/-- The objects of a partner have no report any more. -/
def forgetReports (s : State) (q : Nat) : State :=
  (elements s).foldl (fun st e =>
    if e.2.remote ∧ e.2.bind1.partner = some q then modElem st e.1 fun y => { y with report := none } else st) s

/-- R268: from this snapshot the slot is Closed; CLOSE goes to the partner in the Issue phase (R108), source 90 names the reason. -/
def closeSession (s : State) (k : Nat) (reason : U8) : State :=
  let y := sess s k
  let q := y.partner.getD 0xFFFF
  let s1 := modSess s k fun x => { x with
    state := 3, reason := reason, firstCyc := none, heard := false, records := [], closeReq := none }
  let s2 := { s1 with sessions := { s1.sessions with
    mailbox := s1.sessions.mailbox.filter fun m => m.slot != k
    records := s1.sessions.records.filter fun r => r.slot != k
    timeouts := if reason = 0x0C then s1.sessions.timeouts + 1 else s1.sessions.timeouts
    closeDue := s1.sessions.closeDue ++ [(y.node, reason)] } }
  let snap := s2.cyc.snap
  let s3 := { s2 with cyc := { s2.cyc with snap := { snap with
    records := snap.records.filter fun r => r.slot != k, mail := snap.mail.filter fun m => m.slot != k
    events := snap.events ++ [.closed k reason s2.now] } } }
  raise (forgetReports s3 q) 90 (u32 k) (u32 reason.toNat) (u32 q)

/-- The CLOSE frames that are due go out; a standby sends none (R256). -/
def sendCloses (s : State) : State :=
  (if s.twin.role = .standby then [] else s.sessions.closeDue).foldl (fun st x => sendReason st .a 4 x.1 x.2 0)
    { s with sessions := { s.sessions with closeDue := [] } }

/-- SESSION_TIMEOUT (R278): TMO exchange periods without an accepted telegram. -/
def execSessionTimeout (t : Time) (slot : Fin 512) (s : State) : Host.Outcome State Fault Refusal :=
  at_ t s fun s =>
    let y := sess s slot.val
    if y.state = 2 ∧ y.firstCyc.isSome ∧ tmoOf s y ≤ y.missed then closeSession s slot.val 0x0C else s

/-! ### The lanes' check of an opened session (R267) -/

/-- R267: the options are those that the lanes find in the station data. -/
def optionsOk (s : State) (y : Sess) : Bool :=
  match y.partner.bind (partner? s), y.offer with
  | some q, some o =>
    let x := optionsOf y
    if y.byUs then
      match policy? s 1 with
      | some p =>
        p.genl.contains x.gen && (p.pll.any fun c => payloadBytes c == x.payload && c ≤ genTop x.gen) && p.perl.contains x.period
          && p.optl.contains x.option && x.option ≤ genTop x.gen && p.pairs.contains (x.pa, x.pb)
          && (sc? s x.pa).isSome && (sc? s x.pb).isSome && scWidth s x.pa ≤ genWidth x.gen && scWidth s x.pb ≤ genWidth x.gen
          && x.profile < 16 && q.allow.getLsbD x.profile
      | none => false
    else match policy? s q.ptype with
      | some p => (match negotiate s o p q with
        | .ok z => decide (z = x)
        | .error _ => false)
      | none => false
  | _, _ => false

/-- The lanes in the vote that find a difference in the options of a session: each checks its own copy, and one that `dissent` names
for the slot finds the contrary of what the station data says. -/
def rejectingLanes (s : State) (dissent : List (Nat × Lane)) (k : Nat) (y : Sess) : List Lane :=
  (voters s).filter fun ln => optionsOk s y == dissent.contains (k, ln)

/-- A bit map of lanes. -/
def laneMap (l : List Lane) : Nat := bitmap (allLanes.map fun ln => l.contains ln)

/-- The snapshot holds "opened": the lanes check the options, and the session is used from this cycle; when any lane finds a difference,
it is closed with 0Eh and source 92. -/
def openInSnapshot (dissent : List (Nat × Lane)) (s : State) (k : Nat) : State :=
  let y := sess s k
  if y.state ≠ 2 then s
  else match rejectingLanes s dissent k y with
    | [] => modSess s k fun x => { x with firstCyc := some s.cyc.number, missed := 0, heard := false, built := 0 }
    | l => closeSession (raise s 92 (u32 k) (u32 (laneMap l)) s.cyc.number) k 0x0E

/-! ### Codes (R273, R279) -/

/-- A safety code over a message. -/
def codeOf (s : State) (n : Nat) (m : List Byte) : Nat :=
  match sc? s n with
  | some x => crc x.width x.poly.toNat x.init.toNat x.refin x.refout x.xorout.toNat m
  | none => 0

/-- The message M of R273. -/
def messageM (addr option : Nat) (tseq : U32) (payload : List Byte) : List Byte :=
  leBytes 4 addr ++ (if option = 1 then [] else leBytes 4 tseq.toNat) ++ payload

/-- ADDR from the partner to this module, and from this module to the partner. -/
def addrUp (s : State) (q : Partner) : Nat := partnerAddr q * 65536 + ownSession s
def addrDown (s : State) (q : Partner) : Nat := ownSession s * 65536 + partnerAddr q

/-- The Loom runs: in the vote, or in the shadow cycles of its re-admission (Table 02-4). -/
def loomRuns (s : State) : Bool := s.lanes.l.state == 0 || s.lanes.l.state == 6

/-- A check-value unit of the running Loom computed `n` codes; a mismatch is counted with its slot (Table 09-13). -/
def noteUnit (s : State) (u k n : Nat) (wrong : Bool) : State :=
  if loomRuns s = false then s else
  { s with sessions := { s.sessions with
      units := tput {} s.sessions.units u (let x := tget {} s.sessions.units u
        { x with computed := x.computed + u64 n, wrong := if wrong then x.wrong + 1 else x.wrong,
                 last := if wrong then some k else x.last }) } }

/-! ### Receiving a telegram (R246, R275 to R277) -/

/-- Sequence steps that are tried: one for Alive and Both, 1 to TMO for Fold. -/
def stepsTried (y : Sess) (tmo : Nat) (payload : List Byte) : List Nat :=
  if y.option = 2 then (List.range tmo).map fun j => j + 1
  else
    let j := ((byteAt payload 0).toNat + 256 - y.rseq.toNat % 256) % 256
    if 1 ≤ j ∧ j ≤ tmo then [j] else []

/-- MTYPE of a session's telegrams: boundary records between two Kutia modules, at generation 4 alone (R260, R271); what such a session
carries at a lower generation the manual does not say: items, of which there are none (log 113). -/
def mtypeOf (s : State) (y : Sess) : Nat := if sessType s y = 1 ∧ y.gen = 4 then 1 else 0

/-- LEN, MTYPE, SESS and the code bits above WIDTH (R275). -/
def formatOk (s : State) (y : Sess) (body : List Byte) : Bool :=
  let p := y.payload
  let payload := body.take p
  decide (body.length = p + 16)
    && (byteAt payload 1).toNat % 16 == mtypeOf s y
    && field payload 2 2 == y.carried
    && field body p 8 < 2 ^ scWidth s y.pa && field body (p + 8) 8 < 2 ^ scWidth s y.pb

/-- What the codes of a telegram show: whether some step verifies CODEA, some step CODEB, and the first that verifies both. -/
structure Verified where
  codeA : Bool
  codeB : Bool
  step  : Option Nat
  deriving DecidableEq, Repr

/-- The steps that are tried, against both codes (R275). -/
def tryCodes (s : State) (q : Partner) (y : Sess) (body : List Byte) : Verified :=
  let p := y.payload
  let payload := body.take p
  let steps := stepsTried y (tmoOf s y) payload
  let okA := fun (j : Nat) => codeOf s y.pa (messageM (addrUp s q) y.option (y.rseq + u32 j) payload) == field body p 8
  let okB := fun (j : Nat) => codeOf s y.pb (messageM (addrUp s q) y.option (y.rseq + u32 j) payload) == field body (p + 8) 8
  ⟨steps.any okA, steps.any okB, steps.find? fun j => okA j && okB j⟩

/-- R275: the step j that verifies both codes, or what is wrong: bit 0 CODEA, 1 CODEB, 2 sequence, 3 format. -/
def verifyTelegram (s : State) (q : Partner) (y : Sess) (body : List Byte) : Except Nat Nat :=
  if formatOk s y body = false then .error 8
  else if stepsTried y (tmoOf s y) (body.take y.payload) = [] then .error 4
  else
    let v := tryCodes s q y body
    match v.step with
    | some j => .ok j
    | none => .error (if v.codeA && v.codeB then 4 else bitmap [!v.codeA, !v.codeB])

/-- The position of a telegram for this module, as the schedule gives it. -/
def telegramEntry (s : State) (f : BusFrame) : Option SchedEntry :=
  let e := schedAt s f.chan f.bcyc f.pos
  if (e.kind = 1 ∨ e.kind = 4) ∧ (zoneNodes s).contains e.peer ∧ (e.node = f.node ∨ e.pair) then some e else none

/-- One copy of a vital telegram: valid by R226, R228 and R232, and in a position for this module. The frame buffers of a channel whose
crossing is Stopped give nothing (R331). -/
def takeCopy (s : State) (c : Chan) (f : Option BusFrame) : State × Option BusFrame :=
  match f with
  | none => (s, none)
  | some x =>
    if x.chan ≠ c ∨ x.ftype ≠ 2 ∨ crossRuns s (6 + chanNo c) = false then (s, none) else
    match receive s x true with
    | (s1, true) => (s1, if (telegramEntry s x).isSome then some x else none)
    | (s1, false) => (s1, none)

/-- R246: what the two copies give; `ours` says that the positions are scheduled to this node (1302:04). -/
def combineCopies (s : State) (ours : Bool) (a b : Option BusFrame) : State × Option BusFrame :=
  match a, b with
  | some x, some y =>
    if x.body = y.body then ({ s with bus := { s.bus with both := s.bus.both + 1 } }, some x)
    else (raise { s with bus := { s.bus with mismatched := s.bus.mismatched + 1 } } 85 (u32 x.node) (u32 x.pos) (u32 y.pos), none)
  | some x, none => ({ s with bus := { s.bus with one := s.bus.one + 1 } }, some x)
  | none, some y => ({ s with bus := { s.bus with one := s.bus.one + 1 } }, some y)
  | none, none => (if ours then { s with bus := { s.bus with noCopy := s.bus.noCopy + 1 } } else s, none)

/-- The open session of a telegram's position. -/
def telegramSlot (s : State) (f : BusFrame) : Option Nat :=
  (telegramEntry s f).bind fun e =>
    ((slotsInUse s).find? fun x => x.2.state == 2 && (x.2.node == e.node || x.2.node == f.node)
      && (sessType s x.2 == 1) == (e.kind == 4)).map fun x => x.1

/-- Rejected: counted, nothing of it is used. -/
def rejectTelegram (s : State) (k : Nat) : State := modSess s k fun x => { x with rejected := x.rejected + 1 }

/-- TEST of the session header: in Test Track and Hold (R341). -/
def testBit (s : State) : Nat := if s.modes.mode = .testTrack ∨ s.modes.mode = .hold then 128 else 0

/-- TEST of a received telegram. -/
def testGiven (y : Sess) (body : List Byte) : Bool := (byteAt (body.take y.payload) 1).getLsbD 7

/-- A lane's verdict: Mill A verifies CODEA, Mill B CODEB, the Loom both (R276); the format and the sequence are every lane's. -/
def verdictOf (v : Verified) (fits : Bool) (ln : Lane) : Bool :=
  fits && match ln with
    | .a => v.codeA
    | .b => v.codeB
    | .l => v.step.isSome

/-- Every lane's verdict is kept for its generic digest; the verdict of a lane in `wrong` is the contrary of what its checker should
find. -/
def noteVerdicts (s : State) (verdict : Lane → Bool) : State :=
  allLanes.foldl (fun st ln => modLane st ln fun x => { x with verdicts := x.verdicts ++ [verdict ln] }) s

/-- A telegram that every lane in the vote accepts: RSEQ, and the mailbox. -/
def acceptTelegram (s : State) (k j : Nat) (payload : List Byte) : State :=
  let seq := (sess s k).rseq + u32 j
  let s1 := countUp (modSess s k fun x => { x with rseq := seq, accepted := x.accepted + 1 }) 12 1
  { s1 with sessions := { s1.sessions with mailbox := s1.sessions.mailbox ++ [⟨k, seq, payload, s.now⟩] } }

/-- The receive units of the Loom (R279): unit 2 counts a wrong CODEA and unit 3 a wrong CODEB. When the Loom finds the contrary of what it
should, it has either accepted wrong codes, and its units have found no mismatch, or one of them, open which, has found a right code
wrong. -/
def noteReceiveUnits (s : State) (k : Nat) (v : Verified) (contrary : Bool) : State :=
  let n := Config.free s.draws % 3
  if contrary = false then noteUnit (noteUnit s 2 k 1 !v.codeA) 3 k 1 !v.codeB
  else if v.step.isNone then noteUnit (noteUnit s 2 k 1 false) 3 k 1 false
  else noteUnit (noteUnit (draw s) 2 k 1 (n != 1)) 3 k 1 (n != 0)

/-- Verification of a delivered telegram: outside Test Track one with TEST is refused (R277); else the verdicts (R275, R276). One that is
not valid raises source 91, verdicts that differ raise source 92, and both can be so (log 114). -/
def judgeTelegram (s : State) (k : Nat) (body : List Byte) (wrong : List Lane) : State :=
  let y := sess s k
  match y.partner.bind (partner? s) with
  | none => s
  | some q =>
    if testGiven y body ∧ s.modes.mode ≠ .testTrack then raise (rejectTelegram s k) 93 (u32 k) 1 s.cyc.number else
    let v := tryCodes s q y body
    let result := verifyTelegram s q y body
    let fits := match result with
      | .error e => e % 4 != 0 || (e == 4 && v.codeA)
      | .ok _ => true
    let verdict := fun (ln : Lane) => verdictOf v fits ln != wrong.contains ln
    let s1 := noteVerdicts (noteReceiveUnits s k v (wrong.contains .l)) verdict
    let rejecting := (voters s).filter fun ln => !verdict ln
    let differ := rejecting ≠ [] ∧ rejecting.length ≠ (voters s).length
    let note := fun (st : State) => if differ then raise st 92 (u32 k) (u32 (laneMap rejecting)) s.cyc.number else st
    match result with
    | .ok j => if rejecting = [] then acceptTelegram s1 k j (body.take y.payload) else note (rejectTelegram s1 k)
    | .error e => note (raise (rejectTelegram s1 k) 91 (u32 k) (u32 e) y.rseq)

/-- The paired positions that a command reports on are this node's: those of a frame it gives, or, where both are silent, those that the
command stands for. -/
def scheduledHere (s : State) (fa fb : Option BusFrame) : Bool :=
  (fa.all fun f => (telegramEntry s f).isSome) && fb.all fun f => (telegramEntry s f).isSome

/-- VITAL_TELEGRAM (R246, R275 to R277): what the two channels delivered in the paired positions, and the lanes whose checker finds the
contrary of what it should. Telegrams are accepted in Active alone (R237); before that their frames are heard (R391). -/
def execVitalTelegram (t : Time) (fa fb : Option BusFrame) (wrong : List Lane) (s : State) :
    Host.Outcome State Fault Refusal :=
  at_ t s fun s =>
    if s.bus.engine = 0 ∨ inSplit s then s else
    let a := takeCopy s .a fa
    let b := takeCopy a.1 .b fb
    if s.bus.engine ≠ 5 then b.1 else
    match combineCopies b.1 (scheduledHere s fa fb) a.2 b.2 with
    | (s1, some f) =>
      match telegramSlot s1 f with
      | some k => judgeTelegram s1 k f.body wrong
      | none => s1
    | (s1, none) => s1

/-! ### Matrix boundaries (R239, R264) -/

/-- The engine's part: observation begins, or a matrix of 64 good basic cycles ends and the node is admitted (R239); the Belfry follows
port A (R249). -/
def boundaryEngine (s : State) (c : Chan) : State :=
  let p := port s c
  if p.engine ≠ 4 then s
  else if p.observing ∧ p.matrixOk ∧ p.synced = 64 then
    let s1 := setEngine s c 5
    if portOf s c = .a then admitTime s1 else s1
  else modPort s c fun x => { x with observing := true, matrixOk := true, synced := 0 }

/-- The load and the mean wait of a channel over the matrix that ends (130x:09, 130x:0A): positions 161 to 199 of 64 basic cycles. -/
def boundaryChan (x : ChanSt) : ChanSt :=
  { x with load := u8 (min 100 (100 * x.busy / (39 * 64))), wait := u32 (x.waitSum / max 1 x.waits / us 1)
           busy := 0, waitSum := 0, waits := 0 }

/-- The mean correction over the matrix that ends (2C00:04), 1 ns in 1 ms being 1 ppm, and a time master's own steering. -/
def noteRate (s : State) : State :=
  { s with
    modes := { s.modes with rateCorr := s.bus.corrSum * 1000 / 64 + s.bus.steer }
    bus := { s.bus with corrSum := 0 } }

/-- One slot at a boundary: Opening sessions whose boundary this is become Open, Closed slots become Free. -/
def boundarySess (s : State) (k : Nat) (y : Sess) : State :=
  if y.state = 1 ∧ y.stamped ∧ y.opensAt = s.bus.matrix then
    let s1 := modSess s k fun x => { x with state := 2, opened := s.now }
    { s1 with sessions := { s1.sessions with events := s1.sessions.events ++ [.opened k s.now] } }
  else if y.state = 3 then modSess s k fun x => { reason := x.reason }
  else s

/-- The sessions' part of a boundary (R264, R265). -/
def boundarySessions (s : State) : State :=
  let s1 := { s with sessions := { s.sessions with quiet := [], waiting := [] } }
  (slotsInUse s1).foldl (fun st x => boundarySess st x.1 x.2) s1

/-- MATRIX_BOUNDARY (R239, R264, R265), of one port's cluster in Split. -/
def execMatrixBoundary (p : PortTime) (s : State) : Host.Outcome State Fault Refusal :=
  at_ p.t s fun s =>
    if engineOn s p.chan = 0 then s else
    let s1 := modPort s p.chan fun y => { y with matrix := y.matrix + 1, bcyc := 0, turnAt := 0 }
    let s2 := (portChans s p.chan).foldl (fun st x => modBus st x boundaryChan) s1
    boundaryEngine (if portOf s p.chan = .a then boundarySessions (noteRate s2) else s2) p.chan

/-! ### The snapshot's part (R109, R268, R278) -/

/-- The 12 bytes of a boundary record (Table 03-5). -/
def recordBytes (msg : Nat) (b : BoundaryRec) : List Byte :=
  leBytes 4 (msg * 2 ^ 28 + b.relem * 2 ^ 14 + b.rroute)
    ++ leBytes 4 (b.token.toNat * 2 ^ 24 + b.cstate * 2 ^ 20 + b.rcode % 16 * 2 ^ 16 + b.sroute) ++ leBytes 4 b.selem

/-- A boundary record read from a payload. -/
def parseRecord (e : List Byte) : Nat × BoundaryRec :=
  let w0 := word e 0
  let w1 := word e 1
  (bits w0 31 28,
    { relem := bits w0 27 14, rroute := bits w0 12 0, token := u8 (bits w1 31 24), cstate := bits w1 23 20,
      rcode := bits w1 19 16, sroute := bits w1 12 0, selem := bits (word e 2) 13 0 })

/-- One telegram of the mailbox enters the snapshot of a session that it shows open; its report items act at the vote. -/
def takeMail (s : State) (m : RxTelegram) : State :=
  let y := sess s m.slot
  if y.state ≠ 2 ∨ y.firstCyc.isNone then s else
  let s1 := modSess s m.slot fun x => { x with heard := true }
  if mtypeOf s y = 1 then
    let l := ((chunks 12 5 (m.payload.drop 4)).map parseRecord).filter fun r => 1 ≤ r.1 && r.1 ≤ 6
    let snap := s1.cyc.snap
    { s1 with cyc := { s1.cyc with snap := { snap with
      records := snap.records ++ l.map fun r => ⟨m.slot, r.1, r.2, m.stamp⟩ } } }
  else
    let snap := s1.cyc.snap
    { s1 with cyc := { s1.cyc with snap := { snap with mail := snap.mail ++ [m] } } }

/-- R278: at an exchange cycle, a period without an accepted telegram is counted; SESSION_TIMEOUT acts at TMO. -/
def countMissed (s : State) (k : Nat) : State :=
  let y := sess s k
  match y.firstCyc with
  | none => s
  | some c =>
    let d := cyclesSince c s.cyc.number
    if y.state = 2 ∧ d ≠ 0 ∧ d % y.period = 0 then
      modSess s k fun x => { x with missed := if x.heard then 0 else min (x.missed + 1) 15, heard := false }
    else s

/-- One session event that the snapshot holds. -/
def takeEvent (dissent : List (Nat × Lane)) (s : State) (e : SessEvent) : State :=
  match e with
  | .opened k t =>
    let snap := s.cyc.snap
    openInSnapshot dissent { s with cyc := { s.cyc with snap := { snap with events := snap.events ++ [.opened k t] } } } k
  | .closed k reason _ => if (sess s k).state = 1 ∨ (sess s k).state = 2 then closeSession s k reason else s

/-- The stamp of a session event. -/
def SessEvent.stamp : SessEvent → Time
  | .opened _ t => t
  | .closed _ _ t => t

/-- Everything of the sessions that a snapshot at S takes: events, host closes, telegrams, records, missed periods. -/
def takeSessions (dissent : List (Nat × Lane)) (s : State) : State :=
  let at' := s.cyc.begun
  let ev := s.sessions.events.filter fun e => e.stamp < at'
  let s1 := { s with sessions := { s.sessions with events := s.sessions.events.filter fun e => at' ≤ e.stamp } }
  let s2 := ev.foldl (takeEvent dissent) s1
  let s3 := (slotsInUse s2).foldl (fun st x =>
    if x.2.state = 2 ∧ x.2.closeReq.any (fun t => t < at') then closeSession st x.1 0x0D else st) s2
  let mail := s3.sessions.mailbox.filter fun m => m.stamp < at'
  let recs := s3.sessions.records.filter fun r => r.stamp < at' && (sess s3 r.slot).firstCyc.isSome
  let snap := s3.cyc.snap
  let s4 := { s3 with
    sessions := { s3.sessions with
      mailbox := s3.sessions.mailbox.filter fun m => at' ≤ m.stamp
      records := s3.sessions.records.filter fun r => at' ≤ r.stamp }
    cyc := { s3.cyc with snap := { snap with records := snap.records ++ recs } } }
  let s5 := mail.foldl takeMail s4
  (slotsInUse s5).foldl (fun st x => countMissed st x.1) s5

/-! ### Building telegrams (R270 to R274) -/

/-- The session header of Table 09-8. -/
def sessHeader (s : State) (y : Sess) (tseq : U32) (part mtype : Nat) : List Byte :=
  [if y.option = 2 then 0 else u8 tseq.toNat, u8 (testBit s + part * 16 + mtype)] ++ leBytes 2 y.carried

/-- The command items of a partner's objects `lo` to `hi - 1`, as bytes. -/
def commandBytes (s : State) (q lo hi : Nat) : List Byte :=
  let l := (elements s).filter fun e => e.2.remote && e.2.bind1.partner == some q
  (List.range (hi - lo)).flatMap fun i =>
    match l.find? fun e => e.2.bind1.obj == lo + i with
    | some e => leBytes 2 (commandItem s e.1 e.2)
    | none => [0, 0]

/-- A payload filled with 0 to its length. -/
def fillTo (n : Nat) (l : List Byte) : List Byte := (l ++ List.replicate (n - l.length) 0).take n

/-- Both codes of a payload. -/
def codesFor (s : State) (q : Partner) (y : Sess) (tseq : U32) (width : Nat) (payload : List Byte) : List Byte :=
  let m := messageM (addrDown s q) y.option tseq payload
  leBytes width (codeOf s y.pa m) ++ leBytes width (codeOf s y.pb m)

/-- How many boundary records a telegram of the session carries: 5 at most, and no more than its payload holds (R96). -/
def recordRoom (y : Sess) : Nat := min 5 ((y.payload - 4) / 12)

/-- The vital telegram of a TYPE 1 or TYPE 2 session (R269, R271). -/
def telegramBody (s : State) (qn : Nat) (q : Partner) (y : Sess) (tseq : U32) : List Byte :=
  let content := if mtypeOf s y = 1 then (y.records.take (recordRoom y)).flatMap fun r => recordBytes r.1 r.2
    else commandBytes s qn 0 (reportRange y.payload)
  let payload := fillTo y.payload (sessHeader s y tseq 0 (mtypeOf s y) ++ content)
  payload ++ codesFor s q y tseq 8 payload

/-- Slice part `j` of a TYPE 0 session: 16 bytes of payload and two codes of 6 bytes (R271, R272). -/
def sliceBody (s : State) (qn : Nat) (q : Partner) (y : Sess) (tseq : U32) (j : Nat) : List Byte :=
  let payload := fillTo 16 (sessHeader s y tseq j 0 ++ commandBytes s qn (6 * j) (6 * j + 6))
  payload ++ codesFor s q y tseq 6 payload

/-- The exchange of a session falls into this cycle (R274). -/
def exchangeNow (s : State) (y : Sess) : Bool :=
  y.state == 2 && y.firstCyc.any fun c => cyclesSince c s.cyc.number % y.period == 0

/-- The reasons of R274 that can withhold a telegram with the lanes as they are. -/
def withholdable (s : State) (why : Nat) : Bool :=
  match degradedKind s with
  | 1 => why == 2 || why == 3
  | 2 => why == 1 || why == 3
  | 3 => why == 0
  | _ => why < 4

/-- One session in the Issue phase: its telegram is handed over, or withheld with source 89. -/
def buildSession (withheld : List (Nat × Nat)) (s : State) (k : Nat) : State :=
  let y := sess s k
  match y.partner, y.partner.bind (partner? s) with
  | some qn, some q =>
    if exchangeNow s y = false then s else
    let tseq := u32 y.built
    let s1 := modSess s k fun x => { x with
      built := (x.built + 1) % 4294967296, records := if mtypeOf s y = 1 then x.records.drop (recordRoom y) else x.records }
    let found := withheld.filter fun w => w.1 == k && withholdable s w.2
    let codes := if q.ptype = 0 then y.payload / 16 else 1
    let bad := fun (u : Nat) => found.any fun w => w.2 == u + 1
    let s2 := noteUnit (noteUnit s1 0 k codes (bad 0)) 1 k codes (bad 1)
    match found.head? with
    | some w => raise s2 89 (u32 k) (u32 w.2) tseq
    | none =>
      let s2 := countUp (modSess s2 k fun x => { x with tseq := tseq }) 11 1
      if q.ptype = 0 then s2
      else { s2 with bus := { s2.bus with staged := tput [] s2.bus.staged k (telegramBody s qn q y tseq) } }
  | _, _ => s

/-- Slice `x` (16 x group + slice) of a down frame: the part of the session that holds it, if its exchange falls into this
cycle and was not withheld; else zeros (R272). -/
def sliceAt (s : State) (built : List Nat) (x : Nat) : List Byte :=
  match (slotsInUse s).find? fun e => e.2.slices.contains x && built.contains e.1 with
  | some (_, y) =>
    match y.partner, y.partner.bind (partner? s) with
    | some qn, some q => sliceBody s qn q y (u32 y.built) (y.slices.idxOf x)
    | _, _ => List.replicate 28 0
  | none => List.replicate 28 0

/-- The down frame of a group (Table 09-9). -/
def groupBody (s : State) (built : List Nat) (g : Nat) : List Byte :=
  [u8 g, 16] ++ leBytes 2 (ownSession s) ++ [0, 0, 0] ++ (List.range 16).flatMap fun i => sliceAt s built (16 * g + i)

/-- R339: in Watch, telegrams are sent only while the Loom is able; in every other mode that sends them, from the vote. -/
def sendsTelegrams (s : State) : Bool :=
  !sessionSilent s && (match s.modes.mode with
    | .split => false
    | .watch => loomAble s
    | _ => true)

/-- The sessions whose telegram this Issue phase hands over. -/
def sentSlots (withheld : List (Nat × Nat)) (s : State) : List Nat :=
  if sendsTelegrams s = false then [] else
  ((slotsInUse s).filter fun e => exchangeNow s e.2
    && !(withheld.any fun w => w.1 == e.1 && withholdable s w.2)).map fun e => e.1

/-- The telegrams of the Issue phase: handed over, to be sent in the positions of the next cycle (R245). -/
def buildTelegrams (withheld : List (Nat × Nat)) (s : State) : State :=
  let s0 := { s with bus := { s.bus with staged := [] } }
  if sendsTelegrams s = false then s0 else
  let bodies := (downGroups s).map fun g => (g, groupBody s (sentSlots withheld s) g)
  let s1 := ((slotsInUse s).map fun e => e.1).foldl (buildSession withheld) s0
  bodies.foldl (fun st x => { st with bus := { st.bus with staged := tput [] st.bus.staged (512 + x.1) x.2 } }) s1

end Sys2Proof.Machine
end

