-- ==== Sys2Proof/Machine/Twin.lean ====
section
/-!
DEFINITION. Machine/Twin.lean: twin pairing (14): roles (R388 to R391), the Twin link (R393), the mirror snapshot (R394 to R399),
giving up control (R401, R402, R406) and taking over (R403, R404).
-/

namespace Sys2Proof.Machine

/-! ### The link (R393) -/

/-- The peer counts as heard: a valid Twin frame within the last 10 ms (R390). -/
def peerHeard (s : State) : Bool := s.twin.heardAt.any fun t => s.now ≤ t + ms 10

/-- SEQ last applied, for source 121. -/
def lastApplied (s : State) : U32 := (s.twin.applied.map fun p => p.1).getD 0

/-- Source 121 (Table 14-10). -/
def raiseMirror (s : State) (why : Nat) : State := raise s 121 (u32 why) s.cyc.number (lastApplied s)

/-- A valid frame: counted, the link is up, and a source 121 that reported it down is withdrawn. -/
def twinFrameIn (s : State) : State :=
  let s1 := { s with twin := { s.twin with valid := s.twin.valid + 1, link := true, heardAt := some s.now, silent := false } }
  if (source s1 121).reported ∧ (source s1 121).params.getD 0 none32 = 0 then withdraw s1 121 else s1

/-- PD4 is up: the Twin controller runs (Table 12-8). -/
def twinUp (s : State) : Bool := (tget {} s.modes.domains 4).state == 2

/-- A valid frame (R393): its TYPE and LEN are those of its body, and its CRC fits. -/
def twinValid (x : TwinHead) (typ : Nat) (body : List Byte) : Bool :=
  x.typ == typ && x.len == body.length && x.crc == twinCrc typ x.lseq body

/-- A frame is discarded and counted. -/
def twinDiscard (s : State) : State := { s with twin := { s.twin with discarded := s.twin.discarded + 1 } }

/-- What arrives on the Twin link while its controller runs and crossing 9 is not Stopped (R331, R393): a frame with a bad CRC, a reserved
TYPE or a LEN outside its type is discarded and counted; a valid one is counted and acts as `f` says. -/
def twinReceive (s : State) (x : TwinHead) (typ : Nat) (body : List Byte) (f : State → State) : State :=
  if twinUp s = false ∨ crossRuns s 9 = false then s
  else if twinValid x typ body then f (twinFrameIn s) else twinDiscard s

/-- The COMMIT of the station image in service. -/
def ownCommit (s : State) : U64 := ((header? s).map fun h => h.commit).getD 0
/-- The PROGID of the running program. -/
def ownProgid (s : State) : U64 := (s.program.pair.map fun p => p.va.progid).getD 0

/-- The body of a HELLO (Table 14-3). -/
def helloBody (h : Hello) : List Byte :=
  leBytes 8 h.commit.toNat ++ leBytes 8 h.progid.toNat ++ [h.preference, h.mode, h.role, h.position, 0, 0, 0, 0]

/-- What this module says of itself. -/
def ownHello (s : State) : Hello :=
  ⟨ownCommit s, ownProgid s, s.twin.preference, u8 (modeCode s.modes.mode), u8 (roleCode s.twin.role), u8 s.host.position⟩

/-- A HELLO goes out. -/
def sendHello (s : State) : State := sendTwin s 1 (helloBody (ownHello s))

/-- TWIN_HELLO_SEND (R393): every 1 ms, in every mode except Off. -/
def execTwinHelloSend (t : Time) (s : State) : Host.Outcome State Fault Refusal :=
  at_ t s fun s => if s.modes.mode = .off then s else sendHello s

/-! ### Roles (R388 to R391) -/

/-- The CLASS 2 timer instances of the running program. -/
def vitalTimers (s : State) : List MapEntry :=
  ((s.program.pair.map fun p => p.va.map).getD []).filter fun m => m.cls == 2 && 7 ≤ m.typ && m.typ ≤ 9

/-- Elements that have an element record: movable ones and signals. -/
def mirrored (x : Element) : Bool := isMovable x.kind || x.kind == 3

/-- WSNAP of R396. -/
def worstSnapshot (s : State) : Nat :=
  72 + 32 * 1024 + 8 * (vitalTimers s).length + 32 * 512 + 8 * ((elements s).filter fun e => mirrored e.2).length

/-- The budget of R396. -/
def snapshotBudget (s : State) : Nat := 24 * (s.cyc.c * 1000 - 1000)

/-- R390: 0 when pairing with this peer is accepted, else the reason of source 120. -/
def pairingReason (s : State) (h : Hello) : Nat :=
  match header? s with
  | none => 3
  | some x =>
    let own := s.host.position
    let other := if own = x.posA then x.posB else some x.posA
    if other ≠ some h.position.toNat then 5
    else if !((s.twin.preference == 1 && h.preference == 2) || (s.twin.preference == 2 && h.preference == 1)) then 2
    else if h.commit ≠ ownCommit s then 3
    else if h.progid ≠ ownProgid s then 4
    else if snapshotBudget s < worstSnapshot s then 6
    else 0

/-- Source 120 (Table 14-10). -/
def refusePairing (s : State) (reason : Nat) : State :=
  raise { s with twin := { s.twin with reason := u8 reason, paired := false } } 120 (u32 reason)
    (u32 s.twin.peerPos.toNat) 0

/-- The role is resolved: event 7080h. -/
def becomeRole (s : State) (r : Role) (paired : Bool) : State :=
  bookEvent { s with twin := { s.twin with
      role := r, paired := paired, reason := if paired then 0 else s.twin.reason, wsnap := worstSnapshot s } } 0x7080
    (u32 (roleCode r)) (u32 s.twin.peerPos.toNat) (u32 s.twin.preference.toNat)

/-- R389: the preference agrees with the station image. Without a valid one there is nothing to disagree with, and the start goes on
to Stop (R34, Table 15-13, step 5; log 107). -/
def preferenceFits (s : State) : Bool :=
  match s.twin.preference.toNat with
  | 0 => !pairedZone s
  | 1 | 2 => pairedZone s || (header? s).isNone
  | _ => false

/-- Table 14-2, a peer heard by its HELLO. -/
def resolveHeard (s : State) (h : Hello) : State :=
  let why := pairingReason s h
  if why = 0 then becomeRole s (if h.role = 1 ∨ s.twin.preference = 2 then .standby else .active) true
  else
    let s1 := refusePairing s why
    if h.role ≠ 1 ∧ why ≠ 2 ∧ s.twin.preference = 1 then becomeRole s1 .active false else s1

/-- A peer that is active on the bus and has sent no HELLO: pairing with it cannot be accepted, and the module stays in Watch. Which reason
source 120 then carries the manual does not say: a free value (log 159). -/
def refuseUnknown (s : State) : State :=
  if (source s 120).asserted then s else refusePairing (draw s) (1 + Config.free s.draws % 6)

/-- ROLE_RESOLUTION (R389 to R391), at a boundary at which Kutia would leave Watch. A frame of the peer in a PAIR position counts as the
peer heard and active; a peer that stays silent leaves this module active and unpaired. -/
def resolveRole (s : State) : State :=
  if s.twin.role ≠ .unresolved then s
  else if preferenceFits s = false then refusePairing s 1
  else if s.twin.preference = 0 then becomeRole s .solo false
  else if s.bus.peerSeen.isSome then
    match s.twin.hello with
    | some h => resolveHeard s { h with role := 1 }
    | none => refuseUnknown s
  else if peerHeard s then
    match s.twin.hello with
    | some h => resolveHeard s h
    | none => s
  else if s.twin.silent then becomeRole s .active false
  else s

/-- TWIN_HELLO (R390, R393): the peer is heard; an active unpaired module pairs once its peer is a standby. -/
def execTwinHello (x : TwinArrival) (h : Hello) (s : State) : Host.Outcome State Fault Refusal :=
  at_ x.t s fun s => twinReceive s x.head 1 (helloBody h) fun s1 =>
    let s2 := { s1 with twin := { s1.twin with hello := some h, peerPos := h.position } }
    if s2.twin.role = .active ∧ s2.twin.paired = false ∧ h.role = 2 ∧ pairingReason s2 h = 0 then
      { s2 with twin := { s2.twin with paired := true, reason := 0 } }
    else s2

/-- Watch, or a start without Mill A whose lanes have joined (R353): the role is still to be resolved. -/
def joining (s : State) : Bool := s.modes.mode == .watch || (s.modes.mode == .start && s.modes.step == 9)

/-- How long the peer has been silent, on the link and in the PAIR positions. -/
def silentSince (s : State) : Time := max s.modes.since (max (s.twin.heardAt.getD 0) (s.bus.peerSeen.getD 0))

/-- The bus has been observed over a full valid matrix (R391); without a valid station image there is no matrix to observe, and the time
of one counts (log 107). -/
def matrixObserved (s : State) : Bool := s.bus.engine == 5 || (header? s).isNone

/-- PEER_SILENCE_TIMEOUT (R391): admitted after a full valid matrix without the peer's PAIR frames; a preferred standby waits a
further 10 s. The role is resolved by it at the boundary at which Kutia would leave Watch (R390). -/
def execPeerSilenceTimeout (t : Time) (s : State) : Host.Outcome State Fault Refusal :=
  at_ t s fun s =>
    let wait := ms 64 + if s.twin.preference = 2 then sec 10 else 0
    if joining s ∧ s.twin.role = .unresolved ∧ preferenceFits s ∧ s.twin.preference ≠ 0 ∧ peerHeard s = false
        ∧ matrixObserved s ∧ silentSince s + wait ≤ s.now then
      { s with twin := { s.twin with silent := true } }
    else s

/-- The active module is still seen on the bus: this module is active, or the peer's PAIR frames came within C. -/
def activeSeen (s : State) : Bool := s.twin.role == .active || s.bus.peerSeen.any fun t => s.now ≤ t + ms s.cyc.c

/-- TWIN_LINK_DOWN (R393, R408). -/
def execTwinLinkDown (t : Time) (s : State) : Host.Outcome State Fault Refusal :=
  at_ t s fun s =>
    if s.twin.link ∧ s.twin.heardAt.all (fun t => t + ms 1 ≤ s.now) then
      let s1 := { s with twin := { s.twin with link := false, losses := s.twin.losses + 1 } }
      if s.twin.paired ∧ activeSeen s then raiseMirror s1 0 else s1
    else s

/-! ### The mirror snapshot: encoding (R395) -/

/-- The attribute bits of A000 + k:03. -/
def slotAttr (y : Slot) : Nat := bitmap [y.approach, y.cancelPend, y.armed, y.emergency, y.byTrain, y.noTrain, y.owed]

/-- A slot record (Table 14-6). -/
def slotRecord (s : State) (k : Nat) (y : Slot) : List Byte :=
  leBytes 4 (k * 2 ^ 22 + y.route.getD 0) ++ [u8 (slotState s y), u8 (slotAttr y), y.token] ++ leBytes 3 y.apprTimer
    ++ leBytes 3 (y.ovlTimer.getD 0xFFFFFF) ++ leBytes 3 y.emrgTimer ++ leBytes 8 y.released.toNat ++ leBytes 8 y.seen.toNat

/-- The timer records of the readable Mill (Table 14-7). -/
def timerRecords (s : State) : List (List Byte) :=
  (vitalTimers s).filterMap fun m =>
    match cellAt (s.lanes.get (readableMill s)).vars m.varnum with
    | .timer x =>
      if x.elapsed ≠ 0 ∨ x.pin ∨ x.q ∨ x.run then
        some (leBytes 2 m.varnum ++ [u8 (bitmap [x.pin, x.q, x.run]), 0] ++ leBytes 4 x.elapsed)
      else none
    | _ => none

/-- A session record (Table 14-7). -/
def sessRecord (s : State) (k : Nat) (y : Sess) : List Byte :=
  let phase := match y.firstCyc with
    | some c => cyclesSince c s.cyc.number % y.period
    | none => 0
  leBytes 2 k ++ leBytes 2 (y.partner.getD 0xFFFF) ++ leBytes 4 y.tseq.toNat ++ leBytes 4 y.rseq.toNat ++ [u8 phase, 0]
    ++ [u8 y.gen, u8 y.payload, u8 y.option, u8 y.period, u8 (y.profile.getD 0xFF), u8 (16 * y.pa + y.pb)]
    ++ ((List.range 4).flatMap fun i => leBytes 2 (y.slices.getD i 0xFFFF)) ++ [0, 0, 0, 0]

/-- CMD of an element, as Table 06-1 codes it. -/
def elemCmd (x : Element) (y : ElemSt) : Nat :=
  if y.stopping || (x.remote && y.cmdStop) then 3 else if y.throwing ≠ 0 then y.throwing else match y.moveVoted with
    | .hold => 0
    | .normal => 1
    | .rev => 2

/-- The flags of an element record. -/
def elemFlags (x : Element) (y : ElemSt) : Nat :=
  bitmap [y.blocked && x.kind != 3, y.blocked && x.kind == 3, y.throwing != 0, x.remote && y.stopping]

/-- The cycles that are left of a remote safe stop's 6,000 ms (R179). -/
def stopLeft (s : State) (y : ElemSt) : Nat := ceilDiv (y.stopAt + ms 6000 - s.now) (ms s.cyc.c)

/-- The supervision that is left of a throw or of a remote safe stop, in cycles. -/
def supervisionLeft (s : State) (x : Element) (y : ElemSt) : Nat :=
  if x.remote && y.stopping then stopLeft s y else y.throwTimer

/-- The element records: those with CMD or a flag (Table 14-7). -/
def elemRecords (s : State) : List (List Byte) :=
  ((elements s).filter fun e => mirrored e.2).filterMap fun e =>
    let y := elemSt s e.1
    let cmd := if e.2.kind = 3 then 0 else elemCmd e.2 y
    if cmd ≠ 0 ∨ elemFlags e.2 y ≠ 0 then
      some (leBytes 2 e.1 ++ [u8 cmd, u8 (elemFlags e.2 y)] ++ leBytes 4 (supervisionLeft s e.2 y))
    else none

/-- The snapshot of this cycle (Tables 14-5 to 14-7). TOKCNT is the next TOKEN, one above the last one used (log 149). -/
def encodeSnapshot (s : State) (final : Bool) : List Byte :=
  let sl := (slotList s).map fun p => slotRecord s p.1 p.2
  let ti := timerRecords s
  let se := ((slotsInUse s).filter fun e => e.2.state == 2).map fun e => sessRecord s e.1 e.2
  let el := elemRecords s
  let len := 72 + 32 * sl.length + 8 * ti.length + 32 * se.length + 8 * el.length
  let pend := s.change.stateC == 4
  let head := leBytes 4 s.twin.snapSeq.toNat ++ leBytes 4 s.cyc.number.toNat ++ leBytes 4 len
    ++ [u8 (modeCode s.modes.mode), u8 (bitmap [final, pend]), u8 (voteMap s), s.commons.token + 1]
    ++ leBytes 8 (ownCommit s).toNat ++ leBytes 8 (ownProgid s).toNat
    ++ leBytes 4 (if pend then s.change.kSwitch.toNat else 0)
    ++ leBytes 2 sl.length ++ leBytes 2 ti.length ++ leBytes 2 se.length ++ leBytes 2 el.length
    ++ ((List.range 4).map fun g => u8 (groupSt s g).state) ++ List.replicate 16 0
  let body := head ++ sl.flatten ++ ti.flatten ++ se.flatten ++ el.flatten
  body ++ leBytes 8 (crc64 body)

/-- The body of a snapshot block (Table 14-3). -/
def blockBody (seq : U32) (idx : Nat) (last : Bool) (data : List Byte) : List Byte :=
  leBytes 4 seq.toNat ++ leBytes 2 idx ++ [u8 last.toNat, 0] ++ data

/-- R396: snapshot n goes out from the start of the Issue phase, in blocks of 1,024 bytes. -/
def sendSnapshot (s : State) : State :=
  if s.twin.role ≠ .active ∨ s.twin.paired = false then s else
  let s1 := { s with twin := { s.twin with snapSeq := s.twin.snapSeq + 1 } }
  let bytes := encodeSnapshot s1 s1.twin.sendFinal
  let l := chunks 1024 ((bytes.length + 1023) / 1024) bytes
  let s2 := (List.range l.length).foldl (fun st i =>
    sendTwin st 2 (blockBody s1.twin.snapSeq i (i + 1 == l.length) (l.getD i []))) s1
  { s2 with twin := { s2.twin with snapLen := bytes.length, sendFinal := false } }

/-! ### The mirror snapshot: receiving (R397) -/

/-- A complete snapshot, or none when LEN or the CRC-64 does not fit. -/
def decodeSnapshot (l : List Byte) : Option Mirror :=
  let nslot := field l 36 2
  let ntimer := field l 38 2
  let nsess := field l 40 2
  let nel := field l 42 2
  let len := 72 + 32 * nslot + 8 * ntimer + 32 * nsess + 8 * nel
  if l.length ≠ len ∨ field l 8 4 ≠ len ∨ field l (len - 8) 8 ≠ crc64 (l.take (len - 8)) then none
  else
    let at1 := 64 + 32 * nslot
    let at2 := at1 + 8 * ntimer
    let at3 := at2 + 32 * nsess
    some { seq := u32 (field l 0 4), cycle := u32 (field l 4 4), mode := byteAt l 12, final := (byteAt l 13).getLsbD 0,
           kPend := (byteAt l 13).getLsbD 1, kSwitch := u32 (field l 32 4), lanes := BitVec.ofNat 3 (byteAt l 14).toNat,
           token := byteAt l 15, station := u64 (field l 16 8), progid := u64 (field l 24 8),
           dgstate := (List.range 4).map fun g => (byteAt l (44 + g)).toNat,
           slots := chunks 32 nslot (l.drop 64), timers := chunks 8 ntimer (l.drop at1),
           sess := chunks 32 nsess (l.drop at2), elems := chunks 8 nel (l.drop at3), length := len }

/-- An incomplete snapshot is counted and dropped. -/
def dropBlocks (s : State) : State :=
  { s with twin := { s.twin with
      incomplete := s.twin.incomplete + 1, droppedSeq := some s.twin.blocksSeq, blocks := [], blockNext := 0 } }

/-- A block of a snapshot whose earlier blocks are not held: the snapshot is incomplete, and counted once. -/
def strayBlock (s : State) (seq : U32) : State :=
  if s.twin.droppedSeq = some seq then s else dropBlocks { s with twin := { s.twin with blocksSeq := seq } }

/-- A whole snapshot has arrived. -/
def snapshotArrived (s : State) (l : List Byte) : State :=
  match decodeSnapshot l with
  | some m => { s with twin := { s.twin with newest := some m, blocks := [], blockNext := 0 } }
  | none => dropBlocks s

/-- SNAPSHOT_BLOCK (R397): blocks are taken in order; a gap makes the snapshot incomplete. -/
def execSnapshotBlock (x : TwinArrival) (seq : U32) (idx : Nat) (last : Bool) (data : List Byte) (s : State) :
    Host.Outcome State Fault Refusal :=
  at_ x.t s fun s =>
    -- a LEN outside the type is discarded like a bad CRC (R393)
    if twinUp s ∧ crossRuns s 9 ∧ 1024 < data.length then twinDiscard s
    else twinReceive s x.head 2 (blockBody seq idx last data) fun s1 =>
      let fresh := idx = 0
      let s2 := if fresh ∧ 0 < s1.twin.blockNext then dropBlocks s1 else s1
      if fresh then
        if last then snapshotArrived { s2 with twin := { s2.twin with blocksSeq := seq } } data
        else { s2 with twin := { s2.twin with blocksSeq := seq, blocks := data, blockNext := 1 } }
      else if s2.twin.blockNext = idx ∧ s2.twin.blocksSeq = seq ∧ 0 < s2.twin.blockNext then
        let l := s2.twin.blocks ++ data
        if last then snapshotArrived s2 l else { s2 with twin := { s2.twin with blocks := l, blockNext := idx + 1 } }
      else if 0 < s2.twin.blockNext ∧ s2.twin.blocksSeq = seq then dropBlocks s2
      else strayBlock (if 0 < s2.twin.blockNext then dropBlocks s2 else s2) seq

/-! ### The mirror snapshot: applying (R398, R399) -/

/-- The claims that a slot record leaves with the route: every list entry whose group is not released. -/
def heldFrom (x : Route) (released : BitVec 64) : List Nat :=
  (x.list.filter fun y => !released.getLsbD (if y.ckind = 1 then 63 else y.rgroup)).map ListEntry.elem

/-- One slot record applied; what the record does not carry stays while the slot is the same route's. -/
def applySlot (old : State) (s : State) (e : List Byte) : State :=
  let w := word e 0
  let k := bits w 31 22
  let r := bits w 12 0
  let was := slotSt old k
  let keep : Slot := if was.route = some r ∧ was.token = byteAt e 6 then was else {}
  let attr := byteAt e 5
  let rel := BitVec.ofNat 64 (field e 16 8)
  let ovl := field e 10 3
  let held := match route? s r with
    | some x => heldFrom x rel
    | none => []
  let owes := match route? s r with
    | some x => if attr.getLsbD 6 ∧ held.contains x.exit = false then held ++ [x.exit] else held
    | none => held
  let s1 := modSlot s k fun _ => { keep with
    route := some r, approach := attr.getLsbD 0, cancelPend := attr.getLsbD 1, armed := attr.getLsbD 2
    emergency := attr.getLsbD 3, byTrain := attr.getLsbD 4, noTrain := attr.getLsbD 5, owed := attr.getLsbD 6
    token := byteAt e 6, apprTimer := field e 7 3, ovlTimer := if ovl = 0xFFFFFF then none else some ovl
    emrgTimer := field e 13 3, released := rel, seen := BitVec.ofNat 64 (field e 24 8), held := owes }
  let n := (byteAt e 4).toNat
  modRoute s1 r fun y => { y with
    state := n, slot := some k, changed := if y.state = n then y.changed else s.now }

/-- Every slot absent becomes free, and its route Idle. -/
def applySlots (s : State) (m : Mirror) : State :=
  let cleared := { s with commons := { s.commons with
    slots := [], token := m.token - 1
    routes := tmap {} (fun _ y => if y.state = 0 then y else { y with state := 0, slot := none, changed := s.now }) s.commons.routes } }
  let s1 := m.slots.foldl (applySlot s) cleared
  { s1 with commons := { s1.commons with
      routes := tmap {} (fun r y => let was := tget {} s.commons.routes r
        if y.state = was.state then { y with changed := was.changed } else y) s1.commons.routes } }

/-- CLASS 2 timers in a Mill's variables: those of the snapshot, every other idle. -/
def applyTimers (entries : List MapEntry) (l : List (List Byte)) (t : Table Cell) : Table Cell :=
  entries.foldl (fun u m =>
    match cellAt u m.varnum, l.find? fun e => field e 0 2 == m.varnum with
    | .timer x, some e =>
      let f := byteAt e 2
      setCell u m.varnum (.timer { x with elapsed := field e 4 4, pin := f.getLsbD 0, q := f.getLsbD 1, run := f.getLsbD 2 })
    | .timer x, none => setCell u m.varnum (.timer { x with elapsed := 0, run := false, q := false, pin := false })
    | _, _ => u) t

/-- The later of two RSEQ values, modulo 2^32 (R398). -/
def laterSeq (a b : U32) : U32 := if (b - a).toNat < 2147483648 then b else a

/-- One session record applied. The record carries no node and no SESS: they are what this module has heard itself. -/
def applySess (old : State) (m : Mirror) (s : State) (e : List Byte) : State :=
  let k := field e 0 2
  let q := field e 2 2
  let was := sess old k
  let same := was.state == 2 && was.partner == some q
  let known := tget (0x3FF, 0) s.sessions.heardAs q
  let pair := (byteAt e 19).toNat
  let sl := (List.range 4).map fun i => field e (20 + 2 * i) 2
  let byUs := match partner? s q with
    | some x => x.ptype == 1 && ownSession s < partnerAddr x
    | none => false
  let node := if same then was.node else if known.1 = 0x3FF then Config.free s.draws % 1023 else known.1
  let s1 := if same ∨ known.1 ≠ 0x3FF then s else draw s
  modSess s1 k fun _ => { was with
    state := 2, partner := some q, node := node, tseq := u32 (field e 4 4)
    rseq := if same then laterSeq was.rseq (u32 (field e 8 4)) else u32 (field e 8 4)
    gen := (byteAt e 14).toNat, payload := (byteAt e 15).toNat, option := (byteAt e 16).toNat, period := (byteAt e 17).toNat
    profile := some (byteAt e 18).toNat, pa := pair / 16, pb := pair % 16, slices := sl.filter fun x => x != 0xFFFF
    firstCyc := some (m.cycle - u32 (byteAt e 12).toNat), built := field e 4 4 + 1, byUs := byUs
    carried := if same then was.carried else if byUs then known.2 else k, stamped := true, records := []
    opened := if same then was.opened else s.now, missed := if same then was.missed else 0 }

/-- The snapshot carries the session of a slot. -/
def carriesSess (m : Mirror) (k : Nat) : Bool := m.sess.any fun e => field e 0 2 == k

/-- An open session that the snapshot does not carry is closed (R398); which reason it then shows the manual does not say, and it keeps the
one it has. Opening and Closed slots are each module's own (Table 14-4). -/
def absentSess (s : State) (m : Mirror) (k : Nat) (y : Sess) : State :=
  if y.state = 2 ∧ carriesSess m k = false then
    forgetReports (modSess s k fun x => { x with
      state := 3, firstCyc := none, heard := false, records := [], closeReq := none }) (y.partner.getD 0xFFFF)
  else s

/-- The sessions of the snapshot, and no other open one. -/
def applySessions (s : State) (m : Mirror) : State :=
  m.sess.foldl (applySess s m) ((slotsInUse s).foldl (fun st e => absentSess st m e.1 e.2) s)

/-- One element's command state. -/
def applyElem (m : Mirror) (s : State) (e : Nat) (x : Element) : State :=
  if mirrored x = false then s else
  match m.elems.find? fun b => field b 0 2 == e with
  | some b =>
    let cmd := (byteAt b 2).toNat
    let f := byteAt b 3
    let remoteStop := x.remote && f.getLsbD 3
    modElem s e fun y => { y with
      cmdStop := x.remote && cmd == 3
      stopAt := if remoteStop then s.now + field b 4 4 * ms s.cyc.c - ms 6000 else y.stopAt
      moveVoted := if cmd = 1 then .normal else if cmd = 2 then .rev else .hold
      blocked := f.getLsbD 0 || f.getLsbD 1
      throwing := if f.getLsbD 2 then (if cmd = 1 ∨ cmd = 2 then cmd else y.throwing) else 0
      stopping := f.getLsbD 3 || (!x.remote && cmd == 3), throwTimer := if remoteStop then 0 else field b 4 4 }
  | none => modElem s e fun y => { y with
      moveVoted := .hold, blocked := false, throwing := 0, stopping := false, cmdStop := false, throwTimer := 0 }

/-- The mirrored state of Table 14-4 replaced by the snapshot's; the cycle number becomes CYCLE + 1 (R398). -/
def applyMirror (s : State) (m : Mirror) : State :=
  let s1 := applySessions (applySlots s m) m
  let s2 := (elements s1).foldl (fun st e => applyElem m st e.1 e.2) s1
  let s3 := (groupsIn s2).foldl (fun st p => modGroup st p.1 fun y => { y with state := m.dgstate.getD p.1 y.state }) s2
  let timers := vitalTimers s3
  let s4 := { s3 with lanes := s3.lanes.map fun x => { x with vars := applyTimers timers m.timers x.vars } }
  { s4 with
    cyc := { s4.cyc with number := m.cycle + 1 }
    twin := { s4.twin with applied := some (m.seq, m.cycle), mirror := some m, snapSeq := m.seq, snapLen := m.length } }

/-- The standby is armed for boundary `k` by what the mirror says. -/
def armByMirror (s : State) (roll : Bool) (k : U32) : State :=
  { s with change := { s.change with
      stateC := 4, isRoll := roll, kSwitch := k, armedAt := some s.cyc.number, byMirror := true, since := s.now } }

/-- K of a snapshot lies ahead of the present cycle. -/
def switchAhead (s : State) (m : Mirror) : Bool :=
  let d := cyclesSince s.cyc.number m.kSwitch
  1 ≤ d && d < 2147483648

/-- This is cycle K of the switch that the snapshot of K - 1 announces. -/
def switchNow (s : State) (m : Mirror) : Bool := m.kPend && m.kSwitch == s.cyc.number

/-- R149: a snapshot that carries K arms the standby for the same boundary, a change from Ready, a rollback from Trial; one that no
longer does, the active module's program unchanged, ends what the mirror had armed, as under R154 (log 108). Arming for a change asks what
R144 asks of a standby: three lanes in the vote, and S21 off. -/
def followArm (s : State) (m : Mirror) : State :=
  if m.kPend then
    if switchAhead s m = false then s
    else if s.change.stateC = 3 ∧ (changePermitted s).isNone then armByMirror s false m.kSwitch
    else if s.change.stateC = 5 then armByMirror s true m.kSwitch
    else if s.change.stateC = 4 then { s with change := { s.change with kSwitch := m.kSwitch, byMirror := true } }
    else s
  else if s.change.stateC = 4 ∧ s.change.byMirror ∧ m.progid = ownProgid s then cancelArmed s
  else s

/-- R399: the standby follows a switch of the active module at its next boundary, when it holds the same program. -/
def followSwitch (s : State) (m : Mirror) : State :=
  let id := fun (p : Option ProgPair) => p.map fun x => x.va.progid
  if id s.change.prepared = some m.progid ∧ (changePermitted s).isNone then armByMirror s false (s.cyc.number + 1)
  else if id s.change.retained = some m.progid then armByMirror s true (s.cyc.number + 1)
  else raiseMirror s 3

/-- The standby is not synchronised at this vote point. -/
def unsynchronised (s : State) : State := { s with twin := { s.twin with synced := false, syncCount := 0 } }

/-- The standby is synchronised: source 121 is withdrawn. -/
def synchronise (s : State) : State :=
  let s1 := { s with twin := { s.twin with synced := true, syncCount := min (s.twin.syncCount + 1) 4294967295 } }
  if (source s1 121).reported then withdraw s1 121 else s1

/-- SNAPSHOT_APPLY (R398, R399): at the standby's vote point, the newest complete snapshot not yet applied. In cycle K itself the
snapshot of K - 1 still carries the old PROGID: a standby that has switched is not synchronised at that one vote point, and no more than
that; one that has not switched is not synchronised either (R149; log 108). -/
def applyNewest (s : State) : State :=
  let fresh := s.twin.newest.filter fun m => s.twin.applied.all fun p => p.1 != m.seq
  match fresh with
  | none => unsynchronised (if s.twin.link then raiseMirror s 1 else s)
  | some m =>
    if m.station ≠ ownCommit s then unsynchronised (raiseMirror s 3) else
    let preceding := s.cyc.number == m.cycle + 1
    let s1 := followArm (applyMirror s m) m
    if switchNow s1 m then unsynchronised s1
    else if m.progid ≠ ownProgid s then unsynchronised (followSwitch s1 m)
    else if preceding then synchronise s1 else unsynchronised s1

/-! ### Health reports (R400, R405) -/

/-- No asserted source above Minor. -/
def quietSources (s : State) : Bool := highestAsserted s == 0xFF || highestAsserted s ≤ 1

/-- The count of R405 at a vote point. -/
def countHealthy (s : State) : State :=
  let good := s.twin.synced && (voters s).length == 3 && quietSources s
  { s with twin := { s.twin with healthyRun := if good then s.twin.healthyRun + 1 else 0 } }

/-- RETURN of the health report (R405). -/
def returnDue (s : State) : Bool := s.twin.preference == 1 && s.twin.returnOn && 1000 ≤ s.twin.healthyRun

/-- The body of a health report (Table 14-7). -/
def reportBody (h : HealthReport) : List Byte :=
  leBytes 4 h.cycle.toNat ++ [h.mode, u8 h.lanes.toNat, h.highest, u8 (bitmap [h.synced, h.return_, h.config])]
    ++ leBytes 4 h.count.toNat ++ leBytes 4 h.applied.toNat

/-- What a standby reports of itself. -/
def ownReport (s : State) : HealthReport :=
  ⟨s.cyc.number, u8 (modeCode s.modes.mode), BitVec.ofNat 3 (voteMap s), u8 (highestAsserted s), s.twin.synced, returnDue s,
    !s.field.unconf,
    u32 s.twin.syncCount, lastApplied s⟩

/-- The standby's health report, at the end of every Vote phase. -/
def sendHealth (s : State) : State := sendTwin s 3 (reportBody (ownReport s))

/-- The latest report of the present standby: one that came before this module's last takeover was another's, and is only read (1702:01). -/
def latestReport (s : State) : Option HealthReport :=
  s.twin.peerHealth.filter fun _ => s.twin.lastKind == 0 || decide (s.twin.lastAt ≤ s.twin.healthAt)

/-- R400: a healthy standby. -/
def standbyHealthy (s : State) : Bool :=
  (latestReport s).any fun h => h.lanes == 7 && (h.highest == 0xFF || h.highest ≤ 1) && 16 ≤ h.count.toNat

/-- HEALTH_REPORT (R400). -/
def execHealthReport (x : TwinArrival) (h : HealthReport) (s : State) : Host.Outcome State Fault Refusal :=
  at_ x.t s fun s => twinReceive s x.head 3 (reportBody h) fun s1 =>
    { s1 with twin := { s1.twin with peerHealth := some h, healthAt := s.now } }

/-! ### Giving up control (R401, R402, R406) -/

/-- No local drive group in Running, Ending, Stopping or Confirming. -/
def groupsRest (s : State) : Bool := (groupsIn s).all fun p => (groupSt s p.1).state ≤ 1 || (groupSt s p.1).state == 6

/-- A quiet point (R406). -/
def quietPoint (s : State) : Bool :=
  (s.commons.routes.all fun r => !(1 ≤ r.2.state && r.2.state ≤ 3))
    && (s.points.elems.all fun e => e.2.throwing == 0 && !e.2.stopping) && groupsRest s && s.change.stateC != 4

/-- The mode is one in which a clean give-up can happen (Table 12-3). -/
def givesUpIn (s : State) : Bool :=
  match s.modes.mode with
  | .run | .degraded | .stop => true
  | _ => false

/-- The cause at this vote (Table 14-8), if there is one. -/
def giveUpCause (s : State) : Option Nat :=
  if s.twin.role ≠ .active ∨ givesUpIn s = false then none
  else if s.twin.peerTook then some 5
  else if s.twin.paired = false then none
  else if (voters s).length = 2 ∧ standbyHealthy s ∧ groupsRest s ∧ s.twin.link then some 2
  else if ((latestReport s).any fun h => h.return_) ∧ quietPoint s then some 3
  else if s.twin.handover.isSome ∧ quietPoint s then some 4
  else none

/-- CLEAN_GIVEUP (R402): snapshot m carries FINAL; cause 5 sends none. -/
def giveUp (s : State) : State :=
  match giveUpCause s with
  | none => if s.bus.engine = 5 ∧ s.twin.peerTook = false then { s with twin := { s.twin with pd4Watch := false } } else s
  | some cause =>
    let s1 := recordGiveUp s cause (if cause = 5 then none32 else s.twin.snapSeq + 1)
    { s1 with twin := { s1.twin with
        giving := some s.cyc.number, takenAt := if cause = 5 then some 0 else none, sendFinal := cause != 5, handover := none
        pd4Watch := false } }

/-- From the S of m + 1 the module is in Standby, and pending commands are answered 15h (R402). -/
def enterStandby (s : State) : State :=
  match s.twin.giving with
  | some m =>
    if s.twin.role = .active ∧ s.cyc.number = m + 1 then
      let s1 := setMode (flushCommands s) .standby 0xFF
      { s1 with twin := { s1.twin with
          role := .standby, synced := false, syncCount := 0, silentRun := 0, dueTakeover := false, notice := none
          newest := none, applied := none, mirror := none, healthyRun := 0, peerTook := false } }
    else s
  | none => s

/-- TAKEN (R402). -/
def execTaken (x : TwinArrival) (cycle : U32) (s : State) : Host.Outcome State Fault Refusal :=
  at_ x.t s fun s => twinReceive s x.head 4 (noticeBody 3 cycle) fun s1 =>
    if s1.twin.giving.isSome ∧ s1.twin.takenAt = none then { s1 with twin := { s1.twin with takenAt := some s.now } } else s1

/-- GIVEUP_OVERLAP_END (R402): 200 us after TAKEN, or at the S of m + 3. -/
def execGiveupOverlapEnd (t : Time) (s : State) : Host.Outcome State Fault Refusal :=
  at_ t s fun s =>
    match s.twin.giving with
    | some m =>
      if s.twin.role = .standby ∧ ((s.twin.takenAt.any fun x => x + us 200 ≤ s.now) ∨ 3 ≤ cyclesSince m s.cyc.number) then
        { s with twin := { s.twin with giving := none, takenAt := none } }
      else s
    | none => s

/-! ### Taking over (R403, R404) -/

/-- A notice that triggers a takeover by a standby. -/
def takeNotice (s : State) (x : TwinHead) (code : Nat) (cycle : U32) : State :=
  twinReceive s x 4 (noticeBody code cycle) fun s1 =>
  if s1.twin.role = .standby then { s1 with twin := { s1.twin with notice := some (code, s.now) } } else s1

/-- GIVEUP (R403). -/
def execGiveup (x : TwinArrival) (cycle : U32) (s : State) : Host.Outcome State Fault Refusal :=
  at_ x.t s fun s => takeNotice s x.head 1 cycle

/-- POWER_FAIL_NOTICE (R403). -/
def execPowerFailNotice (x : TwinArrival) (cycle : U32) (s : State) : Host.Outcome State Fault Refusal :=
  at_ x.t s fun s => takeNotice s x.head 2 cycle

/-- R403: the newest complete snapshot is not older than cycle t - 3. -/
def snapshotFresh (s : State) : Bool :=
  s.twin.newest.any fun m =>
    let d := cyclesSince m.cycle s.cyc.number
    d ≤ 3 || 2147483648 ≤ d

/-- A trigger at this vote point: the takeover is due at the next S, or refused. -/
def triggerTakeover (s : State) : State :=
  if snapshotFresh s then { s with twin := { s.twin with dueTakeover := true } }
  else raiseMirror { s with twin := { s.twin with notice := none } } 2

/-- No valid Twin frame and no PAIR frame of the active module for at least C. -/
def activeSilent (s : State) : Bool :=
  (s.twin.heardAt.all fun t => t + ms s.cyc.c ≤ s.now) && (s.bus.peerSeen.all fun t => t + ms s.cyc.c ≤ s.now)

/-- A complete FINAL snapshot has been applied. -/
def finalApplied (s : State) : Bool := s.twin.newest.any fun m => m.final && s.twin.applied.any fun p => p.1 == m.seq

/-- The triggers that a standby looks at after applying the snapshot. -/
def standbyTriggers (s : State) : State :=
  let s1 := { s with twin := { s.twin with silentRun := if activeSilent s then s.twin.silentRun + 1 else 0 } }
  if s1.twin.notice.isSome || finalApplied s1 then triggerTakeover s1 else s1

/-- ACTIVE_MODULE_SILENT (R403): the second consecutive vote point. -/
def execActiveModuleSilent (t : Time) (s : State) : Host.Outcome State Fault Refusal :=
  at_ t s fun s =>
    if s.modes.mode = .standby ∧ s.twin.role = .standby ∧ 2 ≤ s.twin.silentRun ∧ activeSilent s then triggerTakeover s else s

/-- One route at a cautious takeover (Table 14-9), with its 7082h event. -/
def cautiousRoute (s : State) (p : Nat × Slot) : State :=
  match p.2.route with
  | none => s
  | some r =>
    match route? s r with
    | none => s
    | some x =>
      let n := (routeSt s r).state
      let note := fun (st : State) (new : Nat) => bookEvent st 0x7082 (u32 r) (u32 n) (u32 new)
      match n with
      | 1 => note (abandonRequest s r p.1 x true) 0
      | 2 | 3 => note (setRouteState (modSlot s p.1 fun y => { y with noTrain := true }) r 7) 7
      | 5 => note (lockApproach s r p.1 x false) 6
      | _ => s

/-- Local drive groups that were moving are Locked out, reason 13h. -/
def cautiousGroup (s : State) (p : Nat × GroupRec) : State :=
  if (groupSt s p.1).state ≤ 1 ∨ (groupSt s p.1).state = 6 then s else lockOut s p.1 p.2.elem 0x13

/-- Table 14-9. -/
def cautiousChanges (s : State) : State :=
  (groupsIn s).foldl cautiousGroup ((slotList s).foldl cautiousRoute s)

/-- An armed, unconfirmed emergency release lapses at a takeover (Table 14-4). -/
def lapseArms (s : State) : State :=
  { s with commons := { s.commons with slots := tmap {} (fun _ y => { y with armed := false }) s.commons.slots } }

/-- R404: TSEQ moves on by the exchange periods from the snapshot's cycle to the cycle `n` that builds the next telegram. -/
def advanceSess (m : Mirror) (n : U32) (s : State) : State :=
  { s with sessions := { s.sessions with
      slots := tmap {} (fun _ y => match y.firstCyc with
        | some c =>
          let phase := cyclesSince c m.cycle
          let passed := (phase + (cyclesSince m.cycle n - 1)) / y.period - phase / y.period
          { y with built := (y.tseq.toNat + 1 + passed) % 4294967296 }
        | none => y) s.sessions.slots } }

/-- The mode after a takeover (R404). -/
def takeoverMode (s : State) (m : Mirror) : Mode :=
  if m.mode = 4 ∨ m.mode = 5 then (if (voters s).length = 3 then .run else .degraded) else .stop

/-- R404: the takeover itself, from the newest complete snapshot as already applied; `n` is the cycle that opens. -/
def becomeActive (m : Mirror) (n : U32) (s : State) : State :=
  let clean := m.final
  let s1 := lapseArms (advanceSess m n s)
  let s2 := { s1 with twin := { s1.twin with
    role := .active, dueTakeover := false, notice := none, silentRun := 0, giving := none, takenAt := none
    takeovers := s1.twin.takeovers + 1, lastKind := if clean then 1 else 2, lastAt := s.now, sendTaken := true
    synced := false, syncCount := 0, healthyRun := 0 } }
  let s3 := if clean then s2 else cautiousChanges s2
  if s3.modes.mode ≠ .standby then s3
  else raise (setMode s3 (takeoverMode s3 m) 0xFF) 123 (if clean then 1 else 2) m.seq m.cycle

/-- A takeover that is due takes place at the S of cycle `n` (R403). -/
def takeOver (n : U32) (s : State) : State :=
  match s.twin.mirror <|> s.twin.newest with
  | some m =>
    if s.twin.dueTakeover ∧ s.modes.mode = .standby ∧ s.twin.role = .standby then settleClaims s (becomeActive m n s) else s
  | none => s

/-- TAKEOVER (R403, R404): at the first S after the vote point that holds a trigger; CYCLE_START brings it about where this command has not
come before it. -/
def execTakeover (t : Time) (s : State) : Host.Outcome State Fault Refusal :=
  at_ t s fun s => if s.cyc.voted ∧ cycleEnd s ≤ s.now then takeOver (s.cyc.number + 1) s else s

/-- The first Issue phase of a new active module begins with TAKEN (R404). -/
def sendTakenNow (s : State) : State :=
  if s.twin.sendTaken then twinNotice { s with twin := { s.twin with sendTaken := false } } 3 else s

/-! ### The twin's part of a vote -/

/-- A standby's vote point, after its own vote (R398, R403, R405). -/
def standbyVote (s : State) : State :=
  sendHealth (standbyTriggers (countHealthy (applyNewest s)))

/-- What the twin adds at the end of a Vote phase: a standby applies the mirror, an active module decides on giving up, and a
HELLO goes out (Table 14-3). -/
def twinVote (s : State) : State :=
  match s.modes.mode with
  | .standby => sendHello (standbyVote s)
  | .stop | .run | .degraded | .testTrack | .hold => sendHello (giveUp s)
  | _ => s

/-! ### Hand-over by the host (R406) -/

/-- HANDOVER_REQUEST (R406): a write to 1701:02. -/
def writeHandover (s : State) (value : U8) : Write :=
  refuseUnless (value == 1) 0x0230 <|
  refuseUnless (s.twin.role == .active) 0x0478 <|
  refuseUnless (standbyHealthy s) 0x0479 <|
  refuseUnless s.twin.handover.isNone 0x047A <|
  .ok { s with twin := { s.twin with handover := some s.now, handOut := 0 } }

/-- HANDOVER_REQUEST (R406). -/
def execHandoverRequest (t : Time) (ch : Fin 8) (value : U8) (s : State) : Host.Outcome State Fault Refusal :=
  writeAt t s ch.val fun s => needAuth s ch.val fun s => writeHandover s value

/-- HANDOVER_REQUEST_LAPSE (R406): after 60 s. -/
def execHandoverRequestLapse (t : Time) (s : State) : Host.Outcome State Fault Refusal :=
  at_ t s fun s =>
    if s.twin.handover.any (fun x => x + sec 60 ≤ s.now) then
      { s with twin := { s.twin with handover := none, handOut := 0x047B } }
    else s

end Sys2Proof.Machine
end

