-- ==== Sys2Proof/Machine/Update.lean ====
section
/-!
DEFINITION. Machine/Update.lean: field update of images (15): download (R419, R420), verification (R421), the host's actions (R422,
R423), the journal (R424, R425), probation and confirmation (R427, R428). The restarts that end an activation are in Modes.lean.
-/

namespace Sys2Proof.Machine

/-- The low 32 bits of PKGID, as sources and events carry it. -/
def pkgLow (s : State) : U32 := u32 (s.update.pkgid.toNat % 2 ^ 32)

/-- VIN has been continuously below 42 V for 10 s (R422). -/
def lowSupply (s : State) : Bool := s.modes.vinLowFrom.any fun t => t + sec 10 ≤ s.now

/-! ### Download (R419, R420) -/

/-- Pieces in total: PKGLEN in pieces of 512 bytes. -/
def piecesTotal (s : State) : Nat := ceilDiv s.update.pkglen 512

/-- BEGIN (R419, R422): staging is erased; in Confirmed and Rolled back the journal goes as well. -/
def writeBegin (s : State) (pkgid : U64) (pkglen : Nat) : Write :=
  refuseUnless (!s21 s) 0x0484 <|
  refuseUnless (!(s.update.state == 3 || s.update.state == 5 || s.update.state == 6 || s.update.state == 7)) 0x0480 <|
  refuseUnless (pkglen ≤ areaSize .staging) 0x0660 <|
  let s1 := { s with update := { s.update with
    pkgid := pkgid, pkglen := pkglen, pieces := [], plan := [], former := [], pointer := 0, reverse := false } }
  .ok (setUpdateState s1 1)

/-- BEGIN (R419): a write to 2601:01. -/
def execBeginDownload (t : Time) (ch : Fin 8) (pkgid : U64) (pkglen : Nat) (s : State) : Host.Outcome State Fault Refusal :=
  writeAt t s ch.val fun s => needAuth s ch.val fun s => writeBegin s pkgid pkglen

/-- The length of piece `p` (R420). -/
def pieceLength (s : State) (p : Nat) : Nat := min 512 (s.update.pkglen - 512 * p)

/-- PIECE (R420): a piece already marked is accepted without being written, in any state; the last missing one leads to Received. Without a
download every PNUM is wrong, as there are no pieces. -/
def writePiece (s : State) (pnum : Nat) (pcrc : U32) (data : List Byte) : Write :=
  refuseUnless (!s21 s) 0x0484 <|
  refuseUnless (crc32c data == pcrc.toNat) 0x0250 <|
  refuseUnless (pnum < piecesTotal s && data.length == pieceLength s pnum) 0x0251 <|
  if tget [] s.update.pieces pnum != [] then .ok s
  else refuseUnless (s.update.state == 1) 0x0480 <|
    let s1 := { s with update := { s.update with pieces := tput [] s.update.pieces pnum data } }
    .ok (if s1.update.pieces.length = piecesTotal s then setUpdateState s1 2 else s1)

/-- PIECE (R420): a write to 2602:01. -/
def execPiece (t : Time) (ch : Fin 8) (pnum : Nat) (pcrc : U32) (data : List Byte) (s : State) :
    Host.Outcome State Fault Refusal :=
  writeAt t s ch.val fun s => needAuth s ch.val fun s =>
    refuseUnless (data != []) 0x0201 <| refuseUnless (data.length ≤ 512) 0x0203 (writePiece s pnum pcrc data)

/-! ### Conditions (R422, R423) -/

/-- No throw and no safe stop runs. -/
def nothingMoves (s : State) : Bool := s.points.elems.all fun e => e.2.throwing == 0 && !e.2.stopping

/-- The conditions of R423 that give 0482h. -/
def standsStill (s : State) : Bool :=
  s.modes.mode == .stop && (slotList s).isEmpty && groupsRest s && nothingMoves s

/-- A station image in the package has the TAG of the start reading, or there is none (R423). -/
def packageTagFits (s : State) : Bool :=
  let p := stagedPackage s
  !((pkgEntries p).any fun e => e.kind == 1)
    || (parseHeader (tget [] (imagesAfter p s.update.images) 1)).tag == s.modes.sealStart.setWidth 16

/-- An on-line change holds the package: Prepare took it in Verified (R418), and the change is not over. -/
def changeHolds (s : State) : Bool := s.update.state == 4 && s.change.stateC != 0

/-- BASE of every entry still equals the installed image. -/
def basesFit (s : State) : Bool :=
  (pkgEntries (stagedPackage s)).all fun e => e.base == 0 || e.base == imageIdentity e.kind (tget [] s.update.images e.kind)

/-- The states of Table 15-7 that allow an action. -/
def actionState (s : State) (action : Nat) : Bool :=
  let n := s.update.state
  match action with
  | 1 => n == 2
  | 2 => n == 4
  | 3 => n == 5
  | 4 => n == 7 && s.update.goodStart
  | 5 => n == 1 || n == 2 || n == 4 || n == 5
  | _ => n == 7

/-- Table 15-7 after the PKGID check: state, S21, low supply, further conditions. -/
def updateRefusal (s : State) (action : Nat) : Option U16 :=
  if actionState s action = false then some 0x0480
  else if s21 s then some 0x0484
  else if (action = 1 ∨ action = 3 ∨ action = 6) ∧ lowSupply s then some 0x0483
  else match action with
    | 2 => if s.change.stateC ≠ 0 then some 0x0486 else if basesFit s = false then some 0x0480 else none
    | 3 =>
      if standsStill s = false then some 0x0482 else if s.change.stateC ≠ 0 then some 0x0486
      else if packageTagFits s = false then some 0x0485 else none
    | 5 => if changeHolds s then some 0x0486 else none
    | 6 => if standsStill s = false then some 0x0482 else if s.change.stateC ≠ 0 then some 0x0486 else none
    | _ => none

/-- No rollback is due any more, which ends the state that source 117 reports (R367, R428). -/
def endDue (s : State) : State :=
  let s1 := { s with update := { s.update with due := none } }
  if (source s1 117).reported then withdraw s1 117 else s1

/-- A reverse run begins from the last block (R425). -/
def startReverse (s : State) (cause : Nat) : State :=
  let s1 := endDue s
  setUpdateState { s1 with update := { s1.update with
    reverse := true, pointer := s.update.plan.length, cause := cause, paused := false } } 6

/-- An accepted action. -/
def doUpdate (s : State) (action : Nat) : State :=
  match action with
  | 1 => setUpdateState s 3
  | 2 => setUpdateState { s with update := { s.update with
      plan := journalPlan (stagedPackage s) s.update.images, pointer := 0, reverse := false } } 5
  | 3 => setUpdateState { s with update := { s.update with
      pointer := 0, reverse := false, former := s.update.images, limit := setting s 0x2600 0x0C 24, paused := false } } 6
  | 4 =>
    let s1 := endDue s
    setUpdateState { s1 with update := { s1.update with plan := [], former := [] } } 8
  | 5 =>
    if s.update.state = 5 then setUpdateState { s with update := { s.update with plan := [] } } 4
    else setUpdateState { s with update := { s.update with pkgid := 0, pkglen := 0, pieces := [] } } 0
  | _ => startReverse s 3

/-- A write to 2601:02 (R422): the PKGID first, then Table 15-7. -/
def writeAction (s : State) (action : Nat) (pkgid : U64) : Write :=
  refuseUnless (1 ≤ action && action ≤ 6) 0x0230 <|
  refuseUnless (pkgid == s.update.pkgid) 0x0481 <|
  match updateRefusal s action with
  | some code => .error code
  | none => .ok (doUpdate s action)

/-- A host action on a channel. -/
def hostAction (t : Time) (s : State) (ch action : Nat) (pkgid : U64) : Host.Outcome State Fault Refusal :=
  writeAt t s ch fun s => needAuth s ch fun s => writeAction s action pkgid

/-- VERIFY (R421): action 1. -/
def execVerify (t : Time) (ch : Fin 8) (pkgid : U64) (s : State) : Host.Outcome State Fault Refusal := hostAction t s ch.val 1 pkgid
/-- ARM (R422): action 2. -/
def execArm (t : Time) (ch : Fin 8) (pkgid : U64) (s : State) : Host.Outcome State Fault Refusal := hostAction t s ch.val 2 pkgid
/-- ACTIVATE (R424): action 3. -/
def execActivate (t : Time) (ch : Fin 8) (pkgid : U64) (s : State) : Host.Outcome State Fault Refusal :=
  hostAction t s ch.val 3 pkgid
/-- CONFIRM (R428): action 4. -/
def execConfirm (t : Time) (ch : Fin 8) (pkgid : U64) (s : State) : Host.Outcome State Fault Refusal := hostAction t s ch.val 4 pkgid
/-- CANCEL (R422): action 5. -/
def execCancel (t : Time) (ch : Fin 8) (pkgid : U64) (s : State) : Host.Outcome State Fault Refusal := hostAction t s ch.val 5 pkgid
/-- ROLL_BACK (R425): action 6. -/
def execRollBack (t : Time) (ch : Fin 8) (pkgid : U64) (s : State) : Host.Outcome State Fault Refusal :=
  hostAction t s ch.val 6 pkgid

/-! ### Verification (R421, R422) -/

/-- Verification ends: 00h leads to Verified, anything else back to Received with source 116. -/
def endVerification (s : State) (result kind : Nat) : State :=
  let s1 := { s with update := { s.update with result := u8 result } }
  if result = 0 then setUpdateState s1 4
  else raise (setUpdateState s1 2) 116 (u32 result) (u32 kind) (pkgLow s)

/-- VERIFICATION_COMPLETE (R421). -/
def execVerificationComplete (t : Time) (s : State) : Host.Outcome State Fault Refusal :=
  at_ t s fun s =>
    if s.update.state ≠ 3 then s
    else if s21 s then endVerification s 9 0xFF
    else
      let x := verifyPackage (stagedPackage s) s.update.pkgid s.update.pkglen s.update.ownerKey s.update.images
      endVerification s x.1 x.2

/-- UPDATE_LOW_SUPPLY (R422): verification ends with 09h, an activation pauses. -/
def execUpdateLowSupply (t : Time) (s : State) : Host.Outcome State Fault Refusal :=
  at_ t s fun s =>
    if lowSupply s = false then s
    else if s.update.state = 3 then endVerification s 9 0xFF
    else if s.update.state = 6 then { s with update := { s.update with paused := true } }
    else s

/-- ACTIVATION_RESUME (R422): VIN has been above 44 V for 10 s. -/
def execActivationResume (t : Time) (s : State) : Host.Outcome State Fault Refusal :=
  at_ t s fun s =>
    if s.update.paused ∧ s.modes.vinOkFrom.any (fun x => x + sec 10 ≤ s.now) then
      { s with update := { s.update with paused := false } }
    else s

/-! ### Probation (R427, R428) -/

/-- Powered seconds since the first good start in Probation. -/
def probationSeconds (s : State) : Nat :=
  s.update.elapsed + if s.update.goodStart then (s.now - s.update.countFrom) / sec 1 else 0

/-- A rollback that is due runs as soon as R423 holds. -/
def runDueRollback (s : State) : State :=
  match s.update.due with
  | some cause => if s.update.state = 7 ∧ standsStill s ∧ s.change.stateC = 0 then startReverse s cause else s
  | none => s

/-- CONFIRMATION_LIMIT_EXPIRY (R428): at once when R423 holds, otherwise source 117 and a rollback that waits. -/
def execConfirmationLimitExpiry (t : Time) (s : State) : Host.Outcome State Fault Refusal :=
  at_ t s fun s =>
    let n := probationSeconds s
    if s.update.state = 7 ∧ s.update.goodStart ∧ s.update.due = none ∧ s.update.limit * 3600 ≤ n then
      let s1 := { s with update := { s.update with due := some 2 } }
      if standsStill s ∧ s.change.stateC = 0 then runDueRollback s1
      else raise s1 117 2 (u32 (n / 3600)) (pkgLow s)
    else s

/-- The elapsed confirmation count goes into the probation record. -/
def saveProbation (s : State) : State :=
  let n := (s.now - s.update.countFrom) / sec 1
  { s with update := { s.update with
      elapsed := s.update.elapsed + n, countFrom := s.update.countFrom + n * sec 1, savedAt := s.now } }

/-- PROBATION_RECORD_SAVE (R428): at least every 60 s. -/
def execProbationRecordSave (t : Time) (s : State) : Host.Outcome State Fault Refusal :=
  at_ t s fun s => if s.update.state = 7 ∧ s.update.goodStart then saveProbation s else s

/-! ### The owner key (R417) -/

/-- A write to 2605:02. -/
def writeOwnerKey (s : State) (ch : Nat) (data : List Byte) : Write :=
  refuseUnless (data.length == 32) (lengthCode data 32) <|
  refuseUnless (s.modes.mode == .stop && s24 s && authorised s ch) 0x0487 <|
  .ok { s with update := { s.update with ownerKey := some data } }

/-- OWNER_KEY (R417). -/
def execOwnerKey (t : Time) (ch : Fin 8) (data : List Byte) (s : State) : Host.Outcome State Fault Refusal :=
  writeAt t s ch.val fun s => writeOwnerKey s ch.val data

end Sys2Proof.Machine
end

