-- ==== Sys2Proof/Machine/Modes.lean ====
section
/-!
DEFINITION. Machine/Modes.lean: the start sequence (R351 to R354), its load checks (R32, R34, R121, R122), leaving Watch (R353,
R389), mode requests (R312, R346, R347), Shutdown (R355), power (R356 to R359), the end of an activation (R424, R425) and
re-admission (R64 to R68, R72).
-/

namespace Sys2Proof.Machine

/-! ### Small things -/

/-- Switch Sk of the start reading is on (R349). -/
def switchOn (s : State) (k : Nat) : Bool := s.modes.sealStart.getLsbD (k - 1)

/-- Table 14-1. -/
def preferenceOf (x : BitVec 24) : U8 :=
  match x.toNat / 65536 % 16 with
  | 0 => 0
  | 5 => 1
  | 10 => 2
  | _ => 0xFF

/-- Change the mode record. -/
def modModes (s : State) (f : ModesSt → ModesSt) : State := { s with modes := f s.modes }

/-- A domain that no longer lies out of its window ends the state that source 3 (PD1 to PD3) or 6 reports (R367): withdrawn once no such
domain is at fault. -/
def domainWell (s : State) (d : Nat) : State :=
  let lanes := decide (1 ≤ d ∧ d ≤ 3)
  let mates := if lanes then [1, 2, 3] else [0, 5, 6]
  let n := if lanes then 3 else 6
  if mates.contains d && mates.all (fun k => (domain s k).state != 4) && (source s n).reported then withdraw s n else s

/-- A domain comes up; its voltage lies in its window, which the manual does not number. -/
def domainUp (s : State) (d : Nat) : State :=
  domainWell (modDomain (draw s) d fun x => { x with state := 2, mv := Config.free s.draws % 65536 }) d

/-- A domain is switched off. -/
def domainOff (s : State) (d : Nat) : State := modDomain s d fun x => { x with state := 0, mv := 0 }

/-- The low and the ready marks of VIN, in 10 mV (R357, R422). -/
def noteVin (s : State) (vin : Nat) : State :=
  modModes s fun x => { x with
    vin := vin, vinLowest := min x.vinLowest vin
    vinLowFrom := if vin < 4200 then some (x.vinLowFrom.getD s.now) else none
    vinOkFrom := if 4400 < vin then some (x.vinOkFrom.getD s.now) else none }

/-- R154: what is Armed lapses when the mode it needs is left. -/
def cancelIfLeft (s : State) : State :=
  if changeMode s || (s.change.isRoll && s.modes.mode == .degraded) then s else cancelArmed s

/-! ### BIST (Table 12-7) -/

/-- The code of 280x:01. -/
def bistCode : BistResult → Nat
  | .notRun => 0
  | .passed => 1
  | .failed => 2
  | .aborted => 3

/-- The duration of a block in ms. -/
def bistMsOf (b : Nat) : Nat := ([2400, 2400, 1600, 800, 300, 200, 900, 300] : List Nat).getD b 0

/-- The report on block `b`. -/
def bistOf (env : StartEnv) (b : Nat) : BistReport := env.bist.getD b ⟨.notRun, none32⟩

/-- The blocks with a result, as a bit map. -/
def blocksWith (env : StartEnv) (r : BistResult) : Nat := bitmap ((List.range 8).map fun b => (bistOf env b).result == r)

/-- How long the blocks that ran took, in ms. -/
def bistTotal (env : StartEnv) : Nat :=
  (List.range 8).foldl (fun n b => if (bistOf env b).result = .notRun then n else n + bistMsOf b) 0

/-- Every block passed. -/
def bistAllPassed (env : StartEnv) : Bool := blocksWith env .passed == 255

/-- The results of a BIST run. A run that every block passes counts as a completed sweep (R375). -/
def recordBist (s : State) (env : StartEnv) (kind : Nat) : State :=
  let s1 := modModes s fun x => { x with
    bist := (List.range 8).foldl (fun t b =>
      tput {} t b ⟨bistCode (bistOf env b).result, s.now, (bistOf env b).item⟩) x.bist
    bistKind := kind, bistAt := s.now, bistFailed := u8 (blocksWith env .failed), bistMs := bistTotal env }
  if bistAllPassed env then sweepDone s1 else s1

/-- A lane block failed, or a lane's domain: source 3, and the lane is excluded even where the source was asserted already (R354). A domain
out of its window is a state, a failed BIST is none (R367). -/
def laneBlockFailed (s : State) (ln : Lane) (block : Nat) (item : U32) : State :=
  let s1 := excludeLane (raise s 3 (u32 (laneNo ln)) (u32 block) item) ln 3
  if 0x80 ≤ block then modSource s1 3 fun x => { x with reported := true } else s1

/-- A lane, or a fourth place, named by a report in a form that the manual does not give: a free value. -/
def freePlace (s : State) (n : Nat) : Nat := Config.free s.draws % n

/-- The effect of a failed block at a start (Table 12-7). -/
def bistFailure (s : State) (b : Nat) (item : U32) : State :=
  match b with
  | 0 => laneBlockFailed s .a 0 item
  | 1 => laneBlockFailed s .b 1 item
  | 2 | 3 => laneBlockFailed s .l b item
  | 4 => laneBlockFailed (draw s) ((laneOf (freePlace s 3)).getD .l) 4 item
  | 5 => match laneOf (freePlace s 4) with
    | some ln => laneBlockFailed (draw s) ln 5 item
    | none => raise (draw s) 4 5 item none32
  | 6 => raise s 4 6 item none32
  | _ => raise s 5 none32 item none32

/-- Step 3: the BIST of a full start. -/
def startBist (env : StartEnv) (s : State) : State :=
  (List.range 8).foldl (fun st b =>
    if (bistOf env b).result = .failed then bistFailure st b (bistOf env b).item else st) (recordBist s env 1)

/-! ### Step 1: what begins afresh -/

/-- R157: a change that is not committed does not survive a start. Which record is written then, the manual does not say: DESIGN CHOICE
(log 115), event 7043h with the latest result. -/
def dropChange (s : State) : State :=
  let s1 := if s.change.stateC = 0 then s else changeEvent s s.change.result s.change.stateC none32
  dropForces { s1 with change := { s1.change with
      stateC := 0, isRoll := false, prepared := none, retained := none, tcarry := 0, armedAt := none, byMirror := false
      switched := false, kSwitch := s1.change.lastK, since := s.now, dropped := 0 } }

/-- The lanes, the cycle, the Commons, the elements, the field side, the bus, the sessions, the Stiles and the twin begin afresh;
the result ring of a part whose PD4 has stayed on remains. -/
def freshParts (s : State) : State :=
  let ln : LaneSt := { state := 7 }
  { s with
    station := none, stationOk := false, loadCode := 1, loadRef := none32, program := {}
    lanes := ⟨ln, ln, ln⟩
    vote := { deglh := s.vote.deglh, limitLeft := s.vote.limitLeft, limitAt := s.vote.limitAt
              limitRuns := s.vote.limitRuns, attempts := s.vote.attempts }
    cyc := { c := s.cyc.c, ring := s.cyc.ring, readSeq := s.cyc.readSeq, writeSeq := s.cyc.writeSeq }
    commons := {}, points := {}, field := { pairf := s.field.pairf, doflt := s.field.doflt }, bus := {}, sessions := {}, stiles := {}
    twin := { preference := s.twin.preference, returnOn := s.twin.returnOn } }

/-- The counters that the dictionary gives "since the last start" and that live in a part that is not begun afresh. -/
def freshCounters (s : State) : State :=
  { s with
    constable := { s.constable with
      sources := tmap {} (fun _ x => { x with raises := 0, escalations := 0 }) s.constable.sources
      sweeps := 0, silent := 0, lost := 0 }
    modes := { s.modes with
      broken := 0, domains := tmap {} (fun _ x => { x with faults := 0 }) s.modes.domains }
    age := { s.age with
      lanes := s.age.lanes.map fun x => { x with discarded := 0, valid := 0xFF }
      fifo := [], portFree := s.now
      sentRecs := 0, dropped := 0, dropNew := 0, dropKinds := 0, peak := 0, syncs := 0, tseq := 0, sinceSync := 0 } }

/-- Entries of access RW that no rule keeps across starts: 1120:01 to 03. -/
def dropPlain (s : State) : State :=
  { s with host := { s.host with settings := s.host.settings.filter fun e => e.1 / 256 != 0x1120 }
           constable := { s.constable with fromSeq := 0, count := 0 } }

/-- The hold-up measurement (R439): 0.1125 ms per uF, in 0.1 ms. The event's P3 is the kind of the start that step 2 decides. -/
def measureHoldup (s : State) (c kind : Nat) : State :=
  let h := c * 1125 / 1000
  let s1 := bookEvent { s with age := { s.age with capacitance := c, holdup := h } } 0x70C2 (u32 c) (u32 h) (u32 kind)
  if c < 222 then raiseHealth s1 125 (u32 c) (u32 h) 0
  else if (source s1 125).asserted then withdraw s1 125 else s1

/-- The seal is read once (R349), and with it the pairing preference (R388). -/
def readSeal (s : State) (switches : BitVec 24) : State :=
  { s with
    modes := { s.modes with sealStart := switches, sealNow := switches, sealAt := s.now }
    twin := { s.twin with preference := preferenceOf switches } }

/-! ### Step 2: quick or full (R352), the journal, probation, settings -/

/-- The retention counter (R352): it counts from the end of the shutdown BIST, or on from what a start found. -/
def retentionNow (s : State) : Nat :=
  match s.modes.record, s.modes.retention with
  | some _, _ => (s.now - (s.modes.bistAt + ms s.modes.bistMs)) / sec 1
  | none, some n => n + (s.now - s.modes.startAt) / sec 1
  | none, none => 0xFFFFFFFF

/-- The retention counter has run on with its supply. -/
def retentionHeld (s : State) : Option Nat := if retentionNow s = 0xFFFFFFFF then none else some (retentionNow s)

/-- The retention counter as step 1 of a start reads it: after a power failure what the reserve capacitor has kept, else what the counter
has run to. -/
def retentionRead (s : State) (env : StartEnv) : Option Nat :=
  if s.modes.previous = .off then env.retention else retentionHeld s

/-- The reason of a full start, 2800:02; 0 for a quick start. -/
def startReason (s : State) (env : StartEnv) : Nat :=
  if s.update.state = 6 then 7
  else match s.modes.record.filter (fun _ => !env.recordBad), s.modes.retention with
    | none, _ => 1
    | some _, none => 3
    | some x, some n =>
      if 259200 ≤ n then 2
      else if x.allPassed = false then 4
      else if x.commits ≠ installedCommits s then 5
      else 0

/-- The decision; the record serves one start. -/
def decideStart (s : State) (env : StartEnv) (why : Option Nat) : State :=
  let n := why.getD (startReason s env)
  let s1 := countUp s 2 1
  modModes (if n = 0 then s1 else countUp s1 3 1) fun x => { x with
    step := 2, startWhy := n, startKind := if n = 0 then 0 else 1, record := none }

/-- The journal slot at the pointer: forward the next block to write, in reverse the last one that still has to be copied back. -/
def journalSlot (s : State) : Nat := if s.update.reverse then s.update.pointer - 1 else s.update.pointer

/-- JOURNAL_RESUME (R426): in state Activating the loader goes on at the pointer; whether the block there has to be redone, with
event 70A1h, is a free value. A block that is lost together with its journal copy raises source 119 and spoils its image. -/
def resumeJournal (env : StartEnv) (s : State) : State :=
  if s.update.state ≠ 6 then s else
  let s1 := { (draw s) with update := { s.update with paused := false } }
  match if s.update.reverse ∧ s.update.pointer = 0 then none else s.update.plan[journalSlot s]? with
  | some j =>
    if env.journalLost then
      raise { s1 with update := { s1.update with spoiled := (j.kind :: s1.update.spoiled).dedup } } 119 (u32 j.kind) (u32 j.block)
        (u32 (journalSlot s))
    else if Config.free s.draws % 2 = 1 then bookEvent s1 0x70A1 (u32 j.kind) (u32 j.block) (u32 s.update.reverse.toNat) else s1
  | none => s1

/-- PROBATION_JUDGEMENT (R427, R428): a start still in progress counts as failed; the third, or a rollback that is due, starts the
reverse run. Otherwise this start is in progress. -/
def judgeProbation (s : State) : State :=
  if s.update.state ≠ 7 then s else
  let n := if s.update.inProgress then s.update.failed + 1 else s.update.failed
  let s1 := { s with update := { s.update with failed := n, inProgress := false } }
  if 3 ≤ n then startReverse s1 1
  else match s1.update.due with
    | some cause => startReverse s1 cause
    | none => { s1 with update := { s1.update with inProgress := true } }

/-- Every setting at its default. -/
def defaultSettings (s : State) : State :=
  { s with
    host := { s.host with settings := [] }
    constable := { s.constable with sources := tmap {} (fun _ x => { x with window := none }) s.constable.sources }
    twin := { s.twin with returnOn := true }
    age := { s.age with ratings := [], traceOn := false, kinds := 0xFE, laneMask := 7 } }

/-- SETTINGS_DEFAULT (R430). -/
def checkSettings (s : State) : State :=
  let now := Config.settingsFormat (tget [] s.update.images 5)
  let s1 := { (modModes s fun x => { x with defaulted := false }) with
    update := { s.update with formatHeld := some now } }
  match s.update.formatHeld with
  | some old =>
    if old = now then s1
    else bookEvent (modModes (defaultSettings s1) fun x => { x with defaulted := true }) 0x70A2 (u32 old.toNat)
      (u32 now.toNat) 0
  | none => s1

/-- R435: a history whose CRC fails is discarded, and the lane's estimate starts again. -/
def dropHistory (s : State) (ln : Lane) : State :=
  let h := s.age.lanes.get ln
  judgeLife (raiseHealth (setHealth s ln { h with
    history := [], sums := [], exponent := 0, months := 0xFFFF, bound := 0xFFFF }) 127 2 (u32 (laneNo ln)) none32)

/-- A verification that a start has cut ends with 09h (R421, R429). -/
def cutVerification (s : State) : State := if s.update.state = 3 then endVerification s 9 0xFF else s

/-- HOST_POSITION_LISTEN (R287): a bus that hears its own position stays silent until the next start. -/
def startBus (s : State) (b : HostBus) (heard : Bool) : State :=
  let enabled := (setting s 0x1100 5 3).testBit (busNo b - 1)
  let s1 := modHostBus s b fun _ => { state := if enabled then (if heard then 4 else 1) else 0, silent := enabled && heard }
  if enabled && heard then raise s1 (107 + busNo b) (u32 (busNo b)) 2 0 else s1

/-- The Steward boots (R308) and the host link comes up. -/
def bootSteward (s : State) (env : StartEnv) : State :=
  let s1 := restartUntil { s with host := { s.host with
    serving := true, position := env.straps.toNat, dropped := 0, modeReq := none
    arbOp := setting s 0x1100 1 500, dataOp := setting s 0x1100 2 2 } } s.now
  let s2 := { s1 with host := { s1.host with channels := tmap {} (fun _ x => { x with transfers := 0 }) s1.host.channels } }
  startBus (startBus s2 .hl1 env.heardHl1) .hl2 env.heardHl2

/-! ### Steps 5 to 8: loading (R32, R34, R121, R122) -/

/-- The lanes that come up: not excluded by BIST; the Loom not in Split. -/
def lanesUp (s : State) : List Lane :=
  allLanes.filter fun ln => (s.lanes.get ln).state == 7 && !(ln == .l && switchOn s 23)

/-- Step 5 (and 7): the domains, the field side, the kill lines (R373). With S23 on, PD3 stays off (R343). -/
def powerParts (s : State) : State :=
  let doms := ([5, 6, 7] : List Nat) ++ (lanesUp s).map fun ln => laneNo ln + 1
  let s1 := doms.foldl domainUp (if switchOn s 23 then domainOff s 3 else s)
  { s1 with
    field := { s1.field with kill := 3 }
    constable := { s1.constable with killR := .bit true } }

/-- The station image of the store, checked with the start reading and the position. -/
def stationResult (s : State) : Nat × Nat :=
  if s.update.spoiled.contains 1 then (1 + Config.spoiledCode 1 % 11, 0xFFFFFFFF)
  else checkStation (tget [] s.update.images 1) s.modes.sealStart s.host.position

/-- The Loom pattern fits its memory of 4 MiB, and the commitment in its header is the COMMIT of the station image (R47). -/
def patternOk (s : State) : Bool :=
  let p := tget [] s.update.images 4
  p != [] && p.length ≤ 4194304 && Config.patternCommit p == (parseHeader (tget [] s.update.images 1)).commit

/-- A lane's copies give the result of the stored images: its copy is not a bad one, and a Loom whose station image is good has a
pattern to go with it. What another copy answers the manual does not say: that lane stands alone. -/
def copyGood (s : State) (bad : List Lane) (ln : Lane) : Bool :=
  !bad.contains ln && (ln != .l || (!s.update.spoiled.contains 4 && ((stationResult s).1 != 0 || patternOk s)))

/-- The lanes among `lanes` whose load results agree (R34). -/
def goodLanes (s : State) (lanes bad : List Lane) : List Lane := lanes.filter (copyGood s bad)

/-- C in ms from the CYCLE code of the header: 8, 16, 32 or 64 (R8); 8 without a station image. -/
def cycleMs (d : Option Station) : Nat := 8 * 2 ^ ((d.map fun x => x.header.cycle).getD 0)

/-- The station data of the applying result. A limit timer that is not running stands at the full limit (R64). -/
def applyStation (s : State) (r : Nat × Nat) : State :=
  let ok := r.1 = 0
  let d := if ok then some (loadStation (tget [] s.update.images 1)) else none
  let s1 := { s with
    station := d, stationOk := ok, loadCode := u8 r.1, loadRef := u32 r.2, cyc := { s.cyc with c := cycleMs d } }
  match d with
  | some x => { s1 with
      vote := { s1.vote with
        deglh := x.header.deglh, limitLeft := if s1.vote.limitRuns then s1.vote.limitLeft else x.header.deglh * sec 3600 }
      bus := { s1.bus with
        node := if atPosA s1 then x.cluster.nodeA else x.cluster.nodeB
        rank := if atPosA s1 then x.header.rankA else x.header.rankB } }
  | none => s1

/-- R34, R122: an applying result other than 00h is recorded; the code of that record is not given. -/
def recordLoad (s : State) (code ref : Nat) : State :=
  if code = 0 then s
  else bookEvent (draw s) (Config.free s.draws % 0x800) (u32 code) (u32 ref) 0

/-- A Mill checks its own variant against the other's (R121). -/
def millResult (s : State) (kind other which : Nat) : Nat :=
  if s.update.spoiled.contains kind then 1 + Config.spoiledCode kind % 9
  else checkProgram (tget [] s.update.images kind) (tget [] s.update.images other) which
    (((header? s).map fun h => h.commit).getD 0) s.cyc.c

/-- The Loom holds STATION of both variants against its pattern header (R121); without a variant, or without station data in service, it
has nothing to hold (log 116). -/
def loomResult (s : State) : Nat :=
  let a := tget [] s.update.images 2
  let b := tget [] s.update.images 3
  let p := Config.patternCommit (tget [] s.update.images 4)
  if a = [] ∨ b = [] then 1
  else if s.stationOk ∧ (parseVariant a).station = p ∧ (parseVariant b).station = p then 0 else 4

/-- The program result of a lane. -/
def laneProgram (s : State) : Lane → Nat
  | .a => millResult s 2 3 0
  | .b => millResult s 3 2 1
  | .l => loomResult s

/-- The result on which two lanes agree, if there is one. -/
def agreedCode (l : List (Lane × Nat)) : Option Nat :=
  (l.find? fun x => 2 ≤ (l.filter fun y => y.2 == x.2).length).map fun x => x.2

/-- The program of the applying result, every variable at its initial value (R123). -/
def applyProgram (s : State) (code : Nat) (l : List (Lane × Nat)) : State :=
  let p : Option ProgPair := if code = 0 then some (pairOf (tget [] s.update.images 2, tget [] s.update.images 3)) else none
  let vars := fun (ln : Lane) => (p.map fun x => initVars (variantOf x ln)).getD []
  let fill := fun (st : State) (ln : Lane) => modLane st ln fun x => { x with vars := vars ln }
  let s1 := fill (fill { s with program := { s.program with loadResult := u8 code, pair := p, shown := vars .a } } .a) .b
  l.foldl (fun st x => modLane st x.1 fun y => { y with progCode := u8 x.2 }) s1

/-- A lane that differs from the majority is excluded through its image-check source, 21, 37 or 53. -/
def excludeCheck (s : State) (ln : Lane) (ref : U32) : State := excludeLane (raiseLane s ln 5 ref) ln (laneBase ln + 5)

/-- R34: the reference of a lane whose copy differs is open. -/
def excludeBad (s : State) (ln : Lane) : State := excludeCheck (draw s) ln (u32 (Config.free s.draws))

/-- R121, R122: the majority of the lanes, else 09h; a lane that differs from a majority is excluded, P3 its code with the top bit. -/
def loadProgram (s : State) (lanes : List Lane) : State :=
  let l := lanes.map fun ln => (ln, laneProgram s ln)
  let code := (agreedCode l).getD 9
  let s1 := recordLoad (applyProgram s code l) code 0xFFFFFFFF
  match agreedCode l with
  | none => s1
  | some n => (l.filter fun x => x.2 != n).foldl (fun st x => excludeCheck st x.1 (u32 (0x80000000 + x.2))) s1

/-- LOAD_MAJORITY (R34): at least two lanes agree, or the result is 0Ch. Then the program. -/
def loadMajority (s : State) (lanes bad : List Lane) : State :=
  let good := goodLanes s lanes bad
  let agree := 2 ≤ good.length
  let r := if agree then stationResult s else (0x0C, 0xFFFFFFFF)
  let note := fun (st : State) (ln : Lane) => modLane st ln fun x => { x with
    loadCode := u8 (stationResult s).1, loadRef := u32 (stationResult s).2, loadCommit := (installedCommits s).headD 0 }
  let s1 := recordLoad (applyStation (good.foldl note s) r) r.1 r.2
  if agree then loadProgram ((lanes.filter fun ln => !good.contains ln).foldl excludeBad s1) good else loadProgram s1 lanes

/-- R64: a start in which all three lanes pass the load checks restores the limit. -/
def restoreLimit (s : State) : State :=
  { s with vote := { s.vote with limitLeft := s.vote.deglh * sec 3600, limitRuns := false } }

/-- All three lanes have passed the checks of both images. -/
def allPassed (s : State) : Bool := s.stationOk && s.program.loadResult == 0 && (lanesUp s).length == 3

/-- The cycle sequencer begins: the first cycle is number 0 (R107). -/
def beginCycles (s : State) : State := { s with cyc := { s.cyc with running := true, number := 0, started := false, begun := s.now } }

/-- A lane that copies from its source (Table 02-4, step 5). In Watch too it reads as copying and then as shadow: Table 02-8 has a state of
its own for Watch, R353 the steps of Table 02-4 (DESIGN CHOICE, log 117). -/
def startCopy (source : Lane) (s : State) (ln : Lane) : State :=
  modLane s ln fun x => { x with state := 5, since := s.now, source := some source }

/-- R343: Split, when both leading cores give 00h; otherwise Safe State. -/
def enterSplit (s : State) : State :=
  if s.stationOk ∧ (lanesUp s).length = 2 then
    let s1 := setMode { s with twin := { s.twin with role := .solo } } .split 0xFF
    enterListen (modModes s1 fun x => { x with splitRun := true }) .b
  else enterSafeState s 0xFF

/-- The source that excluded the first lane out of the vote, or FFh. -/
def lostLane (s : State) : U8 :=
  match allLanes.find? fun ln => !inVote s ln with
  | some ln => (s.lanes.get ln).lastSource
  | none => 0xFF

/-- Watch with Mill A, or the wait in Start when Mill A has failed (R353). A single lane other than Mill A is one lane in the vote outside
Watch: Safe State (R338). -/
def enterWatch (s : State) : State :=
  let up := lanesUp s
  if up.contains .a then
    let s1 := modLane s .a fun x => { x with state := 0, since := s.now }
    let s2 := (up.filter fun ln => ln != .a).foldl (startCopy .a) s1
    modModes (beginCycles (setMode s2 .watch 0xFF)) fun x => { x with step := if up.length = 1 then 8 else 9 }
  else if up.length < 2 then enterSafeState s (lostLane s)
  else
    let s1 := up.foldl (fun st ln => modLane st ln fun x => { x with state := 0, since := s.now }) s
    let s2 := if up.contains .l then { s1 with vote := { s1.vote with loomSince := some s.now } } else s1
    modModes (beginCycles s2) fun x => { x with step := 9 }

/-- Steps 3 to 8. -/
def runStart (env : StartEnv) (s : State) : State :=
  let s1 := if s.modes.startKind = 1 then startBist env s else s
  if s1.modes.mode ≠ .start then s1 else
  let s2 := powerParts (modModes s1 fun x => { x with step := 5 })
  let s3 := loadMajority (modModes s2 fun x => { x with step := 6 }) (lanesUp s2) env.badCopy
  let s4 := startGroups (if allPassed s3 then restoreLimit s3 else s3)
  if s4.modes.mode ≠ .start then s4 else
  let s5 := { s4 with twin := { s4.twin with wsnap := worstSnapshot s4 } }
  if switchOn s5 23 then enterSplit s5 else enterWatch s5

/-- Step 2 and on. While the journal still has to run, the start waits there (R426, R427). -/
def startFromTwo (why : Option Nat) (env : StartEnv) (s : State) : State :=
  let s0 := { s with update := { s.update with restart := false } }
  let s1 := decideStart (domainUp s0 4) env why
  let s2 := judgeProbation (resumeJournal env (cutVerification s1))
  let s3 := enterListen (bootSteward (env.lostHistory.dedup.foldl dropHistory (checkSettings (dropChange s2))) env) .a
  if s3.update.state = 6 then s3 else runStart env s3

/-- A start from step 1 (Table 12-6). -/
def beginStart (why : Option Nat) (env : StartEnv) (s : State) : State :=
  let s1 := setMode s .start 0xFF
  let s2 := dropPlain (freshCounters (freshParts s1))
  let s3 := domainUp (modModes s2 fun x => { x with
    startAt := s.now, step := 1, startMs := 0, pfwReleased := true, vinLowest := x.vin, splitRun := false
    retention := retentionRead s1 env }) 0
  let s4 := readSeal (applyImageRecord (bookScan s3)) env.switches
  startFromTwo why env (measureHoldup s4 env.capacitance (if why.getD (startReason s4 env) = 0 then 0 else 1))

/-- What PD0 and PD4 do not keep without supply: sources but for their windows, the Grave latch, the ring, the Steward. -/
def coldStart (s : State) : State :=
  { s with
    constable := { s.constable with
      sources := tmap {} (fun _ x => { ({} : SourceSt) with window := x.window }) s.constable.sources
      graveR := .bit false, stopSrc := 0xFF, stopAt := 0, onDemand := false, proved := 0, provedReq := 0, sweepEnd := 0
      lastSilent := none, lostDue := 0, queue := [], proofAt := none }
    cyc := { c := s.cyc.c }, field := {}
    host := { position := s.host.position, settings := s.host.settings, keys := s.host.keys }
    update := { s.update with countFrom := s.now }
    age := { s.age with savedAt := s.now, counters := s.age.saved } }

/-- POWER_ON (R357). -/
def execPowerOn (t : Time) (vin : Nat) (env : StartEnv) (s : State) : Host.Outcome State Fault Refusal :=
  at_ t s fun s =>
    if s.modes.mode = .off ∧ 3600 < vin then beginStart none env (noteVin (coldStart s) vin) else s

/-- START_TIMEOUT (R351). -/
def execStartTimeout (t : Time) (s : State) : Host.Outcome State Fault Refusal :=
  at_ t s fun s =>
    if (s.modes.mode = .start ∨ s.modes.mode = .watch) ∧ s.modes.startAt + sec 90 ≤ s.now then
      raise s 7 (u32 s.modes.step) (u32 ((s.now - s.modes.startAt) / ms 1)) none32
    else s

/-! ### Leaving Watch (R353, R389 to R391) -/

/-- The load check of an image kind has given 00h at this start. -/
def imageLoaded (s : State) (kind : Nat) : Bool :=
  !s.update.spoiled.contains kind && match kind with
    | 1 => s.stationOk
    | 2 | 3 => s.program.loadResult == 0
    | 4 => patternOk s
    | _ => true

/-- R427: the start is good when every image of the package has load result 00h. -/
def markGood (s : State) : State :=
  if s.update.state = 7 ∧ s.update.inProgress ∧ (pkgEntries (stagedPackage s)).all (fun e => imageLoaded s e.kind) then
    { s with update := { s.update with
        inProgress := false, goodStart := true, countFrom := if s.update.goodStart then s.update.countFrom else s.now } }
  else s

/-- From here on a lane that is still returning counts as an attempt (R353). -/
def countLate (s : State) : State :=
  let n := (allLanes.filter fun ln => attempting (s.lanes.get ln)).length
  { s with vote := { s.vote with attempts := s.vote.attempts ++ List.replicate n s.now } }

/-- Stop or Standby is reached, by the role. -/
def reachStop (s : State) : State :=
  let took := (s.now - s.modes.startAt) / ms 1
  let m : Mode := if s.twin.role = .standby then .standby else .stop
  let s1 := modModes (setMode s m 0xFF) fun x => { x with step := 10, startMs := took }
  startLimit (countLate (markGood (bookEvent s1 0x0016 (u32 s.modes.startKind) (u32 s.modes.startWhy) (u32 took))))

/-- At a boundary with two or more lanes in the vote, the role is resolved and Watch is left. -/
def leaveWatch (s : State) : State :=
  if joining s ∧ 2 ≤ (voters s).length then
    let s1 := resolveRole s
    if s1.twin.role = .unresolved ∨ joining s1 = false then s1 else reachStop s1
  else s

/-! ### Shutdown (R355) -/

/-- Block 6 needs VF within its operating range: below 19.2 V it reads "not run" (Table 12-7). -/
def fieldBist (s : State) (env : StartEnv) : StartEnv :=
  if s.field.vf < 1920 then
    { env with bist := (List.range 8).map fun b => if b = 6 then ⟨.notRun, none32⟩ else bistOf env b }
  else env

/-- SHUTDOWN_SEQUENCE, from the applying S. -/
def enterShutdown (found : StartEnv) (s : State) : State :=
  let env := fieldBist s found
  let s1 := flushCommands { (stopKillLines s 0xFF) with cyc := { s.cyc with running := false } }
  let s2 := abortAttempts (cancelArmed (setMode s1 .shutdown 0xFF))
  let s3 := ((slotsInUse s2).filter fun e => e.2.state == 1 || e.2.state == 2).foldl (fun st e => closeSession st e.1 0x0B) s2
  let s3 := sendCloses s3
  let s4 := if s3.twin.role = .active then twinNotice (recordGiveUp s3 0 none32) 1 else s3
  let s5 := bookEvent (dropForces { s4 with host := { s4.host with modeReq := none } }) 0x0012 (u32 (roleCode s4.twin.role)) s4.cyc.number 0
  let s6 := recordBist s5 env 2
  let s7 := bookEvent (modModes s6 fun x => { x with record := some ⟨bistAllPassed env, installedCommits s6⟩, retention := some 0 })
    0x0013 (u32 (blocksWith env .failed)) (u32 (blocksWith env .notRun)) (u32 (bistTotal env))
  let s8 := ([7, 6, 3, 2, 1] : List Nat).foldl domainOff s7
  lanternOff { s8 with field := { s8.field with gate := 0 } } 1

/-! ### Mode requests (R312, R346, R347) -/

/-- Station data and program are valid. -/
def dataValid (s : State) : Bool := s.stationOk && s.program.loadResult == 0 && s.program.pair.isSome

/-- The condition of a request for Run (Table 12-4). -/
def runAllowed (s : State) : Bool :=
  dataValid s && (s.twin.role == .solo || s.twin.role == .active) && s.update.state != 6

/-- No drive group outside Idle and Locked out, and no remote throw. -/
def shutdownAllowed (s : State) : Bool :=
  groupsRest s && ((elements s).all fun e => !(e.2.remote && (elemSt s e.1).throwing != 0)) && s.update.state != 6

/-- Table 12-4. -/
def requestAllowed (s : State) (v : Nat) : Bool :=
  match s.modes.mode, v with
  | .stop, 4 => runAllowed s
  | .stop, 6 => runAllowed s && switchOn s 22
  | .stop, 11 => shutdownAllowed s
  | .run, 3 | .degraded, 3 => true
  | .testTrack, 3 | .testTrack, 7 => true
  | .hold, 3 | .hold, 6 => true
  | .standby, 11 | .split, 11 => true
  | .safeState, 11 => !s.constable.grave
  | .shutdown, 3 => true
  | _, _ => false

/-- The mode that a request leads to. -/
def requestedMode (s : State) (v : Nat) : Mode :=
  match v with
  | 4 => if (voters s).length = 2 then .degraded else .run
  | 6 => .testTrack
  | 7 => .hold
  | _ => .stop

/-- An allowed request applies. -/
def applyRequest (env : StartEnv) (s : State) (v : Nat) : State :=
  if v = 11 then enterShutdown env s
  else if s.modes.mode = .shutdown then beginStart none env s
  else
    let s1 := setMode s (requestedMode s v) 0xFF
    let s2 := if s1.modes.mode = .stop then dropVitalForces s1 else if s1.modes.mode = .hold then abortAttempts s1 else s1
    cancelIfLeft { s2 with program := { s2.program with frozen := s2.modes.mode == .hold } }

/-- In these modes no S comes, and a request applies at once (Table 12-13, step 10). -/
def appliesAtOnce (m : Mode) : Bool :=
  match m with
  | .safeState | .shutdown | .split => true
  | _ => false

/-- A write of 2001:01 (R312). -/
def writeMode (env : StartEnv) (s : State) (v : Nat) : Write :=
  refuseUnless (v == 3 || v == 4 || v == 6 || v == 7 || v == 11) 0x0230 <|
  refuseUnless (requestAllowed s v) 0x0410 <|
  let s1 := { s with host := { s.host with request := u8 v, outcome := 0 } }
  .ok (if appliesAtOnce s.modes.mode then applyRequest env s1 v
    else { s1 with host := { s1.host with modeReq := some (u8 v, s.now) } })

/-- A mode request on a channel. -/
def requestMode (t : Time) (ch v : Nat) (env : StartEnv) (s : State) : Host.Outcome State Fault Refusal :=
  writeAt t s ch fun s => needAuth s ch fun s => writeMode env s v

/-- A start or a shutdown that finds nothing: for requests that lead to neither. -/
def noEnv : StartEnv := ⟨0, 0, [], 0, none, [], false, false, false, [], false⟩

/-- MODE_REQUEST_STOP (R312): 3, or a start from Shutdown. -/
def execModeRequestStop (t : Time) (ch : Fin 8) (env : StartEnv) (s : State) : Host.Outcome State Fault Refusal :=
  requestMode t ch.val 3 env s
/-- MODE_REQUEST_RUN (R312): 4. -/
def execModeRequestRun (t : Time) (ch : Fin 8) (s : State) : Host.Outcome State Fault Refusal := requestMode t ch.val 4 noEnv s
/-- MODE_REQUEST_TEST_TRACK (R312): 6. -/
def execModeRequestTestTrack (t : Time) (ch : Fin 8) (s : State) : Host.Outcome State Fault Refusal :=
  requestMode t ch.val 6 noEnv s
/-- MODE_REQUEST_HOLD (R312): 7. -/
def execModeRequestHold (t : Time) (ch : Fin 8) (s : State) : Host.Outcome State Fault Refusal := requestMode t ch.val 7 noEnv s
/-- MODE_REQUEST_SHUTDOWN (R312): 11. -/
def execModeRequestShutdown (t : Time) (ch : Fin 8) (env : StartEnv) (s : State) : Host.Outcome State Fault Refusal :=
  requestMode t ch.val 11 env s

/-- The pending request at S (R312): it applies if still permitted, else it lapses. -/
def takeRequest (env : StartEnv) (s : State) : State :=
  match s.host.modeReq with
  | none => s
  | some (v, at') =>
    if s.now ≤ at' then s else
    let s1 := { s with host := { s.host with modeReq := none } }
    if requestAllowed s1 v.toNat then applyRequest env s1 v.toNat
    else lapseRequest s

/-! ### The reset key (R219, R345) -/

/-- What a valid operation does: it leaves Safe State without the Grave latch, unless a Module-class source is asserted, and starts
Kutia from Shutdown. -/
def resetByKey (env : StartEnv) (s : State) : State :=
  match s.modes.mode with
  | .shutdown => beginStart none env s
  | .safeState =>
    if s.constable.grave then s else
    match assertedModule s with
    | some n => bookEvent s 0x0011 (u32 n) s.cyc.number 0
    | none => beginStart (some 6) env s
  | _ => s

/-- The Constable's own receivers have seen the KEYCNT increased in the up frames of at least two channels (R345). -/
def keySeen (k : KeyOperation) : Bool := 2 ≤ (allLanes.filter k.seenOn.contains).length

/-- RESET_KEY_OPERATION (R219, R345): counted by the field side, and acted on by the Constable once its receivers have seen it. -/
def execResetKeyOperation (t : Time) (k : KeyOperation) (env : StartEnv) (s : State) : Host.Outcome State Fault Refusal :=
  at_ t s fun s =>
    if fieldUp s = false then s else
    let s1 := countKey s k
    if validKey k && keySeen k then resetByKey env s1 else s1

/-! ### Power (R356 to R359) -/

/-- The parts that need supply are off. -/
def partsOff (s : State) : State :=
  { s with
    cyc := { c := s.cyc.c }
    bus := { s.bus with engine := 0, portB := {}, telegrams := [], staged := [] }
    field := { s.field with kill := 0, gate := 0, lant := false }
    host := { s.host with serving := false, modeReq := none }
    modes := { s.modes with
      pfwReleased := false, splitRun := false, fails := s.modes.fails + 1, lastFail := s.now
      domains := tmap {} (fun _ x => { x with state := 0, mv := 0 }) s.modes.domains } }

/-- How far the journal came is not known: its pointer is a free value of the plan (R424, R426). -/
def losePointer (s : State) : State :=
  if s.update.state = 6 then
    writeImageRecord { (draw s) with update := { s.update with pointer := Config.free s.draws % (s.update.plan.length + 1) } }
  else s

/-- A power failure joins 2900:0E at once in PD0 too: the running set is lost with the supply. -/
def countFail (s : State) : State :=
  let s1 := countUp s 14 1
  { s1 with age := { s1.age with
      saved := (List.range 14).map fun k => s1.age.saved.getD k 0 + if k = 13 then 1 else 0 } }

/-- POWER_FAIL (R356): the Book is written before the supply ends. -/
def execPowerFail (t : Time) (vin : Nat) (s : State) : Host.Outcome State Fault Refusal :=
  at_ t s fun s =>
    if s.modes.mode = .off then s else
    let s1 := stopKillLines (noteVin s vin) 0
    let s2 := twinNotice s1 2
    let s3 := if s2.twin.role = .active then recordGiveUp s2 1 none32 else s2
    let s4 := raise s3 0 (u32 s3.modes.vinLowest) (u32 (modeCode s.modes.mode)) (u32 s.now)
    let s5 := setMode s4 .off 0
    losePointer (countFail (partsOff (tearNewest (drainBook s5.constable.queue.length s5))))

/-- VIN_LOW (R357): source 1 below 42 V, withdrawn above 44 V. -/
def execVinLow (t : Time) (vin : Nat) (s : State) : Host.Outcome State Fault Refusal :=
  at_ t s fun s =>
    let s1 := noteVin s vin
    if s.modes.mode = .off then s1
    else if vin < 4200 then raise s1 1 (u32 vin) none32 none32
    else if 4400 < vin ∧ (source s1 1).reported then withdraw s1 1
    else s1

/-- The crossings of Table 11-6 that lead into PD4. -/
def crossingsToPd4 : List Nat := [6, 7, 8, 9, 10, 11, 12, 15]

/-- A crossing into PD4 has been through a reset of its receiving side (R332). -/
def resetPd4Crossing (s : State) (c : Nat) : State :=
  (crossDirs c).foldl (fun st dir => crossAfter (resetCross st c dir true) c dir true) s

/-- Commands taken or waiting without a final result. -/
def pendingCommands (s : State) : Nat := s.cyc.cmdq.length + s.cyc.taken.length + s.cyc.live.length

/-- R359, item 2: the queue and the ring are lost; the write sequence is kept, the read sequence equal to it. -/
def loseQueue (s : State) : State :=
  let lost := (s.cyc.writeSeq - s.cyc.readSeq).toNat + s.cyc.reserved
  bookEvent { s with cyc := { s.cyc with
      cmdq := [], taken := [], live := [], decided := [], ring := [], readSeq := s.cyc.writeSeq, reserved := 0 } } 0x0017
    (u32 (pendingCommands s)) (u32 lost) s.cyc.writeSeq

/-- PD4_RESTART (R359). -/
def restartPd4 (s : State) : State :=
  let s1 := allLanes.foldl (fun st ln => resetStile st ln .service (stile st ln).inw.tag) s
  let s2 := loseQueue (crossingsToPd4.foldl resetPd4Crossing s1)
  let s3 := relisten { s2 with bus := { s2.bus with
    telegrams := [], staged := [], peerSeen := none, master := none, noSync := 0 } } .a
  let s4 := if s3.modes.mode = .split then relisten s3 .b else s3
  let s4 := if 0 < s4.twin.blockNext then dropBlocks s4 else s4
  let s5 := { s4 with
    sessions := { s4.sessions with mailbox := [], records := [], promised := [] }
    twin := { s4.twin with
      link := false, losses := if s4.twin.link then s4.twin.losses + 1 else s4.twin.losses, heardAt := none
      blocks := [], blockNext := 0, pd4Watch := s4.twin.role == .active, peerTook := false } }
  restartSteward s5

/-- The lane of a domain (Table 12-8). -/
def domainLane : Nat → Option Lane
  | 1 => some .a
  | 2 => some .b
  | 3 => some .l
  | _ => none

/-- R358: a domain whose voltage leaves its window is switched off. -/
def domainFault (s : State) (d mv : Nat) : State :=
  let s1 := modDomain s d fun x => { x with state := 4, mv := mv, faults := x.faults + 1 }
  match domainLane d with
  | some ln => laneBlockFailed s1 ln (0x80 + d) none32
  | none =>
    if d = 4 then restartPd4 (domainUp (bookEvent s1 0x0015 4 (u32 mv) 0) 4)
    else if d = 7 then
      let s2 := domainUp (bookEvent s1 0x0015 7 (u32 mv) 0) 7
      { s2 with age := { s2.age with fifo := [], portFree := s2.now } }
    else
      let s2 := if d = 0 then s1 else lanternOff { s1 with field := { s1.field with gate := 0 } } 1
      raise s2 6 (u32 d) (u32 mv) none32

/-- POWER_DOMAIN_FAULT (R358, R359): of a domain that is on, clamped or not. -/
def execPowerDomainFault (t : Time) (d : Fin 8) (mv : Nat) (s : State) : Host.Outcome State Fault Refusal :=
  at_ t s fun s => if (domain s d.val).state = 2 ∨ (domain s d.val).state = 3 then domainFault s d.val mv else s

/-! ### The end of an activation and of a rollback (R424, R425) -/

/-- Kutia starts from step 2 as a full start: reason 5. -/
def restartAfterUpdate (env : StartEnv) (s : State) : State :=
  let s1 := flushCommands { (stopKillLines s 0xFF) with cyc := { s.cyc with running := false } }
  let s2 := dropPlain (freshCounters (freshParts (setMode s1 .start 0xFF)))
  startFromTwo (some 5) env (modModes s2 fun x => { x with
    startAt := s.now, step := 1, startMs := 0, vinLowest := x.vin, splitRun := false, retention := retentionHeld s })

/-- The station reads in progress end when the station image becomes another one (R37). -/
def replaceImages (s : State) (images : Table (List Byte)) : State :=
  let s1 := if tget [] images 1 = tget [] s.update.images 1 then s else cutStationReads s
  { s1 with update := { s1.update with images := images } }

/-- The journal can run: in Stop, or in a start that waits for it, and not paused. -/
def journalRuns (s : State) : Bool :=
  s.update.state == 6 && !s.update.paused && (s.modes.mode == .stop || s.modes.mode == .start)

/-- In Stop the mode changes at the next boundary (R335); a start that waited for its journal goes on at once. -/
def restartDue (env : StartEnv) (s : State) : State :=
  if s.modes.mode = .stop then { s with update := { s.update with restart := true } } else restartAfterUpdate env s

/-- The restart that waited for its boundary. -/
def takeRestart (env : StartEnv) (s : State) : State :=
  if s.update.restart then restartAfterUpdate env s else s

/-- ACTIVATION_COMPLETE (R424): state Probation, the start count 0, and a full start. A full image replaces a spoiled one (R426). -/
def execActivationComplete (t : Time) (env : StartEnv) (s : State) : Host.Outcome State Fault Refusal :=
  at_ t s fun s =>
    if journalRuns s ∧ s.update.reverse = false then
      let s1 := replaceImages s (imagesAfter (stagedPackage s) s.update.images)
      let u := s1.update
      let fulls := ((pkgEntries (stagedPackage s)).filter fun e => e.base == 0).map fun e => e.kind
      restartDue env (setUpdateState { s1 with update := { u with
        plan := u.plan.map fun j => { j with valid := true }
        spoiled := u.spoiled.filter fun k => !fulls.contains k
        pointer := u.plan.length, failed := 0, inProgress := false, goodStart := false, elapsed := 0, savedAt := 0 } } 7)
    else s

/-- ROLLBACK_COMPLETE (R425): state Rolled back, source 118, and a start. -/
def execRollbackComplete (t : Time) (env : StartEnv) (s : State) : Host.Outcome State Fault Refusal :=
  at_ t s fun s =>
    if journalRuns s ∧ s.update.reverse then
      let s0 := replaceImages s s.update.former
      let s1 := setUpdateState { s0 with update := { s0.update with
        pointer := 0, reverse := false, inProgress := false, rollbacks := s0.update.rollbacks + 1 } } 9
      restartDue env (raise s1 118 (u32 s.update.cause) (u32 s.update.failed) (pkgLow s))
    else s

/-! ### The Degraded-L limit (R64) -/

/-- Step 7 of Table 02-4: a lane with its 16 matching cycles joins the vote, with the streak it kept (R59); Degraded returns to Run with
three lanes (R338). -/
def joinLane (s : State) (ln : Lane) : State :=
  let s1 := modLane s ln fun y => { y with
    state := 0, since := s.now, lastResult := 1, failed := false, hostAsked := false, misses := []
    matching := 0, shadows := 0, complete := false, delivered := none, late := false }
  let s2 := if ln = .l then { s1 with vote := { s1.vote with loomSince := some s.now } } else s1
  if s2.modes.mode = .degraded ∧ (voters s2).length = 3 then setMode s2 .run 0xFF else s2

/-- A cycle boundary: no cycle runs, the present one is over, or it has just opened. -/
def atBoundary (s : State) : Bool :=
  !s.cyc.running || !s.cyc.started || decide (cycleEnd s ≤ s.now) || s.cyc.begun == s.now

/-- A lane whose join is due. -/
def joinDue (s : State) (ln : Lane) : Bool := (s.lanes.get ln).state == 6 && 16 ≤ (s.lanes.get ln).matching

/-- DEGRADED_L_LIMIT_EXPIRY (R64): at a boundary with the Loom out of the vote, in every mode that runs cycles (R346). A join of the Loom
at the same boundary takes effect first (R68). P1 of source 55 is the Loom's number, where R69 leaves lane or FFh open (DESIGN CHOICE, log
118). -/
def execDegradedLLimitExpiry (t : Time) (s : State) : Host.Outcome State Fault Refusal :=
  at_ t s fun s =>
    if s.cyc.running ∧ s.vote.limitRuns ∧ s.vote.limitAt + s.vote.limitLeft ≤ s.now
        ∧ inVote s .l = false then
      if joinDue s .l then joinLane s .l else raise s 55 2 s.cyc.number (u32 s.vote.deglh)
    else s

/-- DEGRADED_L_TIMER_RESTORE (R64): the Loom has been in the vote for 24 h. -/
def execDegradedLTimerRestore (t : Time) (s : State) : Host.Outcome State Fault Refusal :=
  at_ t s fun s =>
    if inVote s .l ∧ s.vote.loomSince.any (fun x => x + sec 86400 ≤ s.now) then restoreLimit s else s

/-! ### Re-admission (Table 02-4) -/

/-- R66. -/
def readmits (s : State) : Bool :=
  match s.modes.mode with
  | .stop | .run | .degraded | .testTrack | .standby => true
  | _ => false

/-- Attempts started in the last 24 h (R67). -/
def recentAttempts (s : State) : List Time := s.vote.attempts.filter fun x => s.now < x + sec 86400

/-- READMIT_REQUEST (R72): a write to 2120:01; the request waits at step 2. -/
def writeReadmit (s : State) (value : U8) : Write :=
  match laneOf (value.toNat - 1) with
  | none => .error 0x0230
  | some ln =>
    refuseUnless (1 ≤ value.toNat) 0x0230 <|
    let x := s.lanes.get ln
    refuseUnless (x.state != 0) 0x0430 <|
    refuseUnless ((recentAttempts s).length < 3) 0x0431 <|
    refuseUnless (readmits s) 0x0432 <|
    refuseUnless (x.state == 1) 0x0433 <|
    .ok (modLane s ln fun y => { y with state := 2, hostAsked := true })

/-- READMIT_REQUEST (R72). -/
def execReadmitRequest (t : Time) (ch : Fin 8) (value : U8) (s : State) : Host.Outcome State Fault Refusal :=
  writeAt t s ch.val fun s => writeReadmit s value

/-- The source lane of an attempt (R65): the other Mill, or Mill A for the Loom. -/
def copySource : Lane → Lane
  | .a => .b
  | .b => .a
  | .l => .a

/-- READMISSION_ATTEMPT_START (R65, R67): steps 1 and 2 have passed. -/
def execReadmissionAttemptStart (t : Time) (ln : Lane) (s : State) : Host.Outcome State Fault Refusal :=
  at_ t s fun s =>
    let x := s.lanes.get ln
    if x.state = 2 ∧ (x.hostAsked ∨ x.since + sec 5 ≤ s.now) ∧ readmits s ∧ (recentAttempts s).length < 3 then
      let s1 := modLane s ln fun y => { y with
        state := 3, since := s.now, source := some (copySource ln), bistOk := false, stages := [], stores := [] }
      { s1 with vote := { s1.vote with attempts := recentAttempts s ++ [s.now] } }
    else s

/-- LANE_BIST_DONE (R65): step 3. -/
def execLaneBistDone (t : Time) (ln : Lane) (passed : Bool) (s : State) : Host.Outcome State Fault Refusal :=
  at_ t s fun s =>
    if (s.lanes.get ln).state ≠ 3 then s
    else if passed then
      domainUp (modLane s ln fun y => { y with state := 4, since := s.now, bistOk := true }) (laneNo ln + 1)
    else failAttempt s ln 2

/-- LANE_LOAD_DONE (R65): step 4, 00h and the COMMIT in service. -/
def execLaneLoadDone (t : Time) (ln : Lane) (badCopy : Bool) (s : State) : Host.Outcome State Fault Refusal :=
  at_ t s fun s =>
    if (s.lanes.get ln).state ≠ 4 then s
    else if s.stationOk ∧ copyGood s (if badCopy then [ln] else []) ln then
      modLane s ln fun y => { y with
        state := 5, since := s.now, loadCode := 0, loadRef := none32, loadCommit := ownCommit s }
    else failAttempt s ln 3

/-- The variables that a returning lane copies: a Mill all of them, the Loom the generic ones. -/
def copiedVars (s : State) (ln src : Lane) : Table Cell :=
  let t := (s.lanes.get src).vars
  match ln, s.program.pair with
  | .l, some p => p.va.map.foldl (fun u m => if m.cls = 1 then setCell u m.varnum (cellAt t m.varnum) else u) []
  | .l, none => []
  | _, _ => t

/-- Every lane whose join is due joins at the boundary. -/
def joinDueLanes (s : State) : State := allLanes.foldl (fun st ln => if joinDue st ln then joinLane st ln else st) s

/-- COPY_COMPLETE (R65): step 5 ends at a boundary, and the lane shadows from the copied state. -/
def execCopyComplete (t : Time) (ln : Lane) (s : State) : Host.Outcome State Fault Refusal :=
  at_ t s fun s =>
    let x := s.lanes.get ln
    let src := x.source.getD (copySource ln)
    if x.state = 5 ∧ inVote s src ∧ atBoundary s then
      modLane s ln fun y => { y with
        state := 6, since := s.now, matching := 0, shadows := 0, claims := copyOf s, current := true
        vars := copiedVars s ln src }
    else s

/-- SHADOW_JOIN (R65, R338): step 7, at a boundary; Degraded returns to Run with three lanes. -/
def execShadowJoin (t : Time) (ln : Lane) (s : State) : Host.Outcome State Fault Refusal :=
  at_ t s fun s => if joinDue s ln ∧ atBoundary s then joinLane s ln else s

/-- The result of an attempt whose step has run out, if it has. -/
def stepOut (s : State) (x : LaneSt) : Option U8 :=
  let past := fun (n : Nat) => decide (x.since + ms n ≤ s.now)
  match x.state with
  | 3 => if past 2700 then some 2 else none
  | 4 => if past 4000 then some 3 else none
  | 5 => if past 30000 then some 4 else none
  | 6 => if 256 ≤ x.shadows then some 5 else none
  | _ => none

/-- READMISSION_STEP_TIMEOUT (R67). -/
def execReadmissionStepTimeout (t : Time) (ln : Lane) (s : State) : Host.Outcome State Fault Refusal :=
  at_ t s fun s =>
    match stepOut s (s.lanes.get ln) with
    | some code => failAttempt s ln code
    | none => s

end Sys2Proof.Machine
end

