-- ==== Sys2Proof/Machine/Cycle.lean ====
section
/-!
DEFINITION. Machine/Cycle.lean: the vital cycle (04): the snapshot instant with what it fixes (R107, R109, R110, R135) and the mode
changes that apply there (R312, R338, R349, R350, R353); the Vote phase (R49, R114); the Issue phase (R108, R136, R137, R175, R180,
R212); the command queue (R132 to R135, R142, R337); boundary records (R109).
-/

namespace Sys2Proof.Machine

/-! ### Opening a cycle (R107, R109) -/

/-- The sequencer runs cycles: in the modes with cycles, and in a start that waits for its lanes. -/
def cyclesRun (s : State) : Bool := s.cyc.running && (cyclic s.modes.mode || joining s)

/-- A cycle starts now: the first one, or the present one is over; while the bus is synchronised, at a boundary of the grid alone (R234). -/
def cycleDue (s : State) : Bool :=
  cyclesRun s && (!s.cyc.started || decide (cycleEnd s ≤ s.now)) && (!synchronised s || onGrid s)

/-- The lane's place in the new cycle. -/
def freshLane (x : LaneSt) : LaneSt :=
  { x with markBus := false, markQueue := false, emptyBus := false, emptyQueue := false, absent := [], complete := false, delivered := none
           late := false, wrote := false, held := false, judged := false, verdicts := [], snapVerdicts := x.verdicts }

/-- Commands that a cycle without its later phases leaves behind: unserved ones are pending again, served ones wait as taken. -/
def carryTaken (s : State) : State :=
  if s.cyc.voted then { s with cyc := { s.cyc with live := s.cyc.live ++ s.cyc.taken, taken := [] } }
  else { s with cyc := { s.cyc with cmdq := s.cyc.taken ++ s.cyc.cmdq, taken := [] } }

/-- The new cycle: number, S, and the telegrams that the last Issue phase has handed over (R107, R245). -/
def openCycle (s : State) : State :=
  { s with
    cyc := { s.cyc with
      number := if s.cyc.started then s.cyc.number + 1 else 0
      started := true, begun := s.now, lastS := s.cyc.begun, endAt := none, voted := false, phase := 1 }
    bus := { s.bus with telegrams := s.bus.staged, staged := [] }
    change := { s.change with switched := false }
    lanes := s.lanes.map freshLane }

/-! ### The field part of the snapshot (R110, R206, R207, R210) -/

/-- The newest valid frame that came to a lane before S, and when: one that came at S itself belongs to the next cycle (R109). -/
def newestBefore (s : State) (ln : Lane) : Option UpFrame × Time :=
  let b := s.field.bar.get ln
  if b.upAt < s.now then (b.up, b.upAt) else (b.upPrev, b.upPrevAt)

/-- The frame that a lane held at S. -/
def heldFrame (s : State) (ln : Lane) : Option UpFrame :=
  let (f, at') := newestBefore s ln
  if (domain s (laneNo ln + 1)).state = 2 ∧ at' < s.now ∧ s.now ≤ at' + us 500 then f else none

/-- The frame that at least two lanes hold. -/
def commonFrame (l : List UpFrame) : Option UpFrame := l.find? fun f => 2 ≤ (l.filter fun g => g.seq == f.seq).length

/-- The agreed frame. -/
def agreedFrame (s : State) : Option UpFrame := commonFrame (allLanes.filterMap (heldFrame s))

/-- The newest sequence number that two lanes hold, however old, or FFFFFFFFh (P1 of source 11). -/
def newestCommon (s : State) : U32 :=
  ((commonFrame (allLanes.filterMap fun ln => (newestBefore s ln).1)).map UpFrame.seq).getD none32

/-- The pair value of R207. -/
def pairValue (c : FieldConfig) (f : UpFrame) (k : Nat) : Bool :=
  c.pair.getLsbD k && channelOn c f.di (2 * k) && channelOn c f.di (2 * k + 1) && !f.pairf.getLsbD k

/-- The pair values of a frame. -/
def pairValues (s : State) (f : UpFrame) : BitVec 24 :=
  match laneConfig s with
  | some c => BitVec.ofNat 24 (bitmap ((List.range 24).map (pairValue c f)))
  | none => 0

/-- The pulses of one counter since the last valid count (R206). -/
def pulsesOf (last f : UpFrame) (i : Nat) : Nat := (f.cnt.getD i 0 - last.cnt.getD i 0).toNat

/-- The mean of one analog input over the ticks since the previous snapshot frame (R196); `open_` where there was no tick. -/
def meanOf (last f : UpFrame) (open_ : Nat → Nat) (i : Nat) : Nat :=
  let n := (f.tick - last.tick).toNat
  if n = 0 then open_ i else (f.aacc.getD i 0 - last.aacc.getD i 0).toNat / n

/-- The snapshot of restrictive values (Table 07-4). -/
def restrictiveSnap (at' : Time) (frame lastFrame last : Option UpFrame) (none_ : Bool) (epoch : U8) : Snapshot :=
  { at_ := at', restrictive := none_, frame := frame, lastFrame := frame.orElse fun _ => lastFrame, lastGood := last, di := 0, pairs := 0
    pulses := List.replicate 8 65535, means := List.replicate 4 4095, flost := true, epoch := epoch, keyOp := false }

/-- The snapshot of a frame that is not restrictive: counter differences from the last valid count (R206), means from the previous
snapshot frame (R196). The first one after a start has nothing to take a difference from: free values. -/
def goodSnap (s : State) (f : UpFrame) (prev last : Option UpFrame) : Snapshot :=
  let freePulse := fun (i : Nat) => Config.free (s.draws + i) % 65536
  let freeMean := fun (i : Nat) => Config.free (s.draws + 8 + i) % 4096
  { at_ := s.now, restrictive := false, frame := some f, lastFrame := some f, lastGood := some f, di := f.di, pairs := pairValues s f
    pulses := (List.range 8).map fun i => match last with
      | some l => pulsesOf l f i
      | none => freePulse i
    means := (List.range 4).map fun i => match prev with
      | some l => meanOf l f freeMean i
      | none => freeMean i
    flost := false, epoch := f.epoch, keyOp := prev.any fun l => l.keycnt != f.keycnt }

/-- The field part of this cycle's snapshot. -/
def fieldSnap (s : State) : Snapshot :=
  let prev := s.cyc.snap.lastFrame
  let last := s.cyc.snap.lastGood
  match agreedFrame s with
  | none => restrictiveSnap s.now none prev last true s.cyc.snap.epoch
  | some f => if f.flost ∨ f.unconf then restrictiveSnap s.now (some f) prev last false f.epoch else goodSnap s f prev last

/-- A cycle without an agreed frame: counted, source 11 (R110). -/
def noteRestrictive (s : State) : State :=
  let s1 := { s with cyc := { s.cyc with restrictive := s.cyc.restrictive + 1 } }
  raise s1 11 (newestCommon s) s.cyc.number (u32 (bitmap (allLanes.map fun ln => (heldFrame s ln).isSome)))

/-- What S shows of a lane's channels (R198): GSTALE in the agreed frame, and a receiver that has held no valid frame for 500 us. -/
def judgeBarrier (f : Option UpFrame) (s : State) (ln : Lane) : State :=
  let b := s.field.bar.get ln
  if f.any fun g => g.gstale.getLsbD (laneNo ln) then raiseBarrier s ln false
  else if b.upStale then (if b.upAt + us 500 ≤ s.now then raiseBarrier s ln true else s)
  else if f.isSome then withdrawBarrier s ln else s

/-- The lanes that held the agreed frame at S; without one, nothing is wanting (R110). -/
def holdFrames (s : State) (f : Option UpFrame) : PerLane LaneSt :=
  let go := fun (ln : Lane) => { s.lanes.get ln with
    held := match f with
      | none => true
      | some g => (heldFrame s ln).any fun h => h.seq == g.seq }
  ⟨go .a, go .b, go .l⟩

/-- The field inputs of the cycle are fixed. -/
def takeField (s : State) : State :=
  let snap := fieldSnap s
  let s1 := { s with
    draws := s.draws + 12
    cyc := { s.cyc with snap := snap }
    lanes := holdFrames s snap.frame
    field := { s.field with levels := snap.di, pairVals := snap.pairs, means := snap.means } }
  let s2 := if snap.restrictive then noteRestrictive s1 else s1
  allLanes.foldl (judgeBarrier snap.frame) s2

/-! ### Commands taken at S (R135) -/

/-- The commands accepted before S, oldest first, at most 64. -/
def takeCommands (s : State) : State :=
  let due := s.cyc.cmdq.filter fun c => decide (c.stamp < s.now)
  let taken := due.take 64
  { s with cyc := { s.cyc with
      taken := taken, takenLast := taken.length
      cmdq := due.drop 64 ++ s.cyc.cmdq.filter fun c => decide (s.now ≤ c.stamp) } }

/-! ### The seal at S (R349, R350) -/

/-- Only S1 to S16 differ. -/
def onlyTagDiffers (x y : BitVec 24) : Bool := x.toNat / 65536 == y.toNat / 65536

/-- The lanes that hold a copy: in the vote, copying or shadowing. -/
def loadedLanes (s : State) : List Lane :=
  allLanes.filter fun ln => (s.lanes.get ln).state == 0 || (s.lanes.get ln).state == 5 || (s.lanes.get ln).state == 6

/-- R350: the new S1 to S16 join the start reading, and the station image is checked again. -/
def retakeTag (s : State) (switches : BitVec 24) : State :=
  let s1 := modModes s fun x => { x with sealStart := switches, sealNow := switches, sealAt := s.now }
  let s2 := startGroups (loadMajority s1 (loadedLanes s1) [])
  { s2 with twin := { s2.twin with wsnap := worstSnapshot s2 } }

/-- The lanes compare the seal with the start reading. -/
def checkSeal (switches : BitVec 24) (s : State) : State :=
  let start := s.modes.sealStart
  if switches = start then modModes s fun x => { x with sealNow := switches }
  else if s.loadCode = 4 ∧ onlyTagDiffers switches start then retakeTag s switches
  else
    let s1 := modModes s fun x => { x with sealNow := switches, broken := x.broken + 1 }
    raise s1 2 (u32 start.toNat) (u32 switches.toNat) s.cyc.number

/-! ### Modes at S -/

/-- The source by which the lane that is out of the vote was excluded. -/
def lostBy (s : State) : U32 :=
  match allLanes.find? fun ln => !inVote s ln with
  | some ln => u32 (s.lanes.get ln).lastSource.toNat
  | none => 0xFF

/-- R338: Run with two lanes is Degraded, and Degraded with three is Run. -/
def runByLanes (s : State) : State :=
  match s.modes.mode, (voters s).length with
  | .run, 2 => cancelIfLeft (setMode s .degraded (lostBy s))
  | .degraded, 3 => cancelIfLeft (setMode s .run 0xFF)
  | _, _ => s

/-- What applies at S, in turn, while the sequencer runs. -/
def whileRunning (f : State → State) (s : State) : State := if s.cyc.running then f s else s

/-- CYCLE_START (R109, R335). Force requests accepted before S apply first, so that a boundary that leaves Test Track removes the CLASS 2
ones with their records (R162). -/
def execCycleStart (t : Time) (x : CycleSample) (env : StartEnv) (s : State) : Host.Outcome State Fault Refusal :=
  at_ t s fun s =>
    if cycleDue s = false then s else
    let s0 := if s.cyc.voted then takeOver (s.cyc.number + 1) s else s
    let s1 := applyForceGroup (takeSessions x.dissent (takeCommands (takeField (joinDueLanes (openCycle (carryTaken s0))))))
    let s2 := whileRunning enterStandby (whileRunning (checkSeal x.switches) s1)
    whileRunning leaveWatch (whileRunning runByLanes (whileRunning (takeRestart env) (whileRunning (takeRequest env) s2)))

/-! ### The Vote phase -/

/-- A vote with the lanes that have delivered, or the overrun of R114. -/
def voteOrOverrun (s : State) : State :=
  let lanes := onTime s
  if lanes.length < 2 then overrun s lanes else voteLanes s lanes

/-- The vote of the mode: Watch cross-checks one lane (R340); a start that waits for its lanes votes on nothing. -/
def voteByMode (s : State) : State :=
  match s.modes.mode with
  | .watch => voteWatch s
  | .start => latchAll { s with cyc := { s.cyc with voted := true } }
  | _ => voteOrOverrun s

/-- The program variables as this vote leaves them (R295). -/
def noteShown (s : State) : State :=
  { s with program := { s.program with shown := (s.lanes.get (readableMill s)).vars } }

/-- VOTE (R49): once in a cycle, from its vote point on. -/
def execVote (t : Time) (s : State) : Host.Outcome State Fault Refusal :=
  at_ t s fun s =>
    if voteDue s = false then s else
    let s1 := voteByMode (agreeAbsent { s with cyc := { s.cyc with phase := 2 } })
    noteClaims s (if s1.cyc.running ∧ s1.cyc.voted then refreshCopies (noteShown (runDueRollback (twinVote s1))) else s1)

/-! ### The Issue phase: outputs (R180, R184, R212, Table 12-2) -/

/-- The outputs of the defined groups. -/
def groupOutputList (s : State) : List Nat := (groupsIn s).flatMap fun p => [2 * p.1, 2 * p.1 + 1, p.2.runn, p.2.runr]

/-- A group commands output `d` on: both contactors in Running and Stopping, the run output of its sense in Running. -/
def groupDrives (s : State) (d : Nat) (p : Nat × GroupRec) : Bool :=
  let y := groupSt s p.1
  let coil := d == 2 * p.1 || d == 2 * p.1 + 1
  (coil && (y.state == 2 || y.state == 4))
    || (y.state == 2 && ((y.sense == 1 && d == p.2.runn) || (y.sense == 2 && d == p.2.runr)))

/-- Outputs that no group uses are commanded in these modes only. -/
def generalOutputs (m : Mode) : Bool :=
  match m with
  | .run | .degraded | .testTrack => true
  | _ => false

/-- The voted command of one output before paralleling; what commands an output that no group uses, the manual does not say. -/
def outputBit (s : State) (other : BitVec 24) (d : Nat) : Bool :=
  if (groupOutputList s).contains d then (groupsIn s).any (groupDrives s d)
  else generalOutputs s.modes.mode && other.getLsbD d

/-- DOCMD of this cycle: every member of a paralleled group equals its lead. -/
def docmdOf (s : State) (other : BitVec 24) : BitVec 24 :=
  let lead := fun (d : Nat) => match laneConfig s with
    | some c => leadOf c d
    | none => d
  BitVec.ofNat 24 (bitmap ((List.range 24).map fun d => outputBit s other (lead d)))

/-- The times of a group's first energising frame and of its torque off (R185, R188). -/
def stampGroup (s : State) (p : Nat × GroupRec) : State :=
  modGroup s p.1 fun y =>
    if y.state = 2 ∧ y.onAt = none then { y with onAt := some s.now }
    else if (y.state = 3 ∨ y.state = 5) ∧ y.offAt = none then { y with offAt := some s.now }
    else y

/-- The voted outputs of this cycle, their operations (R441), and the groups' times. -/
def issueOutputs (s : State) : State :=
  let cmd := docmdOf s (BitVec.ofNat 24 (Config.free s.draws))
  let rising := (List.range 24).filter fun d => cmd.getLsbD d && !s.field.docmd.getLsbD d
  let s1 := rising.foldl countOperation
    { (draw s) with field := { s.field with docmd := cmd } }
  (groupsIn s1).foldl stampGroup s1

/-- The lanes that have written the outcome load their down frames with it (R108, R112). A standby's frames are not loaded. -/
def loadFrames (s : State) : State :=
  if s.modes.mode = .standby then s
  else (allLanes.filter fun ln => (s.lanes.get ln).wrote).foldl loadReg s

/-! ### The Issue phase: results (R136, R137) -/

/-- A command after the Issue phase of its cycle: what was decided is written. -/
def settleCommand (c : Command) : Command :=
  { c with reserved := c.reserved - c.given, answered := c.answered || decide (0 < c.given), given := 0 }

/-- The decided results are written; a command that has ended returns what it still reserves. -/
def issueResults (s : State) : State :=
  let s1 := s.cyc.decided.foldl writeResult s
  let all := (s.cyc.live ++ s.cyc.taken).map settleCommand
  let back := (all.filter Command.final).foldl (fun n c => n + c.reserved) 0
  { s1 with cyc := { s1.cyc with
      decided := [], taken := [], live := all.filter fun c => !c.final, reserved := s1.cyc.reserved - back } }

/-- The commanded detail of a signal whose session sends its telegram from this Issue phase (R175, R176), the newest last; as many as
the longest exchange period needs. -/
def noteSignal (sent : List Nat) (s : State) (e : Nat × Element) : State :=
  if e.2.kind = 3 ∧ (e.2.bind1.partner.bind (slotOfPartner s)).any sent.contains then
    modElem s e.1 fun y =>
      let l := y.history ++ [(s.cyc.number, commandedDetail s e.1 e.2)]
      { y with history := l.drop (l.length - 64) }
  else s

/-- ISSUE_PHASE (R108). The snapshot carries the TSEQ of the telegrams built in this cycle (R395). -/
def execIssuePhase (t : Time) (withheld : List (Nat × Nat)) (s : State) : Host.Outcome State Fault Refusal :=
  at_ t s fun s =>
    if s.cyc.running = false ∨ s.cyc.voted = false ∨ s.cyc.phase = 3 ∨ s.now < issueStart s then s else
    let s1 := sendTakenNow (sendCloses { s with cyc := { s.cyc with phase := 3 } })
    let s2 := loadFrames (issueOutputs (issueResults s1))
    sendSnapshot (buildTelegrams withheld ((elements s2).foldl (noteSignal (sentSlots withheld s2)) s2))

/-! ### The command queue (R132 to R134, R137, R337) -/

/-- PARAM lies in its column of Table 04-12. -/
def paramOk (opcode param : Nat) : Bool :=
  match opcode with
  | 1 | 2 | 0x12 | 0x13 => param == 0
  | 3 | 0x10 => param == 1 || param == 2
  | 0x11 | 0x20 => param == 0 || param == 1
  | _ => false

/-- No cycle takes commands in this mode (R337). -/
def takesNone (m : Mode) : Bool :=
  match m with
  | .off | .start | .split | .safeState | .shutdown => true
  | _ => false

/-- Fewer than two records of the ring are neither unread nor reserved, or 256 commands are pending. -/
def queueFull (s : State) : Bool :=
  256 ≤ s.cyc.cmdq.length || decide (4096 < s.cyc.ring.length + s.cyc.reserved + 2)

/-- An accepted command of `ch`, stamped and marked. -/
def commandOf (s : State) (ch opcode : Nat) (param : U32) (c : CmdArgs) : Command :=
  { opcode := u8 opcode, target := c.target.toNat, param := param, opid := c.opid, hseq := c.hseq, chan := ch
    auth := authorised s ch, stamp := s.now, reserved := 2, answered := false }

/-- A write of A800:01 (R134, R337). -/
def writeCommand (s : State) (ch opcode : Nat) (param : U32) (c : CmdArgs) : Attempt :=
  if c.flags ≠ 0 ∨ paramOk opcode param.toNat = false then (s, some 0x0241)
  else if queueFull s then ({ s with cyc := { s.cyc with refusedFull := s.cyc.refusedFull + 1 } }, some 0x0616)
  else
    let x := commandOf s ch opcode param c
    if takesNone s.modes.mode then
      let s1 := noteResult { s with cyc := { s.cyc with reserved := s.cyc.reserved + 1 } } x 0x15 none32
      (writeResult s1 (resultOf s1 x 0x15 none32), none)
    else ({ s with cyc := { s.cyc with cmdq := s.cyc.cmdq ++ [x], reserved := s.cyc.reserved + 2 } }, none)

/-- A command of a channel at `t`. -/
def hostCommand (t : Time) (ch opcode : Nat) (param : U32) (c : CmdArgs) (s : State) : Host.Outcome State Fault Refusal :=
  attemptAt t s ch fun s => writeCommand s ch opcode param c

/-- SET_ROUTE: 01h. -/
def execSetRoute (t : Time) (ch : Fin 8) (param : U32) (c : CmdArgs) (s : State) : Host.Outcome State Fault Refusal :=
  hostCommand t ch.val 1 param c s
/-- CANCEL_ROUTE: 02h. -/
def execCancelRoute (t : Time) (ch : Fin 8) (param : U32) (c : CmdArgs) (s : State) : Host.Outcome State Fault Refusal :=
  hostCommand t ch.val 2 param c s
/-- EMERGENCY_RELEASE_ARM: 03h with PARAM 1. -/
def execEmergencyReleaseArm (t : Time) (ch : Fin 8) (c : CmdArgs) (s : State) : Host.Outcome State Fault Refusal :=
  hostCommand t ch.val 3 1 c s
/-- EMERGENCY_RELEASE_CONFIRM: 03h with PARAM 2. -/
def execEmergencyReleaseConfirm (t : Time) (ch : Fin 8) (c : CmdArgs) (s : State) : Host.Outcome State Fault Refusal :=
  hostCommand t ch.val 3 2 c s
/-- POINT_MOVE: 10h. -/
def execPointMove (t : Time) (ch : Fin 8) (param : U32) (c : CmdArgs) (s : State) : Host.Outcome State Fault Refusal :=
  hostCommand t ch.val 0x10 param c s
/-- POINT_BLOCK: 11h with PARAM 1. -/
def execPointBlock (t : Time) (ch : Fin 8) (c : CmdArgs) (s : State) : Host.Outcome State Fault Refusal :=
  hostCommand t ch.val 0x11 1 c s
/-- POINT_UNBLOCK: 11h with PARAM 0. -/
def execPointUnblock (t : Time) (ch : Fin 8) (c : CmdArgs) (s : State) : Host.Outcome State Fault Refusal :=
  hostCommand t ch.val 0x11 0 c s
/-- SECTION_RESET: 12h. -/
def execSectionReset (t : Time) (ch : Fin 8) (param : U32) (c : CmdArgs) (s : State) : Host.Outcome State Fault Refusal :=
  hostCommand t ch.val 0x12 param c s
/-- POINT_STOP: 13h. -/
def execPointStop (t : Time) (ch : Fin 8) (param : U32) (c : CmdArgs) (s : State) : Host.Outcome State Fault Refusal :=
  hostCommand t ch.val 0x13 param c s
/-- SIGNAL_BLOCK: 20h with PARAM 1. -/
def execSignalBlock (t : Time) (ch : Fin 8) (c : CmdArgs) (s : State) : Host.Outcome State Fault Refusal :=
  hostCommand t ch.val 0x20 1 c s
/-- SIGNAL_UNBLOCK: 20h with PARAM 0. -/
def execSignalUnblock (t : Time) (ch : Fin 8) (c : CmdArgs) (s : State) : Host.Outcome State Fault Refusal :=
  hostCommand t ch.val 0x20 0 c s

/-- A write of A800:03 (R142). -/
def writeReadSeq (s : State) (value : U32) : Write :=
  let n := (value - s.cyc.readSeq).toNat
  refuseUnless (decide (n ≤ (s.cyc.writeSeq - s.cyc.readSeq).toNat)) 0x0230 <|
  .ok { s with cyc := { s.cyc with readSeq := value, ring := s.cyc.ring.drop n } }

/-- READ_SEQUENCE_ADVANCE (R142). -/
def execReadSequenceAdvance (t : Time) (ch : Fin 8) (value : U32) (s : State) : Host.Outcome State Fault Refusal :=
  writeAt t s ch.val fun s => writeReadSeq s value

/-! ### Boundary records of neighbours (R96, R109) -/

/-- A boundary record arrives in an open session: it waits for the snapshot with its stamp. MSG is as Table 03-5 codes it. -/
def receiveRecord (t : Time) (slot msg : Nat) (b : BoundaryRec) (s : State) : Host.Outcome State Fault Refusal :=
  at_ t s fun s =>
    if (sess s slot).state = 2 then
      { s with sessions := { s.sessions with records := s.sessions.records ++ [⟨slot, msg, b, s.now⟩] } }
    else s

/-- BOUNDARY_REQ (R97, R98). -/
def execBoundaryReq (t : Time) (slot : Fin 512) (b : BoundaryRec) (s : State) : Host.Outcome State Fault Refusal :=
  receiveRecord t slot.val 1 b s
/-- BOUNDARY_GRANT (R97). -/
def execBoundaryGrant (t : Time) (slot : Fin 512) (b : BoundaryRec) (s : State) : Host.Outcome State Fault Refusal :=
  receiveRecord t slot.val 2 b s
/-- BOUNDARY_REFUSE (R97). -/
def execBoundaryRefuse (t : Time) (slot : Fin 512) (b : BoundaryRec) (s : State) : Host.Outcome State Fault Refusal :=
  receiveRecord t slot.val 3 b s
/-- BOUNDARY_STATE (R99, R100). -/
def execBoundaryState (t : Time) (slot : Fin 512) (b : BoundaryRec) (s : State) : Host.Outcome State Fault Refusal :=
  receiveRecord t slot.val 4 b s
/-- BOUNDARY_CANCEL (R97). -/
def execBoundaryCancel (t : Time) (slot : Fin 512) (b : BoundaryRec) (s : State) : Host.Outcome State Fault Refusal :=
  receiveRecord t slot.val 5 b s
/-- BOUNDARY_RELEASE (R101). -/
def execBoundaryRelease (t : Time) (slot : Fin 512) (b : BoundaryRec) (s : State) : Host.Outcome State Fault Refusal :=
  receiveRecord t slot.val 6 b s

end Sys2Proof.Machine
end

