-- ==== Sys2Proof/Machine/Entries.lean ====
section
/-!
DEFINITION. Machine/Entries.lean: what every entry of the object dictionary reads (R298, R309, R310): the tables of all chapters, index
by index, each entry with its access right and the bytes of its value.
-/

namespace Sys2Proof.Machine

/-- Access rights (Table 10-4). -/
inductive Right where
  | ro | wo | rw | rws | rwa
  deriving DecidableEq, Repr

/-- An entry: its right and the bytes that a read gives. -/
structure Entry where
  right : Right
  value : List Byte
  deriving DecidableEq, Repr

/-- An RO number of `n` bytes. -/
def num (n v : Nat) : Entry := ⟨.ro, leBytes n v⟩
/-- An RO U8. -/
def b8 (v : Nat) : Entry := num 1 v
/-- An RO U16. -/
def b16 (v : Nat) : Entry := num 2 v
/-- An RO U32. -/
def b32 (v : Nat) : Entry := num 4 v
/-- An RO U64 or TIME64. -/
def b64 (v : Nat) : Entry := num 8 v
/-- An RO BOOL. -/
def flag (v : Bool) : Entry := b8 v.toNat
/-- An RO I16. -/
def s16 (v : Int) : Entry := b16 (BitVec.ofInt 16 v).toNat
/-- An RO I32. -/
def s32 (v : Int) : Entry := b32 (i32 v).toNat
/-- An RO DOMAIN or STR. -/
def dom (l : List Byte) : Entry := ⟨.ro, l⟩
/-- The same entry with another right. -/
def Entry.as (e : Entry) (r : Right) : Entry := { e with right := r }
/-- A WO entry. -/
def writeOnly : Entry := ⟨.wo, []⟩

/-- Consecutive indexes with one layout: the first, how many, and the entries 1, 2, ... of each. -/
structure Area where
  base    : Nat
  count   : Nat
  entries : Nat → List Entry

/-- One index. -/
def one (index : Nat) (l : List Entry) : Area := ⟨index, 1, fun _ => l⟩

/-! ### 1000 to 1120, 2000 to 20F1, 2D00: identity, host link, device state, groups, authorisation -/

/-- An installed image. -/
def image (s : State) (kind : Nat) : List Byte := tget [] s.update.images kind

/-- "KT3-16K". -/
def orderCode : List Byte := [0x4B, 0x54, 0x33, 0x2D, 0x31, 0x36, 0x4B]

/-- 1010 (R36): the header of the station image; 0 when there is none. -/
def headerEntries (s : State) : List Entry :=
  let img := image s 1
  let h := parseHeader img
  let v := fun (n : Nat) => if img = [] then 0 else n
  [b16 (v h.format), b16 (v h.tag.toNat), b64 (v h.commit.toNat), b8 (v h.segment), b8 (v h.zone), b16 (v h.nelem),
   b16 (v h.nroute), b32 (v h.npool), b16 (v h.npart), b8 s.loadCode.toNat, b32 s.loadRef.toNat, b32 (v h.salt.toNat),
   b32 (v h.build.toNat)]

/-- 1101 and 1102 (R314). -/
def busEntries (x : HostBusSt) : List Entry :=
  [b8 x.state, b64 x.received.toNat, b64 x.sent.toNat, b32 x.errors.toNat, b32 x.busOff.toNat, b8 x.txErr.toNat,
   b8 x.rxErr.toNat]

/-- 1110 + c (R314). -/
def channelEntries (x : ChannelSt) : List Entry :=
  [flag x.transfer.isSome, b8 x.bus, b8 (x.keySlot.getD 0xFF), b64 x.activity, b32 x.transfers.toNat, b32 x.aborts.toNat,
   b16 x.lastAbort.toNat]

/-- 1000 to 1120. The dictionary load and the mean response time are measurements of the Steward: free values. -/
def linkAreas (s : State) : List Area :=
  [one 0x1000 [dom orderCode, b32 Config.serial.toNat, b16 Config.hardware.toNat, b32 (Config.stewardVersion (image s 5)).toNat],
   one 0x1010 (headerEntries s),
   one 0x1011 ((List.range 5).map fun k => dom (if image s 1 = [] then [] else sectionAt (image s 1) k)),
   one 0x1020 [b32 s.modes.sealStart.toNat, b32 s.modes.sealNow.toNat, b32 s.modes.broken.toNat, b64 s.modes.sealAt],
   one 0x1100 [(b16 (setting s 0x1100 1 500)).as .rws, (b8 (setting s 0x1100 2 2)).as .rws, b16 s.host.arbOp, b8 s.host.dataOp,
     (b8 (setting s 0x1100 5 3)).as .rws, b8 s.host.position, b16 (systemAddress s), b8 (Config.free s.draws % 101),
     b32 (Config.free (s.draws + 1))],
   one 0x1101 (busEntries s.host.hl1),
   one 0x1102 (busEntries s.host.hl2),
   ⟨0x1110, 8, fun c => channelEntries (chanSt s c)⟩,
   one 0x1120 [(b8 (setting s 0x1120 1 3)).as .rw, (b8 (setting s 0x1120 2 0x3F)).as .rw, (b8 (setting s 0x1120 3 0)).as .rw,
     b16 s.host.eseq.toNat, b32 s.host.dropped.toNat, b16 s.host.events.length]]

/-- A record of a staged shadow (Table 10-10): the value padded to a multiple of 8. -/
def shadowRecord (x : Nat × Nat × List Byte) : List Byte :=
  leBytes 2 x.1 ++ [u8 x.2.1, 0] ++ leBytes 4 x.2.2.length ++ x.2.2 ++ List.replicate ((8 - x.2.2.length % 8) % 8) 0

/-- Seconds left of the lockout (R305). -/
def lockoutLeft (s : State) : Nat := match s.host.lockout with
  | some t => ceilDiv (t + sec 60 - s.now) (sec 1)
  | none => 0

/-- 2D10 + s:02 (R306). -/
def fingerprint (k : Option (List Byte)) : Nat := (k.map digest8).getD 0

/-- 2000 to 20F1 (R311 to R313) and 2D00 to 2D13 (R315). A read of 2D00:01 makes a new challenge (`readEntry`). -/
def deviceAreas (s : State) : List Area :=
  [one 0x2000 ((attributes s).map (fun b => b8 b.toNat) ++ [b8 (modeCode s.modes.previous), b64 s.modes.since, flag (s.loadCode == 0),
     flag (s.program.loadResult == 0), flag s.modes.defaulted, b32 s.vote.lastCycle.toNat]),
   one 0x2001 [(b8 s.host.request.toNat).as .rwa, b16 s.host.outcome.toNat],
   one 0x20F0 ([writeOnly, writeOnly] ++ (List.range 63).map fun g => b32 (groupWord (groupShadow s (g + 1)))),
   one 0x20F1 ((List.range 63).map fun g => dom ((groupShadow s (g + 1)).shadow.flatMap shadowRecord)),
   one 0x2D00 [dom [], writeOnly, b8 (bitmap ((List.range 8).map (authorised s))), writeOnly, b8 (min 255 (recentRefusals s).length),
     b8 (lockoutLeft s)],
   ⟨0x2D10, 4, fun k => [writeOnly, b64 (fingerprint (keyOf s k)), b64 (tget {} s.host.keys k).at_]⟩]

/-! ### 1200 to 1310: the field bus -/

/-- 1300 and 1301 (R253). -/
def busChanEntries (x : ChanSt) : List Entry :=
  [flag x.link, b64 x.sent.toNat, b64 x.valid.toNat, b32 x.crcErrors.toNat, b32 x.window.toNat, b32 x.cuts.toNat,
   b32 x.collisions.toNat, b32 x.drops.toNat, b8 x.load.toNat, b32 x.wait.toNat, b32 x.foreign.toNat]

/-- 1200 to 1310. The tables are those of section 06h of the station data in service. -/
def fieldBusAreas (s : State) : List Area :=
  let x := s.bus
  let sec := if s.station.isSome then sectionAt (image s 1) 5 else []
  let c := cluster? s
  let num? := fun (f : Cluster → Nat) (d : Nat) => (c.map f).getD d
  [one 0x1200 [b8 x.engine, b8 (num? (fun y => rateMbit y.rate) 200), b16 x.node, b8 (x.rank.getD 0xFF), b16 (x.master.getD 0x3FF),
     b16 x.matrix.toNat, b8 (currentBcyc s), b8 (num? (fun y => y.offs) 0), b8 x.collided, b32 x.takeovers.toNat, b32 x.steps.toNat,
     s32 (max (-2147483648) (min 2147483647 x.lastStep)), b64 (if x.engine = 5 then 0 else x.unsyncFrom)],
   one 0x1201 [dom ((sec.drop 64).take 40960), dom ((sec.drop 41024).take 40960), b32 (num? (fun y => y.sched.toNat) 0),
     dom (sec.drop 81984)],
   one 0x1202 [b32 (x.ch.a.delay.getD 0), b32 (x.ch.b.delay.getD 0), s32 x.deviation, s16 x.correction, s32 x.worst,
     b32 x.limitHits.toNat, b32 x.missed.toNat, b32 x.pulses.toNat],
   one 0x1300 (busChanEntries x.ch.a),
   one 0x1301 (busChanEntries x.ch.b),
   one 0x1302 [b64 x.both.toNat, b64 x.one.toNat, b32 x.mismatched.toNat, b32 x.noCopy.toNat],
   one 0x1310 [b8 x.portB.engine, b16 (x.portB.master.getD 0x3FF), b64 x.forwarded.toNat, b32 x.replaced.toNat]]

/-! ### 1400 to 16E1: sessions and safety codes -/

/-- 1400 + k (R282); a free slot keeps only its last reason. -/
def sessEntries (y : Sess) : List Entry :=
  let free := y.state == 0
  let v := fun (d n : Nat) => if free then d else n
  [b8 y.state, b16 (v 0xFFFF (y.partner.getD 0xFFFF)), b16 (v 0x3FF y.node), b8 (v 0 y.gen), b8 (v 0 y.payload), b8 (v 0 y.option),
   b8 (v 0 y.period), b8 (v 0xFF (y.profile.getD 0xFF)), b8 (v 0 (16 * y.pa + y.pb)),
   dom ((List.range 4).flatMap fun i => leBytes 2 (v 0xFFFF (y.slices.getD i 0xFFFF))), b32 (v 0 y.tseq.toNat),
   b32 (v 0xFFFFFFFF y.rseq.toNat), b8 (v 0 y.missed), b32 (v 0 y.accepted.toNat), b32 (v 0 y.rejected.toNat), b64 (v 0 y.opened),
   b8 y.reason.toNat, (flag y.closeReq.isSome).as .rwa]

/-- 1600 + n (R283). -/
def scEntries (x : Option ScProfile) : List Entry :=
  match x with
  | none => [b8 0, b8 0, b64 0, b64 0, b64 0, b8 0, b32 0]
  | some p => [b8 p.source, b8 p.width, b64 p.poly.toNat, b64 p.init.toNat, b64 p.xorout.toNat, b8 (bitmap [p.refin, p.refout]),
      b32 p.schk.toNat]

/-- 1610 + u:04 (R279): the Mill whose codes the unit computes. -/
def replacing (s : State) (u : Nat) : Nat :=
  if u = 0 ∧ degradedKind s = 1 then 1
  else if u = 1 ∧ (degradedKind s = 2 ∨ s.modes.mode = .watch) then 2 else 0

/-- A stranger record of 16E1:01. -/
def strangerBytes (x : Stranger) : List Byte :=
  leBytes 2 x.node ++ [x.reason, 0] ++ leBytes 4 x.ident.toNat ++ leBytes 8 x.last

/-- 1400 to 16E1. -/
def sessionAreas (s : State) : List Area :=
  let x := s.sessions
  let opened := ((List.range 512).filter fun k => (sess s k).state == 2).length
  [⟨0x1400, 512, fun k => sessEntries (sess s k)⟩,
   ⟨0x1600, 16, fun n => scEntries (sc? s n)⟩,
   ⟨0x1610, 4, fun u =>
     let y := tget {} x.units u
     [b64 y.computed.toNat, b32 y.wrong.toNat, b16 (y.last.getD 0xFFFF), b8 (replacing s u)]⟩,
   one 0x1620 [dom (if s.station.isSome then sectionAt (image s 1) 6 else [])],
   one 0x16E0 [b16 opened, b16 (slotsInUse s).length, b16 x.peak, b32 x.full.toNat, b32 x.refused.toNat, b32 x.timeouts.toNat,
     b8 x.strangers.length, b32 x.ignored.toNat],
   one 0x16E1 [dom (x.strangers.flatMap strangerBytes)]]

/-! ### 1700 to 1703: the Twin -/

/-- A health report (Table 14-7). -/
def healthBytes (h : HealthReport) : List Byte :=
  leBytes 4 h.cycle.toNat ++ [h.mode, u8 h.lanes.toNat, h.highest, u8 (bitmap [h.synced, h.return_, h.config])]
    ++ leBytes 4 h.count.toNat ++ leBytes 4 h.applied.toNat

/-- 1700 to 1703 (R411). -/
def twinAreas (s : State) : List Area :=
  let x := s.twin
  [one 0x1700 [b8 (roleCode x.role), b8 x.preference.toNat, b8 x.peerPos.toNat, flag x.link, flag x.paired, b8 x.reason.toNat,
     flag x.synced, b32 x.syncCount, b32 x.snapSeq.toNat, b32 x.snapLen, b32 x.wsnap, b32 x.incomplete.toNat, b32 x.takeovers.toNat,
     b8 x.lastKind.toNat, b64 x.lastAt, b8 x.giveCause.toNat],
   one 0x1701 [(flag x.returnOn).as .rwa, (flag x.handover.isSome).as .rwa, b16 x.handOut.toNat],
   one 0x1702 [dom ((x.peerHealth.map healthBytes).getD []), b64 x.healthAt],
   one 0x1703 [b64 x.sent.toNat, b64 x.valid.toNat, b32 x.discarded.toNat, b32 x.losses.toNat]]

/-! ### 2100 to 2120: lanes and the vote -/

/-- Time left on the Degraded-L limit timer (R64), in ns. -/
def limitRemaining (s : State) : Nat :=
  if s.vote.limitRuns then s.vote.limitLeft - (s.now - s.vote.limitAt) else s.vote.limitLeft

/-- When the 24-hour limit next permits an attempt (R67), in s from now. -/
def nextAttemptIn (s : State) : Nat :=
  let l := recentAttempts s
  match l[l.length - 3]? with
  | some t => if l.length < 3 then 0 else ceilDiv (t + sec 86400 - s.now) (sec 1)
  | none => 0

/-- 2101 to 2103 (R71). -/
def laneEntries (x : LaneSt) : List Entry :=
  [b8 x.state, b8 x.streak, b8 (missCount x), b64 x.gdigest.toNat, b64 x.pdigest.toNat, b8 x.lastSource.toNat, b64 x.lastTime,
   b32 x.exclusions.toNat, b32 x.illegal.toNat, b32 x.stalls.toNat, b8 x.lastResult.toNat]

/-- 2100 to 2120. -/
def laneAreas (s : State) : List Area :=
  [one 0x2100 [b8 (voteMap s), b8 (degradedKind s), b16 s.vote.deglh, b32 (limitRemaining s / sec 1),
     b8 (min 3 (recentAttempts s).length), b32 (nextAttemptIn s), b8 (streakWord s)],
   one 0x2101 (laneEntries s.lanes.a),
   one 0x2102 (laneEntries s.lanes.b),
   one 0x2103 (laneEntries s.lanes.l),
   one 0x2110 [b64 s.vote.generic.toNat, b32 s.vote.splits.toNat, b32 s.vote.details.toNat, b32 s.vote.directions.toNat,
     b32 s.vote.lastCycle.toNat, b32 s.vote.disagreed.toNat],
   one 0x2120 [writeOnly]]

/-! ### 2200 to 2320: field I/O and drive groups -/

/-- 2201 to 2203 (R221). -/
def barrierEntries (b : BarrierSt) : List Entry :=
  [flag b.stale, b64 b.sent.toNat, b64 b.upValid.toNat, b32 b.crcErrors.toNat, b32 b.seqErrors.toNat, b32 b.staleCount.toNat]

/-- 2301 to 2304 (R192). The rates f and f₀ are held exactly, in thousandths; the entries show whole pulses a second (log entry 119,
DESIGN CHOICE). -/
def groupEntries (s : State) (g : Nat) : List Entry :=
  let y := groupSt s g
  let e := (group? s g).map fun r => r.elem
  [b8 y.state, b16 (e.getD 0xFFFF), b8 y.sense, b8 y.reason.toNat, b32 (if y.state = 0 then 0 else ((e.map fun n =>
     (elemSt s n).throwTimer)).getD 0), b32 (y.rate / 1000), b32 (if y.state = 4 then y.envelope.getD 0xFFFFFFFF else 0xFFFFFFFF),
   b16 y.current, b8 y.feedback.toNat, b32 y.throws.toNat, b32 y.lastThrow, b64 y.lockTime, b32 (y.f0 / 1000), b8 y.refusal.toNat]

/-- 2320:01 (R192): the four records of Table 06-4, bytes 128 to 255 of section 08h (R202); a record that is unused, or whose section
is absent, is all zero. -/
def driveRecords (s : State) : List Byte :=
  let part := if s.station.isSome then ((sectionAt (image s 1) 7).drop 128).take 128 else []
  part ++ List.replicate (128 - part.length) 0

/-- 2200 to 2320. -/
def fieldAreas (s : State) : List Area :=
  let x := s.field
  let p := s.points
  [one 0x2200 [b16 x.vf, b8 (fieldStatus s), b8 x.epoch.toNat, b16 x.iout, b32 ((x.config.map fun c => c.fchk.toNat).getD 0),
     b32 x.lostEvents.toNat, b8 x.lantCause.toNat, b64 x.lantTime],
   one 0x2201 (barrierEntries x.bar.a),
   one 0x2202 (barrierEntries x.bar.b),
   one 0x2203 (barrierEntries x.bar.l),
   one 0x2210 [b64 x.levels.toNat, b32 x.pairVals.toNat, b32 x.pairf.toNat, b32 x.pairIgn.toNat, b32 x.keyOps.toNat, b32 x.keyIgn.toNat],
   one 0x2211 ((List.range 8).map fun k => b16 (x.cnt.getD k 0).toNat),
   one 0x2212 [(b32 (askedBits x.pairReq).toNat).as .rwa],
   one 0x2220 [b32 x.docmd.toNat, b32 x.dorb.toNat, b32 x.doflt.toNat, b32 x.outIgn.toNat, b32 x.pulseFail.toNat],
   one 0x2221 [(b32 (askedBits x.outReq).toNat).as .rwa],
   one 0x2230 ((List.range 4).map (fun k => b16 (x.means.getD k 4095)) ++ [b8 x.aiflt.toNat]),
   one 0x2260 [dom ((x.config.map fun c => c.bytes).getD [])],
   one 0x2300 [b8 (groupsDefined s), b8 (groupsLocked s), b32 p.throws.toNat, b32 p.failed.toNat, b32 p.stops.toNat,
     b32 p.fallbacks.toNat],
   ⟨0x2301, 4, groupEntries s⟩,
   one 0x2320 [dom (driveRecords s)],
   ⟨0x2311, 4, fun g => [(flag (groupSt s g).resetAt.isSome).as .rwa]⟩]

/-! ### 2400 to 2510: the Constable and the Book -/

/-- 2400 + n (R384). -/
def sourceEntries (s : State) (n : Nat) : List Entry :=
  let x := source s n
  let cls := if srcReserved n then 0 else srcClass n
  let lane := (srcLaneFixed n).map laneNo
  [b8 cls, b8 (max cls x.effective), b8 (srcStateWord x), b8 (if srcReserved n then 0 else srcHandler n),
   b8 (if srcReserved n then 0xFF else lane.getD 0xFF), (b16 (x.window.getD (classWindow cls))).as .rws, b32 x.raises.toNat,
   b32 x.escalations.toNat, b64 x.lastRaise, dom (x.params.flatMap fun p => leBytes 4 p.toNat), (b8 x.setting.toNat).as .rwa]

/-- All records held, in SEQ order: the founding ones that the circulating area no longer has, then the circulating ones. -/
def bookHeld (s : State) : List BookRec :=
  let c := s.constable
  (c.founding.filter fun x => c.circ.all fun y => y.seq != x.seq) ++ c.circ

/-- 2510:03 (R386). -/
def bookSelected (s : State) : List BookRec :=
  let l := bookHeld s
  let n := if s.constable.count = 0 then 64 else s.constable.count
  let from' := if l.any (fun x => x.seq == s.constable.fromSeq) then l.dropWhile fun x => x.seq != s.constable.fromSeq else l
  from'.take n

/-- 2400 to 2510. -/
def constableAreas (s : State) : List Area :=
  let c := s.constable
  let kind := sweepKind s
  [⟨0x2400, 128, sourceEntries s⟩,
   one 0x2480 [b64 (srcBits s SourceSt.asserted 0), b64 (srcBits s SourceSt.asserted 64), b64 (srcBits s SourceSt.pending 0),
     b64 (srcBits s SourceSt.pending 64), b8 (highestAsserted s), flag c.grave, b8 (killWord s), b8 c.stopSrc.toNat, b64 c.stopAt,
     b8 (c.sources.filter fun e => isForced e.2).length],
   one 0x2490 [(flag c.onDemand).as .rwa, b8 kind, b16 checkerCount, b16 (if kind = 2 then c.provedReq else c.proved), b64 c.sweepEnd,
     b32 ((s.now - c.sweepEnd) / sec 1), b32 c.sweeps.toNat, b32 c.silent.toNat, b16 (c.lastSilent.getD 0xFFFF)],
   one 0x2500 [b32 c.nextSeq.toNat, b16 c.founding.length, b32 c.circ.length, b32 ((c.circ.head?.map fun x => x.seq.toNat).getD 0),
     b64 c.latest, b32 c.lost.toNat, (b32 0).as .rwa, b64 c.lastClear, b32 c.scanErrs.toNat],
   one 0x2501 [dom (c.founding.flatMap bookBytes)],
   one 0x2502 [dom (c.circ.flatMap bookBytes)],
   one 0x2510 [(b32 c.fromSeq.toNat).as .rw, (b16 (if c.count = 0 then 64 else c.count)).as .rw, dom ((bookSelected s).flatMap bookBytes)]]

/-! ### 2600 to 2606: field update -/

/-- 2600:0B: what is left of the confirmation limit in Probation (R428). -/
def confirmationLeft (s : State) : Nat := if s.update.state = 7 then s.update.limit * 3600 - probationSeconds s else 0

/-- 2603:01: bit p, piece p held. -/
def pieceBitmap (s : State) : List Byte :=
  (List.range (ceilDiv (piecesTotal s) 8)).map fun k =>
    u8 (bitmap ((List.range 8).map fun j => tget [] s.update.pieces (8 * k + j) != []))

/-- 2600 to 2606 (R432). -/
def updateAreas (s : State) : List Area :=
  let u := s.update
  [one 0x2600 [b8 u.state, flag u.reverse, b8 u.result.toNat, b64 u.pkgid.toNat, b32 u.pkglen, b32 u.pieces.length, b32 (piecesTotal s),
     b32 u.pointer, b32 u.plan.length, b8 u.failed, b32 (confirmationLeft s), (b8 (setting s 0x2600 0x0C 24)).as .rwa, b64 u.changedAt,
     b32 u.rollbacks.toNat],
   one 0x2601 [(dom []).as .rwa, (dom []).as .rwa],
   one 0x2602 [(dom []).as .rwa],
   one 0x2603 [dom (pieceBitmap s)],
   one 0x2604 ((List.range 6).map (fun k => b64 (imageIdentity (k + 1) (image s (k + 1)))) ++ [b8 u.bank]),
   one 0x2605 [b64 (digest8 (leBytes 32 Config.factoryKey)), writeOnly, b64 (fingerprint u.ownerKey)],
   one 0x2606 [b16 (u.formatHeld.getD (Config.settingsFormat (image s 5))).toNat, b16 (Config.settingsFormat (image s 5)).toNat]]

/-! ### 2700 to 2910: health, BIST, counters, trace -/

/-- 2701 + l (R448). -/
def healthEntries (ln : Nat) (h : HealthSt) (margin : Nat) : List Entry :=
  [b16 (min 65535 h.delta.toNat), b16 h.exponent, b16 h.months, b16 h.bound, b16 margin, b8 h.valid.toNat, s16 h.temp, b16 h.mv,
   b32 h.discarded.toNat, dom (h.periods.flatMap (leBytes 4)),
   dom ((List.range 8).flatMap fun r => leBytes 4 (Config.ringP0 ln r) ++ leBytes 4 (i32 (Config.ringKt ln r)).toNat
     ++ leBytes 4 (i32 (Config.ringKv ln r)).toNat)]

/-- The coverages of a BIST block (Table 12-7), in 0.1%. -/
def coverages (b : Nat) : List Nat :=
  ([[985, 970, 1000], [985, 970, 1000], [991], [1000], [1000], [960], [950], [990]] : List (List Nat)).getD b []

/-- 2801 + b (R362): coverage and duration of a block that has run. -/
def bistEntries (b : Nat) (x : BistSt) : List Entry :=
  let v := fun (n : Nat) => if x.result = 0 then 0 else n
  [b8 x.result] ++ (List.range 3).map (fun k => b16 (v ((coverages b).getD k 0)))
    ++ [b32 (v (bistMsOf b)), b64 x.time, b32 x.item.toNat]

/-- 2700 to 2910. The counters and the trace port are read as of now. -/
def ageAreas (s0 : State) : List Area :=
  let s := traceDrain (if s0.modes.mode = .off then s0 else tickPowered s0)
  let a := s.age
  let m := s.modes
  let worst := minOr 0xFFFF (allLanes.map fun ln => (a.lanes.get ln).bound)
  let lane := (allLanes.find? fun ln => (a.lanes.get ln).bound == worst).map laneNo
  let most := (a.wear.map fun e => e.2).foldl max 0
  let slot := ((a.wear.find? fun e => e.2 == most).map fun e => e.1).getD 0
  [one 0x2700 [b8 (if worst = 0xFFFF then 0xFF else lane.getD 0xFF), b16 worst,
     b16 ((allLanes.map fun ln => (a.lanes.get ln).history.length).foldl max 0)],
   ⟨0x2701, 3, fun k => let ln := (laneOf k).getD .a; healthEntries k (a.lanes.get ln) (laneMargin s ln)⟩,
   one 0x2710 [b16 a.capacitance, b16 a.holdup, b16 Config.capacitanceNew],
   one 0x2711 [b64 ((a.wear.map fun e => e.2).foldl (· + ·) 0), b32 most, b32 slot],
   one 0x2720 ((List.range 24).map fun d => b64 (a.ops.getD d 0)),
   one 0x2721 ((List.range 24).map fun d => (b32 (a.ratings.getD d 0)).as .rwa),
   one 0x2722 [(b8 a.lastReset.toNat).as .rwa],
   one 0x2800 [b8 m.startKind, b8 m.startWhy, b8 m.bistKind, b64 m.bistAt, b8 m.bistFailed.toNat, b32 m.bistMs, flag m.record.isSome,
     b32 (if m.record.isSome then retentionNow s else 0xFFFFFFFF), b32 m.startMs],
   ⟨0x2801, 8, fun b => bistEntries b (tget {} m.bist b)⟩,
   one 0x2900 ((List.range 14).map fun k => b64 (a.counters.getD k 0)),
   one 0x2901 [writeOnly, dom a.captured],
   one 0x2910 [(flag a.traceOn).as .rw, (b8 a.kinds.toNat).as .rw, (b8 a.laneMask.toNat).as .rw, b64 a.sentRecs.toNat,
     b64 a.dropped.toNat, b16 a.peak, b64 a.syncs.toNat]]

/-! ### 2A00 to 2C00: power, Stiles, crossings, Belfry -/

/-- A posted-write history record (R324). -/
def postedBytes (p : Posted) : List Byte :=
  leBytes 2 p.tag.toNat ++ [u8 (dirBit p.dir), u8 p.len] ++ leBytes 4 p.addr.toNat ++ leBytes 4 p.cycle.toNat ++ leBytes 4 p.time.toNat

/-- 2B01 to 2B03 (R334). -/
def stileEntries (x : StileSt) : List Entry :=
  [b8 x.state, b16 x.out.tag.toNat, b16 x.inw.tag.toNat, b64 x.out.posted.toNat, b64 x.inw.posted.toNat, b64 x.reads.toNat,
    b32 x.timeouts.toNat,
    b32 x.longest, b32 x.failures.toNat, b32 x.lastTag.toNat, b8 x.lastReason.toNat, b32 x.lateCount.toNat]

/-- 2B20 + c (R334). -/
def crossEntries (c : Nat) (x : CrossSt) : List Entry :=
  [b8 (crossKind c), b8 x.state, b64 x.transfers.toNat, b32 x.timeouts.toNat, b32 x.resets.toNat, b32 x.protocol.toNat, b64 x.lastFault]

/-- 2A00 to 2C00. -/
def powerAreas (s : State) : List Area :=
  let m := s.modes
  let x := s.stiles
  [one 0x2A00 [b16 m.vin, b8 (domainsOn s), b32 m.fails.toNat, b64 m.lastFail, b16 m.vinLowest],
   ⟨0x2A01, 8, fun d =>
     let y := domain s d
     [b8 y.state, b16 y.mv, b32 y.faults.toNat]⟩,
   one 0x2B00 [b16 (bitmap ((List.range 16).map fun c => (crossing s c).state == 1)), b32 x.timeouts.toNat, b32 x.protocol.toNat,
     b32 x.markers.toNat, b8 x.lastFault.toNat],
   ⟨0x2B01, 3, fun k => stileEntries (stile s ((laneOf k).getD .a))⟩,
   ⟨0x2B11, 3, fun k =>
     let y := stile s ((laneOf k).getD .a)
     [dom ((y.out.hist ++ y.inw.hist).flatMap postedBytes)]⟩,
   ⟨0x2B20, 16, fun c => crossEntries c (crossing s c)⟩,
   one 0x2C00 [b64 s.now, flag (synchronised s), b32 (retentionNow s), s32 m.rateCorr]]

/-! ### 3000 to 39FF: the rule program, on-line change, forces -/

/-- The image that the running variant was loaded from: of the installed bank or of the other one. -/
def runningImage (s : State) (v : Variant) (which : Nat) : List Byte :=
  if (parseVariant (image s (2 + which))).commit = v.commit then image s (2 + which) else s.update.otherBank.getD which []

/-- The bytes of a variant's map. -/
def mapBytes (img : List Byte) : List Byte := (img.drop (field img 68 4)).take (16 * field img 60 4)

/-- Map entries of some types with the bytes of their instances, in VARNUM order. -/
def instances (s : State) (lo hi : Nat) : List Byte :=
  match s.program.pair with
  | none => []
  | some p => (p.va.map.filter fun m => lo ≤ m.typ && m.typ ≤ hi).flatMap fun m =>
      leBytes 4 m.varnum ++ cellBytes m.width (cellAt s.program.shown m.varnum)

/-- The map of the running program. -/
def runningMap (s : State) : List MapEntry := ((s.program.pair.map fun p => p.va.map)).getD []

/-- The two maps that a carry plan compares: running and prepared, or retained and running after the switch. DESIGN CHOICE (log 80): while
no second map is held (states 0, 1, 2 and 6) there are none, and the plan reads empty, its counts 0. -/
def planMaps (s : State) : Option (Variant × Variant) :=
  match s.program.pair, s.change.prepared, s.change.retained with
  | some old, some new, _ => some (old.va, new.va)
  | some new, none, some old => some (old.va, new.va)
  | _, _, _ => none

/-- A carry plan record (Table 05-7) by SYMID. -/
def planRecord (old new : Variant) (id : U64) : List Byte :=
  let o := old.map.find? fun m => m.symid == id
  let n := new.map.find? fun m => m.symid == id
  let place := fun (m : Option MapEntry) => leBytes 3 ((m.map fun x => x.varnum).getD 0xFFFFFF)
  let code := match n with
    | some m => disposition old m
    | none => 2
  leBytes 8 id.toNat ++ place o ++ [u8 code] ++ place n ++ [0]

/-- The SYMIDs of either map, ascending. -/
def planIds (old new : Variant) : List U64 :=
  (((old.map ++ new.map).map fun m => m.symid.toNat).eraseDups.mergeSort (fun a b => decide (a ≤ b))).map u64

/-- The counts of the four dispositions and the forces that the switch would drop. -/
def planCounts (s : State) (old new : Variant) : List Entry :=
  let n := fun (d : Nat) => (new.map.filter fun m => disposition old m == d).length
  let removed := (old.map.filter fun m => new.map.all fun x => x.symid != m.symid).length
  let gone := (s.change.forces.filter fun f => new.map.all fun m => !(m.symid == f.symid && disposition old m == 0)).length
  [b32 (n 0), b32 (n 1), b32 removed, b32 (n 3), b16 gone]

/-- 3800 (R165). -/
def changeEntries (s : State) : List Entry :=
  let x := s.change
  let id := fun (p : Option ProgPair) => b64 ((p.map fun y => y.va.progid.toNat).getD 0)
  let plan := match planMaps s with
    | some (old, new) => b32 (tcarry old new) :: planCounts s old new
    | none => [b32 0, b32 0, b32 0, b32 0, b32 0, b16 0]
  [b8 x.stateC, b8 x.result.toNat, (b8 (setting s 0x3800 3 0)).as .rws, (b32 (setting s 0x3800 4 0)).as .rws,
   (b64 (setting s 0x3800 5 0)).as .rws, id s.program.pair, id x.retained, id x.prepared] ++ plan ++ [b32 x.kSwitch.toNat, b64 x.switchAt]

/-- 3900 + j (R167): an empty row has no entry but its count. -/
def forceEntries (f : Option ForceRow) : List Entry :=
  match f with
  | none => []
  | some x => [b64 x.symid.toNat, b64 x.value.toNat, b32 x.varnum, b8 x.cls, b64 x.since, b32 x.discarded.toNat]

/-- A force request in its 20 bytes (Table 05-8). -/
def forceBytes (s : State) : List Byte := (groupShadow s 31).shadow.flatMap fun x => x.2.2

/-- 3000 to 39FF. -/
def programAreas (s : State) : List Area :=
  let p := s.program
  let a := p.pair.map fun x => x.va
  let b := p.pair.map fun x => x.vb
  let va := fun (f : Variant → Nat) => (a.map f).getD 0
  let vb := fun (f : Variant → Nat) => (b.map f).getD 0
  let imgA := (a.map fun v => runningImage s v 0).getD []
  let imgB := (b.map fun v => runningImage s v 1).getD []
  let span := logicSpan s.cyc.c
  let ln := s.lanes
  [one 0x3000 [b8 p.loadResult.toNat, b64 (va fun v => v.progid.toNat), b64 (va fun v => v.commit.toNat), b64 (vb fun v => v.commit.toNat),
     b32 (va fun v => v.twc), b32 (vb fun v => v.twc), b32 (logicBudget s.cyc.c), b16 (va fun v => v.lagmax), b32 (va fun v => v.nvar),
     b16 (va fun v => v.ntimer), b16 (va fun v => v.nedge), b64 p.executed.toNat, b32 (va fun v => v.version.toNat)],
   one 0x3001 [b8 s.cyc.c, b32 s.cyc.number.toNat, b64 s.cyc.begun, b32 span, b32 s.cyc.restrictive.toNat],
   one 0x3002 [b32 ln.a.logicLast, b32 ln.a.logicPeak, b32 ln.b.logicLast, b32 ln.b.logicPeak, b32 ln.l.logicLast, b32 ln.l.logicPeak,
     b32 (s.cyc.least.getD 0)],
   one 0x3010 [dom (mapBytes imgA), dom (mapBytes imgB), dom (imgA.take 128 ++ imgB.take 128)],
   one 0x3011 [dom (instances s 7 9)],
   one 0x3012 [dom (instances s 10 11)],
   ⟨0x3100, 258, fun k => (((runningMap s).drop (255 * k)).take 255).map fun m =>
     dom (cellBytes m.width (cellAt p.shown m.varnum))⟩,
   one 0x3800 (changeEntries s),
   one 0x3810 [dom (match planMaps s with
     | some (old, new) => (planIds old new).flatMap (planRecord old new)
     | none => [])],
   one 0x3880 [(dom (forceBytes s)).as .rws, b16 s.change.forces.length, b16 (s.change.forces.filter fun f => f.cls == 2).length,
     b16 (groupShadow s 31).shadow.length, b32 s.change.dropped.toNat],
   ⟨0x3900, 256, fun j => forceEntries s.change.forces[j]?⟩]

/-! ### 4000 to A800: elements, routes, slots, the Commons, the command queue -/

/-- 4000 + n (R105): an element that does not exist has no entry but its count. -/
def elementEntries (s : State) (e : Nat) : List Entry :=
  match elem? s e with
  | none => []
  | some _ =>
    let y := elemSt s e
    let excl := (exclHolder s e).bind fun h => h.2.1.route
    [b8 y.detected.toNat, b32 (claimWord s e).toNat, b16 (excl.getD 0xFFFF), b64 y.since]

/-- 8000 + r (R105). -/
def routeEntries (s : State) (r : Nat) : List Entry :=
  match route? s r with
  | none => []
  | some _ =>
    let y := routeSt s r
    [b8 y.state, b16 (y.slot.getD 0xFFFF), b8 y.result.toNat, b32 y.ref.toNat, b8 y.nbrCode.toNat, b32 y.cleared.toNat, b64 y.changed]

/-- A000 + k (R105). -/
def slotEntries (s : State) (k : Nat) : List Entry :=
  let y := slotSt s k
  [b16 (y.route.getD 0xFFFF), b8 (slotState s y), b8 (slotAttr y), b32 y.apprTimer, b32 (y.ovlTimer.getD 0xFFFFFFFF), b64 y.released.toNat,
   b64 y.seen.toNat, b64 y.stamp, b32 y.opid.toNat, b32 y.hseq.toNat, b8 y.token.toNat, b32 y.emrgTimer]

/-- 4000 to A800. -/
def commonsAreas (s : State) : List Area :=
  let c := s.commons
  let y := s.cyc
  [⟨0x4000, 16384, elementEntries s⟩,
   ⟨0x8000, 8192, routeEntries s⟩,
   ⟨0xA000, 1024, slotEntries s⟩,
   one 0xA400 [b16 (slotList s).length, b16 c.peak, b32 c.refused12.toNat, b32 c.refused10.toNat,
     b16 (c.routes.filter fun r => r.2.state == 1).length, b32 c.abandoned.toNat, b32 c.emergency.toNat],
   one 0xA800 [writeOnly, dom (y.ring.flatMap resultBytes), (b32 y.readSeq.toNat).as .rw, b32 y.writeSeq.toNat, b16 y.cmdq.length,
     b16 y.reserved, b8 y.takenLast, b32 y.refusedFull.toNat]]

/-! ### The whole dictionary -/

/-- The areas of Table 10-7 in ascending order within each chapter. -/
def areas (s : State) : List Area :=
  linkAreas s ++ fieldBusAreas s ++ sessionAreas s ++ twinAreas s ++ deviceAreas s ++ laneAreas s ++ fieldAreas s ++ constableAreas s
    ++ updateAreas s ++ ageAreas s ++ powerAreas s ++ programAreas s ++ commonsAreas s

/-- The entries of an index from subindex 1 on, if the index exists. -/
def entriesAt (s : State) (index : Nat) : Option (List Entry) :=
  ((areas s).find? fun a => a.base ≤ index && index < a.base + a.count).map fun a => a.entries (index - a.base)

/-- Subindex 00 (R298); the table of A800 gives 09h. -/
def countEntry (index : Nat) (l : List Entry) : Entry := b8 (if index = 0xA800 then 9 else l.length)

/-- An entry, or why there is none (R298, R299, R309). -/
def entryAt (s : State) (index sub : Nat) : Except U16 Entry :=
  if 0xF000 ≤ index then .error 0x0105
  else match entriesAt s index with
    | none => .error 0x0103
    | some l =>
      if sub = 0 then .ok (countEntry index l)
      else match l[sub - 1]? with
        | some e => .ok e
        | none => .error 0x0104

/-- A read on a channel (R297): the value; a read of 2D00:01 draws a new challenge (R303), one of 1100:08 or 09 a new measurement. -/
def readEntry (s : State) (ch index sub : Nat) : Except U16 (State × List Byte) :=
  match entryAt s index sub with
  | .error code => .error code
  | .ok e =>
    if e.right = .wo then .error 0x0102
    else if index = 0x2D00 ∧ sub = 1 then .ok (newChallenge s ch)
    else if index = 0x1100 ∧ (sub = 8 ∨ sub = 9) then .ok (draw (draw s), e.value)
    else .ok (s, e.value)

end Sys2Proof.Machine
end

