-- ==== Sys2Proof/Machine/Dictionary.lean ====
section
/-!
DEFINITION. Machine/Dictionary.lean: writes of every entry (R294 to R300) and the transfers that carry reads and writes (R289 to R294,
R308).
-/

namespace Sys2Proof.Machine

/-! ### Writes -/

/-- A number of exactly `n` bytes (R296). -/
def exactly (s : State) (data : List Byte) (n : Nat) (k : Nat → Attempt) : Attempt :=
  if data.length ≠ n then (s, some 0x0201) else k (leNat data)

/-- A number of `n` bytes within a range, stored by `f`. -/
def ranged (s : State) (data : List Byte) (n : Nat) (ok : Nat → Bool) (f : Nat → State) : Attempt :=
  exactly s data n fun v => if ok v then (f v, none) else (s, some 0x0230)

/-- A block of `lo` to `hi` bytes. -/
def sized (s : State) (data : List Byte) (lo hi : Nat) (k : Attempt) : Attempt :=
  if data.length < lo then (s, some 0x0201) else if hi < data.length then (s, some 0x0203) else k

/-- A BIST result by number. -/
def bistResultOf : Nat → BistResult
  | 0 => .notRun
  | 1 => .passed
  | 2 => .failed
  | _ => .aborted

/-- What a start finds when a plain write of 2001:01 begins it: every reading is free. -/
def freeEnv (s : State) : StartEnv :=
  let n := fun (k : Nat) => Config.free (s.draws + k)
  { switches := BitVec.ofNat 24 (n 0), straps := BitVec.ofNat 6 (n 1)
    bist := (List.range 8).map fun b => ⟨bistResultOf (n (2 + b) % 4), u32 (n (10 + b))⟩
    capacitance := n 18, retention := if n 19 % 2 = 0 then none else some (n 20)
    badCopy := allLanes.filter fun ln => (n 21).testBit (laneNo ln)
    heardHl1 := (n 22).testBit 0, heardHl2 := (n 23).testBit 0, journalLost := (n 24).testBit 0, recordBad := (n 26).testBit 0
    lostHistory := allLanes.filter fun ln => (n 25).testBit (laneNo ln) }

/-- The free values of `freeEnv` are drawn. -/
def drawEnv (s : State) : State := { s with draws := s.draws + 27 }

/-- A write of A800:01 (R132, R134). -/
def writeRecord (s : State) (ch : Nat) (data : List Byte) : Attempt :=
  if data.length ≠ 16 then (s, some 0x0240)
  else writeCommand s ch (field data 0 1) (u32 (field data 4 4))
    { flags := u8 (field data 1 1), target := u16 (field data 2 2), opid := u32 (field data 8 4), hseq := u32 (field data 12 4) }

/-- Writes of 1120 (R314): events. -/
def writeEvents (s : State) (sub : Nat) (data : List Byte) : Attempt :=
  ranged s data 1 (fun v => v ≤ if sub = 1 then 3 else if sub = 2 then 0x3F else 4) fun v => putSetting s 0x1120 sub v

/-- Writes of 2910 (R449): trace settings. -/
def writeTrace (s : State) (sub : Nat) (data : List Byte) : Attempt :=
  match sub with
  | 1 => ranged s data 1 (fun v => v ≤ 1) fun v => setTrace s (v == 1)
  | 2 => ranged s data 1 (fun v => v % 2 == 0) fun v => { s with age := { s.age with kinds := u8 v } }
  | _ => ranged s data 1 (fun v => v ≤ 7) fun v => { s with age := { s.age with laneMask := u8 v } }

/-- Writes of 2510 (R386). -/
def writeSelect (s : State) (sub : Nat) (data : List Byte) : Attempt :=
  match sub with
  | 1 => ranged s data 4 (fun _ => true) fun v => { s with constable := { s.constable with fromSeq := u32 v } }
  | _ => ranged s data 2 (fun v => 1 ≤ v && v ≤ 4096) fun v => { s with constable := { s.constable with count := v } }

/-- Writes of 2721 (R441): ratings. -/
def writeRating (s : State) (sub : Nat) (data : List Byte) : Attempt :=
  ranged s data 4 (fun v => v == 0 || (1000 ≤ v && v ≤ 100000000)) fun v =>
    { s with age := { s.age with ratings := (List.range 24).map fun d => if d + 1 = sub then v else s.age.ratings.getD d 0 } }

/-- Writes of 1701 (R405, R406). -/
def writeTwin (s : State) (sub : Nat) (data : List Byte) : Attempt :=
  match sub with
  | 1 => ranged s data 1 (fun v => v ≤ 1) fun v => { s with twin := { s.twin with returnOn := v == 1 } }
  | _ => exactly s data 1 fun v => attempt s (writeHandover s (u8 v))

/-- Writes of 2601 and 2602 (R419 to R421). -/
def writeUpdate (s : State) (index sub : Nat) (data : List Byte) : Attempt :=
  if index = 0x2602 then
    sized s data 9 520 (attempt s (writePiece s (field data 0 4) (u32 (field data 4 4)) (data.drop 8)))
  else match sub with
    | 1 => sized s data 16 16 (attempt s (writeBegin s (u64 (field data 0 8)) (field data 8 4)))
    | _ => sized s data 12 12 (attempt s (writeAction s (field data 0 1) (u64 (field data 4 8))))

/-- Writes of 20F0 (R300) and 2D00 (R302, R303). -/
def writeControl (s : State) (ch index sub : Nat) (data : List Byte) : Attempt :=
  if index = 0x20F0 then
    exactly s data 1 fun v => if sub = 1 then writeCommit s ch v else attempt s (writeGroupAbort s v)
  else if sub = 2 then writeResponse s ch data
  else exactly s data 1 fun v => attempt s (writeDeauthorise s (u8 v))

/-- A write of an entry whose right permits it, by its chapter's rule. -/
def entryWrite (s : State) (ch index sub : Nat) (data : List Byte) : Attempt :=
  let byte := fun (w : U8 → Write) => exactly s data 1 fun v => attempt s (w (u8 v))
  let word := fun (w : U32 → Write) => exactly s data 4 fun v => attempt s (w (u32 v))
  if index = 0x1120 then writeEvents s sub data
  else if 0x1400 ≤ index ∧ index < 0x1600 then byte (writeClose s (index - 0x1400))
  else if index = 0x1701 then writeTwin s sub data
  else if index = 0x2001 then exactly s data 1 fun v => attempt s (writeMode (freeEnv s) (drawEnv s) v)
  else if index = 0x20F0 ∨ index = 0x2D00 then writeControl s ch index sub data
  else if index = 0x2120 then byte (writeReadmit s)
  else if index = 0x2212 then word (writePairReset s)
  else if index = 0x2221 then word (writeOutputReset s)
  else if 0x2311 ≤ index ∧ index ≤ 0x2314 then byte (writeGroupReset s (index - 0x2311))
  else if 0x2400 ≤ index ∧ index < 0x2480 then byte (writeForce s (index - 0x2400))
  else if index = 0x2490 then byte (writeSweep s)
  else if index = 0x2500 then word (writeClear s ch)
  else if index = 0x2510 then writeSelect s sub data
  else if index = 0x2600 then ranged s data 1 (fun v => 1 ≤ v && v ≤ 72) fun v => putSetting s 0x2600 0x0C v
  else if index = 0x2601 ∨ index = 0x2602 then writeUpdate s index sub data
  else if index = 0x2605 then attempt s (writeOwnerKey s ch data)
  else if index = 0x2721 then writeRating s sub data
  else if index = 0x2722 then byte (writeCountReset s ch)
  else if index = 0x2901 then byte (writeCapture s)
  else if index = 0x2910 then writeTrace s sub data
  else if 0x2D10 ≤ index ∧ index ≤ 0x2D13 then attempt s (writeKey s ch (index - 0x2D10) data)
  else if index = 0xA800 ∧ sub = 1 then writeRecord s ch data
  else word (writeReadSeq s)

/-- A write of any entry (R294, R297, R299): the checks of its existence and of its right, then the entry's own. -/
def writeEntry (s : State) (ch index sub : Nat) (data : List Byte) : Attempt :=
  match entryAt s index sub with
  | .error code => (s, some code)
  | .ok e =>
    match e.right with
    | .ro => (s, some 0x0101)
    | .rws => attempt s (writeShadow s ch index sub data)
    | .rwa => if authorised s ch then entryWrite s ch index sub data else (s, some 0x0301)
    | .wo | .rw => entryWrite s ch index sub data

/-- DICTIONARY_WRITE (R295). -/
def execDictionaryWrite (t : Time) (ch : Fin 8) (index sub : Nat) (data : List Byte) (s : State) :
    Host.Outcome State Fault Refusal :=
  attemptAt t s ch.val fun s => writeEntry s ch.val index sub data

/-- SHADOW_WRITE (R300). -/
def execShadowWrite (t : Time) (ch : Fin 8) (index sub : Nat) (data : List Byte) (s : State) :
    Host.Outcome State Fault Refusal :=
  writeAt t s ch.val fun s => writeShadow s ch.val index sub data

/-! ### Transfers -/

/-- A bus that receives: one in bus-off or disabled hears nothing, a silent one listens (R287); its frames reach the service fabric over
crossing 10 or 11. Nothing is answered while the Steward is not serving (R308). -/
def hears (s : State) (b : HostBus) : Bool :=
  stewardServes s && hostCrosses s b && ((hostBus s b).state == 1 || (hostBus s b).state == 2 || (hostBus s b).state == 4)

/-- A frame is heard on a bus and counted there. -/
def hearFrame (s : State) (b : HostBus) : State := modHostBus s b fun x => { x with received := x.received + 1 }

/-- A frame of the host has arrived on a bus and a channel. -/
def frameIn (s : State) (b : HostBus) (ch : Nat) : State := touch (hearFrame s b) ch

/-- A frame that is for this module: DIR 0 and its own position (R288). -/
def addressed (s : State) (p : HostPlace) : Bool := !p.dir && p.pos.val == s.host.position

/-- A frame that arrives, while it is heard; one of another module, or for one, is counted and goes no further. -/
def onFrame (t : Time) (s : State) (p : HostPlace) (ch : Nat) (f : State → State) : Host.Outcome State Fault Refusal :=
  at_ t s fun s =>
    if hears s p.bus then
      if addressed s p then f (frameIn s p.bus ch) else hearFrame s p.bus
    else s

/-- An abort is sent to the host and counted (R294). -/
def refuse (s : State) (q : HostReq) (code : U16) : State :=
  sendAbort (noteAbort s q.chan.val code) q.bus q.chan.val q.tid q.index q.sub code

/-- A request begins a transfer on its channel. -/
def noteTransfer (s : State) (q : HostReq) : State :=
  modChan s q.chan.val fun c => { c with transfers := c.transfers + 1, bus := busNo q.bus, cut := none }

/-- Put a transfer on its channel, with the time of its last frame. -/
def setTransfer (s : State) (ch : Nat) (x : Option Transfer) : State :=
  modChan s ch fun c => { c with transfer := x, frameAt := s.now }

/-- How many segmented transfers the module runs (R293). -/
def segmentedRunning (s : State) : Nat :=
  ((List.range 8).filter fun c => (chanSt s c).transfer.isSome).length

/-- An OP of no request, or a reserved FUNC (R290, Table 10-5). -/
def unknownForm (q : HostReq) : Bool := q.place.func == 0 || q.place.func == 7 || q.op == 0 || 3 < q.op

/-- A request: 0702h for an unknown OP or FUNC (R299), 0705h for one of a transfer that a restart cut (R308), 0704h on a busy channel
(R289), else as `f` says. -/
def request (s : State) (q : HostReq) (f : State → State) : State :=
  let c := chanSt s q.chan.val
  if unknownForm q then refuse s q 0x0702
  else if c.cut = some q.tid then refuse (modChan s q.chan.val fun x => { x with cut := none }) q 0x0705
  else if c.transfer.isSome then refuse s q 0x0704
  else f (noteTransfer s q)

/-- The answer to a READ (R291): expedited to 56 bytes, in segments above. -/
def answerRead (s : State) (q : HostReq) (data : List Byte) : State :=
  let send := fun (op : Nat) (l : List Byte) (st : State) => reply st q.bus q.chan.val q.tid op q.index q.sub data.length l
  if data.length ≤ 56 then send 0x81 data s
  else if 4 ≤ segmentedRunning s then refuse s q 0x0601
  else setTransfer (send 0x82 [] s) q.chan.val (some (.sending q.bus q.tid q.index q.sub data 0 0 0))

/-- READ (R291). -/
def execRead (t : Time) (q : HostReq) (s : State) : Host.Outcome State Fault Refusal :=
  onFrame t s q.place q.chan.val fun s => request s q fun s =>
    match readEntry s q.chan.val q.index q.sub with
    | .error code => refuse s q code
    | .ok (s1, data) => answerRead s1 q data

/-- The answer to a write: 83h, or an abort. -/
def answerWrite (q : HostReq) (size : Nat) (a : Attempt) : State :=
  match a.2 with
  | none => reply a.1 q.bus q.chan.val q.tid 0x83 q.index q.sub size []
  | some code => refuse a.1 q code

/-- WRITE_EXPEDITED (R291, R294). -/
def execWriteExpedited (t : Time) (q : HostReq) (data : List Byte) (s : State) : Host.Outcome State Fault Refusal :=
  onFrame t s q.place q.chan.val fun s => request s q fun s =>
    answerWrite q data.length (writeEntry s q.chan.val q.index q.sub data)

/-- The SIZEs of a 03h that an entry's range holds (R291): only a piece is longer than 56 bytes. -/
def segmentedSize (index sub size : Nat) : Bool := index == 0x2602 && sub == 1 && 57 ≤ size && size ≤ 520

/-- A 03h is refused before any segment: no such entry, no right, its SIZE, or a fifth transfer. -/
def openRefusal (s : State) (q : HostReq) (size : Nat) : Option U16 :=
  match entryAt s q.index q.sub with
  | .error code => some code
  | .ok e =>
    if e.right = .ro then some 0x0101
    else if e.right = .rwa ∧ authorised s q.chan.val = false then some 0x0301
    else if segmentedSize q.index q.sub size = false then some 0x0203
    else if 4 ≤ segmentedRunning s then some 0x0601
    else none

/-- A block that Kutia grants: 1 to 32 segments, as many as it chooses (R292). -/
def grantBlock (s : State) : Nat := 1 + Config.free s.draws % 32

/-- Acknowledge a received block and grant the next one from `next`. -/
def grantFrom (s : State) (b : HostBus) (ch : Nat) (tid : U8) (index sub size : Nat) (data : List Byte) (next : Nat) : State :=
  let blk := grantBlock s
  setTransfer (sendBlockAck (draw s) b ch tid next blk) ch (some (.receiving b tid index sub size data next next blk))

/-- WRITE_SEGMENTED (R291 to R293). -/
def execWriteSegmented (t : Time) (q : HostReq) (size : Nat) (s : State) : Host.Outcome State Fault Refusal :=
  onFrame t s q.place q.chan.val fun s => request s q fun s =>
    match openRefusal s q size with
    | some code => refuse s q code
    | none => grantFrom s q.bus q.chan.val q.tid q.index q.sub size [] 0

/-- The segments of a value. -/
def segments (size : Nat) : Nat := ceilDiv size 60

/-- A segment frame fits the value: its length and its LAST bit. -/
def segmentFits (size seg : Nat) (last : Bool) (data : List Byte) : Bool :=
  let n := segments size
  seg < n && last == (seg + 1 == n) && data.length == min 60 (size - 60 * seg)

/-- The request that a running transfer answers. -/
def requestOf (b : HostBus) (ch : Fin 8) (tid : U8) (index sub : Nat) : HostReq := ⟨⟨b, 4, false, 0⟩, ch, tid, 1, index, sub⟩

/-- End a transfer with an abort (R292, R294). -/
def abortTransferOf (s : State) (q : HostReq) (code : U16) : State :=
  refuse (modChan s q.chan.val fun c => { c with transfer := none }) q code

/-- Every byte has arrived: the final block acknowledge, then the write (R294). -/
def finishWrite (s : State) (q : HostReq) (data : List Byte) : State :=
  let s1 := modChan s q.chan.val fun c => { c with transfer := none }
  let s2 := sendBlockAck s1 q.bus q.chan.val q.tid (segments data.length) 1
  answerWrite q data.length (writeEntry s2 q.chan.val q.index q.sub data)

/-- A frame of a transfer that a Steward restart cut (R308). Any other frame without its transfer goes unanswered. -/
def strayFrame (s : State) (b : HostBus) (ch : Fin 8) (tid : U8) : State :=
  if (chanSt s ch.val).cut = some tid then
    refuse (modChan s ch.val fun x => { x with cut := none }) (requestOf b ch tid 0 0) 0x0705
  else s

/-- A segment of a running write (R292): in order it is taken; the last of a block is acknowledged from the first one missing; one that
the block before already brought is not taken again, and its last is acknowledged again; one outside the block is an error. -/
def takeSegment (s : State) (q : HostReq) (size : Nat) (got : List Byte) (next start blk seg : Nat) (last : Bool) (data : List Byte) :
    State :=
  let keep := fun (st : State) (l : List Byte) (n : Nat) =>
    setTransfer st q.chan.val (some (.receiving q.bus q.tid q.index q.sub size l n start blk))
  let blockEnds := seg + 1 == start + blk || last
  if seg < start then
    let s1 := keep s got next
    if seg + 1 = start then sendBlockAck s1 q.bus q.chan.val q.tid next blk else s1
  else if start + blk ≤ seg ∨ segmentFits size seg last data = false then abortTransferOf s q 0x0703
  else if seg = next then
    if last then finishWrite s q (got ++ data)
    else if blockEnds then grantFrom s q.bus q.chan.val q.tid q.index q.sub size (got ++ data) (next + 1)
    else keep s (got ++ data) (next + 1)
  else if blockEnds then grantFrom s q.bus q.chan.val q.tid q.index q.sub size got next
  else keep s got next

/-- SEGMENT (R292). -/
def execSegment (t : Time) (p : HostPlace) (ch : Fin 8) (tid : U8) (seg : Nat) (last : Bool) (data : List Byte) (s : State) :
    Host.Outcome State Fault Refusal :=
  onFrame t s p ch.val fun s =>
    match (chanSt s ch.val).transfer with
    | some (.receiving b tid' index sub size got next start blk) =>
      if b = p.bus ∧ tid' = tid then takeSegment s (requestOf p.bus ch tid index sub) size got next start blk seg last data
      else strayFrame s p.bus ch tid
    | _ => strayFrame s p.bus ch tid

/-- One segment frame (R292). -/
def sendSegment (b : HostBus) (ch : Nat) (tid : U8) (data : List Byte) (s : State) (k : Nat) : State :=
  sendHost s b 5 ch tid (leBytes 3 k ++ [u8 (k + 1 == segments data.length).toNat] ++ (data.drop (60 * k)).take 60)

/-- The segments of the present block go out; `resends` counts how often this block has been sent again. -/
def sendBlock (s : State) (ch : Nat) (b : HostBus) (tid : U8) (index sub : Nat) (data : List Byte) (next blk resends : Nat) : State :=
  let l := (List.range (min blk (segments data.length - next))).map fun k => next + k
  setTransfer (l.foldl (sendSegment b ch tid data) s) ch (some (.sending b tid index sub data next blk resends))

/-- BLOCK_ACKNOWLEDGE (R292): the final one ends the transfer; any other asks for a block. -/
def execBlockAcknowledge (t : Time) (p : HostPlace) (ch : Fin 8) (tid : U8) (next blk : Nat) (s : State) :
    Host.Outcome State Fault Refusal :=
  onFrame t s p ch.val fun s =>
    match (chanSt s ch.val).transfer with
    | some (.sending b tid' index sub data _ _ _) =>
      if b = p.bus ∧ tid' = tid then
        if next = segments data.length then setTransfer s ch.val none
        else if segments data.length < next ∨ blk = 0 ∨ 32 < blk then abortTransferOf s (requestOf p.bus ch tid index sub) 0x0703
        else sendBlock s ch.val b tid index sub data next blk 0
      else strayFrame s p.bus ch tid
    | _ => strayFrame s p.bus ch tid

/-- ABORT (R294): the host ends the transfer, and nothing of it is applied. -/
def execAbortTransfer (t : Time) (q : HostReq) (code : U16) (s : State) : Host.Outcome State Fault Refusal :=
  onFrame t s q.place q.chan.val fun s =>
    let stop := fun (st : State) => noteAbort (modChan st q.chan.val fun c => { c with transfer := none }) q.chan.val code
    match (chanSt s q.chan.val).transfer with
    | some (.sending b tid ..) => if b = q.bus ∧ tid = q.tid then stop s else s
    | some (.receiving b tid ..) => if b = q.bus ∧ tid = q.tid then stop s else s
    | none => s

/-- BLOCK_RESEND_TIMEOUT (R292): three resends 100 ms apart, then 0701h. -/
def execBlockResendTimeout (t : Time) (ch : Fin 8) (s : State) : Host.Outcome State Fault Refusal :=
  at_ t s fun s =>
    let c := chanSt s ch.val
    match c.transfer with
    | some (.sending b tid index sub data next blk resends) =>
      if s.now < c.frameAt + ms 100 then s
      else if resends < 3 then sendBlock s ch.val b tid index sub data next blk (resends + 1)
      else abortTransferOf s (requestOf b ch tid index sub) 0x0701
    | _ => s

/-- TRANSFER_TIMEOUT (R292): the receiver has had no frame for 1,000 ms. -/
def execTransferTimeout (t : Time) (ch : Fin 8) (s : State) : Host.Outcome State Fault Refusal :=
  at_ t s fun s =>
    let c := chanSt s ch.val
    match c.transfer with
    | some (.receiving b tid index sub _ _ _ _ _) =>
      if s.now < c.frameAt + ms 1000 then s else abortTransferOf s (requestOf b ch tid index sub) 0x0701
    | _ => s

end Sys2Proof.Machine
end

