-- ==== Sys2Proof/Machine/Dispatch.lean ====
section
/-!
DEFINITION. Machine/Dispatch.lean: what each command does to the state, one arm for each command.
-/

namespace Sys2Proof.Machine

def exec (i : Instr) (s : State) : Host.Outcome State Fault Refusal :=
  match i with
  | .powerOn t vin env => Sys2Proof.Machine.execPowerOn t vin env s
  | .startTimeout t => Sys2Proof.Machine.execStartTimeout t s
  | .powerFail t vin => Sys2Proof.Machine.execPowerFail t vin s
  | .vinLow t vin => Sys2Proof.Machine.execVinLow t vin s
  | .powerDomainFault t d mv => Sys2Proof.Machine.execPowerDomainFault t d mv s
  | .cycleStart t x env => Sys2Proof.Machine.execCycleStart t x env s
  | .snapshotComplete t ln x scrub => Sys2Proof.Machine.execSnapshotComplete t ln x scrub s
  | .proposalDelivery t ln p => Sys2Proof.Machine.execProposalDelivery t ln p s
  | .vote t => Sys2Proof.Machine.execVote t s
  | .pullInCheck t g => Sys2Proof.Machine.execPullInCheck t g s
  | .torqueOffConfirmation t g => Sys2Proof.Machine.execTorqueOffConfirmation t g s
  | .disagreementExclusion t ln => Sys2Proof.Machine.execDisagreementExclusion t ln s
  | .genericSplit t => Sys2Proof.Machine.execGenericSplit t s
  | .programSplit t => Sys2Proof.Machine.execProgramSplit t s
  | .cycleMissExclusion t ln => Sys2Proof.Machine.execCycleMissExclusion t ln s
  | .issuePhase t withheld => Sys2Proof.Machine.execIssuePhase t withheld s
  | .approachTimerExpiry t r => Sys2Proof.Machine.execApproachTimerExpiry t r s
  | .overlapTimerExpiry t r => Sys2Proof.Machine.execOverlapTimerExpiry t r s
  | .emergencyTimerExpiry t r => Sys2Proof.Machine.execEmergencyTimerExpiry t r s
  | .emergencyArmLapse t r => Sys2Proof.Machine.execEmergencyArmLapse t r s
  | .crossZoneTimeout t r => Sys2Proof.Machine.execCrossZoneTimeout t r s
  | .releaseStall t r => Sys2Proof.Machine.execReleaseStall t r s
  | .provingTimeout t r e => Sys2Proof.Machine.execProvingTimeout t r e s
  | .sectionResetTimeout t e => Sys2Proof.Machine.execSectionResetTimeout t e s
  | .throwSupervisionExpiry t e => Sys2Proof.Machine.execThrowSupervisionExpiry t e s
  | .throwComplete t e => Sys2Proof.Machine.execThrowComplete t e s
  | .obstructionCurrentExpiry t g => Sys2Proof.Machine.execObstructionCurrentExpiry t g s
  | .safeStopWindowExpiry t g => Sys2Proof.Machine.execSafeStopWindowExpiry t g s
  | .immediateTorqueOff t => Sys2Proof.Machine.execImmediateTorqueOff t s
  | .remoteSafeStopTimeout t e => Sys2Proof.Machine.execRemoteSafeStopTimeout t e s
  | .degradedLLimitExpiry t => Sys2Proof.Machine.execDegradedLLimitExpiry t s
  | .degradedLTimerRestore t => Sys2Proof.Machine.execDegradedLTimerRestore t s
  | .setRoute t ch param c => Sys2Proof.Machine.execSetRoute t ch param c s
  | .cancelRoute t ch param c => Sys2Proof.Machine.execCancelRoute t ch param c s
  | .emergencyReleaseArm t ch c => Sys2Proof.Machine.execEmergencyReleaseArm t ch c s
  | .emergencyReleaseConfirm t ch c => Sys2Proof.Machine.execEmergencyReleaseConfirm t ch c s
  | .pointMove t ch param c => Sys2Proof.Machine.execPointMove t ch param c s
  | .pointBlock t ch c => Sys2Proof.Machine.execPointBlock t ch c s
  | .pointUnblock t ch c => Sys2Proof.Machine.execPointUnblock t ch c s
  | .sectionReset t ch param c => Sys2Proof.Machine.execSectionReset t ch param c s
  | .pointStop t ch param c => Sys2Proof.Machine.execPointStop t ch param c s
  | .signalBlock t ch c => Sys2Proof.Machine.execSignalBlock t ch c s
  | .signalUnblock t ch c => Sys2Proof.Machine.execSignalUnblock t ch c s
  | .readSequenceAdvance t ch value => Sys2Proof.Machine.execReadSequenceAdvance t ch value s
  | .boundaryReq t slot rec => Sys2Proof.Machine.execBoundaryReq t slot rec s
  | .boundaryGrant t slot rec => Sys2Proof.Machine.execBoundaryGrant t slot rec s
  | .boundaryRefuse t slot rec => Sys2Proof.Machine.execBoundaryRefuse t slot rec s
  | .boundaryState t slot rec => Sys2Proof.Machine.execBoundaryState t slot rec s
  | .boundaryCancel t slot rec => Sys2Proof.Machine.execBoundaryCancel t slot rec s
  | .boundaryRelease t slot rec => Sys2Proof.Machine.execBoundaryRelease t slot rec s
  | .downFrameSend t ln => Sys2Proof.Machine.execDownFrameSend t ln s
  | .gatehouseEvaluation t ln f => Sys2Proof.Machine.execGatehouseEvaluation t ln f s
  | .upFrameSend t x => Sys2Proof.Machine.execUpFrameSend t x s
  | .upFrameReceive t ln f => Sys2Proof.Machine.execUpFrameReceive t ln f s
  | .barrierChannelStale t ln dir => Sys2Proof.Machine.execBarrierChannelStale t ln dir s
  | .killLineDead t line => Sys2Proof.Machine.execKillLineDead t line s
  | .fieldConfigApply t => Sys2Proof.Machine.execFieldConfigApply t s
  | .fieldConfigTimeout t => Sys2Proof.Machine.execFieldConfigTimeout t s
  | .pairDiscrepancyLatch t k => Sys2Proof.Machine.execPairDiscrepancyLatch t k s
  | .pairResetRequest t ch mask => Sys2Proof.Machine.execPairResetRequest t ch mask s
  | .pairReset t k => Sys2Proof.Machine.execPairReset t k s
  | .outputTotalTrip t => Sys2Proof.Machine.execOutputTotalTrip t s
  | .outputTestPulse t d high1 high2 => Sys2Proof.Machine.execOutputTestPulse t d high1 high2 s
  | .outputReadbackFault t d high => Sys2Proof.Machine.execOutputReadbackFault t d high s
  | .outputCurrentLimitFault t d => Sys2Proof.Machine.execOutputCurrentLimitFault t d s
  | .outputFeedbackFault t d level => Sys2Proof.Machine.execOutputFeedbackFault t d level s
  | .outputResetRequest t ch mask => Sys2Proof.Machine.execOutputResetRequest t ch mask s
  | .outputReset t d => Sys2Proof.Machine.execOutputReset t d s
  | .aiConverterMismatch t ix => Sys2Proof.Machine.execAiConverterMismatch t ix s
  | .fieldLow t vf => Sys2Proof.Machine.execFieldLow t vf s
  | .fieldLost t vf => Sys2Proof.Machine.execFieldLost t vf s
  | .fieldReturn t vf => Sys2Proof.Machine.execFieldReturn t vf s
  | .resetKeyOperation t k env => Sys2Proof.Machine.execResetKeyOperation t k env s
  | .resetKeyStuck t levels => Sys2Proof.Machine.execResetKeyStuck t levels s
  | .resetKeyStuckClear t => Sys2Proof.Machine.execResetKeyStuckClear t s
  | .transmitPosition t chan bcyc pos x => Sys2Proof.Machine.execTransmitPosition t chan bcyc pos x s
  | .syncFrame p fa fb => Sys2Proof.Machine.execSyncFrame p fa fb s
  | .coldstartFrame t f => Sys2Proof.Machine.execColdstartFrame t f s
  | .listenEnd p readA readB => Sys2Proof.Machine.execListenEnd p readA readB s
  | .coldstartRetry p readA readB => Sys2Proof.Machine.execColdstartRetry p readA readB s
  | .delayRequest t f tpass => Sys2Proof.Machine.execDelayRequest t f tpass s
  | .delayResponse t chan f => Sys2Proof.Machine.execDelayResponse t chan f s
  | .delayRequestRetry t chan => Sys2Proof.Machine.execDelayRequestRetry t chan s
  | .matrixBoundary p => Sys2Proof.Machine.execMatrixBoundary p s
  | .noSyncTimeout p => Sys2Proof.Machine.execNoSyncTimeout p s
  | .syncTakeover p => Sys2Proof.Machine.execSyncTakeover p s
  | .passiveRejoin p => Sys2Proof.Machine.execPassiveRejoin p s
  | .guardianSuppression t chan bcyc pos => Sys2Proof.Machine.execGuardianSuppression t chan bcyc pos s
  | .arbitrationRetry t chan bcyc pos readback => Sys2Proof.Machine.execArbitrationRetry t chan bcyc pos readback s
  | .foreignScheduleDetected t f => Sys2Proof.Machine.execForeignScheduleDetected t f s
  | .channelDown t chan => Sys2Proof.Machine.execChannelDown t chan s
  | .vitalTelegram t fa fb wrong => Sys2Proof.Machine.execVitalTelegram t fa fb wrong s
  | .multiPartnerDownFrame t f => Sys2Proof.Machine.execMultiPartnerDownFrame t f s
  | .nonVitalFrame t f => Sys2Proof.Machine.execNonVitalFrame t f s
  | .forwardFrame t f => Sys2Proof.Machine.execForwardFrame t f s
  | .syncInPulse t => Sys2Proof.Machine.execSyncInPulse t s
  | .twoActiveDetected t bcyc pos => Sys2Proof.Machine.execTwoActiveDetected t bcyc pos s
  | .sessionOpen p node o => Sys2Proof.Machine.execSessionOpen p node o s
  | .sessionOpenSend t partner => Sys2Proof.Machine.execSessionOpenSend t partner s
  | .sessionAccept p node o => Sys2Proof.Machine.execSessionAccept p node o s
  | .sessionRefuse p node o => Sys2Proof.Machine.execSessionRefuse p node o s
  | .sessionClose p node o => Sys2Proof.Machine.execSessionClose p node o s
  | .diagRequest p node o => Sys2Proof.Machine.execDiagRequest p node o s
  | .diagReply p node o => Sys2Proof.Machine.execDiagReply p node o s
  | .strangerRecordExpiry t node => Sys2Proof.Machine.execStrangerRecordExpiry t node s
  | .sessionTimeout t slot => Sys2Proof.Machine.execSessionTimeout t slot s
  | .sessionCloseRequest t ch slot value => Sys2Proof.Machine.execSessionCloseRequest t ch slot value s
  | .read t q => Sys2Proof.Machine.execRead t q s
  | .writeExpedited t q data => Sys2Proof.Machine.execWriteExpedited t q data s
  | .writeSegmented t q size => Sys2Proof.Machine.execWriteSegmented t q size s
  | .segment t bus ch tid seg last data => Sys2Proof.Machine.execSegment t bus ch tid seg last data s
  | .blockAcknowledge t bus ch tid next blk => Sys2Proof.Machine.execBlockAcknowledge t bus ch tid next blk s
  | .abortTransfer t q code => Sys2Proof.Machine.execAbortTransfer t q code s
  | .blockResendTimeout t ch => Sys2Proof.Machine.execBlockResendTimeout t ch s
  | .transferTimeout t ch => Sys2Proof.Machine.execTransferTimeout t ch s
  | .dictionaryWrite t ch index sub data => Sys2Proof.Machine.execDictionaryWrite t ch index sub data s
  | .shadowWrite t ch index sub data => Sys2Proof.Machine.execShadowWrite t ch index sub data s
  | .groupCommit t ch g => Sys2Proof.Machine.execGroupCommit t ch g s
  | .groupAbort t ch g => Sys2Proof.Machine.execGroupAbort t ch g s
  | .groupOwnerTimeout t g => Sys2Proof.Machine.execGroupOwnerTimeout t g s
  | .challenge t ch => Sys2Proof.Machine.execChallenge t ch s
  | .response t ch data => Sys2Proof.Machine.execResponse t ch data s
  | .deauthorise t ch mask => Sys2Proof.Machine.execDeauthorise t ch mask s
  | .authorisationTimeout t ch => Sys2Proof.Machine.execAuthorisationTimeout t ch s
  | .authenticationLockoutEnd t => Sys2Proof.Machine.execAuthenticationLockoutEnd t s
  | .key t ch slot data => Sys2Proof.Machine.execKey t ch slot data s
  | .eventPush t => Sys2Proof.Machine.execEventPush t s
  | .stewardRestart t => Sys2Proof.Machine.execStewardRestart t s
  | .modeRequestStop t ch env => Sys2Proof.Machine.execModeRequestStop t ch env s
  | .modeRequestRun t ch => Sys2Proof.Machine.execModeRequestRun t ch s
  | .modeRequestTestTrack t ch => Sys2Proof.Machine.execModeRequestTestTrack t ch s
  | .modeRequestHold t ch => Sys2Proof.Machine.execModeRequestHold t ch s
  | .modeRequestShutdown t ch env => Sys2Proof.Machine.execModeRequestShutdown t ch env s
  | .stileRead t ln addr latency => Sys2Proof.Machine.execStileRead t ln addr latency s
  | .stileReadTimeout t ln => Sys2Proof.Machine.execStileReadTimeout t ln s
  | .serviceRead t ln addr ch answered => Sys2Proof.Machine.execServiceRead t ln addr ch answered s
  | .postedWrite t ln dir addr data tag => Sys2Proof.Machine.execPostedWrite t ln dir addr data tag s
  | .postedCreditTimeout t ln addr => Sys2Proof.Machine.execPostedCreditTimeout t ln addr s
  | .telegramArrived t m mailbox => Sys2Proof.Machine.execTelegramArrived t m mailbox s
  | .intakeMarker t m origin closes => Sys2Proof.Machine.execIntakeMarker t m origin closes s
  | .postedWriteError t m dir tag reason => Sys2Proof.Machine.execPostedWriteError t m dir tag reason s
  | .farSideResetBegins t m side => Sys2Proof.Machine.execFarSideResetBegins t m side s
  | .farSideResetEnds t m side => Sys2Proof.Machine.execFarSideResetEnds t m side s
  | .sessionEvent t m slot => Sys2Proof.Machine.execSessionEvent t m slot s
  | .mirrorSnapshotComplete t m => Sys2Proof.Machine.execMirrorSnapshotComplete t m s
  | .intakeMarkerTimeout t ln origin => Sys2Proof.Machine.execIntakeMarkerTimeout t ln origin s
  | .crossingTransfer t c x => Sys2Proof.Machine.execCrossingTransfer t c x s
  | .crossingAckTimeout t c => Sys2Proof.Machine.execCrossingAckTimeout t c s
  | .crossingResume t c => Sys2Proof.Machine.execCrossingResume t c s
  | .crossingReset t c x => Sys2Proof.Machine.execCrossingReset t c x s
  | .illegalDualRailCode t ln x => Sys2Proof.Machine.execIllegalDualRailCode t ln x s
  | .handshakeStall t ln x => Sys2Proof.Machine.execHandshakeStall t ln x s
  | .retirementMismatch t mill x => Sys2Proof.Machine.execRetirementMismatch t mill x s
  | .loomSliceMismatch t x => Sys2Proof.Machine.execLoomSliceMismatch t x s
  | .faultAcknowledge t src who => Sys2Proof.Machine.execFaultAcknowledge t src who s
  | .reactionWindowExpiry t src => Sys2Proof.Machine.execReactionWindowExpiry t src s
  | .constableRegisterMismatch t reg x y => Sys2Proof.Machine.execConstableRegisterMismatch t reg x y s
  | .constableSealSample t switches => Sys2Proof.Machine.execConstableSealSample t switches s
  | .checkerProof t reported => Sys2Proof.Machine.execCheckerProof t reported s
  | .sweepRequest t ch value => Sys2Proof.Machine.execSweepRequest t ch value s
  | .proofSweepOverdue t => Sys2Proof.Machine.execProofSweepOverdue t s
  | .force t ch src value => Sys2Proof.Machine.execForce t ch src value s
  | .bookWrite t differing => Sys2Proof.Machine.execBookWrite t differing s
  | .bookClear t ch value => Sys2Proof.Machine.execBookClear t ch value s
  | .readmitRequest t ch value => Sys2Proof.Machine.execReadmitRequest t ch value s
  | .readmissionAttemptStart t ln => Sys2Proof.Machine.execReadmissionAttemptStart t ln s
  | .laneBistDone t ln passed => Sys2Proof.Machine.execLaneBistDone t ln passed s
  | .laneLoadDone t ln badCopy => Sys2Proof.Machine.execLaneLoadDone t ln badCopy s
  | .copyComplete t ln => Sys2Proof.Machine.execCopyComplete t ln s
  | .shadowJoin t ln => Sys2Proof.Machine.execShadowJoin t ln s
  | .readmissionStepTimeout t ln => Sys2Proof.Machine.execReadmissionStepTimeout t ln s
  | .changePrepare t ch => Sys2Proof.Machine.execChangePrepare t ch s
  | .changePreparationComplete t differing => Sys2Proof.Machine.execChangePreparationComplete t differing s
  | .changePreparationTimeout t => Sys2Proof.Machine.execChangePreparationTimeout t s
  | .changeArm t ch => Sys2Proof.Machine.execChangeArm t ch s
  | .changeRollback t ch => Sys2Proof.Machine.execChangeRollback t ch s
  | .changeCommit t ch => Sys2Proof.Machine.execChangeCommit t ch s
  | .changeCancel t ch => Sys2Proof.Machine.execChangeCancel t ch s
  | .programSwitch t micros => Sys2Proof.Machine.execProgramSwitch t micros s
  | .installedRecordWritten t => Sys2Proof.Machine.execInstalledRecordWritten t s
  | .forceRequest t ch data => Sys2Proof.Machine.execForceRequest t ch data s
  | .forceCommit t ch => Sys2Proof.Machine.execForceCommit t ch s
  | .driveGroupReset t ch g value => Sys2Proof.Machine.execDriveGroupReset t ch g value s
  | .twinHello x h => Sys2Proof.Machine.execTwinHello x h s
  | .peerSilenceTimeout t => Sys2Proof.Machine.execPeerSilenceTimeout t s
  | .twinLinkDown t => Sys2Proof.Machine.execTwinLinkDown t s
  | .snapshotBlock x seq idx last data => Sys2Proof.Machine.execSnapshotBlock x seq idx last data s
  | .healthReport x h => Sys2Proof.Machine.execHealthReport x h s
  | .giveup x cycle => Sys2Proof.Machine.execGiveup x cycle s
  | .powerFailNotice x cycle => Sys2Proof.Machine.execPowerFailNotice x cycle s
  | .taken x cycle => Sys2Proof.Machine.execTaken x cycle s
  | .giveupOverlapEnd t => Sys2Proof.Machine.execGiveupOverlapEnd t s
  | .activeModuleSilent t => Sys2Proof.Machine.execActiveModuleSilent t s
  | .takeover t => Sys2Proof.Machine.execTakeover t s
  | .handoverRequest t ch value => Sys2Proof.Machine.execHandoverRequest t ch value s
  | .handoverRequestLapse t => Sys2Proof.Machine.execHandoverRequestLapse t s
  | .beginDownload t ch pkgid pkglen => Sys2Proof.Machine.execBeginDownload t ch pkgid pkglen s
  | .piece t ch pnum pcrc data => Sys2Proof.Machine.execPiece t ch pnum pcrc data s
  | .verify t ch pkgid => Sys2Proof.Machine.execVerify t ch pkgid s
  | .verificationComplete t => Sys2Proof.Machine.execVerificationComplete t s
  | .arm t ch pkgid => Sys2Proof.Machine.execArm t ch pkgid s
  | .activate t ch pkgid => Sys2Proof.Machine.execActivate t ch pkgid s
  | .activationComplete t env => Sys2Proof.Machine.execActivationComplete t env s
  | .confirm t ch pkgid => Sys2Proof.Machine.execConfirm t ch pkgid s
  | .cancel t ch pkgid => Sys2Proof.Machine.execCancel t ch pkgid s
  | .rollBack t ch pkgid => Sys2Proof.Machine.execRollBack t ch pkgid s
  | .rollbackComplete t env => Sys2Proof.Machine.execRollbackComplete t env s
  | .confirmationLimitExpiry t => Sys2Proof.Machine.execConfirmationLimitExpiry t s
  | .updateLowSupply t => Sys2Proof.Machine.execUpdateLowSupply t s
  | .activationResume t => Sys2Proof.Machine.execActivationResume t s
  | .ownerKey t ch data => Sys2Proof.Machine.execOwnerKey t ch data s
  | .ringMeasurement t ln temp mv periods => Sys2Proof.Machine.execRingMeasurement t ln temp mv periods s
  | .historyPoint t => Sys2Proof.Machine.execHistoryPoint t s
  | .countReset t ch value => Sys2Proof.Machine.execCountReset t ch value s
  | .capture t ch value => Sys2Proof.Machine.execCapture t ch value s
  | .counterSave t => Sys2Proof.Machine.execCounterSave t s
  | .traceRecord t kind ln p1 p2 => Sys2Proof.Machine.execTraceRecord t kind ln p1 p2 s
  | .fieldSideReset t => Sys2Proof.Machine.execFieldSideReset t s
  | .hostBusStateChange t bus state errors => Sys2Proof.Machine.execHostBusStateChange t bus state errors s
  | .lateCompletion t ln => Sys2Proof.Machine.execLateCompletion t ln s
  | .serviceReadTimeout t ln => Sys2Proof.Machine.execServiceReadTimeout t ln s
  | .twinHelloSend t => Sys2Proof.Machine.execTwinHelloSend t s
  | .sealChangedWhileStopped t switches => Sys2Proof.Machine.execSealChangedWhileStopped t switches s
  | .programSplitComparisonEnd t ended => Sys2Proof.Machine.execProgramSplitComparisonEnd t ended s
  | .probationRecordSave t => Sys2Proof.Machine.execProbationRecordSave t s

end Sys2Proof.Machine
end

