-- ==== Sys2Proof/WellFormed.lean ====
section
/-!
DEFINITION. WellFormed.lean: the operands that Kutia's contacts can carry: each command names the frames, opening bodies and records
that enter with it, and is well formed when every one of them fits the fields of its table. `exec` asks for none of this: it runs on
every operand (log entry 4).
-/

namespace Sys2Proof

/-- What an operand of a command stands for at a contact. -/
inductive Carried where
  | bus (f : BusFrame)
  | opening (o : OpenFrame)
  | up (f : UpFrame)
  | sample (x : FieldSample)
  | record (b : BoundaryRec)
  | start (e : StartEnv)
  | supply (mv : Nat)
  | request (q : HostReq) (op : Nat)
  | frame (p : HostPlace) (func : Nat)
  | twin (x : TwinArrival) (typ : Nat)
  | data (most : Nat) (l : List Byte)
  | trace (kind : Nat)
  | trailing (mill : Lane)

/-- Every number of a list is below a bound: it fits its field. -/
def allBelow (bound : Nat) (l : List Nat) : Bool := l.all fun n => n < bound

/-- The operand fits the fields that carry it. -/
def Carried.fits : Carried → Bool
  -- Table 08-2; the body is at most what its LEN field counts
  | .bus f => allBelow 65536 [f.body.length] && allBelow 1024 [f.node] && allBelow 256 [f.pos] && allBelow 64 [f.bcyc]
      && allBelow 16 [f.ftype]
  -- Table 09-6: four slices, and a node number of ten bits
  | .opening o => o.slices.length == 4 && allBelow 1024 [o.target] && allBelow 256 [o.ptype]
  -- Table 07-2: eight counters and four sums
  | .up f => [f.cnt.length, f.aacc.length] == [8, 4]
  -- eight counted inputs, four converters of 12 bits twice, and two measurements of 16 bits
  | .sample x => [x.edges, x.ai, x.ai2].map List.length == [8, 4, 4] && allBelow 4096 (x.ai ++ x.ai2)
      && allBelow 65536 [x.vf, x.iout]
  -- Table 03-5
  | .record b => allBelow 16384 [b.relem, b.selem] && allBelow 8192 [b.rroute, b.sroute] && allBelow 256 [b.rcode]
      && allBelow 16 [b.cstate]
  -- one BIST report for each block of Table 12-7
  | .start e => e.bist.length == 8
  | .supply mv => allBelow 65536 [mv]
  -- Tables 10-1 and 10-2: the row's OP, or one that no table gives; FUNC 4, or a reserved one
  | .request q op => allBelow 256 [q.op, q.sub] && allBelow 65536 [q.index] && [0, 4, 7].contains q.place.func.val
      && (q.op == op || q.op == 0 || 3 < q.op)
  | .frame p func => p.func.val == func
  | .data most l => l.length ≤ most
  -- Table 14-3: the row's TYPE, or a reserved one; LEN is 16 bits
  | .twin x typ => allBelow 256 [x.head.typ] && allBelow 65536 [x.head.len] && (x.head.typ == typ || x.head.typ == 0 || 4 < x.head.typ)
  -- Table 16-2
  | .trace kind => allBelow 8 [kind]
  -- R43: the two cores are the Mills'
  | .trailing mill => mill != .l

/-- What a command carries. -/
def Instr.carries : Instr → List Carried
  | .powerOn _ vin env => [.supply vin, .start env]
  | .cycleStart _ _ env | .resetKeyOperation _ _ env | .modeRequestStop _ _ env | .modeRequestShutdown _ _ env
  | .activationComplete _ env | .rollbackComplete _ env => [.start env]
  | .boundaryReq _ _ b | .boundaryGrant _ _ b | .boundaryRefuse _ _ b | .boundaryState _ _ b | .boundaryCancel _ _ b
  | .boundaryRelease _ _ b => [.record b]
  | .upFrameSend _ x => [.sample x]
  | .upFrameReceive _ _ f => [.up f]
  | .syncFrame _ fa fb | .vitalTelegram _ fa fb _ => (fa.toList ++ fb.toList).map .bus
  | .coldstartFrame _ f | .delayRequest _ f _ | .delayResponse _ _ f | .foreignScheduleDetected _ f | .multiPartnerDownFrame _ f
  | .nonVitalFrame _ f | .forwardFrame _ f => [.bus f]
  | .sessionOpen _ f o | .sessionAccept _ f o | .sessionRefuse _ f o | .sessionClose _ f o
  | .diagRequest _ f o | .diagReply _ f o => [.bus f, .opening o]
  | .read _ q => [.request q 1]
  | .writeExpedited _ q data => [.request q 2, .data 56 data]
  | .writeSegmented _ q _ => [.request q 3]
  | .segment _ p _ _ _ _ data => [.frame p 5, .data 60 data]
  | .blockAcknowledge _ p _ _ _ _ => [.frame p 6]
  | .abortTransfer _ q _ => [.frame q.place 1]
  | .postedWrite _ _ _ _ data _ => [.data 64 data]
  | .twinHello x _ => [.twin x 1]
  | .snapshotBlock x _ _ _ _ => [.twin x 2]
  | .healthReport x _ => [.twin x 3]
  | .giveup x _ | .powerFailNotice x _ | .taken x _ => [.twin x 4]
  | .retirementMismatch _ mill _ => [.trailing mill]
  | .traceRecord _ kind _ _ _ => [.trace kind.val]
  | _ => []

/-- A command whose operands can occur. -/
def Instr.wf (i : Instr) : Bool := i.carries.all Carried.fits

end Sys2Proof
end

