-- ==== Sys2Proof/Safety.lean ====
section
/-!
DEFINITION. Safety.lean: the terms the claims use: the parts of the state and what a command leaves alone, what a command answers, and
what counts as safe at the trackside.
-/

namespace Sys2Proof.Machine

/-- The parts of the state, one for each field of `State`. -/
inductive Part where
  | pending | now | station | stationOk | loadCode | loadRef | program | change | lanes | vote | cyc | commons | points | field | bus
  | sessions | host | stiles | modes | constable | twin | update | age | out | draws
  deriving DecidableEq, Repr

/-- A part is the same in two states. -/
def same (s s' : State) : Part → Prop
  | .pending => s'.pending = s.pending
  | .now => s'.now = s.now
  | .station => s'.station = s.station
  | .stationOk => s'.stationOk = s.stationOk
  | .loadCode => s'.loadCode = s.loadCode
  | .loadRef => s'.loadRef = s.loadRef
  | .program => s'.program = s.program
  | .change => s'.change = s.change
  | .lanes => s'.lanes = s.lanes
  | .vote => s'.vote = s.vote
  | .cyc => s'.cyc = s.cyc
  | .commons => s'.commons = s.commons
  | .points => s'.points = s.points
  | .field => s'.field = s.field
  | .bus => s'.bus = s.bus
  | .sessions => s'.sessions = s.sessions
  | .host => s'.host = s.host
  | .stiles => s'.stiles = s.stiles
  | .modes => s'.modes = s.modes
  | .constable => s'.constable = s.constable
  | .twin => s'.twin = s.twin
  | .update => s'.update = s.update
  | .age => s'.age = s.age
  | .out => s'.out = s.out
  | .draws => s'.draws = s.draws

/-- Every part that is not named is left as it was. -/
def Frame (changed : List Part) (s s' : State) : Prop := ∀ p, p ∉ changed → same s s' p

/-- The command runs on the state, answers a next state, and that state is as `P` says. -/
def Answers (c : Instr) (s : State) (P : State → Prop) : Prop := ∃ s', exec c s = .next s' ∧ P s'

/-- Nothing at the trackside is driven: no output is energised and the Lantern is off. -/
def Dark (s : State) : Prop := s.field.gate = 0 ∧ s.field.lant = false

/-- The kill lines do not run, no cycle runs, and the mode is Safe State (R344). -/
def Stopped (s : State) : Prop := s.constable.kill = false ∧ s.cyc.running = false ∧ s.modes.mode = .safeState

/-- The source can be raised: it is no reserved one, it is not asserted, and it stands at its configured class (R366, R367). -/
abbrev Quiet (s : State) (n : Nat) : Prop :=
  srcReserved n = false ∧ (source s n).asserted = false ∧ (source s n).effective ≤ srcClass n

/-- The source can be raised at `t`, and no higher class has been raised in the Constable's tick then, so its own class has its effect
(R371). -/
abbrev Raisable (s : State) (t : Time) (n : Nat) : Prop := Quiet s n ∧ tickClass (s.atTime t) ≤ srcClass n

/-- A frame that has an expected arrival starts within the acceptance window (R229, R232). -/
abbrev Timely (s : State) (f : BusFrame) : Prop := expects s f.chan = true → inWindow f = true

/-- An opening frame with the OP arrives on the channel and is valid (R226, R228, R232, R261). -/
abbrev Arrives (s : State) (c : Chan) (op : Nat) (f : BusFrame) (o : OpenFrame) : Prop :=
  f.chan = c ∧ openingOf op f o = true ∧ linkBad s f = false ∧ f.sched = ownSched s ∧ Timely s f

/-- A raise of the source is recorded with its parameters, at the time of the command (R367, R379). -/
def Raised (s s' : State) (n : Nat) (p1 p2 p3 : U32) : Prop :=
  (source s' n).raises = (source s n).raises + 1 ∧ (source s' n).params = [p1, p2, p3] ∧ (source s' n).lastRaise = s'.now

/-- The lane has just been excluded by the source (R41, Table 02-7), and the other lanes are as they were. -/
def Excluded (s s' : State) (ln : Lane) (n : Nat) : Prop :=
  (s'.lanes.get ln).state = (if (s.lanes.get ln).failed then 1 else 2) ∧ (s'.lanes.get ln).lastSource = u8 n
    ∧ (s'.lanes.get ln).lastTime = s'.now ∧ (s'.lanes.get ln).exclusions = (s.lanes.get ln).exclusions + 1
    ∧ (s'.lanes.get ln).streak = (s.lanes.get ln).streak ∧ (s'.lanes.get ln).delivered = none
    ∧ ∀ k, k ≠ ln → s'.lanes.get k = s.lanes.get k

/-- The Steward serves the host link at that time, and the channel is authorised (R302, R308). -/
abbrev Serves (s : State) (t : Time) : Prop := s.host.serving = true ∧ s.host.servingAt ≤ t

/-- A host write took effect: the channel shows it as active, and nothing else of the channel changes (R294, R302). -/
def accepted (s : State) (ch : Fin 8) : State := touch s ch.val

/-- A host write was refused with an abort code, counted on its channel (R294, R314). -/
def refused (s : State) (ch : Fin 8) (code : U16) : State := touch (noteAbort s ch.val code) ch.val

/-- The command runs on the state and its next state is exactly this one: nothing but what is written there has changed. -/
def Runs (c : Instr) (s s' : State) : Prop := exec c s = .next s'

/-- The module is on and not stopped: neither Off, nor Shutdown, nor Safe State. -/
abbrev On (s : State) : Prop := s.modes.mode ≠ .off ∧ s.modes.mode ≠ .shutdown ∧ s.modes.mode ≠ .safeState

/-- Three lanes are in the vote, outside Watch. -/
abbrev AllVoting (s : State) : Prop := voters s = allLanes ∧ s.modes.mode ≠ .watch

/-- What a Lane-class source of lane `ln` does while three lanes are in the vote (R41): the source is recorded, the lane is excluded,
the two others stay, the mode stays, and nothing outside the lanes' records, the vote's timers, the power domains, an armed change,
the Constable and the host's events is touched. -/
def LaneLost (s s' : State) (ln : Lane) (n : Nat) (p1 p2 p3 : U32) : Prop :=
  Excluded s s' ln n ∧ Raised s s' n p1 p2 p3 ∧ s'.modes.mode = s.modes.mode ∧
    Frame [.now, .lanes, .vote, .modes, .change, .constable, .host] s s'

/-- What a Module-class source does in any running mode (R366, R344): the source is recorded, and Kutia stands in Safe State. -/
def ModuleStops (s s' : State) (n : Nat) (p1 p2 p3 : U32) : Prop := Stopped s' ∧ Raised s s' n p1 p2 p3

/-- In Off, Safe State and Shutdown the kill lines are stopped and no cycle runs (R344, R355, R356). -/
abbrev KillStopped (s : State) : Prop :=
  s.modes.mode = .off ∨ s.modes.mode = .safeState ∨ s.modes.mode = .shutdown → s.constable.kill = false ∧ s.cyc.running = false

/-- The command record of A800:01 that channel `ch` writes at `t` (Table 04-11, R134): stamped, marked with its channel and with the
authorisation of the moment. -/
def Recorded (s : State) (t : Time) (ch : Fin 8) (opcode : U8) (param : U32) (a : CmdArgs) : Command :=
  { opcode := opcode, target := a.target.toNat, param := param, opid := a.opid, hseq := a.hseq, chan := ch.val,
    auth := authorised s ch.val, stamp := t, reserved := 2, answered := false }

/-! ### One part changed, the others as they were -/

/-- The Constable's part changed. -/
def modConstable (s : State) (f : ConstableSt → ConstableSt) : State := { s with constable := f s.constable }
/-- The vote's part changed. -/
def modVote : State → (VoteSt → VoteSt) → State
  | s, f => { s with vote := f s.vote }
/-- The vital cycle's part changed. -/
def modCyc (s : State) (f : CycleSt → CycleSt) : State := { s with cyc := f s.cyc }
/-- The host link's part changed. -/
def modHost : State → (HostSt → HostSt) → State
  | s, f => { s with host := f s.host }
/-- The update's part changed. -/
def modUpdate (s : State) (f : UpdateSt → UpdateSt) : State := { s with update := f s.update }
/-- The twin's part changed. -/
def modTwin : State → (TwinSt → TwinSt) → State
  | s, f => { s with twin := f s.twin }
/-- The on-line change's part changed. -/
def modChange (s : State) (f : ChangeSt → ChangeSt) : State := { s with change := f s.change }
/-- The Commons changed. -/
def modCommons : State → (CommonsSt → CommonsSt) → State
  | s, f => { s with commons := f s.commons }
/-- The bus engine's part changed. -/
def modEngine (s : State) (f : BusSt → BusSt) : State := { s with bus := f s.bus }
/-- The sessions' part changed. -/
def modSessions : State → (SessionsSt → SessionsSt) → State
  | s, f => { s with sessions := f s.sessions }
/-- The part of ageing, counters and trace changed. -/
def modAge (s : State) (f : AgeSt → AgeSt) : State := { s with age := f s.age }

/-! ### What several commands share -/

/-- A re-admission attempt of the lane has failed (R67): its state is Excluded, its result says at which step, the host has to ask for
the next one, and the lane's Notice source names lane, cycle and step. -/
def AttemptFailed (s s' : State) (ln : Lane) (result : U8) (at_ : Nat) : Prop :=
  (s'.lanes.get ln).state = 1 ∧ (s'.lanes.get ln).lastResult = result ∧ (s'.lanes.get ln).failed = true ∧
    (s'.lanes.get ln).hostAsked = false ∧ (∀ k, k ≠ ln → s'.lanes.get k = s.lanes.get k) ∧
    Raised s s' (laneBase ln + 6) (u32 (laneNo ln)) s.cyc.number (u32 at_) ∧ Frame [.now, .lanes, .constable] s s'

/-- What the end of a lane's Intake and steps 1 and 2 of its Logic leave (R57, R111, R124): the snapshot is complete, the variables and
digests are of what it holds, and after a program switch the digests stay those of the old map (R153). -/
def intakeDone (s : State) (ln : Lane) (run : ProgramRun) : State :=
  let s1 := modLane s ln fun x => { x with
    complete := true, held := true, logicLast := run.micros, logicPeak := max x.logicPeak run.micros }
  let held := heldBytes s1 ln
  logicVars (if s.change.switched then s1 else intakeVars s1 ln held) ln held

/-- A mode request that waits for the next cycle's S, in place of any earlier one (R312). -/
def requestHeld (s : State) (v : Nat) : State :=
  { s with host := { s.host with request := u8 v, outcome := 0, modeReq := some (u8 v, s.now) } }

/-- What every start leaves (R351): no route, no session and no waiting command, and a mode of the start or one that it leads to. -/
def Begun (s' : State) : Prop :=
  s'.commons.slots = [] ∧ s'.sessions.slots = [] ∧ s'.cyc.cmdq = [] ∧
    (s'.modes.mode = .start ∨ s'.modes.mode = .watch ∨ s'.modes.mode = Mode.split ∨ s'.modes.mode = .safeState)

/-- What a start reads at Kutia's contacts: the seal, the pairing preference on it, and the position (R349, R388, R287). -/
def SealRead (s' : State) (env : StartEnv) : Prop :=
  s'.modes.sealStart = env.switches ∧ s'.modes.sealNow = env.switches ∧ s'.twin.preference = preferenceOf env.switches ∧
    s'.host.position = env.straps.toNat ∧ s'.host.serving = true

/-- A drive group has just been Locked out with a reason (R188, R189): its lock is held, its source names the group, the reason and the
element, and nothing beyond elements, groups, commands and the Constable is touched. -/
def GroupLockedOut (s s' : State) (g e : Nat) (reason : U8) : Prop :=
  (groupSt s' g).state = 6 ∧ (groupSt s' g).reason = reason ∧ (groupSt s' g).lock = true ∧ (groupSt s' g).lockTime = s'.now ∧
    Raised s s' (72 + g) (u32 g) (u32 reason.toNat) (u32 e) ∧ Frame [.now, .points, .cyc, .constable] s s'

/-- The field side is at its power-up state (R204, R217): unconfigured, the latch set, epoch 0, nothing driven. -/
def PoweredUp (s' : State) : Prop :=
  s'.field.unconf = true ∧ s'.field.config = none ∧ s'.field.flost = true ∧ s'.field.epoch = 0 ∧ Dark s'

/-- The outputs that latch with output `d`: every one paralleled with it (R212). -/
def latchedWith (s : State) (d : Nat) : List Nat := (s.field.config.map fun c => outputGroup c d).getD [d]

/-- An output fault has latched (R214): DOFLT of the output and of what is paralleled with it, the output off, and source 68 with the
output, the reason and IOUT. -/
def OutputLatched (s s' : State) (d : Nat) (reason : U32) : Prop :=
  (∀ k ∈ latchedWith s d, k < 24 → s'.field.doflt.getLsbD k = true) ∧ s'.field.gate.getLsbD d = false ∧
    Raised s s' 68 (u32 d) reason (u32 s.field.iout) ∧ Frame [.now, .field, .constable] s s'

/-- A Book record after one more occurrence of the event of `newest` (R382): counted in it, every other record as it was. -/
def counted (newest x : BookRec) : BookRec := if x.seq = newest.seq then { x with rcount := x.rcount + 1, rpt := true } else x

/-- What every valid frame on the Twin link leaves at `t` (R393): it is counted, the link is up and the peer heard; role and snapshot
stay. -/
def TwinHeard (t : Time) (s s' : State) : Prop :=
  s'.twin.valid = s.twin.valid + 1 ∧ s'.twin.link = true ∧ s'.twin.heardAt = some t ∧ s'.twin.role = s.twin.role ∧
    s'.twin.newest = s.twin.newest ∧ Frame [.now, .twin, .constable] s s'

/-- A Twin frame whose CRC does not fit is counted, and nothing else (R393). -/
def twinDiscarded (s : State) : State := modTwin s fun y => { y with discarded := y.discarded + 1 }

/-- A message has taken its sender's tag in a direction of a lane's Stile, and arrived with the tag that was expected (R322, R323). -/
def MessageTagged (s s' : State) (ln : Lane) (dir : Dir) : Prop :=
  let x := (stile s ln).side dir
  let y := (stile s' ln).side dir
  y.tag = x.tag + 1 ∧ y.posted = x.posted + 1 ∧ y.expect = x.expect + 1 ∧ y.hist = keepHistory x.hist

/-- A message stands in the P queue as its last entry (R317, R322). -/
def MessageQueued (s s' : State) (ln : Lane) (dir : Dir) (m : StileMsg) : Prop :=
  MessageTagged s s' ln dir ∧ Frame [.now, .stiles, .draws] s s' ∧
    ((stile s' ln).side dir).queue.getLast? =
          some ⟨((stile s ln).side dir).tag, .message { m with tag := ((stile s ln).side dir).tag }, s'.now⟩

/-- A message has been delivered, and with it everything that was posted before it (R318, R322). -/
def MessageHeard (s s' : State) (ln : Lane) (dir : Dir) (m : StileMsg) : Prop :=
  MessageTagged s s' ln dir ∧ ((stile s' ln).side dir).queue = [] ∧
    ((stile s' ln).side dir).got = some { m with tag := ((stile s ln).side dir).tag }

/-- An update's action was taken (Table 15-7): its state is `n`, and no installed image has changed. -/
def UpdateStands (s s' : State) (n : Nat) : Prop :=
  s'.update.state = n ∧ s'.update.images = s.update.images ∧ Frame [.now, .update, .constable, .host] s s'

end Sys2Proof.Machine
end

