-- ==== Sys2Proof/Certificates/Slice0/Obligations.lean ====
section
/-!
DEFINITION. The statements for the provers. Each says of every state, and of every operand that its hypotheses admit, what commands
of the block answer. A statement of several commands is a conjunction; a clause about one of them stands by itself.
-/

section
open Sys2Proof Sys2Proof.Machine

/-- One step takes the command at the front of the queue, and runs it on the state with the queue's rest; on an empty queue the
block idles (the model's choice, log entry 1). -/
def Obligations.StepRunsTheFrontCommand : Prop :=
  ∀ (c : Instr) (rest : List Instr) (s : State),
    step (s.withQueue (c :: rest)) = exec c (s.withQueue rest) ∧ step (s.withQueue []) = .next (s.withQueue [])

/-- The unpowered module: mode Off, both kill lines stopped, no output on, the field side unconfigured with its latch set, no Grave
latch, no cycle, no session, no image, nothing waiting. -/
def Obligations.ResetIsDarkAndEmpty : Prop :=
  State.reset.modes.mode = .off ∧ State.reset.constable.kill = false ∧ State.reset.constable.grave = false ∧
    Dark State.reset ∧ State.reset.field.unconf = true ∧ State.reset.field.flost = true ∧ State.reset.cyc.running = false ∧
    State.reset.cyc.cmdq = [] ∧ State.reset.sessions.slots = [] ∧ State.reset.commons.slots = [] ∧
    State.reset.update.images = [] ∧ State.reset.pending = [] ∧ KillStopped State.reset

/-- Every command, whatever its operands, has a next state in every state, and leaves the queue of waiting commands alone: none ends
in a fault or a refusal. Every step answers a next state, whose queue is the rest of the queue. -/
def Obligations.CommandsAndStepsAlwaysGoOn : Prop :=
  (∀ (c : Instr) (s : State), ∃ s', exec c s = .next s' ∧ s'.pending = s.pending) ∧
  (∀ s : State, ∃ s', step s = .next s' ∧ s'.pending = s.pending.tail)

/-- In Off, Safe State and Shutdown no kill line runs and no cycle runs: every step from a state where this holds leads to one where
it holds, whatever the command (R344, R355, R356, R373). -/
def Obligations.StoppedModesStayDark : Prop :=
  ∀ s s' : State, KillStopped s → step s = .next s' → KillStopped s'

/-- The installed images change by nothing but the end of an activation, the end of a rollback, and the installed-program record
(R424, R425, R156). -/
def Obligations.ImagesChangeOnlyByTheirSteps : Prop :=
  ∀ (c : Instr) (s s' : State), exec c s = .next s' →
    (∀ t env, c ≠ .activationComplete t env) → (∀ t env, c ≠ .rollbackComplete t env) → (∀ t, c ≠ .installedRecordWritten t) →
    s'.update.images = s.update.images

/-- A fault that a lane's own checkers find, with three lanes in the vote: the checker's count, the lane's source with lane, cycle
and place, and the lane is out of the vote (R39, R40, R41, R43, R48, R69); two equal results, and those of the independent cores of a
Split Mill (R343), are no mismatch. What the cycle's own judgements exclude a lane for, with
three lanes in the vote: a disagreement streak of 3 (R59), 3 misses in 64 cycles, at the end of the Vote phase, or a lane still in
Logic at the end of the cycle (R112, R113). Each of these commands answers a next state with its own effect: illegalDualRailCode,
handshakeStall, retirementMismatch, loomSliceMismatch, disagreementExclusion, cycleMissExclusion. -/
def Obligations.LanesAreExcluded : Prop :=
  (∀ (t held : Time) (s : State) (ln mill : Lane) (stage : Fin 64) (p : U32) (x y : Retired) (v w : U64), AllVoting s →
     (Raisable s t (laneBase ln) →
       Answers (.illegalDualRailCode t ln ⟨stage, true, true⟩) s fun s' =>
         LaneLost s s' ln (laneBase ln) (u32 (laneNo ln)) s.cyc.number (u32 stage.val) ∧
           (s'.lanes.get ln).illegal = (s.lanes.get ln).illegal + 1) ∧
     (us 50 ≤ held → Raisable s t (laneBase ln + 1) →
       Answers (.handshakeStall t ln ⟨stage, held⟩) s fun s' =>
         LaneLost s s' ln (laneBase ln + 1) (u32 (laneNo ln)) s.cyc.number (u32 stage.val) ∧
           (s'.lanes.get ln).stalls = (s.lanes.get ln).stalls + 1) ∧
     (mill ≠ .l → s.modes.mode ≠ .split → x ≠ y → Raisable s t (laneBase mill + 2) →
       Answers (.retirementMismatch t mill ⟨p, x, y⟩) s fun s' =>
         LaneLost s s' mill (laneBase mill + 2) (u32 (laneNo mill)) s.cyc.number p) ∧
     (x = y ∨ s.modes.mode = .split → Runs (.retirementMismatch t mill ⟨p, x, y⟩) s (s.atTime t)) ∧
     (v ≠ w → Raisable s t 50 →
       Answers (.loomSliceMismatch t ⟨p, v, w⟩) s fun s' => LaneLost s s' .l 50 2 s.cyc.number p)) ∧
  (∀ (t : Time) (s : State) (ln : Lane), AllVoting s →
     (3 ≤ (s.lanes.get ln).streak → (s.lanes.get ln).judged = true → Raisable s t (laneBase ln + 3) →
       Answers (.disagreementExclusion t ln) s fun s' =>
         LaneLost s s' ln (laneBase ln + 3) (u32 (laneNo ln)) s.cyc.number (s.lanes.get ln).differing ∧
           s'.vote.disagreed = s.vote.disagreed + 1) ∧
     (Raisable s t (laneBase ln + 4) →
       (3 ≤ ((s.lanes.get ln).misses.filter id).length ∧ s.cyc.phase ≠ 1 ∧ issueStart s ≤ t) ∨
         (s.cyc.running = true ∧ s.cyc.started = true ∧ (s.lanes.get ln).delivered = none ∧ (s.lanes.get ln).late = false ∧
           cycleEnd s ≤ t) →
       Answers (.cycleMissExclusion t ln) s fun s' =>
         LaneLost s s' ln (laneBase ln + 4) (u32 (laneNo ln)) s.cyc.number
           (u32 ((s.lanes.get ln).misses.filter id).length)) ∧
     ((s.lanes.get ln).streak < 3 → Runs (.disagreementExclusion t ln) s (s.atTime t)))

/-- Fewer than two lanes remain when a lane is lost while two are in the vote: Kutia enters Safe State (R62). Each of these commands
answers a next state with its own effect: illegalDualRailCode, handshakeStall, retirementMismatch, loomSliceMismatch. -/
def Obligations.SecondLaneLostStops : Prop :=
  ∀ (t held : Time) (s : State) (ln mill : Lane) (stage : Fin 64) (p : U32) (x y : Retired) (v w : U64), (voters s).length = 2 →
    (s.modes.mode = .stop ∨ s.modes.mode = .run ∨ s.modes.mode = .degraded ∨ s.modes.mode = .testTrack ∨ s.modes.mode = .hold ∨
      s.modes.mode = .standby) →
    (inVote s ln = true → Raisable s t (laneBase ln) →
      Answers (.illegalDualRailCode t ln ⟨stage, true, true⟩) s fun s' => Stopped s' ∧ inVote s' ln = false) ∧
    (inVote s ln = true → us 50 ≤ held → Raisable s t (laneBase ln + 1) →
      Answers (.handshakeStall t ln ⟨stage, held⟩) s fun s' => Stopped s' ∧ inVote s' ln = false) ∧
    (mill ≠ .l → inVote s mill = true → x ≠ y → Raisable s t (laneBase mill + 2) →
      Answers (.retirementMismatch t mill ⟨p, x, y⟩) s fun s' => Stopped s' ∧ inVote s' mill = false) ∧
    (inVote s .l = true → v ≠ w → Raisable s t 50 →
      Answers (.loomSliceMismatch t ⟨p, v, w⟩) s fun s' => Stopped s' ∧ inVote s' .l = false)

/-- Module-class and Grave-class sources stop the kill lines and lead to Safe State (R366): the streaks of the vote (R60, R61), the
Degraded-L limit (R64), the start limit (R351), the Constable's registers, which also set the Grave latch (R372), and a second
active module at POS_B (R407). Each of these commands answers a next state with its own effect: genericSplit, programSplit,
degradedLLimitExpiry, startTimeout, constableRegisterMismatch, twoActiveDetected. -/
def Obligations.ModuleFaultsStopKutia : Prop :=
  ∀ (t : Time) (s : State) (reg x y : U32) (bcyc : Fin 64) (pos : Fin 200),
    (cyclic s.modes.mode = true → 3 ≤ s.vote.split → Raisable s t 56 →
      Answers (.genericSplit t) s fun s' =>
        ModuleStops s s' 56 0xFF s.cyc.number (u32 (bitmap (allLanes.map fun ln => (onTime s).contains ln)))) ∧
    (cyclic s.modes.mode = true → 3 ≤ s.vote.prog → Raisable s t 57 →
      Answers (.programSplit t) s fun s' =>
        ModuleStops s s' 57 0xFF s.cyc.number none32 ∧ s'.vote.comparing = some t) ∧
    (s.cyc.running = true → On s → s.vote.limitRuns = true → s.vote.limitAt + s.vote.limitLeft ≤ t →
      inVote s .l = false → joinDue s .l = false → Raisable s t 55 →
      Answers (.degradedLLimitExpiry t) s fun s' => ModuleStops s s' 55 2 s.cyc.number (u32 s.vote.deglh)) ∧
    (s.modes.mode = .start ∨ s.modes.mode = .watch → s.modes.startAt + sec 90 ≤ t → Raisable s t 7 →
      Answers (.startTimeout t) s fun s' =>
        ModuleStops s s' 7 (u32 s.modes.step) (u32 ((t - s.modes.startAt) / ms 1)) none32) ∧
    (On s → Raisable s t 12 →
      Answers (.constableRegisterMismatch t reg x y) s fun s' =>
        ModuleStops s s' 12 reg x y ∧ s'.constable.grave = true) ∧
    (On s → 2 ≤ s.bus.diffRun → s.twin.role = .active → pairedZone s = true → atPosA s = false → Raisable s t 122 →
      Answers (.twoActiveDetected t bcyc pos) s fun s' =>
        ModuleStops s s' 122 (u32 s.host.position) (u32 bcyc.val) (u32 pos.val) ∧ s'.twin.giveCause = 0)

/-- Entering Safe State, for any cause, answers 15h to each command that is pending or was taken in this cycle without an answer, in
that order, empties the queue, ends every command taken earlier without a further result, and returns what they had reserved (R115).
-/
def Obligations.SafeStateAnswersTheQueue : Prop :=
  ∀ (s : State) (src : U8), On s →
    (enterSafeState s src).cyc.cmdq = [] ∧ (enterSafeState s src).cyc.taken = [] ∧ (enterSafeState s src).cyc.live = [] ∧
      (enterSafeState s src).cyc.ring = s.cyc.ring ++ (((s.cyc.cmdq ++ s.cyc.taken).filter fun c => !c.answered).map fun c =>
        { hseq := c.hseq, target := u16 c.target, opcode := c.opcode, result := 0x15, ref := none32, cycle := s.cyc.number }) ∧
      (enterSafeState s src).cyc.reserved =
        s.cyc.reserved - ((s.cyc.cmdq ++ s.cyc.taken ++ s.cyc.live).map Command.reserved).sum

/-- A source that is shown as reserved is never raised, whatever reports it (R364). -/
def Obligations.ReservedSourcesAreNeverRaised : Prop :=
  ∀ (s : State) (n : Nat) (forced : Bool) (p1 p2 p3 : U32), srcReserved n = true →
    raiseWith s n forced p1 p2 p3 = s ∧ (source (raise s n p1 p2 p3) n).raises = (source s n).raises ∧
      (raise s n p1 p2 p3).constable.queue = s.constable.queue

/-- The supply supervisor's readings (R357): below 42 V source 1 is raised with the reading, above 44 V it is withdrawn, and between
the two the reading is only kept. A power failure in any mode (R356): the kill lines stop, every output and the Lantern are off, no
cycle runs, every domain is off, the Steward is gone, the mode is Off, and the failure is counted; what the flash store and the
Commons hold is left alone. Each of these commands answers a next state with its own effect: vinLow, powerFail. -/
def Obligations.SupplyReadingsAndPowerFailure : Prop :=
  (∀ (t : Time) (s : State) (vin : Nat), s.modes.mode ≠ .off →
     (vin < 4200 → Quiet s 1 →
       Runs (.vinLow t vin) s (recordRaise (noteVin (s.atTime t) vin) 1 false (u32 vin) none32 none32)) ∧
     (4400 < vin → (source s 1).reported = true → Runs (.vinLow t vin) s (withdraw (noteVin (s.atTime t) vin) 1)) ∧
     (4200 ≤ vin → vin ≤ 4400 → Runs (.vinLow t vin) s (noteVin (s.atTime t) vin)) ∧
     (noteVin (s.atTime t) vin).modes.vin = vin ∧
     ((noteVin (s.atTime t) vin).modes.vinLowFrom.isSome = true ↔ vin < 4200)) ∧
  (∀ (t : Time) (s : State) (vin : Nat), s.modes.mode ≠ .off →
     Answers (.powerFail t vin) s fun s' =>
       s'.modes.mode = .off ∧ s'.modes.previous = s.modes.mode ∧ s'.constable.kill = false ∧ Dark s' ∧ s'.cyc.running = false ∧
         s'.host.serving = false ∧ (∀ d, (domain s' d).state = 0) ∧ s'.modes.fails = s.modes.fails + 1 ∧ s'.modes.lastFail = t ∧
         s'.age.counters.getD 13 0 = s.age.counters.getD 13 0 + 1 ∧ s'.update.images = s.update.images ∧
         Frame [.now, .cyc, .bus, .field, .host, .modes, .constable, .twin, .update, .age, .out, .draws] s s')

/-- A power domain whose voltage leaves its window (R358, R359): a lane's domain excludes the lane through source 3, the
supervisor's and the field side's are source 6, the debug part begins afresh without its records, and the service part loses the
command queue and the result ring, the write sequence being kept. Each of these commands answers a next state with its own effect:
powerDomainFault. -/
def Obligations.DomainFaultsReactByDomain : Prop :=
  ∀ (t : Time) (s : State) (d : Fin 8) (mv : Nat),
    ((domain s d.val).state ≠ 2 → (domain s d.val).state ≠ 3 → Runs (.powerDomainFault t d mv) s (s.atTime t)) ∧
    ((domain s d.val).state = 2 ∨ (domain s d.val).state = 3 →
      (∀ ln, domainLane d.val = some ln → AllVoting s → Raisable s t 3 →
        Answers (.powerDomainFault t d mv) s fun s' =>
          LaneLost s s' ln 3 (u32 (laneNo ln)) (u32 (0x80 + d.val)) none32 ∧ (domain s' d.val).state = 4 ∧
            (domain s' d.val).mv = mv ∧ (domain s' d.val).faults = (domain s d.val).faults + 1) ∧
      (d.val = 0 ∨ d.val = 5 ∨ d.val = 6 → On s → Raisable s t 6 →
        Answers (.powerDomainFault t d mv) s fun s' =>
          ModuleStops s s' 6 (u32 d.val) (u32 mv) none32 ∧ (domain s' d.val).state = 4 ∧ (d.val ≠ 0 → Dark s')) ∧
      (d.val = 7 → Answers (.powerDomainFault t d mv) s fun s' =>
        s'.age.fifo = [] ∧ (domain s' 7).state = 2 ∧ (domain s' 7).faults = (domain s 7).faults + 1 ∧
          Frame [.now, .modes, .constable, .age, .draws] s s') ∧
      (d.val = 4 → (∀ ln ∈ allLanes, (stile s ln).out.wait = none ∧ (stile s ln).inw.wait = none ∧ (stile s ln).inw.tag = (stile s ln).inw.expect) →
        Answers (.powerDomainFault t d mv) s fun s' =>
        s'.cyc.cmdq = [] ∧ s'.cyc.taken = [] ∧ s'.cyc.live = [] ∧ s'.cyc.ring = [] ∧ s'.cyc.reserved = 0 ∧
          s'.cyc.writeSeq = s.cyc.writeSeq ∧ s'.cyc.readSeq = s.cyc.writeSeq ∧
          s'.bus.engine = (if s.bus.engine = 7 then 7 else 1) ∧
          s'.sessions.mailbox = [] ∧ s'.twin.link = false ∧
          Frame [.now, .lanes, .cyc, .bus, .sessions, .host, .stiles, .modes, .constable, .twin, .draws] s s'))

/-- Every way into a start begins it afresh (R351): the supply's return in Off, a mode request 3 in Shutdown, a valid operation of
the reset key that two barrier channels have shown, in Shutdown, or in Safe State without the Grave latch and without an asserted
Module-class source (R345), and the end of an activation or of a rollback, in Stop at the next cycle boundary (R424, R425, R335).
Each of these commands answers a next state with its own effect: powerOn, modeRequestStop, resetKeyOperation, activationComplete,
rollbackComplete. -/
def Obligations.StartsBeginAfresh : Prop :=
  ∀ (t : Time) (s : State) (vin : Nat) (env : StartEnv) (ch : Fin 8) (k : KeyOperation),
    (s.modes.mode = .off → 3600 < vin →
      Answers (.powerOn t vin env) s fun s' => Begun s' ∧ SealRead s' env ∧ s'.modes.startAt = t) ∧
    (s.modes.mode = .shutdown → Serves s t → authorised s ch.val = true →
      Answers (.modeRequestStop t ch env) s fun s' => Begun s' ∧ SealRead s' env ∧ s'.modes.startAt = t) ∧
    (validKey k = true → keySeen k = true → fieldUp s = true →
      s.modes.mode = .shutdown ∨ (s.modes.mode = .safeState ∧ s.constable.grave = false ∧ assertedModule s = none) →
      Answers (.resetKeyOperation t k env) s fun s' => Begun s' ∧ SealRead s' env ∧ s'.modes.startAt = t) ∧
    (s.update.state = 6 → s.update.paused = false →
      (s.update.reverse = false → s.modes.mode = .stop ∨ s.modes.mode = .start →
        Answers (.activationComplete t env) s fun s' =>
          s'.update.images = imagesAfter (stagedPackage s) s.update.images ∧
            (s.modes.mode = .stop → s'.modes.mode = .stop ∧ s'.update.state = 7 ∧ s'.update.restart = true) ∧
            (s.modes.mode = .start → Begun s' ∧ s'.modes.startAt = t)) ∧
      (s.update.reverse = true → s.modes.mode = .stop ∨ s.modes.mode = .start →
        Answers (.rollbackComplete t env) s fun s' =>
          s'.update.images = s.update.former ∧ s'.update.state = 9 ∧ s'.update.rollbacks = s.update.rollbacks + 1 ∧
            (s.modes.mode = .stop → s'.modes.mode = .stop ∧ s'.update.restart = true) ∧
            (s.modes.mode = .start → Begun s' ∧ s'.modes.startAt = t))) ∧
    (s.update.restart = true → Begun (takeRestart env s) ∧ (takeRestart env s).modes.startAt = s.now ∧
      (takeRestart env s).update.restart = false)

/-- The requests for another mode (R312, R346): from an unauthorised channel 0301h, in a combination that Table 12-4 does not list
0410h, and otherwise the request waits for the next cycle's S, the earlier one being replaced. Shutdown from Split or Safe State is
entered at once (R346, R355): the kill lines stop, no cycle runs, nothing is driven, the queue is empty, no force and no waiting
request is left, the retention counter begins, and the BIST is recorded. Each of these commands answers a next state with its own
effect: modeRequestStop, modeRequestRun, modeRequestTestTrack, modeRequestHold, modeRequestShutdown. -/
def Obligations.ModeRequestsAndShutdown : Prop :=
  (∀ (t : Time) (s : State) (ch : Fin 8) (env : StartEnv), Serves s t →
     ∀ c v, (c, v) ∈ [(Instr.modeRequestStop t ch env, 3), (.modeRequestRun t ch, 4), (.modeRequestTestTrack t ch, 6),
         (.modeRequestHold t ch, 7), (.modeRequestShutdown t ch env, 11)] →
       (authorised s ch.val = false → Runs c s (refused (s.atTime t) ch 0x0301)) ∧
       (authorised s ch.val = true → requestAllowed s v = false → Runs c s (refused (s.atTime t) ch 0x0410)) ∧
       (authorised s ch.val = true → requestAllowed s v = true → appliesAtOnce s.modes.mode = false →
         Runs c s (accepted (requestHeld (s.atTime t) v) ch))) ∧
  (∀ (t : Time) (s : State) (ch : Fin 8) (env : StartEnv), Serves s t → authorised s ch.val = true →
     s.modes.mode = Mode.split ∨ (s.modes.mode = .safeState ∧ s.constable.grave = false) →
     Answers (.modeRequestShutdown t ch env) s fun s' =>
       s'.modes.mode = .shutdown ∧ s'.constable.kill = false ∧ s'.cyc.running = false ∧ s'.cyc.cmdq = [] ∧ Dark s' ∧
         s'.change.forces = [] ∧ s'.host.modeReq = none ∧ s'.modes.retention = some 0 ∧ s'.modes.bistKind = 2 ∧
         s'.modes.bistAt = t ∧ s'.update.images = s.update.images)

/-- An acknowledgement counts from the source's own handler, while its raise is pending and no force withholds it (R368, R377):
PENDING clears, the class is the configured one again, and a source that reports no state is withdrawn. Any other one changes
nothing. One that does not come before the edge at which the window expires finds the source escalated (R369). A reaction window
that expires with PENDING set raises the class by one (R369): a Lane-class source becomes Module class and stops Kutia, and one at
Module class becomes Grave class, which sets the latch. A source without an expired window is left alone. Each of these commands
answers a next state with its own effect: faultAcknowledge, reactionWindowExpiry. -/
def Obligations.AcknowledgementsAndWindows : Prop :=
  (∀ (t : Time) (s : State) (src : Fin 128) (l : List Lane),
     (windowExpired (s.atTime t) src.val = false →
      (srcHandler src.val = 1 → votedAck s l = true → (source s src.val).pending = true → (source s src.val).setting ≠ 2 →
       Runs (.faultAcknowledge t src (.lanes l)) s (modSource (s.atTime t) src.val fun x => { x with
         pendingR := .bit false, escalatedR := .bit false, effective := srcClass src.val
         assertedR := .bit (x.reported || isForced x) })) ∧
     (srcHandler src.val = 2 → Serves s t → (source s src.val).pending = true → (source s src.val).setting ≠ 2 →
       Runs (.faultAcknowledge t src .steward) s (modSource (s.atTime t) src.val fun x => { x with
         pendingR := .bit false, escalatedR := .bit false, effective := srcClass src.val
         assertedR := .bit (x.reported || isForced x) })) ∧
     ((source s src.val).pending = false → ∀ who, Runs (.faultAcknowledge t src who) s (s.atTime t)) ∧
     (srcHandler src.val ≠ 1 ∨ votedAck s l = false → Runs (.faultAcknowledge t src (.lanes l)) s (s.atTime t)) ∧
     (srcHandler src.val ≠ 2 → Runs (.faultAcknowledge t src .steward) s (s.atTime t))) ∧
     (windowExpired (s.atTime t) src.val = true → On s → src.val ∉ ([22, 38, 54, 111] : List Nat) →
       2 ≤ srcEffective src.val (source s src.val) → srcEffective src.val (source s src.val) ≤ 3 →
       ∀ who, Answers (.faultAcknowledge t src who) s fun s' =>
         Stopped s' ∧ (source s' src.val).escalations = (source s src.val).escalations + 1)) ∧
  (∀ (t : Time) (s : State) (src : Fin 128),
     (windowExpired (s.atTime t) src.val = false → Runs (.reactionWindowExpiry t src) s (s.atTime t)) ∧
     (windowExpired (s.atTime t) src.val = true → On s →
       src.val ∉ ([22, 38, 54, 111] : List Nat) →
       2 ≤ srcEffective src.val (source s src.val) → srcEffective src.val (source s src.val) ≤ 3 →
       Answers (.reactionWindowExpiry t src) s fun s' =>
         Stopped s' ∧ (source s' src.val).effective = srcEffective src.val (source s src.val) + 1 ∧
           (source s' src.val).escalated = true ∧
           (source s' src.val).escalations = (source s src.val).escalations + 1 ∧
           (srcEffective src.val (source s src.val) = 3 → s'.constable.grave = true)))

/-- The seal while Kutia is stopped (R350, R367): a changed reading is kept and is event 0014h, and raises nothing; in Safe State
source 2 is withdrawn when the seal equals the start reading again. In other modes these samples are not taken by these steps. The
proof of the checkers (R374, R375): when a proof is due, 4.5 s after the one before, a checker that reports moves the sweep on by
one, and the 18,944th completes it; outside the sweep modes and before that time none is made; a request starts a sweep on demand
where none runs; 25 h without a completed sweep raise source 15. Each of these commands answers a next state with its own effect:
sealChangedWhileStopped, constableSealSample, checkerProof, sweepRequest, proofSweepOverdue. -/
def Obligations.SealSamplesAndProofSweeps : Prop :=
  (∀ (t : Time) (s : State) (w : BitVec 24),
     (s.modes.mode = .shutdown → w ≠ s.modes.sealNow →
       Runs (.sealChangedWhileStopped t w) s
         (bookEvent (modModes (s.atTime t) fun x => { x with sealNow := w }) 0x0014 (u32 s.modes.sealStart.toNat) (u32 w.toNat) 11)) ∧
     (s.modes.mode ≠ .shutdown → Runs (.sealChangedWhileStopped t w) s (s.atTime t)) ∧
     (s.modes.mode = .safeState → w ≠ s.modes.sealNow → w ≠ s.modes.sealStart →
       Runs (.constableSealSample t w) s
         (bookEvent (modModes (s.atTime t) fun x => { x with sealNow := w }) 0x0014 (u32 s.modes.sealStart.toNat) (u32 w.toNat) 10)) ∧
     (s.modes.mode = .safeState → w = s.modes.sealStart → (source s 2).reported = true → w = s.modes.sealNow →
       Runs (.constableSealSample t w) s (withdraw (s.atTime t) 2)) ∧
     (s.modes.mode ≠ .safeState → Runs (.constableSealSample t w) s (s.atTime t))) ∧
  (∀ (t : Time) (s : State) (ch : Fin 8) (value : U8),
     (proofDue (s.atTime t) = true → s.constable.onDemand = false → s.constable.proved + 1 < 18944 →
       Runs (.checkerProof t true) s
         (modConstable (noteProof (s.atTime t)) fun x => { x with proved := s.constable.proved + 1 })) ∧
     (proofDue (s.atTime t) = true → s.constable.onDemand = false → s.constable.proved + 1 = 18944 →
       Runs (.checkerProof t true) s (modConstable (noteProof (s.atTime t)) fun x => { x with
         sweeps := x.sweeps + 1, sweepEnd := t, provedReq := 0, proved := 0 })) ∧
     (sweepMode s.modes.mode = false ∨ (s.constable.onDemand = false ∧ s.constable.proofAt.any (fun x => t < x + ms 4500)) →
       ∀ b, Runs (.checkerProof t b) s (s.atTime t)) ∧
     (Serves s t → authorised s ch.val = true → value = 1 → sweepMode s.modes.mode = true → s.constable.onDemand = false →
       Runs (.sweepRequest t ch value) s
         (accepted (modConstable (s.atTime t) fun x => { x with onDemand := true, provedReq := 0 }) ch)) ∧
     (Serves s t → authorised s ch.val = true → value = 1 → sweepMode s.modes.mode = false ∨ s.constable.onDemand = true →
       Runs (.sweepRequest t ch value) s (refused (s.atTime t) ch 0x0474)) ∧
     (s.modes.mode ≠ .off → Quiet s 15 → max s.constable.sweepEnd s.modes.startAt + sec 90000 ≤ t →
       Runs (.proofSweepOverdue t) s (recordRaise (s.atTime t) 15 false (u32 (18944 - nextChecker s))
         (u32 ((t - max s.constable.sweepEnd s.modes.startAt) / sec 3600)) 0)))

/-- Forcing a source (R377): a value above 2, or other than 0 for a reserved source, is 0230h; a Grave-class source 0471h; outside
Test Track and Hold 0470h; a Notice or Minor source that is not asserted is raised as forced and held; and 0 releases the force.
Each of these commands answers a next state with its own effect: force. -/
def Obligations.ForcesFollowTheirChecks : Prop :=
  ∀ (t : Time) (s : State) (ch : Fin 8) (src : Fin 128) (v : U8), Serves s t →
    (authorised s ch.val = false → Runs (.force t ch src v) s (refused (s.atTime t) ch 0x0301)) ∧
    (authorised s ch.val = true → 2 < v.toNat ∨ (v ≠ 0 ∧ srcReserved src.val = true) →
      Runs (.force t ch src v) s (refused (s.atTime t) ch 0x0230)) ∧
    (authorised s ch.val = true → 1 ≤ v.toNat → v.toNat ≤ 2 → srcReserved src.val = false → srcClass src.val = 4 →
      Runs (.force t ch src v) s (refused (s.atTime t) ch 0x0471)) ∧
    (authorised s ch.val = true → 1 ≤ v.toNat → v.toNat ≤ 2 → srcReserved src.val = false → srcClass src.val ≠ 4 →
      s.modes.mode ≠ .testTrack → s.modes.mode ≠ .hold →
      Runs (.force t ch src v) s (refused (s.atTime t) ch 0x0470)) ∧
    (authorised s ch.val = true → 1 ≤ v.toNat → v.toNat ≤ 2 → srcClass src.val ≤ 1 → Quiet s src.val →
      s.modes.mode = .testTrack ∨ s.modes.mode = .hold →
      Answers (.force t ch src v) s fun s' =>
        (source s' src.val).setting = v ∧ (source s' src.val).asserted = true ∧ (source s' src.val).forcedRaise = true ∧
          (source s' src.val).raises = (source s src.val).raises + 1 ∧ (∀ n, n ≠ src.val → source s' n = source s n) ∧
          Frame [.now, .host, .constable] s s') ∧
    (authorised s ch.val = true → v = 0 →
      Runs (.force t ch src v) s (accepted (modSource (s.atTime t) src.val fun x => { x with
        setting := 0, assertedR := .bit (x.asserted && (x.pending || x.reported)) }) ch))

/-- A request for re-admission (R72): 0230h for a value outside 1 to 3, 0430h when the lane is in the vote, 0431h after three
attempts in 24 h, 0432h in a mode that forbids it, 0433h when one is waiting or running; otherwise it waits at step 2. The attempt
of Table 02-4, steps 2 to 6 (R65, R67): it starts after 5 s, or when the host has asked, in a mode that permits it and within three
in 24 h, and is counted; each step that passes leads to the next, with its lane in the next state; the copy ends at a boundary. Each
of these commands answers a next state with its own effect: readmitRequest, readmissionAttemptStart, laneBistDone, laneLoadDone,
copyComplete. -/
def Obligations.ReadmissionFollowsTheTable : Prop :=
  (∀ (t : Time) (s : State) (ch : Fin 8) (v : U8), Serves s t →
     (v = 0 ∨ 3 < v.toNat → Runs (.readmitRequest t ch v) s (refused (s.atTime t) ch 0x0230)) ∧
     ∀ ln, v.toNat = laneNo ln + 1 →
       ((s.lanes.get ln).state = 0 → Runs (.readmitRequest t ch v) s (refused (s.atTime t) ch 0x0430)) ∧
       ((s.lanes.get ln).state ≠ 0 → 3 ≤ (recentAttempts (s.atTime t)).length →
         Runs (.readmitRequest t ch v) s (refused (s.atTime t) ch 0x0431)) ∧
       ((s.lanes.get ln).state ≠ 0 → (recentAttempts (s.atTime t)).length < 3 → readmits s = false →
         Runs (.readmitRequest t ch v) s (refused (s.atTime t) ch 0x0432)) ∧
       ((s.lanes.get ln).state ≠ 0 → (recentAttempts (s.atTime t)).length < 3 → readmits s = true → (s.lanes.get ln).state ≠ 1 →
         Runs (.readmitRequest t ch v) s (refused (s.atTime t) ch 0x0433)) ∧
       ((s.lanes.get ln).state = 1 → (recentAttempts (s.atTime t)).length < 3 → readmits s = true →
         Runs (.readmitRequest t ch v) s
           (accepted (modLane (s.atTime t) ln fun x => { x with state := 2, hostAsked := true }) ch))) ∧
  (∀ (t : Time) (s : State) (ln : Lane),
     ((s.lanes.get ln).state = 2 → (s.lanes.get ln).hostAsked = true ∨ (s.lanes.get ln).since + sec 5 ≤ t → readmits s = true →
       (recentAttempts (s.atTime t)).length < 3 →
       Runs (.readmissionAttemptStart t ln) s
         (modVote (modLane (s.atTime t) ln fun x => { x with state := 3, since := t, source := some (copySource ln), bistOk := false, stages := [], stores := [] })
           fun v => { v with attempts := recentAttempts (s.atTime t) ++ [t] })) ∧
     ((s.lanes.get ln).state = 3 → Runs (.laneBistDone t ln true) s
       (domainUp (modLane (s.atTime t) ln fun x => { x with state := 4, since := t, bistOk := true }) (laneNo ln + 1))) ∧
     ((s.lanes.get ln).state = 4 → s.stationOk = true → copyGood s [] ln = true →
       Runs (.laneLoadDone t ln false) s
       (modLane (s.atTime t) ln fun x => { x with
         state := 5, since := t, loadCode := 0, loadRef := none32, loadCommit := ownCommit s })) ∧
     ((s.lanes.get ln).state = 5 → ∀ src, (s.lanes.get ln).source = some src → inVote s src = true → atBoundary (s.atTime t) = true →
       Runs (.copyComplete t ln) s (modLane (s.atTime t) ln fun x => { x with
         state := 6, since := t, matching := 0, shadows := 0, claims := copyOf s, current := true
         vars := copiedVars s ln src })))

/-- Step 7 (R65, R338): at a boundary after 16 matching shadow cycles the lane is in the vote again, its misses 0 and its streak as
it was, and with three lanes Degraded becomes Run; the Loom's 24 h in the vote restore the Degraded-L limit (R64). What fails an
attempt (R65, R67): a failed BIST at step 3, a failed load check at step 4, and the limit of the step under way. Each of these
commands answers a next state with its own effect: shadowJoin, degradedLTimerRestore, laneBistDone, laneLoadDone,
readmissionStepTimeout. -/
def Obligations.AttemptsEndInTheVoteOrFail : Prop :=
  (∀ (t : Time) (s : State) (ln : Lane),
     ((s.lanes.get ln).state = 6 → 16 ≤ (s.lanes.get ln).matching → atBoundary (s.atTime t) = true →
       Answers (.shadowJoin t ln) s fun s' =>
         (s'.lanes.get ln).state = 0 ∧ (s'.lanes.get ln).lastResult = 1 ∧ (s'.lanes.get ln).failed = false ∧
           (s'.lanes.get ln).streak = (s.lanes.get ln).streak ∧ (s'.lanes.get ln).misses = [] ∧ (∀ k, k ≠ ln →
             s'.lanes.get k = s.lanes.get k) ∧
           s'.modes.mode = (if s.modes.mode = .degraded ∧ (voters s).length = 2 then .run else s.modes.mode) ∧
           Frame [.now, .lanes, .vote, .modes, .constable, .host] s s') ∧
     ((s.lanes.get ln).state ≠ 6 ∨ (s.lanes.get ln).matching < 16 ∨ atBoundary (s.atTime t) = false → Runs (.shadowJoin t ln) s (s.atTime t)) ∧
     (∀ x, inVote s .l = true → s.vote.loomSince = some x → x + sec 86400 ≤ t →
       Runs (.degradedLTimerRestore t) s
         (modVote (s.atTime t) fun v => { v with limitLeft := v.deglh * sec 3600, limitRuns := false })) ∧
     (inVote s .l = false → Runs (.degradedLTimerRestore t) s (s.atTime t))) ∧
  (∀ (t : Time) (s : State) (ln : Lane), (source s (laneBase ln + 6)).asserted = false →
     ((s.lanes.get ln).state = 3 →
       Answers (.laneBistDone t ln false) s fun s' => AttemptFailed s s' ln 2 3) ∧
     ((s.lanes.get ln).state = 4 →
       Answers (.laneLoadDone t ln true) s fun s' => AttemptFailed s s' ln 3 4) ∧
     ((s.lanes.get ln).state = 3 → (s.lanes.get ln).since + ms 2700 ≤ t →
       Answers (.readmissionStepTimeout t ln) s fun s' => AttemptFailed s s' ln 2 3) ∧
     ((s.lanes.get ln).state = 4 → (s.lanes.get ln).since + ms 4000 ≤ t →
       Answers (.readmissionStepTimeout t ln) s fun s' => AttemptFailed s s' ln 3 4) ∧
     ((s.lanes.get ln).state = 5 → (s.lanes.get ln).since + ms 30000 ≤ t →
       Answers (.readmissionStepTimeout t ln) s fun s' => AttemptFailed s s' ln 4 5) ∧
     ((s.lanes.get ln).state = 6 → 256 ≤ (s.lanes.get ln).shadows →
       Answers (.readmissionStepTimeout t ln) s fun s' => AttemptFailed s s' ln 5 6) ∧
     ((s.lanes.get ln).state < 3 ∨ 6 < (s.lanes.get ln).state → Runs (.readmissionStepTimeout t ln) s (s.atTime t)))

/-- The front of the queue is written (R378, R381): a record of its own takes the next sequence number, in the circulating area and,
as one of the first 1,024, in the founding one; an event equal to the newest record adds to its count instead (R382). An escalation
is written with the SEQ of its raise (R380). The Book is cleared by the value of 2500:01 alone, and not while a Module-class source,
the Grave latch, Start or Shutdown forbids it (R383): both areas are empty, and event 7060h comes first. The first CLASS 2 variable
in which the Mills differ, or FFFFFFFFh 20 ms after the raise, joins the record of source 57 that waits for it (R61); an empty queue
writes nothing. Each of these commands answers a next state with its own effect: bookWrite, bookClear, programSplitComparisonEnd. -/
def Obligations.BookIsWrittenMergedAndCleared : Prop :=
  (∀ (t : Time) (s : State) (q x : BookRec) (rest : List BookRec) (n : Nat), s.constable.queue = q :: rest →
     awaitsComparison s q = false → withRaiseSeq s q = x →
     ((∀ y, s.constable.circ.getLast? = some y → sameEvent x y = false) →
       Answers (.bookWrite t n) s fun s' =>
         s'.constable.nextSeq = s.constable.nextSeq + 1 ∧ s'.constable.latest = x.time ∧
           s'.constable.circ = (if s.constable.circ.length < 131072 then s.constable.circ else s.constable.circ.drop 1) ++
             [{ x with seq := s.constable.nextSeq }] ∧
           s'.constable.founding = (if s.constable.founding.length < 1024 then
             s.constable.founding ++ [{ x with seq := s.constable.nextSeq, found := true }] else s.constable.founding)) ∧
     (∀ y, s.constable.circ.getLast? = some y → sameEvent x y = true → y.rcount < 65535 →
       Answers (.bookWrite t n) s fun s' =>
         s'.constable.nextSeq = s.constable.nextSeq ∧ s'.constable.latest = x.time ∧
           s'.constable.circ = s.constable.circ.map (counted y) ∧ s'.constable.founding = s.constable.founding.map (counted y)) ∧
     (∀ y, s.constable.circ.getLast? = some y → sameEvent x y = true → 65535 ≤ y.rcount →
       Answers (.bookWrite t n) s fun s' =>
         s'.constable.nextSeq = s.constable.nextSeq ∧ s'.constable.latest = x.time ∧ s'.constable.circ = s.constable.circ ∧
           s'.constable.founding = s.constable.founding)) ∧
  (∀ (t : Time) (s : State) (ch : Fin 8) (v : U32),
     (Serves s t → authorised s ch.val = true → v ≠ s.constable.nextSeq →
       Runs (.bookClear t ch v) s (refused (s.atTime t) ch 0x0473)) ∧
     (Serves s t → authorised s ch.val = true → v = s.constable.nextSeq →
       (assertedModule s).isSome = true ∨ s.constable.grave = true ∨ s.modes.mode = .start ∨ s.modes.mode = .shutdown →
       Runs (.bookClear t ch v) s (refused (s.atTime t) ch 0x0472)) ∧
     (Serves s t → authorised s ch.val = true → v = s.constable.nextSeq → assertedModule s = none → s.constable.grave = false →
       s.modes.mode ≠ .start → s.modes.mode ≠ .shutdown →
       Answers (.bookClear t ch v) s fun s' =>
         s'.constable.circ = [] ∧ s'.constable.founding = [] ∧ s'.constable.nextSeq = s.constable.nextSeq ∧
           s'.constable.lastClear = t ∧ s'.constable.queue.tail = s.constable.queue ∧
           (∀ x, s'.constable.queue.head? = some x → x.code = 0x7060 ∧ x.found = true ∧ x.p1 = s.constable.nextSeq - 1 ∧
             x.p2 = u32 ch.val) ∧
           Frame [.now, .constable, .host] s s') ∧
     (∀ at', s.vote.comparing = some at' → t < at' + ms 20 → Runs (.programSplitComparisonEnd t false) s (s.atTime t)) ∧
     (∀ at', s.vote.comparing = some at' → t < at' + ms 20 →
       Answers (.programSplitComparisonEnd t true) s fun s' =>
         s'.vote.comparing = none ∧ s'.constable.queue = s.constable.queue.map (fun x => if x.code = 0x3809 ∧ x.time = at' then
           { x with p3 := (s.program.pair.map fun p => firstDiffering p.va s.lanes.a.vars s.lanes.b.vars).getD none32 } else x) ∧
           Frame [.now, .vote, .constable] s s') ∧
     (∀ at' ended, s.vote.comparing = some at' → at' + ms 20 ≤ t →
       Answers (.programSplitComparisonEnd t ended) s fun s' =>
         s'.vote.comparing = none ∧ s'.constable.queue = s.constable.queue.map (fun x =>
           if x.code = 0x3809 ∧ x.time = at' then { x with p3 := none32 } else x) ∧ Frame [.now, .vote, .constable] s s') ∧
     (s.constable.queue = [] → Runs (.bookWrite t 0) s (s.atTime t)))

/-- A command record written to A800:01 (R134, R137, R337): 0241h for FLAGS or PARAM outside Table 04-12, 0616h when the queue or
the ring is full; in Start, Split, Safe State and Shutdown a 15h result at once, kept in the route's record too (R102); otherwise it
waits at the end of the queue, stamped, marked with its channel and its authorisation, with two records reserved. Each of these
commands answers a next state with its own effect: setRoute, cancelRoute, emergencyReleaseArm, emergencyReleaseConfirm, pointMove,
pointBlock, pointUnblock, sectionReset, pointStop, signalBlock, signalUnblock. -/
def Obligations.CommandsJoinTheQueue : Prop :=
  ∀ (t : Time) (s : State) (ch : Fin 8) (p : U32) (a : CmdArgs), Serves s t →
    ∀ c op param, (c, op, param) ∈ [(Instr.setRoute t ch p a, 1, p), (.cancelRoute t ch p a, 2, p),
        (.emergencyReleaseArm t ch a, 3, 1), (.emergencyReleaseConfirm t ch a, 3, 2), (.pointMove t ch p a, 0x10, p),
        (.pointBlock t ch a, 0x11, 1), (.pointUnblock t ch a, 0x11, 0), (.sectionReset t ch p a, 0x12, p),
        (.pointStop t ch p a, 0x13, p), (.signalBlock t ch a, 0x20, 1), (.signalUnblock t ch a, 0x20, 0)] →
      (a.flags ≠ 0 ∨ paramOk op param.toNat = false → Runs c s (refused (s.atTime t) ch 0x0241)) ∧
      (a.flags = 0 → paramOk op param.toNat = true →
        256 ≤ s.cyc.cmdq.length ∨ 4096 < s.cyc.ring.length + s.cyc.reserved + 2 →
        Runs c s (refused (modCyc (s.atTime t) fun x => { x with refusedFull := x.refusedFull + 1 }) ch 0x0616)) ∧
      (a.flags = 0 → paramOk op param.toNat = true → s.cyc.cmdq.length < 256 →
        s.cyc.ring.length + s.cyc.reserved + 2 ≤ 4096 → takesNone s.modes.mode = false →
        Runs c s (accepted (modCyc (s.atTime t) fun x => { x with
          cmdq := x.cmdq ++ [Recorded s t ch (u8 op) param a], reserved := x.reserved + 2 }) ch)) ∧
      (a.flags = 0 → paramOk op param.toNat = true → s.cyc.cmdq.length < 256 →
        s.cyc.ring.length + s.cyc.reserved + 2 ≤ 4096 → takesNone s.modes.mode = true →
        Answers c s fun s' =>
          s'.cyc.ring = s.cyc.ring ++ [⟨a.hseq, u16 a.target.toNat, u8 op, 0x15, none32, s.cyc.number⟩] ∧
          s'.cyc.writeSeq = s.cyc.writeSeq + 1 ∧ s'.cyc.cmdq = s.cyc.cmdq ∧ s'.cyc.reserved = s.cyc.reserved ∧
          (op ≤ 3 → (routeSt s' a.target.toNat).result = 0x15 ∧ (routeSt s' a.target.toNat).ref = none32) ∧
          Frame [.now, .cyc, .host, .commons, .constable] s s')

/-- The host frees records of the ring by advancing the read sequence, from where it stands up to the write sequence and no further
(R142). A boundary record that arrives in an open session waits, with its arrival stamp, for the first snapshot that is later;
without an open session it is not taken (R96, R109). Each of these commands answers a next state with its own effect:
readSequenceAdvance, boundaryReq, boundaryGrant, boundaryRefuse, boundaryState, boundaryCancel, boundaryRelease. -/
def Obligations.RingReadsAndBoundaryRecords : Prop :=
  (∀ (t : Time) (s : State) (ch : Fin 8) (v : U32), Serves s t →
     ((v - s.cyc.readSeq).toNat ≤ (s.cyc.writeSeq - s.cyc.readSeq).toNat →
       Runs (.readSequenceAdvance t ch v) s
         (accepted (modCyc (s.atTime t) fun x => { x with
           readSeq := v, ring := s.cyc.ring.drop (v - s.cyc.readSeq).toNat }) ch)) ∧
     ((s.cyc.writeSeq - s.cyc.readSeq).toNat < (v - s.cyc.readSeq).toNat →
       Runs (.readSequenceAdvance t ch v) s (refused (s.atTime t) ch 0x0230))) ∧
  (∀ (t : Time) (s : State) (k : Fin 512) (b : BoundaryRec),
     ∀ c msg, (c, msg) ∈ [(Instr.boundaryReq t k b, 1), (.boundaryGrant t k b, 2), (.boundaryRefuse t k b, 3),
         (.boundaryState t k b, 4), (.boundaryCancel t k b, 5), (.boundaryRelease t k b, 6)] →
       ((sess s k.val).state = 2 →
         Runs c s (modSessions (s.atTime t) fun x => { x with records := x.records ++ [⟨k.val, msg, b, t⟩] })) ∧
       ((sess s k.val).state ≠ 2 → Runs c s (s.atTime t)))

/-- A cycle begins at its boundary (R107, R109): its number is one more, or 0 for the first; it begins now, in its Logic phase, not
yet voted, with nothing delivered, and its snapshot is of this instant. Before the boundary nothing happens. A lane's Logic phase
runs once, from the end of Intake on, when it holds both markers and the frame of the snapshot (R106, R111, R110): its variables are
filled (R124), and the program runs on them in the modes that execute it. What the scrub finds, a table entry or a word of the
lane's Commons copy that the slot records do not give, is a fault of the lane (R35, R103). A Mill waits for a program switch that is
due (R153). Each of these commands answers a next state with its own effect: cycleStart, snapshotComplete. -/
def Obligations.CyclesBeginAndLogicRuns : Prop :=
  (∀ (t : Time) (s : State) (w : BitVec 24) (l : List (Nat × Lane)) (env : StartEnv),
     (cycleDue (s.atTime t) = false → Runs (.cycleStart t ⟨w, l⟩ env) s (s.atTime t)) ∧
     (cycleDue (s.atTime t) = true → s.update.restart = false →
       Answers (.cycleStart t ⟨w, l⟩ env) s fun s' =>
         s'.cyc.number = (if s.cyc.started = true then s.cyc.number + 1 else 0) ∧ s'.cyc.started = true ∧ s'.cyc.begun = t ∧
           s'.cyc.endAt = none ∧ s'.cyc.voted = false ∧ s'.cyc.phase = 1 ∧ s'.cyc.snap.at_ = t ∧
           (∀ ln, (s'.lanes.get ln).delivered = none ∧ (s'.lanes.get ln).complete = false))) ∧
  (∀ (t : Time) (s : State) (ln : Lane) (got : Option UpFrame) (run : ProgramRun) (e : Nat) (w : BitVec 32) (ref : U32),
     ((s.lanes.get ln).complete = true ∨ (s.lanes.get ln).markBus = false ∨ (s.lanes.get ln).markQueue = false ∨
       s.cyc.running = false ∨ runsCycles s ln = false ∨ t < logicStart s ∨ holdsFrame s ln got = false ∨
       (ln ≠ .l ∧ switchPending s = true) →
       ∀ x, Runs (.snapshotComplete t ln ⟨got, run⟩ x) s (s.atTime t)) ∧
     (s.cyc.running = true → runsCycles s ln = true → (s.lanes.get ln).markBus = true → (s.lanes.get ln).markQueue = true →
       (s.lanes.get ln).complete = false → logicStart s ≤ t → holdsFrame s ln got = true → wrongClaim s ln = none →
       (ln = .l ∨ switchPending s = false) →
       (programExecuted s = false → Runs (.snapshotComplete t ln ⟨got, run⟩ .clean) s (intakeDone (s.atTime t) ln run)) ∧
       (programExecuted s = true → Runs (.snapshotComplete t ln ⟨got, run⟩ .clean) s
         (runProgram (intakeDone (s.atTime t) ln run) ln run)) ∧
       (programExecuted s = false → AllVoting s → Raisable s t (laneBase ln + 5) →
         Answers (.snapshotComplete t ln ⟨got, run⟩ (.tableEntry ref)) s fun s' =>
           LaneLost s s' ln (laneBase ln + 5) (u32 (laneNo ln)) s.cyc.number ref) ∧
       (programExecuted s = false → AllVoting s → Raisable s t 58 → (s.lanes.get ln).current = true →
         scrubbed w ≠ scrubbed (tget 0 (claimTable s) e) →
         Answers (.snapshotComplete t ln ⟨got, run⟩ (.claimWord e w)) s fun s' =>
           LaneLost s s' ln 58 (u32 (laneNo ln)) s.cyc.number (u32 e))))

/-- A delivery by the vote point counts, with the digests of what the lane holds (R57, R58); a later one is a miss, which no vote
uses, and the lane then writes the voted outcome late (R49, R112). Each of these commands answers a next state with its own effect:
proposalDelivery. -/
def Obligations.DeliveriesCountByTheVotePoint : Prop :=
  ∀ (t : Time) (s : State) (ln : Lane) (p : Proposal), s.cyc.running = true → runsCycles s ln = true →
    (s.lanes.get ln).complete = true → (s.lanes.get ln).delivered = none → (s.lanes.get ln).late = false → t < cycleEnd s →
    (t ≤ votePoint s → s.cyc.voted = false →
      Answers (.proposalDelivery t ln p) s fun s' =>
        (s'.lanes.get ln).delivered = some (deliveryOf s ln p) ∧ (s'.lanes.get ln).gdigest = (s.lanes.get ln).gsum ^^^ p.gerr ∧
          (s'.lanes.get ln).deliveredAt = t ∧
          (s'.lanes.get ln).state = (s.lanes.get ln).state ∧ (∀ k, k ≠ ln → s'.lanes.get k = s.lanes.get k) ∧
          Frame [.now, .lanes, .cyc, .constable] s s') ∧
    (votePoint s < t ∨ s.cyc.voted = true →
      Answers (.proposalDelivery t ln p) s fun s' =>
        (s'.lanes.get ln).delivered = none ∧ (s'.lanes.get ln).late = true ∧ (s'.lanes.get ln).deliveredAt = t ∧
          (s'.lanes.get ln).wrote = (s.cyc.voted || (s.lanes.get ln).wrote) ∧
          (∀ k, k ≠ ln → s'.lanes.get k = s.lanes.get k) ∧ Frame [.now, .lanes, .field] s s')

/-- The vote of a cycle (R49, R114, R467), once from its vote point on: with fewer than two lanes on time Kutia enters Safe State
through source 9; with two or three it is voted unless a streak has reached 3, and then nothing of its outcome is written. Each of
these commands answers a next state with its own effect: vote. -/
def Obligations.VotesAreWrittenUnlessAStreakStops : Prop :=
  ∀ (t : Time) (s : State), cyclic s.modes.mode = true → s.modes.mode ≠ .watch →
    (s.cyc.running = false ∨ s.cyc.voted = true ∨ s.cyc.phase = 2 ∨ t < votePoint s → Runs (.vote t) s (s.atTime t)) ∧
    (s.cyc.running = true → s.cyc.voted = false → s.cyc.phase ≠ 2 → votePoint s ≤ t →
      ((onTime s).length < 2 → Raisable s t 9 →
        Answers (.vote t) s fun s' =>
          ModuleStops s s' 9 (u32 (bitmap (allLanes.map fun ln => (onTime s).contains ln))) s.cyc.number
            (u32 ((votePoint s - s.cyc.begun) / 1000)) ∧ s'.cyc.voted = false) ∧
      (2 ≤ (onTime s).length →
        Answers (.vote t) s fun s' =>
          s'.cyc.phase = 2 ∧ s'.cyc.number = s.cyc.number ∧
            (s'.cyc.voted = true ↔ s'.vote.split < 3 ∧ s'.vote.prog < 3) ∧
            (s'.cyc.voted = true → s'.vote.lastCycle = s.cyc.number) ∧
            (s'.cyc.voted = false → Frame [.now, .cyc, .lanes, .vote] s s' ∧
              ∀ ln, (s'.lanes.get ln).claims = (s.lanes.get ln).claims ∧ (s'.lanes.get ln).vars = (s.lanes.get ln).vars ∧
                (s'.lanes.get ln).wrote = (s.lanes.get ln).wrote)))

/-- The Issue phase follows a written vote, once and from its start in the cycle on (R106, R108, R136, R137): the results decided at
the vote are in the ring, in their order, and the cycle's commands are no longer in its hands. Without a vote nothing is issued.
Each of these commands answers a next state with its own effect: issuePhase. -/
def Obligations.IssueFollowsTheVote : Prop :=
  ∀ (t : Time) (s : State) (l : List (Nat × Nat)),
    (s.cyc.running = false ∨ s.cyc.voted = false ∨ s.cyc.phase = 3 ∨ t < issueStart s → Runs (.issuePhase t l) s (s.atTime t)) ∧
    (s.cyc.running = true → s.cyc.voted = true → s.cyc.phase ≠ 3 → issueStart s ≤ t →
      Answers (.issuePhase t l) s fun s' =>
        s'.cyc.phase = 3 ∧ s'.sessions.closeDue = [] ∧ s'.cyc.decided = [] ∧ s'.cyc.taken = [] ∧
          s'.cyc.ring = s.cyc.ring ++ s.cyc.decided ∧
          s'.cyc.writeSeq = s.cyc.writeSeq + u32 s.cyc.decided.length ∧ s'.cyc.cmdq = s.cyc.cmdq ∧
          s'.commons.routes = s.commons.routes ∧ s'.modes.mode = s.modes.mode)

/-- The votes on a signal's permission, a point's movement, a route's state and the release of a claim (R51, R53, R54, R55), for
whatever the lanes propose: the median or the smaller of two; the movement that is agreed and not contested by the Mills, else Hold;
the state that is agreed, else the one of the previous cycle; and the release that two lanes propose. -/
def Obligations.PermissionMovementStateAndClaimVotes : Prop :=
  ∀ (g : Lane → Nat) (m : Lane → Move) (l : List Lane) (r : Lane → Nat) (was : Nat) (c : Lane → Bool) (x y : Lane),
    permission (allLanes.map g) ∈ allLanes.map g ∧
    2 ≤ (allLanes.filter fun k => g k ≤ permission (allLanes.map g)).length ∧
    2 ≤ (allLanes.filter fun k => permission (allLanes.map g) ≤ g k).length ∧
    permission [g x, g y] = min (g x) (g y) ∧
    (.a ∈ l → .b ∈ l → m .a ≠ .hold → m .b ≠ .hold → m .a ≠ m .b → votedMove m l = .hold) ∧
    (m .a = .hold ∨ m .b = .hold ∨ m .a = m .b → ∀ v, 2 ≤ (allLanes.filter fun k => m k = v).length → votedMove m allLanes = v) ∧
    (m .a ≠ m .b → m .a ≠ m .l → m .b ≠ m .l → votedMove m allLanes = .hold) ∧
    (x ≠ y → m x = m y → votedMove m [x, y] = m x) ∧ (x ≠ y → m x ≠ m y → votedMove m [x, y] = .hold) ∧
    (∀ v, 2 ≤ (allLanes.filter fun k => r k = v).length → agreed (allLanes.map r) was = v) ∧
    ((∀ v, (allLanes.filter fun k => r k = v).length < 2) → agreed (allLanes.map r) was = was) ∧
    (x ≠ y → agreed [r x, r y] was = if r x = r y then r x else was) ∧
    (agreed (allLanes.map c) false = true ↔ 2 ≤ (allLanes.filter fun k => c k).length) ∧
    (x ≠ y → (agreed [c x, c y] false = true ↔ c x = true ∧ c y = true))

/-- How a drive group loses torque (R185 to R187) and how its lock-out is reset (R190): a failed pull-in check and an expired window
lead to Confirming with the lock held and reasons 08h and 11h; an obstruction starts a safe stop with reason 02h; a reset is taken
only of a Locked-out group. Each of these commands answers a next state with its own effect: pullInCheck, safeStopWindowExpiry,
obstructionCurrentExpiry, driveGroupReset. -/
def Obligations.DriveGroupsLoseTorqueByTheRules : Prop :=
  ∀ (t : Time) (s : State) (g : Fin 4) (r : GroupRec) (ch : Fin 8) (v : U8), group? s g.val = some r →
    (s.cyc.voted = true → pullInFails s g.val = true → Runs (.pullInCheck t g) s
      (modGroup (modElem (s.atTime t) r.elem fun y => { y with
          throwing := 0, throwTimer := 0, stopping := true, stopReason := 8, stopAt := t }) g.val fun y => { y with
        state := 5, lock := true, reason := 8, offAt := none, envelope := none })) ∧
    (s.cyc.voted = false ∨ pullInFails s g.val = false → Runs (.pullInCheck t g) s (s.atTime t)) ∧
    (s.cyc.voted = true → (groupSt s g.val).state = 4 → cyclesOfMs s r.sstw ≤ (groupSt s g.val).j → Runs (.safeStopWindowExpiry t g) s
      (modGroup (s.atTime t) g.val fun y => { y with state := 5, lock := true, reason := 0x11, offAt := none, envelope := none })) ∧
    (s.cyc.voted = false ∨ (groupSt s g.val).state ≠ 4 → Runs (.safeStopWindowExpiry t g) s (s.atTime t)) ∧
    (∀ x, elem? s r.elem = some x → driveOf s x = some (g.val, r) → s.cyc.voted = true → (groupSt s g.val).state = 2 →
      obstructed s g.val r = true →
      pullInFails s g.val = false → (elemSt s r.elem).throwTimer ≠ 0 → detectedIn s r.elem (elemSt s r.elem).throwing = false →
      Answers (.obstructionCurrentExpiry t g) s fun s' =>
        (groupSt s' g.val).state = 4 ∧ (groupSt s' g.val).reason = 2 ∧ (groupSt s' g.val).lock = true ∧
          (groupSt s' g.val).f0 = (groupSt s g.val).rate ∧ (groupSt s' g.val).j = 0 ∧ (elemSt s' r.elem).stopping = true ∧
          (elemSt s' r.elem).stopReason = 2 ∧ (elemSt s' r.elem).throwing = 0 ∧ s'.points.stops = s.points.stops + 1 ∧
          Frame [.now, .points, .age] s s') ∧
    (Serves s t → authorised s ch.val = true → v = 1 →
      ((groupSt s g.val).state = 6 → Runs (.driveGroupReset t ch g v) s
        (accepted (modGroup (s.atTime t) g.val fun y => { y with resetAt := some t }) ch)) ∧
      ((groupSt s g.val).state ≠ 6 → Runs (.driveGroupReset t ch g v) s (refused (s.atTime t) ch 0x0450)))

/-- Confirmation after torque off (R184, R188): it is judged at a vote, on the first snapshot 50 ms or more after; with both
contacts back and the current below IZERO the group is Idle, or Locked out with the reason that held the lock; otherwise it is
Locked out with reason 12h. Down frames that command all outputs off, and the field-lost latch, remove torque at the vote that finds
them, or at once where no cycle runs (R189, R184): every group in Running, Ending, Stopping or Confirming is Locked out with reason
13h, and Idle groups stay Idle. Each of these commands answers a next state with its own effect: torqueOffConfirmation,
immediateTorqueOff. -/
def Obligations.TorqueOffIsConfirmedOrLocksOut : Prop :=
  (∀ (t : Time) (s : State) (g : Fin 4) (r : GroupRec), group? s g.val = some r →
     (s.cyc.voted = false ∨ confirmDue s (groupSt s g.val) = false → Runs (.torqueOffConfirmation t g) s (s.atTime t)) ∧
     (s.cyc.voted = true → confirmDue s (groupSt s g.val) = true →
       (feedbackOf s g.val = 3 → motorCurrent s g.val < r.izero → (groupSt s g.val).state = 3 →
         Runs (.torqueOffConfirmation t g) s (modGroup (s.atTime t) g.val fun y => { y with state := 1, sense := 0 })) ∧
       (feedbackOf s g.val = 3 → motorCurrent s g.val < r.izero → (groupSt s g.val).state = 5 → (groupSt s g.val).lock = false →
         Answers (.torqueOffConfirmation t g) s fun s' =>
           (groupSt s' g.val).state = 1 ∧ (groupSt s' g.val).sense = 0 ∧ Frame [.now, .points, .cyc] s s') ∧
       (feedbackOf s g.val = 3 → motorCurrent s g.val < r.izero → (groupSt s g.val).state = 5 → (groupSt s g.val).lock = true →
         Quiet s (72 + g.val) →
         Answers (.torqueOffConfirmation t g) s fun s' => GroupLockedOut s s' g.val r.elem (groupSt s g.val).reason) ∧
       (feedbackOf s g.val ≠ 3 ∨ r.izero ≤ motorCurrent s g.val → Quiet s (72 + g.val) →
         Answers (.torqueOffConfirmation t g) s fun s' => GroupLockedOut s s' g.val r.elem 0x12))) ∧
  (∀ (t : Time) (s : State),
     (torqueLost s = false ∨ (s.cyc.voted = false ∧ s.cyc.running = true) → Runs (.immediateTorqueOff t) s (s.atTime t)) ∧
     (torqueLost s = true → s.cyc.voted = true ∨ s.cyc.running = false →
       Answers (.immediateTorqueOff t) s fun s' => ∀ g : Fin 4, ∀ r, group? s g.val = some r →
         (2 ≤ (groupSt s g.val).state → (groupSt s g.val).state ≤ 5 →
           (groupSt s' g.val).state = 6 ∧ (groupSt s' g.val).reason = 0x13 ∧ (groupSt s' g.val).lock = true ∧
             (groupSt s' g.val).lockTime = t) ∧
         ((groupSt s g.val).state < 2 ∨ 5 < (groupSt s g.val).state → groupSt s' g.val = groupSt s g.val)))

/-- How throws and section resets end (R133, R170, R171, R173, R179): by detection, by expired supervision, which fails every route
that is proving it, by a remote stop that is not confirmed in 6 s, by a section that is not clear in 30 s. Each of these commands
answers a next state with its own effect: throwComplete, throwSupervisionExpiry, remoteSafeStopTimeout, sectionResetTimeout. -/
def Obligations.ThrowsAndResetsEnd : Prop :=
  ∀ (t : Time) (s : State) (e : Nat) (x : Element), elem? s e = some x →
    (s.cyc.voted = true → (elemSt s e).throwing ≠ 0 → detectedIn s e (elemSt s e).throwing = true →
      Answers (.throwComplete t e) s fun s' =>
        elemSt s' e = { elemSt s e with throwing := 0, throwTimer := 0, stopReason := 0 } ∧
          s'.cyc.decided = s.cyc.decided ++ ((pendingOf s 0x10 e).filter fun c => c.run).map (fun c =>
            resultOf s c (moveCode s e c) none32) ∧
          (∀ g r, driveOf s x = some (g, r) → (groupSt s' g).state = 3 ∧ (groupSt s' g).offAt = none) ∧
          Frame [.now, .points, .cyc] s s') ∧
    (s.cyc.voted = true → supervisionExpired s e x = true →
      Answers (.throwSupervisionExpiry t e) s fun s' =>
        (elemSt s' e).throwing = 0 ∧ (elemSt s' e).stopping = true ∧ (elemSt s' e).stopReason = 1 ∧
          (elemSt s' e).stopAt = t ∧ s'.points.stops = s.points.stops + 1 ∧
          (∀ g r, driveOf s x = some (g, r) → (groupSt s' g).state = 4 ∧ (groupSt s' g).reason = 1 ∧ (groupSt s' g).lock = true) ∧
          (∀ k y z r, (k, y, z) ∈ holders s e → z.move = true → provingOpen s y = true → y.route = some r →
            (routeSt s' r).state = 7) ∧
          (holders s e = [] → Frame [.now, .points, .age] s s')) ∧
    (x.remote = true → (elemSt s e).stopping = true → (elemSt s e).stopAt + ms 6000 ≤ t → Quiet s 76 →
      Answers (.remoteSafeStopTimeout t e) s fun s' =>
        (elemSt s' e).lockedOut = true ∧ (elemSt s' e).stopping = false ∧
          Raised s s' 76 (u32 e) 0xFF (u32 (x.bind1.partner.getD 0x3FF)) ∧ Frame [.now, .points, .cyc, .constable] s s') ∧
    (s.cyc.voted = true → (elemSt s e).resetting = true → cyclesOfMs s 30000 ≤ (elemSt s e).resetVotes →
      Answers (.sectionResetTimeout t e) s fun s' =>
        (elemSt s' e).resetting = false ∧ (elemSt s' e).latched = true ∧
          s'.cyc.decided = s.cyc.decided ++ (pendingOf s 0x12 e).map (fun c => resultOf s c 0x11 none32) ∧
          Frame [.now, .points, .cyc] s s') ∧
    (s.cyc.voted = false ∨ (elemSt s e).throwing = 0 → Runs (.throwComplete t e) s (s.atTime t) ∧
      Runs (.throwSupervisionExpiry t e) s (s.atTime t)) ∧
    ((elemSt s e).stopping = false → Runs (.remoteSafeStopTimeout t e) s (s.atTime t)) ∧
    (s.cyc.voted = false ∨ (elemSt s e).resetting = false → Runs (.sectionResetTimeout t e) s (s.atTime t))

/-- The timed transitions of a route at a vote (R83, R86, R91, R93, R100): the approach timer, the overlap timer, the stall of a
release and the proving of its entries. What ends a request and an emergency release (R94, R97, R101): no grant in time, the
emergency timer, an arm that is not confirmed. Each of these commands answers a next state with its own effect: approachTimerExpiry,
overlapTimerExpiry, releaseStall, provingTimeout, crossZoneTimeout, emergencyTimerExpiry, emergencyArmLapse. -/
def Obligations.RouteTimersAndAbandonedRequests : Prop :=
  (∀ (t : Time) (s : State) (r k e : Nat) (x : Route) (z : Element), route? s r = some x → slotOfRoute s r = some k →
     (s.cyc.voted = true → (routeSt s r).state = 6 → (slotSt s k).apprTimer = 0 → movedNow s r = false →
       Answers (.approachTimerExpiry t r) s fun s' =>
         (routeSt s' r).state = (if (slotSt s k).cancelPend then 7 else 4) ∧ (routeSt s' r).movedAt = some s.cyc.number ∧
           Frame [.now, .commons, .points, .sessions, .lanes] s s') ∧
     (s.cyc.voted = false ∨ (routeSt s r).state ≠ 6 → Runs (.approachTimerExpiry t r) s (s.atTime t)) ∧
     (s.cyc.voted = true → overlapDue s x (slotSt s k) = true → frozenContinuation s x = false →
       Answers (.overlapTimerExpiry t r) s fun s' =>
         ((∃ n ∈ (slotSt s k).held, n ∉ overlapElems x) →
           (slotSt s' k).held = (slotSt s k).held.filter (fun n => !(overlapElems x).contains n) ∧
             (slotSt s' k).released.getLsbD 63 = true) ∧
         ((∀ n ∈ (slotSt s k).held, n ∈ overlapElems x) → (routeSt s' r).state = 0 ∧ (routeSt s' r).slot = none)) ∧
     ((routeSt s r).state = 7 → cyclesOfSec s 600 ≤ (slotSt s k).relCycles → Quiet s 63 →
       Runs (.releaseStall t r) s (recordRaise (s.atTime t) 63 false (u32 r) (u32 (lowestGroup x (slotSt s k)))
         (u32 ((t - (routeSt s r).changed) / sec 1)))) ∧
     ((routeSt s r).state ≠ 7 → Runs (.releaseStall t r) s (s.atTime t)) ∧
     (s.cyc.voted = true → provingOpen s (slotSt s k) = true → elem? s e = some z →
       (∃ y ∈ x.list, y.elem = e ∧ provingLate s (slotSt s k) y = true) → Quiet s 61 →
       Answers (.provingTimeout t r e) s fun s' =>
         (routeSt s' r).state = 7 ∧ (slotSt s' k).noTrain = true ∧ Raised s s' 61 (u32 r) (u32 e) 0x11 ∧
           Frame [.now, .cyc, .commons, .points, .sessions, .constable, .lanes] s s')) ∧
  (∀ (t : Time) (s : State) (r k : Nat) (x : Route), route? s r = some x → slotOfRoute s r = some k →
     (s.cyc.voted = true → (routeSt s r).state = 1 → 4 ≤ cyclesSince (slotSt s k).reqCycle s.cyc.number → movedNow s r = false →
       Quiet s 60 →
       Answers (.crossZoneTimeout t r) s fun s' =>
         (routeSt s' r).state = 0 ∧ (routeSt s' r).slot = none ∧ s'.commons.abandoned = s.commons.abandoned + 1 ∧
           Raised s s' 60 (u32 r) (u32 (slotSt s k).token.toNat) 0 ∧
           Frame [.now, .cyc, .commons, .points, .sessions, .constable, .lanes] s s') ∧
     (s.cyc.voted = false ∨ (routeSt s r).state ≠ 1 → Runs (.crossZoneTimeout t r) s (s.atTime t)) ∧
     (s.cyc.voted = true → (slotSt s k).emergency = true → (slotSt s k).emrgTimer = 0 → x.xzone = false → Quiet s 62 →
       Answers (.emergencyTimerExpiry t r) s fun s' =>
         ((slotSt s' k).held = [] → (routeSt s' r).state = 0 ∧ (routeSt s' r).slot = none) ∧
           s'.commons.emergency = s.commons.emergency + 1 ∧ (source s' 62).raises = (source s 62).raises + 1 ∧
             (source s' 62).params.head? = some (u32 r) ∧
           Frame [.now, .cyc, .commons, .points, .sessions, .constable, .lanes] s s') ∧
     (s.cyc.voted = false ∨ (slotSt s k).emergency = false → Runs (.emergencyTimerExpiry t r) s (s.atTime t)) ∧
     (s.cyc.voted = true → (slotSt s k).armed = true → (slotSt s k).route = some r → 60000 / s.cyc.c + 1 ≤ (slotSt s k).armVotes →
       s.constable.queue.length < 64 →
       Answers (.emergencyArmLapse t r) s fun s' =>
         (slotSt s' k).armed = false ∧ s'.constable.queue = s.constable.queue ++
           [bookRec (s.atTime t) 0x3040 0xFF 0xF false (u32 r) (slotSt s k).armBy (slotSt s k).armCycle] ∧
           Frame [.now, .cyc, .commons, .constable] s s') ∧
     (s.cyc.voted = false ∨ (slotSt s k).armed = false → Runs (.emergencyArmLapse t r) s (s.atTime t)))

/-- A lane's down frame (R41, R195, R204, R344): the next SEQ, the lane's own number, SPLIT and TEST by the mode, and ALLOFF
whenever the lane is out of the vote or the mode drives nothing. In Start only the firmware lane sends, and nothing crosses while
crossing 3 is Stopped (R331). Each of these commands answers a next state with its own effect: downFrameSend. -/
def Obligations.ExcludedLanesCommandAllOff : Prop :=
  ∀ (t : Time) (s : State) (ln : Lane),
    (laneSends s ln = false ∨ crossRuns s 3 = false → Runs (.downFrameSend t ln) s (s.atTime t)) ∧
    (s.modes.mode = .start → ln ≠ firmwareLane s → Runs (.downFrameSend t ln) s (s.atTime t)) ∧
    (laneSends s ln = true → crossRuns s 3 = true → s.modes.mode ≠ .start ∨ ln = firmwareLane s →
      Answers (.downFrameSend t ln) s fun s' =>
        (s'.field.bar.get ln).seq = (s.field.bar.get ln).seq + 1 ∧ (s'.field.bar.get ln).sent = (s.field.bar.get ln).sent + 1 ∧
          (∀ k, k ≠ ln → s'.field.bar.get k = s.field.bar.get k) ∧ Frame [.now, .field, .out, .draws] s s' ∧
          ∃ f, s'.out = s.out ++ [.downFrame ln f] ∧ f.lane.toNat = laneNo ln ∧ f.seq = (s.field.bar.get ln).seq + 1 ∧
            f.split = (s.modes.mode == Mode.split) ∧ f.test = fence s ∧ f.alloff = allOff (s.atTime t) ln ∧
            (inVote s ln = false → f.alloff = true) ∧ f.crc = u32 (crc32c (downBytes f)))

/-- The Gatehouse (R199). Each of these commands answers a next state with its own effect: gatehouseEvaluation. -/
def Obligations.OutputsAreEnergisedExactlyByTheConditions : Prop :=
  ∀ (t : Time) (s : State) (ln : Lane) (f : Option DownFrame), fieldUp s = true →
    Answers (.gatehouseEvaluation t ln f) s fun s' =>
      Frame [.now, .field] s s' ∧
        ∀ d : Fin 24, s'.field.gate.getLsbD d.val = true ↔
          ∃ c, s'.field.config = some c ∧ s'.field.unconf = false ∧ s'.field.flost = false ∧ s'.field.kill = 3 ∧
            (∀ k ∈ outputGroup c d.val, s'.field.doflt.getLsbD k = false) ∧
            2 ≤ ((freshFrames s').filter fun x => x.kind = 1 ∧ x.split = false ∧ x.alloff = false ∧ x.epoch = s'.field.epoch ∧
              x.w3.getLsbD (leadOf c d.val) = true).length ∧
            ((∃ x ∈ freshFrames s', x.test = true) → c.fmask.getLsbD d.val = true)

/-- Up frames (R196, R197): the three of one period come from one sample set and differ in LANE and CRC alone; a received one is
valid with a correct CRC, the channel's own KIND and LANE, and a SEQ 1 to 5 ahead; any other is discarded and counted, and a stale
channel takes the first with a correct CRC at any SEQ to resynchronise. Nothing passes while the crossing to the lanes is stopped
(R331). What stops outputs from outside the lanes (R198, R200): a channel without a valid frame for 500 us is stale, the lane's own
receiver excludes it, and a dead kill line turns every output and the Lantern off. Each of these commands answers a next state with
its own effect: upFrameSend, upFrameReceive, barrierChannelStale, killLineDead. -/
def Obligations.UpFramesAndStaleChannels : Prop :=
  (∀ (t : Time) (s : State) (ln : Lane) (x : FieldSample) (f : UpFrame),
     (fieldUp s = false → Runs (.upFrameSend t x) s (s.atTime t)) ∧
     (fieldUp s = true → 1920 ≤ x.vf → x.fsflt = false →
       Answers (.upFrameSend t x) s fun s' =>
         s'.out = s.out ++ [.upFrame .a (upFrame s' .a), .upFrame .b (upFrame s' .b), .upFrame .l (upFrame s' .l)] ∧
           (∀ k, { upFrame s' k with lane := 0, crc := 0 } = { upFrame s' .a with lane := 0, crc := 0 }) ∧
           s'.field.seq = s.field.seq + 1 ∧ s'.field.tick = (if x.tick then s.field.tick + 1 else s.field.tick) ∧
           Frame [.now, .field, .out] s s') ∧
     (fieldUp s = true → 1920 ≤ x.vf → x.fsflt = true → On s → Raisable s t 79 →
       Answers (.upFrameSend t x) s fun s' => ModuleStops s s' 79 0 none32 s'.field.tick) ∧
     (crossRuns s 4 = false → Runs (.upFrameReceive t ln f) s (s.atTime t)) ∧
     (crossRuns s 4 = true → f.crc ≠ u32 (crc32c (upBytes f)) → Runs (.upFrameReceive t ln f) s
       (modBar (s.atTime t) ln fun b => { b with crcErrors := b.crcErrors + 1 })) ∧
     (crossRuns s 4 = true → f.crc = u32 (crc32c (upBytes f)) →
       ((s.field.bar.get ln).upStale = true → (s.field.bar.get ln).upResync = false → Runs (.upFrameReceive t ln f) s
         (modBar (s.atTime t) ln fun b => { b with upResync := true, upSeq := f.seq })) ∧
       ((s.field.bar.get ln).upStale = false ∨ (s.field.bar.get ln).upResync = true →
         f.kind = 9 → f.lane.toNat = laneNo ln → seqFollows (s.field.bar.get ln).upSeq f.seq = true →
         Runs (.upFrameReceive t ln f) s (modBar (s.atTime t) ln fun b => { b with
           up := some f, upAt := t, upPrev := b.up, upPrevAt := b.upAt, upSeq := f.seq, upValidSeq := f.seq, upStale := false,
           upResync := false, upValid := b.upValid + 1 })) ∧
       ((s.field.bar.get ln).upStale = false ∨ (s.field.bar.get ln).upResync = true →
         f.kind ≠ 9 ∨ f.lane.toNat ≠ laneNo ln ∨ seqFollows (s.field.bar.get ln).upSeq f.seq = false →
         Runs (.upFrameReceive t ln f) s (modBar (s.atTime t) ln fun b => { b with seqErrors := b.seqErrors + 1 })))) ∧
  (∀ (t : Time) (s : State) (ln : Lane) (line : Fin 2),
     ((s.field.bar.get ln).stale = false → (s.field.bar.get ln).downAt + us 500 ≤ t →
       Answers (.barrierChannelStale t ln .outward) s fun s' =>
         (s'.field.bar.get ln).stale = true ∧ (s'.field.bar.get ln).staleCount = (s.field.bar.get ln).staleCount + 1 ∧
           (∀ d : Fin 24, s'.field.gate.getLsbD d.val = energised s' d.val) ∧ s'.field.lant = lanternRuns s' ∧
           Frame [.now, .field] s s') ∧
     ((s.field.bar.get ln).upStale = false → (s.field.bar.get ln).upAt + us 500 ≤ t → AllVoting s → cyclic s.modes.mode = true →
       Raisable s t (64 + laneNo ln) →
       Answers (.barrierChannelStale t ln .inward) s fun s' =>
         (s'.field.bar.get ln).upStale = true ∧ Excluded s s' ln (64 + laneNo ln) ∧
           Raised s s' (64 + laneNo ln) (u32 (laneNo ln)) 1 (s.field.bar.get ln).upValidSeq ∧
           Frame [.now, .lanes, .vote, .modes, .change, .constable, .host, .field] s s') ∧
     (t < (s.field.bar.get ln).downAt + us 500 → Runs (.barrierChannelStale t ln .outward) s (s.atTime t)) ∧
     (t < (s.field.bar.get ln).upAt + us 500 → Runs (.barrierChannelStale t ln .inward) s (s.atTime t)) ∧
     (s.constable.kill = false → Answers (.killLineDead t line) s fun s' =>
       Dark s' ∧ s'.field.kill.getLsbD line.val = false ∧ Frame [.now, .field] s s') ∧
     (s.constable.kill = true → On s → Raisable s t 79 → Answers (.killLineDead t line) s fun s' =>
       ModuleStops s s' 79 1 none32 s.field.tick ∧ Dark s' ∧ s'.field.kill.getLsbD line.val = false))

/-- Input pairs and analog inputs (R208, R209, R216): a discrepancy that has lasted its DT latches with source 69; the latch clears
only on a reset edge, at whose frame both channels were restrictive; a converter mismatch at three ticks latches with source 68.
Each of these commands answers a next state with its own effect: pairDiscrepancyLatch, pairResetRequest, gatehouseEvaluation,
pairReset, aiConverterMismatch. -/
def Obligations.InputFaultsLatchUntilReset : Prop :=
  ∀ (t : Time) (s : State) (ch : Fin 8) (mask : U32) (k : Fin 24) (i : Fin 4) (ln : Lane) (f : Option DownFrame),
    (∀ c, s.field.config = some c → c.pair.getLsbD k.val = true → s.field.pairf.getLsbD k.val = false →
      c.dt.getD k.val 0 ≤ s.field.pairRun.getD k.val 0 → Quiet s 69 →
      Runs (.pairDiscrepancyLatch t k) s (recordRaise (modField (s.atTime t) fun x => { x with
        pairf := setBit x.pairf k.val true }) 69 false (u32 k.val) (u32 (c.dt.getD k.val 0)) s.field.tick)) ∧
    (s.field.pairf.getLsbD k.val = true → Runs (.pairDiscrepancyLatch t k) s (s.atTime t)) ∧
    (Serves s t → authorised s ch.val = true → mask.toNat ≤ 0xFFFFFF →
      Runs (.pairResetRequest t ch mask) s (accepted (modField (s.atTime t) fun x => { x with
        pairReq := x.pairReq ++ [(BitVec.ofNat 24 mask.toNat, t)] }) ch)) ∧
    (Serves s t → authorised s ch.val = true → 0xFFFFFF < mask.toNat →
      Runs (.pairResetRequest t ch mask) s (refused (s.atTime t) ch 0x0230)) ∧
    (fieldUp s = true → Answers (.gatehouseEvaluation t ln f) s fun s' =>
      s.field.votedPrst.getLsbD k.val = false → s'.field.votedPrst.getLsbD k.val = true →
        s'.field.pairEdge.getLsbD k.val = true ∧ s'.field.pairSafe.getLsbD k.val = pairRestrictive s'.field k.val) ∧
    (s.field.pairEdge.getLsbD k.val = true → s.field.pairSafe.getLsbD k.val = true → Runs (.pairReset t k) s
      (modField (s.atTime t) fun x => { x with
        pairEdge := setBit x.pairEdge k.val false, pairf := setBit x.pairf k.val false })) ∧
    (s.field.pairEdge.getLsbD k.val = true → s.field.pairSafe.getLsbD k.val = false → Runs (.pairReset t k) s
      (modField (s.atTime t) fun x => { x with pairEdge := setBit x.pairEdge k.val false, pairIgn := x.pairIgn + 1 })) ∧
    (s.field.pairEdge.getLsbD k.val = false → Runs (.pairReset t k) s (s.atTime t)) ∧
    (3 ≤ s.field.aiRun.getD i.val 0 → s.field.aiflt.getLsbD i.val = false → Quiet s 68 →
      Runs (.aiConverterMismatch t i) s (recordRaise (modField (s.atTime t) fun x => { x with
        aiflt := setBit x.aiflt i.val true }) 68 false (u32 (0x40 + i.val)) 7 (u32 s.field.iout))) ∧
    (s.field.aiRun.getD i.val 0 < 3 → Runs (.aiConverterMismatch t i) s (s.atTime t))

/-- Output faults (R211, R213, R214): each latches the output and everything paralleled with it, with source 68 and its reason; an
output that cannot be switched off is source 67, which stops Kutia and is withdrawn when no output that is off reads back high
(R367). An output's latch clears only on a reset edge whose two frames command it off, with its readback low (R215); a request of
the host waits for the lanes' frames. Each of these commands answers a next state with its own effect: outputTotalTrip,
outputTestPulse, outputReadbackFault, outputCurrentLimitFault, outputFeedbackFault, outputResetRequest, gatehouseEvaluation,
outputReset. -/
def Obligations.OutputFaultsLatchUntilTheirEdge : Prop :=
  (∀ (t : Time) (s : State) (d : Fin 24) (h1 h2 : Bool),
     (Quiet s 68 →
       (∀ x, s.field.iouSince = some x → x + ms 10 ≤ t → 900 < s.field.iout →
         Answers (.outputTotalTrip t) s fun s' =>
           s'.field.doflt = 0xFFFFFF ∧ s'.field.gate = 0 ∧ Raised s s' 68 0xFF 5 (u32 s.field.iout) ∧
             Frame [.now, .field, .constable] s s') ∧
       (∀ c, s.field.config = some c → c.tpdis.getLsbD d.val = false → s.field.gate.getLsbD d.val = true →
         (h1 = true → Answers (.outputTestPulse t d h1 h2) s fun s' => OutputLatched s s' d.val 2) ∧
         (h1 = false → h2 = true → Answers (.outputTestPulse t d h1 h2) s fun s' => OutputLatched s s' d.val 3)) ∧
       (s.field.gate.getLsbD d.val = true → heldFor (s.atTime t) d.val (ms 2) = true →
         Answers (.outputReadbackFault t d false) s fun s' => OutputLatched s s' d.val 1) ∧
       Answers (.outputCurrentLimitFault t d) s (fun s' => OutputLatched s s' d.val 4) ∧
       (∀ c, s.field.config = some c → (c.fbin.getD d.val 0).toNat.testBit 7 = true → heldFor (s.atTime t) d.val (ms c.fbt) = true →
         s.field.di.getLsbD ((c.fbin.getD d.val 0).toNat % 64) = s.field.gate.getLsbD d.val →
         Answers (.outputFeedbackFault t d (s.field.gate.getLsbD d.val)) s fun s' => OutputLatched s s' d.val 6)) ∧
     (On s → Raisable s t 67 → s.field.gate.getLsbD d.val = false → heldFor (s.atTime t) d.val (ms 2) = true →
       Answers (.outputReadbackFault t d true) s fun s' =>
         ModuleStops s s' 67 (u32 d.val) (u32 (setBit s.field.dorb d.val true).toNat) s.cyc.number) ∧
     (s.field.iouSince = none ∨ s.field.iout ≤ 900 → Runs (.outputTotalTrip t) s (s.atTime t)) ∧
     (s.field.gate.getLsbD d.val = false → Runs (.outputTestPulse t d h1 h2) s (s.atTime t)) ∧
     (Runs (.outputTestPulse t d false false) s (s.atTime t)) ∧
     (Runs (.outputReadbackFault t d (s.field.gate.getLsbD d.val)) s (endStuckOn (modField (s.atTime t) fun x => { x with
       dorb := setBit x.dorb d.val (s.field.gate.getLsbD d.val) }))) ∧
     (∀ c, s.field.config = some c → s.field.di.getLsbD ((c.fbin.getD d.val 0).toNat % 64) ≠ s.field.gate.getLsbD d.val →
       Runs (.outputFeedbackFault t d h1) s (s.atTime t)) ∧
     (h1 ≠ s.field.gate.getLsbD d.val → Runs (.outputFeedbackFault t d h1) s (s.atTime t))) ∧
  (∀ (t : Time) (s : State) (ch : Fin 8) (mask : U32) (d : Fin 24) (ln : Lane) (f : Option DownFrame),
     (Serves s t → authorised s ch.val = true → mask.toNat ≤ 0xFFFFFF →
       Runs (.outputResetRequest t ch mask) s (accepted (modField (s.atTime t) fun x => { x with
         outReq := x.outReq ++ [(BitVec.ofNat 24 mask.toNat, t)] }) ch)) ∧
     (Serves s t → authorised s ch.val = true → 0xFFFFFF < mask.toNat →
       Runs (.outputResetRequest t ch mask) s (refused (s.atTime t) ch 0x0230)) ∧
     (Serves s t → authorised s ch.val = false → Runs (.outputResetRequest t ch mask) s (refused (s.atTime t) ch 0x0301)) ∧
     (fieldUp s = true → Answers (.gatehouseEvaluation t ln f) s fun s' =>
       s.field.votedOrst.getLsbD d.val = false → s'.field.votedOrst.getLsbD d.val = true →
         s'.field.outEdge.getLsbD d.val = true ∧
           s'.field.outSafe.getLsbD d.val = (resetFramesOff s' d.val && !s'.field.dorb.getLsbD d.val)) ∧
     (s.field.outEdge.getLsbD d.val = true → s.field.outSafe.getLsbD d.val = true →
       Answers (.outputReset t d) s fun s' =>
         s'.field.doflt = setBit s.field.doflt d.val false ∧ s'.field.outEdge = setBit s.field.outEdge d.val false ∧
           s'.field.outIgn = s.field.outIgn ∧ Frame [.now, .field] s s') ∧
     (s.field.outEdge.getLsbD d.val = true → s.field.outSafe.getLsbD d.val = false →
       Runs (.outputReset t d) s (modField (s.atTime t) fun x => { x with
         outEdge := setBit x.outEdge d.val false, outIgn := x.outIgn + 1 })) ∧
     (s.field.outEdge.getLsbD d.val = false → Runs (.outputReset t d) s (s.atTime t)))

/-- The field configuration (R204): applied once, when the assembled record is complete; still unconfigured after 100 ms, or
unconfigured again while cycles run, is source 79. The field supply (R217): below 19.2 V the warning and source 70; below 16.0 V
without a break for 2 ms the latch, with every output and the Lantern off and source 71; above 19.2 V without a break for 100 ms
both clear, and the epoch counts each clearing of the latch. A shorter time does neither. Each of these commands answers a next
state with its own effect: fieldConfigApply, fieldConfigTimeout, fieldSideReset, fieldLow, fieldLost, fieldReturn. -/
def Obligations.FieldConfigurationAndSupply : Prop :=
  (∀ (t : Time) (s : State),
     (∀ c, assembled s = some c → s.field.unconf = true → fieldUp s = true →
       Answers (.fieldConfigApply t) s fun s' =>
         s'.field.config = some c ∧ s'.field.unconf = false ∧ s'.field.configSince = none ∧ s'.field.flost = s.field.flost ∧
           Frame [.now, .field] s s') ∧
     (assembled s = none ∨ s.field.unconf = false → Runs (.fieldConfigApply t) s (s.atTime t)) ∧
     (∀ x, s.field.configSince = some x → s.field.unconf = true → x + ms 100 ≤ t → On s → Raisable s t 79 →
       Answers (.fieldConfigTimeout t) s fun s' => ModuleStops s s' 79 2 none32 s.field.tick) ∧
     (s.field.configSince = none ∨ s.field.unconf = false → Runs (.fieldConfigTimeout t) s (s.atTime t)) ∧
     (fieldUp s = true →
       (cyclic s.modes.mode = true → s.modes.mode ≠ .watch → Raisable s t 79 →
         Answers (.fieldSideReset t) s fun s' => ModuleStops s s' 79 2 none32 0 ∧ PoweredUp s') ∧
       (cyclic s.modes.mode = false ∨ s.modes.mode = .watch →
         Answers (.fieldSideReset t) s fun s' => PoweredUp s' ∧ Frame [.now, .field] s s'))) ∧
  (∀ (t : Time) (s : State) (vf : Nat), fieldUp s = true →
     (vf < 1920 → Quiet s 70 →
       Answers (.fieldLow t vf) s fun s' =>
         s'.field.flow = true ∧ s'.field.vf = vf ∧ s'.field.gate = s.field.gate ∧ s'.field.flost = s.field.flost ∧
           Raised s s' 70 (u32 vf) none32 none32 ∧ Frame [.now, .field, .constable] s s') ∧
     (1920 ≤ vf → Runs (.fieldLow t vf) s (s.atTime t)) ∧
     (∀ x, s.field.lowSince = some x → x + ms 2 ≤ t → vf < 1600 → s.field.flost = false → (source s 70).asserted = true →
       Quiet s 71 →
       Answers (.fieldLost t vf) s fun s' =>
         s'.field.flost = true ∧ s'.field.flow = true ∧ s'.field.lostEvents = s.field.lostEvents + 1 ∧
           s'.field.epoch = s.field.epoch ∧ Dark s' ∧
           Raised s s' 71 (u32 (if s.field.flow then min s.field.vfLow vf else vf)) (u32 s.field.epoch.toNat) s.cyc.number ∧
           Frame [.now, .field, .constable] s s') ∧
     ((∀ x, s.field.lowSince = some x → t < x + ms 2) ∨ s.field.flost = true →
       Answers (.fieldLost t vf) s fun s' =>
         s'.field.flost = s.field.flost ∧ s'.field.epoch = s.field.epoch ∧ s'.field.lostEvents = s.field.lostEvents) ∧
     (∀ x, s.field.okSince = some x → x + ms 100 ≤ t → 1920 < vf →
       Answers (.fieldReturn t vf) s fun s' =>
         s'.field.flow = false ∧ s'.field.flost = false ∧
           s'.field.epoch = (if s.field.flost then s.field.epoch + 1 else s.field.epoch) ∧
           s'.field.lostEvents = s.field.lostEvents ∧ Frame [.now, .field, .constable] s s') ∧
     ((∀ x, s.field.okSince = some x → t < x + ms 100) → 1920 ≤ vf →
       Answers (.fieldReturn t vf) s fun s' =>
         s'.field.flow = s.field.flow ∧ s'.field.flost = s.field.flost ∧ s'.field.epoch = s.field.epoch))

/-- The reset key (R219, R345): a valid operation is counted in KEYCNT, any other as ignored; in a mode other than Shutdown and Safe
State that is all it does here, and with the Grave latch set nothing leaves Safe State. An operation that fewer than two barrier
channels have shown is counted only. For any reading, RESET_KEY_STUCK completes: a channel that has read 1 for more than 3,000 ms
sets KSTUCK and is source 78, which one still asserted stays; and RESET_KEY_STUCK_CLEAR completes: when both channels have read 0
for 1 s, KSTUCK clears and source 78 is withdrawn. Each of these commands answers a next state with its own effect:
resetKeyOperation, resetKeyStuck, resetKeyStuckClear. -/
def Obligations.ResetKeyCountsAndStuck : Prop :=
  ∀ (t : Time) (s : State) (k : KeyOperation) (env : StartEnv) (w : BitVec 2),
    (fieldUp s = true → validKey k = true →
      ((s.modes.mode ≠ .shutdown ∧ s.modes.mode ≠ .safeState) ∨ keySeen k = false → Runs (.resetKeyOperation t k env) s
        (modField (s.atTime t) fun x => { x with keycnt := x.keycnt + 1, keyOps := x.keyOps + 1 })) ∧
      (s.modes.mode = .safeState → s.constable.grave = true → Runs (.resetKeyOperation t k env) s
        (modField (s.atTime t) fun x => { x with keycnt := x.keycnt + 1, keyOps := x.keyOps + 1 })) ∧
      (s.modes.mode = .safeState → s.constable.grave = false → keySeen k = true → ∀ n, assertedModule s = some n →
        Runs (.resetKeyOperation t k env) s (bookEvent (modField (s.atTime t) fun x => { x with
          keycnt := x.keycnt + 1, keyOps := x.keyOps + 1 }) 0x0011 (u32 n) s.cyc.number 0))) ∧
    (fieldUp s = true → validKey k = false → Runs (.resetKeyOperation t k env) s
      (modField (s.atTime t) fun x => { x with keyIgn := x.keyIgn + 1 })) ∧
    (fieldUp s = true → keyLong (readKey s.field w t) t = true → Quiet s 78 → Runs (.resetKeyStuck t w) s
      (recordRaise (modField (s.atTime t) fun x => { readKey x w t with kstuck := true }) 78 false (u32 w.toNat) none32 s.field.tick)) ∧
    (fieldUp s = true → keyLong (readKey s.field w t) t = true → (source s 78).asserted = true → Runs (.resetKeyStuck t w) s
      (modSource (modField (s.atTime t) fun x => { readKey x w t with kstuck := true }) 78 fun y => { y with reported := true })) ∧
    (fieldUp s = true → keyLong (readKey s.field w t) t = false → Runs (.resetKeyStuck t w) s
      (modField (s.atTime t) fun x => readKey x w t)) ∧
    (fieldUp s = true → heldSince (s.atTime t) s.field.keyOff (sec 1) = true → (source s 78).reported = true →
      Runs (.resetKeyStuckClear t) s (withdraw (modField (s.atTime t) fun x => { x with kstuck := false }) 78)) ∧
    (fieldUp s = true → heldSince (s.atTime t) s.field.keyOff (sec 1) = true → (source s 78).reported = false →
      Runs (.resetKeyStuckClear t) s (modField (s.atTime t) fun x => { x with kstuck := false })) ∧
    (heldSince (s.atTime t) s.field.keyOff (sec 1) = false → Runs (.resetKeyStuckClear t) s (s.atTime t)) ∧
    (fieldUp s = false → Runs (.resetKeyStuck t w) s (s.atTime t) ∧ Runs (.resetKeyStuckClear t) s (s.atTime t))

/-- Coldstart and the time master (R237, R238, Table 08-4), on each engine: after its listening time, and again (1 + RANK) ms after
a collision, a node with a rank sends a coldstart frame on the engine's channels: with a clean readback on each it is the time
master of matrix FFFFh, with d half of each readback's time, and with the third collided one it is Mute by source 83. A node that
hears a valid coldstart frame of another one integrates with it, unless it is Active with the same rank: then it is Mute. Each of
these commands answers a next state with its own effect: listenEnd, coldstartRetry, coldstartFrame. -/
def Obligations.ColdstartMakesOneTimeMaster : Prop :=
  ∀ (t : Time) (s : State) (c : Chan) (a b : Option Nat) (r : Nat) (f : BusFrame), rankOn s c = some r →
    (∀ i, (i = Instr.listenEnd ⟨t, c⟩ a b ∧ engineOn s c = 1 ∧ (port s c).listenFrom + ms (128 + r) ≤ t) ∨
        (i = Instr.coldstartRetry ⟨t, c⟩ a b ∧ engineOn s c = 2 ∧ 1 ≤ (port s c).collided ∧ (port s c).listenFrom + ms (1 + r) ≤ t) →
      ((∀ x ∈ portChans s c, ((readOf a b x).any fun n => decide (n / 2 ≤ dmaxNs s)) = true) → Answers i s fun s' =>
        engineOn s' c = 5 ∧ masterOn s' c = some (nodeOn s c) ∧ (port s' c).matrix = 0xFFFF ∧ (port s' c).bcyc = 63 ∧
          (port s' c).collided = 0 ∧ (∀ x ∈ portChans s c, (chanBus s' x).delay = (readOf a b x).map fun n => n / 2) ∧
          s'.out.length = s.out.length + (portChans s c).length ∧ Frame [.now, .bus, .cyc, .out] s s') ∧
      ((∃ x ∈ portChans s c, readOf a b x = none) → (port s c).collided < 2 → Answers i s fun s' =>
        engineOn s' c = 2 ∧ (port s' c).collided = (port s c).collided + 1 ∧ (port s' c).listenFrom = t ∧
          (port s' c).matrix = 0xFFFF ∧ s'.out.length = s.out.length + (portChans s c).length ∧ Frame [.now, .bus, .out] s s') ∧
      ((∃ x ∈ portChans s c, readOf a b x = none) → 2 ≤ (port s c).collided → Quiet s 83 → Answers i s fun s' =>
        engineOn s' c = 7 ∧ Raised s s' 83 (u32 r) 0 0x3FF ∧ Frame [.now, .bus, .out, .constable] s s')) ∧
    (engineOn s c ≠ 1 ∨ t < (port s c).listenFrom + ms (128 + r) → Runs (.listenEnd ⟨t, c⟩ a b) s (s.atTime t)) ∧
    (engineOn s c ≠ 2 ∨ t < (port s c).listenFrom + ms (1 + r) → Runs (.coldstartRetry ⟨t, c⟩ a b) s (s.atTime t)) ∧
    (f.chan = c → f.ftype = 1 → engineOn s c ≠ 0 →
      (linkBad s f = true → Runs (.coldstartFrame t f) s
        (modBus (s.atTime t) c fun x => { x with crcErrors := x.crcErrors + 1 })) ∧
      (linkBad s f = false → f.sched = ownSched s → Timely s f → f.node ≠ nodeOn s c →
        (engineOn s c = 1 ∨ engineOn s c = 2 → Answers (.coldstartFrame t f) s fun s' =>
          engineOn s' c = 3 ∧ masterOn s' c = some f.node ∧ (∀ x ∈ portChans s c, (chanBus s' x).delay = none) ∧
            Frame [.now, .bus, .twin, .constable] s s') ∧
        (engineOn s c = 5 → f.rank.toNat = r → Quiet s 83 → Answers (.coldstartFrame t f) s fun s' =>
          engineOn s' c = 7 ∧ Raised s s' 83 (u32 r) 1 (u32 f.node) ∧ Frame [.now, .bus, .twin, .constable] s s'))) ∧
    (engineOn s f.chan = 0 → Runs (.coldstartFrame t f) s (s.atTime t))

/-- Sync positions (R231, R232, R235, R237, R240, Table 08-4), on each engine: a valid sync frame gives position and master, and on
a channel whose delay is known a correction of -D limited to 500 ns; beyond the limit in two basic cycles running the node turns
Passive by source 82 and integrates again in the next one. One outside the acceptance window is a window discard, and the basic
cycle counts as without a valid frame (log entry 111). A position without a frame applies no correction; for the time master its own
frame, read back clean, is the valid one. After 8 without one the engine listens, and the node whose rank comes up takes the sync
frames over. Each of these commands answers a next state with its own effect: syncFrame, noSyncTimeout, syncTakeover, passiveRejoin.
-/
def Obligations.SyncFramesSteerTheBelfry : Prop :=
  ∀ (t : Time) (s : State) (c : Chan) (x y : BusFrame) (r : Nat), engineOn s c = 5 → rankOn s c = some r →
    (x.chan ∈ portChans s c → x.ftype = 0 → linkBad s x = false → x.sched = ownSched s → x.node ≠ nodeOn s c → x.rank.toNat ≠ r →
      ∀ i, i = Instr.syncFrame ⟨t, c⟩ (if x.chan = .a then some x else none) (if x.chan = .b then some x else none) →
      (Timely s x → Answers i s fun s' =>
        engineOn s' c = 5 ∧ masterOn s' c = some x.node ∧ (port s' c).matrix = x.matrix ∧ (port s' c).bcyc = (x.bcyc + 1) % 64 ∧
          (port s' c).noSync = 0 ∧ (port s' c).missedRun = 0 ∧
          (if (chanBus s x.chan).delay.isSome then
            (port s' c).deviation = x.off ∧ (port s' c).correction = -x.off ∧ (port s' c).limitRun = 0
          else (port s' c).deviation = (port s c).deviation ∧ (port s' c).correction = 0) ∧
          Frame [.now, .bus, .twin, .constable] s s') ∧
      ((chanBus s x.chan).delay.isSome = true → isMaster s c = false →
        (400 < x.off → x.off ≤ 500 → Answers i s fun s' =>
          engineOn s' c = 5 ∧ (port s' c).correction = -x.off ∧ (port s' c).missedRun = (port s c).missedRun + 1 ∧
            (port s' c).noSync = (port s c).noSync + 1 ∧ masterOn s' c = masterOn s c ∧
            (chanBus s' x.chan).window = (chanBus s x.chan).window + 1 ∧ Frame [.now, .bus] s s') ∧
        (500 < x.off → (port s c).limitRun = 0 → Answers i s fun s' =>
          engineOn s' c = 5 ∧ (port s' c).correction = -500 ∧ (port s' c).limitRun = 1 ∧ Frame [.now, .bus] s s') ∧
        (x.off < -500 → 1 ≤ (port s c).limitRun → Quiet s 82 → Answers i s fun s' =>
          engineOn s' c = 6 ∧ (port s' c).correction = 500 ∧ Raised s s' 82 (i32 x.off) 0 (u32 (chanNo x.chan)) ∧
            Frame [.now, .bus, .constable, .draws] s s')) ∧
      (portChans s c = [.a, .b] → x.chan = .a → y.chan = .b → y.ftype = 0 → linkBad s y = false → y.sched = ownSched s →
        y.node = x.node → y.rank = x.rank → inWindow x = true → inWindow y = true →
        (chanBus s .a).delay.isSome = true → (chanBus s .b).delay.isSome = true →
        Answers (.syncFrame ⟨t, c⟩ (some x) (some y)) s fun s' =>
          engineOn s' c = 5 ∧ (port s' c).deviation = (x.off + y.off) / 2 ∧ (port s' c).correction = -((x.off + y.off) / 2))) ∧
    (isMaster s c = false → Answers (.syncFrame ⟨t, c⟩ none none) s fun s' =>
      (port s' c).correction = 0 ∧ (port s' c).missedRun = (port s c).missedRun + 1 ∧ (port s' c).noSync = (port s c).noSync + 1 ∧
        s'.bus.missed = s.bus.missed + (if portOf s c = .a then 1 else 0) ∧ (port s' c).bcyc = ((port s c).bcyc + 1) % 64 ∧
        engineOn s' c = 5 ∧ Frame [.now, .bus] s s') ∧
    (isMaster s c = true → Answers (.syncFrame ⟨t, c⟩ none none) s fun s' =>
      (port s' c).noSync = (if (port s c).ownSync then 0 else (port s c).noSync + 1) ∧ (port s' c).ownSync = false ∧
        s'.bus.missed = s.bus.missed ∧ engineOn s' c = 5 ∧ Frame [.now, .bus] s s') ∧
    (8 ≤ (port s c).noSync → Answers (.noSyncTimeout ⟨t, c⟩) s fun s' =>
      engineOn s' c = 1 ∧ masterOn s' c = none ∧ (port s' c).listenFrom = t ∧ (port s' c).noSync = 0 ∧ Frame [.now, .bus] s s') ∧
    ((port s c).noSync < 8 → Runs (.noSyncTimeout ⟨t, c⟩) s (s.atTime t)) ∧
    (isMaster s c = false → (port s c).missedRun = 2 + r → Quiet s 87 → Answers (.syncTakeover ⟨t, c⟩) s fun s' =>
      masterOn s' c = some (nodeOn s c) ∧ engineOn s' c = 5 ∧ (port s' c).missedRun = 0 ∧
        s'.out.length = s.out.length + ((portChans s c).filter fun k => (chanBus s k).delay.isSome).length ∧
        Raised s s' 87 (u32 (nodeOn s c)) (u32 ((masterOn s c).getD 0x3FF)) (u32 (port s c).matrix.toNat) ∧
        Frame [.now, .bus, .out, .constable] s s') ∧
    (isMaster s c = true ∨ (port s c).missedRun ≠ 2 + r → Runs (.syncTakeover ⟨t, c⟩) s (s.atTime t)) ∧
    Runs (.passiveRejoin ⟨t, c⟩) s (s.atTime t) ∧
    Answers (.passiveRejoin ⟨t, c⟩) (setEngine s c 6) fun s' =>
      engineOn s' c = 3 ∧ (∀ k ∈ portChans s c, (chanBus s' k).delay = none) ∧ Frame [.now, .bus] (setEngine s c 6) s'

/-- The delay to the time master (R230): asked again after 2 basic cycles without a response, answered by the master with the time
the request passed it; d is half the round trip that the send and its readback took, and of four measurements the mean of the middle
two; the fourth leads from Integrate to Observe, and one above DMAX is source 82. A joining node takes its first offset from the
response. Each of these commands answers a next state with its own effect: delayRequest, delayResponse, delayRequestRetry. -/
def Obligations.DelaysComeFromFourMeasurements : Prop :=
  ∀ (t tpass : Time) (s : State) (f : BusFrame) (tsend trip d : Nat) (ch : Chan),
    (f.ftype = 5 → linkBad s f = false → f.sched = ownSched s → isMaster s f.chan = true →
      Answers (.delayRequest t f tpass) s fun s' =>
        (chanBus s' f.chan).queue = (chanBus s f.chan).queue ++
            [⟨t, ownFrame 6 (leBytes 8 tpass ++ leBytes 2 f.node ++ List.replicate 6 0)⟩] ∧
          Frame [.now, .bus, .twin, .constable] s s') ∧
    (engineOn s f.chan = 0 → Runs (.delayRequest t f tpass) s (s.atTime t) ∧ Runs (.delayResponse t f.chan f) s (s.atTime t)) ∧
    (f.chan ≠ ch → Runs (.delayResponse t ch f) s (s.atTime t)) ∧
    (f.ftype = 6 → engineOn s f.chan ≠ 0 → linkBad s f = false → f.sched = ownSched s → Timely s f →
      field f.body 8 2 = nodeOn s f.chan → (chanBus s f.chan).asked.isSome = true →
      (chanBus s f.chan).sentAt = some (tsend, trip) → d = trip / 2 →
      (d ≤ dmaxNs s → (chanBus s f.chan).measured.length < 3 → Answers (.delayResponse t f.chan f) s fun s' =>
        (chanBus s' f.chan).measured = (chanBus s f.chan).measured ++ [d] ∧ (chanBus s' f.chan).asked = none ∧
          engineOn s' f.chan = engineOn s f.chan ∧
          (port s' f.chan).clusterOff = (if engineOn s f.chan = 3 then (field f.body 0 8 : Int) - (tsend + d : Nat)
            else (port s f.chan).clusterOff) ∧ Frame [.now, .bus, .twin, .constable] s s') ∧
      (d ≤ dmaxNs s → (chanBus s f.chan).measured.length = 3 → engineOn s f.chan = 3 → Answers (.delayResponse t f.chan f) s fun s' =>
        (chanBus s' f.chan).delay = some (middleMean ((chanBus s f.chan).measured ++ [d])) ∧ engineOn s' f.chan = 4 ∧
          (port s' f.chan).observing = false ∧ Frame [.now, .bus, .twin, .constable] s s') ∧
      (dmaxNs s < d → Quiet s 82 → Answers (.delayResponse t f.chan f) s fun s' =>
        (chanBus s' f.chan).measured = (chanBus s f.chan).measured ∧ (chanBus s' f.chan).asked = none ∧
          Raised s s' 82 (i32 (port s f.chan).deviation) 1 (u32 (chanNo f.chan)) ∧ Frame [.now, .bus, .twin, .constable] s s')) ∧
    (∀ n, (chanBus s ch).asked = some n →
      (2 ≤ n → engineOn s ch = 3 ∨ engineOn s ch = 5 → Answers (.delayRequestRetry t ch) s fun s' =>
        (chanBus s' ch).asked = none ∧
          (chanBus s' ch).queue = (chanBus s ch).queue ++ [⟨t, ownFrame 5 (List.replicate 16 0)⟩] ∧ Frame [.now, .bus] s s') ∧
      (n < 2 → Runs (.delayRequestRetry t ch) s (s.atTime t)))

/-- What a node sends, and where (R230, R233, R244, R245, R247, R248): nothing in an exclusive position that is not its own, the
sync frame of the time master in 160 on a channel whose delay it knows, and from the arbitrating queue a frame that still ends in
the open span: a clean one leaves the queue, a collided one backs off, the 16th collision drops it. A frame that would outlast the
guardian's window is cut. Non-vital frames handed over join one channel's queue. The guardian's suppression turns the node Passive
by source 84. Each of these commands answers a next state with its own effect: transmitPosition, arbitrationRetry,
guardianSuppression. -/
def Obligations.PositionsAreSentByTheSchedule : Prop :=
  ∀ (t : Time) (s : State) (ch : Chan) (b : Fin 64) (p : Fin 200) (back : Option Nat) (l : List (List Byte)), engineOn s ch = 5 →
    (p.val < 160 → ownsEntry s ch (schedAt s ch b.val p.val) = false → Answers (.transmitPosition t ch b p ⟨back, []⟩) s fun s' =>
      s'.out = s.out ∧ s'.bus.ch = s.bus.ch ∧ (port s' ch).bcyc = b.val ∧ Frame [.now, .bus] s s') ∧
    (∀ e, schedAt s ch b.val p.val = e → p.val < 160 → e.kind = 2 → e.pair = false → e.node = nodeOn s ch → inSplit s = false →
      (chanBus s ch).delay.isSome = true → sessionSilent s = false → tget [] s.bus.telegrams (512 + e.peer) ≠ [] →
      (guardianCuts (rateOn s ch) (tget [] s.bus.telegrams (512 + e.peer)).length e.span = false →
        Answers (.transmitPosition t ch b p ⟨back, []⟩) s fun s' =>
          (∃ f, s'.out = s.out ++ [.busFrame ch f] ∧ f.ftype = 3 ∧ f.body = tget [] s.bus.telegrams (512 + e.peer) ∧
            f.pos = p.val ∧ f.bcyc = b.val ∧ f.crc = u32 (busCrc f)) ∧ Frame [.now, .bus, .out] s s') ∧
      (guardianCuts (rateOn s ch) (tget [] s.bus.telegrams (512 + e.peer)).length e.span = true →
        Answers (.transmitPosition t ch b p ⟨back, []⟩) s fun s' =>
          s'.out = s.out ∧ (chanBus s' ch).cuts = (chanBus s ch).cuts + 1 ∧ Frame [.now, .bus] s s')) ∧
    (p.val = 160 → isMaster s ch = true → (chanBus s ch).delay.isSome = true → (back.all fun n => decide (n / 2 ≤ dmaxNs s)) = true →
      Answers (.transmitPosition t ch b p ⟨back, []⟩) s fun s' =>
      (∃ f, s'.out = s.out ++ [.busFrame ch f] ∧ f.ftype = 0 ∧ f.node = nodeOn s ch ∧ f.pos = 160 ∧ f.bcyc = b.val ∧
        f.matrix = (port s ch).matrix ∧ f.crc = u32 (busCrc f) ∧ f.body = leBytes 8 (clusterTime (s.atTime t) ch) ++ List.replicate 8 0) ∧
        (chanBus s' ch).sent = (chanBus s ch).sent + 1 ∧
        (chanBus s' ch).delay = (if back.isSome then back.map fun n => n / 2 else (chanBus s ch).delay) ∧
        (port s' ch).ownSync = ((port s ch).ownSync || back.isSome) ∧ Frame [.now, .bus, .out] s s') ∧
    (p.val = 160 → isMaster s ch = false ∨ (chanBus s ch).delay = none → Answers (.transmitPosition t ch b p ⟨back, l⟩) s fun s' =>
      s'.out = s.out ∧ (inSplit s = false → (chanBus s' .a).queue.length + (chanBus s' .b).queue.length =
        (chanBus s .a).queue.length + (chanBus s .b).queue.length + l.length) ∧ Frame [.now, .bus] s s') ∧
    (∀ f, nextArbitrating s ch = some f → f.ftype ≠ 7 → f.ftype ≠ 5 → arbitratingFits s ch p.val f.body.length = true →
      (chanBus s ch).delay.isSome = true →
      ∀ c, (c = Instr.transmitPosition t ch b p ⟨back, []⟩ ∧ (chanBus s ch).tries = 0) ∨
          (c = Instr.arbitrationRetry t ch b p back ∧ 0 < (chanBus s ch).tries ∧ (chanBus s ch).backoff = 0) →
        (back.isSome = true → Answers c s fun s' =>
          (chanBus s' ch).queue = (chanBus s ch).queue.eraseP (fun q => q.frame == f) ∧ (chanBus s' ch).tries = 0 ∧
            (chanBus s' ch).sent = (chanBus s ch).sent + 1 ∧ s'.out.length = s.out.length + 1 ∧ Frame [.now, .bus, .out] s s') ∧
        (back = none → (chanBus s ch).tries < 15 → Answers c s fun s' =>
          (chanBus s' ch).queue = (chanBus s ch).queue ∧ (chanBus s' ch).tries = (chanBus s ch).tries + 1 ∧
            (chanBus s' ch).backoff < 2 ^ min ((chanBus s ch).tries + 1) 6 ∧
            (chanBus s' ch).collisions = (chanBus s ch).collisions + 1 ∧ Frame [.now, .bus, .out, .draws] s s') ∧
        (back = none → (chanBus s ch).tries = 15 → Answers c s fun s' =>
          (chanBus s' ch).queue = (chanBus s ch).queue.eraseP (fun q => q.frame == f) ∧ (chanBus s' ch).tries = 0 ∧
            (chanBus s' ch).drops = (chanBus s ch).drops + 1 ∧ Frame [.now, .bus, .out] s s')) ∧
    (161 ≤ p.val → 0 < (chanBus s ch).tries → (chanBus s ch).delay.isSome = true →
      Answers (.transmitPosition t ch b p ⟨back, []⟩) s fun s' =>
        s'.out = s.out ∧ (chanBus s' ch).backoff = (chanBus s ch).backoff - 1 ∧ Frame [.now, .bus] s s') ∧
    (0 < (chanBus s ch).backoff → Runs (.arbitrationRetry t ch b p back) s (s.atTime t)) ∧
    (Quiet s 84 → Answers (.guardianSuppression t ch b p) s fun s' =>
      engineOn s' ch = 6 ∧ Raised s s' 84 (u32 p.val) (u32 b.val) (u32 (chanNo ch)) ∧ Frame [.now, .bus, .constable] s s')

/-- What a node receives (R228, R236, R239, R247, R250, R251, R272): a frame with another SCHED is counted as foreign, in the 64th
basic cycle running by source 86; a channel silent for 8 basic cycles is down; a frame in a forwarding position replaces the older
one; a boundary counts the matrix and ends an observation of 64 good basic cycles; pulses are counted, and steer a time master with
SYNCIN (the rate within 0.2 ppm is free). In Off nothing is received. Each of these commands answers a next state with its own
effect: multiPartnerDownFrame, nonVitalFrame, forwardFrame, foreignScheduleDetected, channelDown, syncInPulse, matrixBoundary. -/
def Obligations.ReceivedFramesAreCheckedAndCounted : Prop :=
  ∀ (t : Time) (s : State) (ch : Chan) (f : BusFrame),
    (∀ c, c = Instr.nonVitalFrame t f ∨ c = Instr.multiPartnerDownFrame t f ∨ (c = Instr.forwardFrame t f ∧ inSplit s = false) →
      (engineOn s f.chan = 0 → Runs c s (s.atTime t)) ∧
      (engineOn s f.chan ≠ 0 →
        (linkBad s f = true → Runs c s (modBus (s.atTime t) f.chan fun x => { x with crcErrors := x.crcErrors + 1 })) ∧
        (linkBad s f = false → f.sched ≠ ownSched s → Answers c s fun s' =>
          (chanBus s' f.chan).foreign = (chanBus s f.chan).foreign + 1 ∧ (port s' f.chan).foreignSeen = true ∧
            Frame [.now, .bus] s s') ∧
        (linkBad s f = false → f.sched = ownSched s → expects s f.chan = true → inWindow f = false →
          Runs c s (modBus (s.atTime t) f.chan fun x => { x with window := x.window + 1 })) ∧
        (linkBad s f = false → f.sched = ownSched s → Timely s f → Answers c s fun s' =>
          (chanBus s' f.chan).valid = (chanBus s f.chan).valid + 1 ∧ (chanBus s' f.chan).link = true ∧
            (chanBus s' f.chan).silent = 0 ∧ s'.bus.fwdHeld = s.bus.fwdHeld ∧ Frame [.now, .bus, .twin, .constable] s s'))) ∧
    (∀ e, inSplit s = true → engineOn s f.chan = 5 → linkBad s f = false → f.sched = ownSched s → Timely s f →
      (cluster? s).map (fun x => x.fwd) = some [e] → e.inport = f.chan → e.ibcyc = f.bcyc → e.ipos = f.pos →
      Answers (.forwardFrame t f) s fun s' =>
        tget none s'.bus.fwdHeld 0 = some ⟨t, f.ftype, f.body⟩ ∧
          s'.bus.replaced = s.bus.replaced + (if (tget none s.bus.fwdHeld 0).isSome then 1 else 0) ∧
          Frame [.now, .bus, .twin, .constable] s s') ∧
    (engineOn s f.chan ≠ 0 → linkBad s f = false → f.sched ≠ ownSched s →
      (63 ≤ (port s f.chan).foreignRun → Quiet s 86 → Answers (.foreignScheduleDetected t f) s fun s' =>
        Raised s s' 86 (u32 f.node) (u32 f.sched.toNat) (u32 (ownSched s).toNat) ∧ (port s' f.chan).foreignRun = 0 ∧
          Frame [.now, .bus, .constable] s s') ∧
      ((port s f.chan).foreignRun < 63 → Answers (.foreignScheduleDetected t f) s fun s' =>
        (chanBus s' f.chan).foreign = (chanBus s f.chan).foreign + 1 ∧ Frame [.now, .bus] s s')) ∧
    (engineOn s ch = 5 →
      (8 ≤ (chanBus s ch).silent → Quiet s (80 + chanNo ch) → Answers (.channelDown t ch) s fun s' =>
        (chanBus s' ch).link = false ∧
          Raised s s' (80 + chanNo ch) (u32 (nodeOn s ch)) 5 (u32 (port s ch).matrix.toNat) ∧
          Frame [.now, .bus, .constable] s s') ∧
      ((chanBus s ch).silent < 8 → Runs (.channelDown t ch) s (s.atTime t))) ∧
    (isMaster s .a = false ∨ ((cluster? s).any fun x => x.syncin) = false →
      Runs (.syncInPulse t) s (modEngine (s.atTime t) fun b => { b with pulses := b.pulses + 1 })) ∧
    (isMaster s .a = true → ((cluster? s).any fun x => x.syncin) = true → Answers (.syncInPulse t) s fun s' =>
      s'.bus.pulses = s.bus.pulses + 1 ∧ s'.bus.steer.natAbs ≤ 200 ∧ (t % sec 1 = 0 → s'.bus.steer = 0) ∧
        (t % sec 1 < ms 500 → s'.bus.steer ≤ 0) ∧ (ms 500 ≤ t % sec 1 → 0 ≤ s'.bus.steer) ∧ Frame [.now, .bus, .draws] s s') ∧
    (engineOn s ch = 0 → Runs (.matrixBoundary ⟨t, ch⟩) s (s.atTime t)) ∧
    (engineOn s ch = 5 → Answers (.matrixBoundary ⟨t, ch⟩) s fun s' =>
      (port s' ch).matrix = (port s ch).matrix + 1 ∧ (port s' ch).bcyc = 0 ∧ engineOn s' ch = 5 ∧
        (portOf s ch = .a → s'.sessions.quiet = [] ∧ s'.sessions.waiting = []) ∧
        Frame (if portOf s ch = .a then [.now, .bus, .sessions, .modes] else [.now, .bus]) s s') ∧
    (engineOn s ch = 4 →
      ((port s ch).observing = true → (port s ch).matrixOk = true → (port s ch).synced = 64 →
        Answers (.matrixBoundary ⟨t, ch⟩) s fun s' => engineOn s' ch = 5) ∧
      ((port s ch).observing = false ∨ (port s ch).matrixOk = false ∨ (port s ch).synced ≠ 64 →
        Answers (.matrixBoundary ⟨t, ch⟩) s fun s' => engineOn s' ch = 4 ∧ (port s' ch).observing = true ∧ (port s' ch).synced = 0))

/-- Vital telegrams (R246, R253, R264, R275 to R277): the two copies have to agree; a valid one of an open session moves RSEQ and
enters the mailbox when every lane of the vote accepts it; when the verdicts differ source 92 names the lanes that reject it;
outside Test Track one with TEST is source 93. At a matrix boundary an Opening session whose boundary it is opens, and a Closed slot
is Free. Each of these commands answers a next state with its own effect: vitalTelegram, matrixBoundary. -/
def Obligations.VitalTelegramsAreVerifiedByEveryLane : Prop :=
  ∀ (t : Time) (s : State) (f g : BusFrame) (l : List Lane), s.bus.engine = 5 → inSplit s = false →
    Runs (.vitalTelegram t none none l) s (modEngine (s.atTime t) fun b => { b with noCopy := b.noCopy + 1 }) ∧
    (f.chan = .a → g.chan = .b → f.ftype = 2 → g.ftype = 2 → linkBad s f = false → linkBad s g = false →
      f.sched = ownSched s → g.sched = ownSched s → Timely s f → Timely s g → crossRuns s 6 = true → crossRuns s 7 = true →
      (telegramEntry s f).isSome = true → (telegramEntry s g).isSome = true →
      (f.body ≠ g.body → Quiet s 85 → Answers (.vitalTelegram t (some f) (some g) l) s fun s' =>
        s'.bus.mismatched = s.bus.mismatched + 1 ∧ s'.sessions = s.sessions ∧
          Raised s s' 85 (u32 f.node) (u32 f.pos) (u32 g.pos)) ∧
      (∀ k q j, f.body = g.body → telegramSlot s f = some k → (sess s k).partner.bind (partner? s) = some q →
        verifyTelegram s q (sess s k) f.body = .ok j →
        (testGiven (sess s k) f.body = true → s.modes.mode ≠ .testTrack → Quiet s 93 →
          Answers (.vitalTelegram t (some f) (some g) l) s fun s' =>
            (sess s' k).rejected = (sess s k).rejected + 1 ∧ (sess s' k).rseq = (sess s k).rseq ∧
              s'.sessions.mailbox = s.sessions.mailbox ∧ Raised s s' 93 (u32 k) 1 s.cyc.number) ∧
        (testGiven (sess s k) f.body = false ∨ s.modes.mode = .testTrack →
          ((voters s).filter (fun x => l.contains x) = [] → Answers (.vitalTelegram t (some f) (some g) l) s fun s' =>
            s'.bus.both = s.bus.both + 1 ∧ (sess s' k).rseq = (sess s k).rseq + u32 j ∧
              (sess s' k).accepted = (sess s k).accepted + 1 ∧
              s'.sessions.mailbox = s.sessions.mailbox ++
                [⟨k, (sess s k).rseq + u32 j, f.body.take (sess s k).payload, t⟩]) ∧
          ((voters s).filter (fun x => l.contains x) ≠ [] → (voters s).filter (fun x => l.contains x) ≠ voters s → Quiet s 92 →
            Answers (.vitalTelegram t (some f) (some g) l) s fun s' =>
            (sess s' k).rejected = (sess s k).rejected + 1 ∧ (sess s' k).rseq = (sess s k).rseq ∧
              s'.sessions.mailbox = s.sessions.mailbox ∧
              Raised s s' 92 (u32 k) (u32 (laneMap ((voters s).filter fun x => l.contains x))) s.cyc.number)))) ∧
    (∀ k y, s.sessions.slots = [(k, y)] →
      (y.state = 1 → y.stamped = true → y.opensAt = s.bus.matrix + 1 → Answers (.matrixBoundary ⟨t, .a⟩) s fun s' =>
        (sess s' k).state = 2 ∧ (sess s' k).opened = t ∧ s'.sessions.events = s.sessions.events ++ [.opened k t]) ∧
      (y.state = 2 ∨ (y.state = 1 ∧ (y.stamped = false ∨ y.opensAt ≠ s.bus.matrix + 1)) →
        Answers (.matrixBoundary ⟨t, .a⟩) s fun s' => s'.sessions.slots = s.sessions.slots ∧ s'.sessions.events = s.sessions.events) ∧
      (y.state = 3 → Answers (.matrixBoundary ⟨t, .a⟩) s fun s' =>
        s'.sessions.slots = tput {} s.sessions.slots k { reason := y.reason }))

/-- Opening (R262 to R266): an OPEN is refused with 0Bh in Split and in a Watch whose Loom cannot check telegrams, with 08h when its
identity is no partner, which makes it a stranger, and with the code of the first parameter on which no agreement is found;
otherwise an ACCEPT goes to the arbitrating span with the chosen options for the lowest Free slot, and when it has been sent clean
the slot is Opening. A standby takes an OPEN and answers nothing. Kutia's own OPEN to a neighbour of a higher address is answered
once: an ACCEPT takes a slot, a REFUSE 07h makes it wait for the next boundary. Each of these commands answers a next state with its
own effect: sessionOpen, sessionAccept, sessionRefuse, transmitPosition, sessionOpenSend. -/
def Obligations.PartnersAreAdmittedOrRefused : Prop :=
  ∀ (t : Time) (s : State) (c : Chan) (f : BusFrame) (k q : Nat) (o : OpenFrame) (x : Partner) (b : Fin 64) (p : Fin 200) (trip : Nat),
    (openForUs s c o = true → Quiet s 94 →
      (Arrives s c 1 f o → sessionSilent s = true → Answers (.sessionOpen ⟨t, c⟩ f o) s fun s' =>
        s'.sessions.slots = s.sessions.slots ∧ s'.sessions.promised = s.sessions.promised ∧
          Frame [.now, .sessions, .bus, .twin, .constable] s s') ∧
      (Arrives s c 1 f o → sessionSilent s = false → s.sessions.quiet.contains f.node = false → Quiet s 88 →
        (modeRefuses s = true → Answers (.sessionOpen ⟨t, c⟩ f o) s fun s' =>
          s'.sessions.refused = s.sessions.refused + 1 ∧ s'.sessions.slots = s.sessions.slots ∧
            Raised s s' 88 (u32 f.node) 0x0B o.ident ∧ Frame [.now, .sessions, .bus, .twin, .constable] s s') ∧
        (modeRefuses s = false → partnerOf s o.ptype o.ident = none → s.sessions.strangers.length < 32 →
          (∀ y ∈ s.sessions.strangers, y.node ≠ f.node) →
          Answers (.sessionOpen ⟨t, c⟩ f o) s fun s' =>
            s'.sessions.refused = s.sessions.refused + 1 ∧ s'.sessions.slots = s.sessions.slots ∧
              s'.sessions.strangers = s.sessions.strangers ++ [⟨f.node, o.ident, 8, t⟩] ∧ Raised s s' 88 (u32 f.node) 8 o.ident ∧
              Frame [.now, .sessions, .bus, .twin, .constable] s s') ∧
        (modeRefuses s = false → partnerOf s o.ptype o.ident = some (q, x) → slotOfPartner s q = none →
          (∀ y ∈ s.sessions.promised, y.sess.partner ≠ some q) → freeSess s = some k → ∀ pol, policy? s x.ptype = some pol →
          (∀ code, negotiate s o pol x = .error code → Answers (.sessionOpen ⟨t, c⟩ f o) s fun s' =>
            s'.sessions.refused = s.sessions.refused + 1 ∧ s'.sessions.slots = s.sessions.slots ∧
              s'.sessions.promised = s.sessions.promised ∧ Raised s s' 88 (u32 f.node) (u32 code.toNat) o.ident) ∧
          (∀ opt, negotiate s o pol x = .ok opt → positionsOk s x.ptype f.node = true → ∀ l,
            l = freeSlices s (if x.ptype = 0 then opt.payload / 16 else 0) →
            l.length = (if x.ptype = 0 then opt.payload / 16 else 0) →
            Answers (.sessionOpen ⟨t, c⟩ f o) s fun s' =>
              s'.sessions.promised = s.sessions.promised ++ [⟨k, t, f.node, o, openingSess q f.node opt l o k false⟩] ∧
                s'.sessions.slots = s.sessions.slots ∧
                (chanBus s' .a).queue.length + (chanBus s' .b).queue.length =
                  (chanBus s .a).queue.length + (chanBus s .b).queue.length + 1 ∧
                Frame [.now, .sessions, .bus, .twin, .constable] s s'))) ∧
      (partnerOf s o.ptype o.ident = some (q, x) → inSplit s = false → s.sessions.sentOpen.contains q = true →
        strangerOf s f.node o = none →
        (Arrives s c 2 f o → x.ptype = 1 → slotOfPartner s q = none → freeSess s = some k → Answers (.sessionAccept ⟨t, c⟩ f o) s fun s' =>
          (sess s' k).state = 1 ∧ (sess s' k).partner = some q ∧ (sess s' k).node = f.node ∧
            optionsOf (sess s' k) = acceptOptions o ∧ (sess s' k).carried = o.sess.toNat ∧ (sess s' k).opensAt = o.matrix ∧
            (sess s' k).stamped = true ∧ s'.sessions.sentOpen.contains q = false ∧
            Frame [.now, .sessions, .bus, .twin, .constable] s s') ∧
        (Arrives s c 3 f o → o.reason = 7 → Runs (.sessionRefuse ⟨t, c⟩ f o) s (modSessions (receive (s.atTime t) f true).1 fun y => { y with
          sentOpen := y.sentOpen.filter fun z => z != q, waiting := y.waiting ++ [q] })) ∧
        (Arrives s c 3 f o → o.reason ≠ 7 → Runs (.sessionRefuse ⟨t, c⟩ f o) s (modSessions (receive (s.atTime t) f true).1 fun y => { y with
          sentOpen := y.sentOpen.filter fun z => z != q })))) ∧
    (∀ g y, engineOn s c = 5 → (chanBus s c).delay.isSome = true → (chanBus s c).tries = 0 → nextArbitrating s c = some g →
      acceptSlot g = some k → (s.sessions.promised.find? fun z => z.slot == k) = some y →
      arbitratingFits s c p.val g.body.length = true → Answers (.transmitPosition t c b p ⟨some trip, []⟩) s fun s' =>
        sess s' k = { y.sess with opensAt := openingMatrix s b.val p.val, stamped := true } ∧
          (∀ z ∈ s'.sessions.promised, z.slot ≠ k) ∧ Frame [.now, .sessions, .bus, .out] s s') ∧
    (partner? s q = some x → x.ptype = 1 → sessionSilent s = false → s.bus.engine = 5 → modeRefuses s = false →
      slotOfPartner s q = none → s.sessions.waiting.contains q = false → ownSession s < partnerAddr x →
      Answers (.sessionOpenSend t q) s fun s' =>
        s'.sessions.sentOpen.contains q = true ∧ s'.sessions.slots = s.sessions.slots ∧
          (chanBus s' .a).queue.length + (chanBus s' .b).queue.length =
            (chanBus s .a).queue.length + (chanBus s .b).queue.length + 1 ∧
          Frame [.now, .sessions, .bus, .draws] s s') ∧
    (partner? s q = some x → partnerAddr x ≤ ownSession s → Runs (.sessionOpenSend t q) s (s.atTime t))

/-- Closing, and what strangers get (R265, R266, R268, R278, R282): a CLOSE of the partner is noted, and ends an Opening or open
session at the next snapshot; TMO exchange periods without an accepted telegram close a session with 0Ch and source 90, its CLOSE
being due in the Issue phase; the host may ask for it; a known stranger's DIAG request is answered, every frame of it refreshes its
record, and the record ends 10 s after the last one. Each of these commands answers a next state with its own effect: sessionClose,
sessionTimeout, sessionCloseRequest, diagRequest, diagReply, strangerRecordExpiry. -/
def Obligations.SessionsEndAndStrangersExpire : Prop :=
  ∀ (t : Time) (s : State) (c : Chan) (f : BusFrame) (node k q : Nat) (o : OpenFrame) (x : Partner) (slot : Fin 512) (ch : Fin 8) (v : U8),
    (openForUs s c o = true → inSplit s = false → strangerOf s f.node o = none → partnerOf s o.ptype o.ident = some (q, x) →
      slotOfPartner s q = some k → Arrives s c 4 f o →
      ((sess s k).state = 3 → Runs (.sessionClose ⟨t, c⟩ f o) s (receive (s.atTime t) f true).1) ∧
      ((sess s k).state ≠ 3 → Runs (.sessionClose ⟨t, c⟩ f o) s (modSessions (receive (s.atTime t) f true).1 fun y => { y with
        events := y.events ++ [.closed k 0 t] }))) ∧
    (∀ i ∈ [Instr.sessionOpen ⟨t, c⟩ f o, .sessionAccept ⟨t, c⟩ f o, .sessionRefuse ⟨t, c⟩ f o, .sessionClose ⟨t, c⟩ f o,
        .diagRequest ⟨t, c⟩ f o, .diagReply ⟨t, c⟩ f o], f.chan ≠ c ∨ engineOn s c = 0 → Runs i s (s.atTime t)) ∧
    ((sess s slot.val).state = 2 → (sess s slot.val).firstCyc.isSome = true → (sess s slot.val).partner = some q →
      (tmoOf s (sess s slot.val) ≤ (sess s slot.val).missed → Quiet s 90 → Answers (.sessionTimeout t slot) s fun s' =>
        (sess s' slot.val).state = 3 ∧ (sess s' slot.val).reason = 0x0C ∧ (sess s' slot.val).firstCyc = none ∧
          s'.sessions.timeouts = s.sessions.timeouts + 1 ∧ s'.sessions.closeDue = s.sessions.closeDue ++ [((sess s slot.val).node, 0x0C)] ∧
          (∀ m ∈ s'.sessions.mailbox, m.slot ≠ slot.val) ∧
          (∀ m ∈ s'.cyc.snap.records, m.slot ≠ slot.val) ∧ Raised s s' 90 (u32 slot.val) 0x0C (u32 q) ∧
          Frame [.now, .sessions, .cyc, .points, .constable] s s') ∧
      ((sess s slot.val).missed < tmoOf s (sess s slot.val) → Runs (.sessionTimeout t slot) s (s.atTime t))) ∧
    ((sess s slot.val).state ≠ 2 → Runs (.sessionTimeout t slot) s (s.atTime t)) ∧
    (Serves s t → authorised s ch.val = true →
      ((sess s slot.val).state = 2 → Runs (.sessionCloseRequest t ch slot 1) s
        (accepted (modSess (s.atTime t) slot.val fun y => { y with closeReq := some t }) ch)) ∧
      ((sess s slot.val).state ≠ 2 → Runs (.sessionCloseRequest t ch slot 1) s (refused (s.atTime t) ch 0x0460)) ∧
      (v ≠ 1 → Runs (.sessionCloseRequest t ch slot v) s (refused (s.atTime t) ch 0x0230))) ∧
    (∀ y, openForUs s c o = true → inSplit s = false → s.sessions.strangers = [y] → y.node = f.node → y.ident = o.ident →
      (Arrives s c 5 f o → (policy? s 3).isSome = true → sessionSilent s = false → Answers (.diagRequest ⟨t, c⟩ f o) s fun s' =>
        s'.sessions.strangers = [{ y with last := t }] ∧
          (chanBus s' .a).queue.length + (chanBus s' .b).queue.length =
            (chanBus s .a).queue.length + (chanBus s .b).queue.length + 1 ∧
          Frame [.now, .sessions, .bus, .twin, .constable] s s') ∧
      (Arrives s c 5 f o → policy? s 3 = none → Answers (.diagRequest ⟨t, c⟩ f o) s fun s' =>
        s'.sessions.strangers = [{ y with last := t }] ∧ Frame [.now, .sessions, .bus, .twin, .constable] s s') ∧
      (Arrives s c 6 f o → Answers (.diagReply ⟨t, c⟩ f o) s fun s' =>
        s'.sessions.strangers = [{ y with last := t }] ∧ s'.sessions.slots = s.sessions.slots ∧
          Frame [.now, .sessions, .bus, .twin, .constable] s s')) ∧
    (openForUs s c o = false → Runs (.diagReply ⟨t, c⟩ f o) s (hearOpening (s.atTime t) c 6 f o).1 ∧
      Runs (.diagRequest ⟨t, c⟩ f o) s (hearOpening (s.atTime t) c 5 f o).1) ∧
    Runs (.strangerRecordExpiry t node) s (modSessions (s.atTime t) fun y => { y with
      strangers := y.strangers.filter fun z => z.node != node || t < z.last + sec 10 })

/-- Transfers (R288 to R294, R299, R308, R314): a frame for another module is counted and goes no further; an unknown OP or FUNC is
refused with 0702h, and a busy channel refuses a request with 0704h; a value of up to 56 bytes is read expedited; segments are taken
in order and blocks acknowledged; a block that is not acknowledged is sent again three times, a silent host ends a write after 1,000
ms; an abort ends the transfer, and nothing of it is applied. Each of these commands answers a next state with its own effect: read,
writeExpedited, writeSegmented, segment, blockAcknowledge, abortTransfer, transferTimeout, blockResendTimeout. -/
def Obligations.TransfersCarryReadsAndWrites : Prop :=
  ∀ (t : Time) (s : State) (q : HostReq) (data got : List Byte) (size next start blk seg resends : Nat) (code : U16) (c : ChannelSt)
    (x : State),
    Serves s t → (hostBus s q.bus).state = 1 → hostCrosses s q.bus = true → chanSt s q.chan.val = c → c.cut = none →
    (addressed s q.place = false → ∀ i ∈ [Instr.read t q, .writeExpedited t q data, .writeSegmented t q size, .abortTransfer t q code,
        .segment t q.place q.chan q.tid seg false data, .blockAcknowledge t q.place q.chan q.tid next blk],
      Runs i s (hearFrame (s.atTime t) q.bus)) ∧
    (addressed s q.place = true → unknownForm q = true →
      ∀ i ∈ [Instr.read t q, .writeExpedited t q data, .writeSegmented t q size], Answers i s fun s' =>
        (chanSt s' q.chan.val).transfer = c.transfer ∧ (chanSt s' q.chan.val).lastAbort = 0x0702 ∧
          (chanSt s' q.chan.val).aborts = c.aborts + 1 ∧ s'.out.length = s.out.length + 1 ∧ Frame [.now, .host, .out] s s') ∧
    (addressed s q.place = true → unknownForm q = false →
    x = noteTransfer (frameIn (s.atTime t) q.bus q.chan.val) q →
    (∀ i, (i = Instr.read t q ∨ (i = Instr.writeExpedited t q data ∧ data.length ≤ 56) ∨ i = Instr.writeSegmented t q size) →
      c.transfer.isSome = true → Answers i s fun s' =>
        (chanSt s' q.chan.val).transfer = c.transfer ∧ (chanSt s' q.chan.val).lastAbort = 0x0704 ∧
          (chanSt s' q.chan.val).aborts = c.aborts + 1 ∧ (chanSt s' q.chan.val).transfers = c.transfers ∧
          s'.out.length = s.out.length + 1 ∧ Frame [.now, .host, .out] s s') ∧
    (c.transfer = none →
      (readEntry x q.chan.val q.index q.sub = .ok (x, data) → data.length ≤ 56 → Answers (.read t q) s fun s' =>
        s'.out = s.out ++ [.hostFrame q.bus (hostWord 2 true s.host.position q.chan.val q.tid)
            (padded ([0x81] ++ leBytes 2 q.index ++ [u8 q.sub] ++ leBytes 4 data.length ++ data))] ∧
          (chanSt s' q.chan.val).transfers = c.transfers + 1 ∧ (chanSt s' q.chan.val).transfer = none ∧
          Frame [.now, .host, .out] s s') ∧
      (readEntry x q.chan.val q.index q.sub = .error code → Answers (.read t q) s fun s' =>
        (chanSt s' q.chan.val).lastAbort = code ∧ (chanSt s' q.chan.val).aborts = c.aborts + 1 ∧
          s'.out.length = s.out.length + 1 ∧ Frame [.now, .host, .out] s s') ∧
      (data.length ≤ 56 → writeEntry x q.chan.val q.index q.sub data = (x, some code) →
        Answers (.writeExpedited t q data) s fun s' =>
          (chanSt s' q.chan.val).lastAbort = code ∧ (chanSt s' q.chan.val).aborts = c.aborts + 1 ∧
            s'.out.length = s.out.length + 1 ∧ Frame [.now, .host, .out] s s') ∧
      (data.length = 4 → q.index = 0x2510 → q.sub = 1 → Answers (.writeExpedited t q data) s fun s' =>
        s'.constable.fromSeq = u32 (leNat data) ∧ s'.out.length = s.out.length + 1 ∧
          (chanSt s' q.chan.val).transfers = c.transfers + 1 ∧ Frame [.now, .host, .out, .constable] s s') ∧
      (openRefusal x q size = none → Answers (.writeSegmented t q size) s fun s' =>
        (∃ k, 1 ≤ k ∧ k ≤ 32 ∧
          (chanSt s' q.chan.val).transfer = some (.receiving q.bus q.tid q.index q.sub size [] 0 0 k)) ∧
          s'.out.length = s.out.length + 1 ∧ Frame [.now, .host, .out, .draws] s s') ∧
      (openRefusal x q size = some code → Answers (.writeSegmented t q size) s fun s' =>
        (chanSt s' q.chan.val).transfer = none ∧ (chanSt s' q.chan.val).lastAbort = code ∧ Frame [.now, .host, .out] s s') ∧
      (0 < t → Answers (.segment t q.place q.chan q.tid seg false (data.take 60)) s fun s' =>
        s'.out = s.out ∧ (chanSt s' q.chan.val).transfer = none ∧ Frame [.now, .host] s s')) ∧
    (c.transfer = some (.receiving q.bus q.tid q.index q.sub size got next start blk) → data.length ≤ 60 →
      (seg = next → start ≤ seg → seg + 1 < start + blk → segmentFits size seg false data = true →
        Answers (.segment t q.place q.chan q.tid seg false data) s fun s' =>
          (chanSt s' q.chan.val).transfer =
              some (.receiving q.bus q.tid q.index q.sub size (got ++ data) (next + 1) start blk) ∧
            s'.out = s.out ∧ Frame [.now, .host] s s') ∧
      (start ≤ seg → segmentFits size seg false data = false ∨ start + blk ≤ seg →
        Answers (.segment t q.place q.chan q.tid seg false data) s fun s' =>
          (chanSt s' q.chan.val).transfer = none ∧ (chanSt s' q.chan.val).lastAbort = 0x0703 ∧ Frame [.now, .host, .out] s s') ∧
      (c.frameAt + ms 1000 ≤ t → Answers (.transferTimeout t q.chan) s fun s' =>
        (chanSt s' q.chan.val).transfer = none ∧ (chanSt s' q.chan.val).lastAbort = 0x0701 ∧ Frame [.now, .host, .out] s s') ∧
      (t < c.frameAt + ms 1000 → Runs (.transferTimeout t q.chan) s (s.atTime t)) ∧
      (code ≠ 0 → Answers (.abortTransfer t q code) s fun s' =>
        (chanSt s' q.chan.val).transfer = none ∧ (chanSt s' q.chan.val).lastAbort = code ∧
          (chanSt s' q.chan.val).aborts = c.aborts + 1 ∧ s'.out = s.out ∧ Frame [.now, .host] s s')) ∧
    (c.transfer = some (.sending q.bus q.tid q.index q.sub data next blk resends) →
      (0 < t → Answers (.blockAcknowledge t q.place q.chan q.tid (segments data.length) seg) s fun s' =>
        (chanSt s' q.chan.val).transfer = none ∧ s'.out = s.out ∧ Frame [.now, .host] s s') ∧
      (start < segments data.length → 1 ≤ seg → seg ≤ 32 →
        Answers (.blockAcknowledge t q.place q.chan q.tid start seg) s fun s' =>
          (chanSt s' q.chan.val).transfer = some (.sending q.bus q.tid q.index q.sub data start seg 0) ∧
            s'.out.length = s.out.length + min seg (segments data.length - start) ∧ Frame [.now, .host, .out] s s') ∧
      (c.frameAt + ms 100 ≤ t → resends < 3 → Answers (.blockResendTimeout t q.chan) s fun s' =>
        (chanSt s' q.chan.val).transfer = some (.sending q.bus q.tid q.index q.sub data next blk (resends + 1)) ∧
          (chanSt s' q.chan.val).frameAt = t ∧ Frame [.now, .host, .out] s s') ∧
      (c.frameAt + ms 100 ≤ t → 3 ≤ resends → Answers (.blockResendTimeout t q.chan) s fun s' =>
        (chanSt s' q.chan.val).transfer = none ∧ (chanSt s' q.chan.val).lastAbort = 0x0701 ∧ Frame [.now, .host, .out] s s') ∧
      (t < c.frameAt + ms 100 → Runs (.blockResendTimeout t q.chan) s (s.atTime t))))

/-- Writes of an entry (R294 to R297, R300): a missing entry and a right that does not permit the write are refused with their
codes, an RWA entry needs an authorised channel, and a permitted value is in force; an RWS entry goes to its group's shadow, while
the group is free or the channel's own, its value is in range and no commit is pending. Each of these commands answers a next state
with its own effect: dictionaryWrite, shadowWrite. -/
def Obligations.EntriesAreWrittenByTheirRights : Prop :=
  ∀ (t : Time) (s : State) (ch : Fin 8) (index sub : Nat) (data : List Byte) (code : U16), Serves s t →
    (entryAt (s.atTime t) index sub = .error code →
      Runs (.dictionaryWrite t ch index sub data) s (refused (s.atTime t) ch code)) ∧
    (∀ e, entryAt (s.atTime t) index sub = .ok e →
      (e.right = .ro → Runs (.dictionaryWrite t ch index sub data) s (refused (s.atTime t) ch 0x0101)) ∧
      (e.right = .rwa → authorised s ch.val = false →
        Runs (.dictionaryWrite t ch index sub data) s (refused (s.atTime t) ch 0x0301))) ∧
    (data.length = 4 → Runs (.dictionaryWrite t ch 0x2510 1 data) s
      (accepted (modConstable (s.atTime t) fun c => { c with fromSeq := u32 (leNat data) }) ch)) ∧
    (data.length ≠ 4 → Runs (.dictionaryWrite t ch 0x2510 1 data) s (refused (s.atTime t) ch 0x0201)) ∧
    (rwsEntry index sub data = none → Runs (.shadowWrite t ch index sub data) s (refused (s.atTime t) ch 0x0101)) ∧
    (∀ g, rwsEntry index sub data = some (g, some code) →
      Runs (.shadowWrite t ch index sub data) s (refused (s.atTime t) ch code)) ∧
    (∀ g, rwsEntry index sub data = some (g, none) →
      (∀ k, (groupShadow s g).owner = some k → k ≠ ch.val →
        Runs (.shadowWrite t ch index sub data) s (refused (s.atTime t) ch 0x0504)) ∧
      ((groupShadow s g).owner = none ∨ (groupShadow s g).owner = some ch.val →
        ((groupShadow s g).status = 2 → Runs (.shadowWrite t ch index sub data) s (refused (s.atTime t) ch 0x0505)) ∧
        ((groupShadow s g).status ≠ 2 → g ≠ 31 → Answers (.shadowWrite t ch index sub data) s fun s' =>
          (groupShadow s' g).status = 1 ∧ (groupShadow s' g).owner = some ch.val ∧
            (groupShadow s' g).shadow =
              ((groupShadow s g).shadow.filter fun y => !(y.1 == index && y.2.1 == sub)) ++ [(index, sub, data)] ∧
            Frame [.now, .host] s s')))

/-- Authentication (R302 to R306, R417): a challenge serves one response within 60 s; the right HMAC authorises the channel with its
slot, a wrong one is refused with 0302h and counted, and the fifth within 10 min locks authentication out for 60 s by source 110; 30
min of silence end an authorisation; keys are written in Stop under S24. Each of these commands answers a next state with its own
effect: challenge, response, deauthorise, authorisationTimeout, authenticationLockoutEnd, key, ownerKey. -/
def Obligations.AuthenticationFollowsTheChallenge : Prop :=
  ∀ (t : Time) (s : State) (ch : Fin 8) (slot : Fin 4) (key mac x data : List Byte) (from_ : Time) (mask : U8), Serves s t →
    (Answers (.challenge t ch) s fun s' =>
      (chanSt s' ch.val).challenge = some (leBytes 16 (Config.challenge s.draws).toNat, t) ∧
        (chanSt s' ch.val).keySlot = (chanSt s ch.val).keySlot ∧ Frame [.now, .host, .draws] s s') ∧
    (lockedOut (s.atTime t) = true → Runs (.response t ch data) s (refused (s.atTime t) ch 0x0305)) ∧
    (lockedOut (s.atTime t) = false → mac.length = 32 → data = u8 slot.val :: mac →
      (keyOf s slot.val = some key → (chanSt s ch.val).challenge = some (x, from_) →
        (t < from_ + sec 60 → mac = hmac256 key (authMessage s ch.val slot.val x) → Answers (.response t ch data) s fun s' =>
          (chanSt s' ch.val).keySlot = some slot.val ∧ (chanSt s' ch.val).challenge = none ∧ Frame [.now, .host] s s') ∧
        (from_ + sec 60 ≤ t ∨ mac ≠ hmac256 key (authMessage s ch.val slot.val x) → (recentRefusals (s.atTime t)).length < 4 →
          Answers (.response t ch data) s fun s' =>
            (chanSt s' ch.val).lastAbort = 0x0302 ∧ (chanSt s' ch.val).challenge = none ∧
              (chanSt s' ch.val).keySlot = (chanSt s ch.val).keySlot ∧ s'.host.lockout = s.host.lockout ∧
              s'.host.refusals = recentRefusals (s.atTime t) ++ [t] ∧ Frame [.now, .host] s s') ∧
        (mac ≠ hmac256 key (authMessage s ch.val slot.val x) → 4 ≤ (recentRefusals (s.atTime t)).length → Quiet s 110 →
          Answers (.response t ch data) s fun s' =>
            (chanSt s' ch.val).lastAbort = 0x0302 ∧ s'.host.lockout = some t ∧
              Raised s s' 110 (u32 ch.val) (u32 slot.val) 0 ∧ Frame [.now, .host, .constable] s s')) ∧
      (keyOf s slot.val = none → (recentRefusals (s.atTime t)).length < 4 → Answers (.response t ch data) s fun s' =>
        (chanSt s' ch.val).lastAbort = 0x0303 ∧ Frame [.now, .host] s s')) ∧
    Runs (.deauthorise t ch mask) s (accepted (((List.range 8).filter fun c => mask.getLsbD c).foldl endAuth (s.atTime t)) ch) ∧
    ((chanSt s ch.val).activity + sec 1800 ≤ t → Runs (.authorisationTimeout t ch) s (endAuth (s.atTime t) ch.val)) ∧
    (t < (chanSt s ch.val).activity + sec 1800 → Runs (.authorisationTimeout t ch) s (s.atTime t)) ∧
    (lockedOut (s.atTime t) = false →
      Runs (.authenticationLockoutEnd t) s (modHost (s.atTime t) fun h => { h with lockout := none })) ∧
    (lockedOut (s.atTime t) = true → Runs (.authenticationLockoutEnd t) s (s.atTime t)) ∧
    (key.length = 32 → s.modes.mode = .stop → s24 s = true →
      (allZero key = false → authorised s ch.val = true ∨ (∀ k, k < 4 → keyOf s k = none) →
        Answers (.key t ch slot key) s fun s' =>
          keyOf s' slot.val = some key ∧ (∀ k, k ≠ slot.val → keyOf s' k = keyOf s k) ∧ Frame [.now, .host] s s') ∧
      (authorised s ch.val = true →
        Runs (.ownerKey t ch key) s (accepted (modUpdate (s.atTime t) fun u => { u with ownerKey := some key }) ch)) ∧
      (authorised s ch.val = false → Runs (.ownerKey t ch key) s (refused (s.atTime t) ch 0x0487))) ∧
    (key.length = 32 → s.modes.mode ≠ .stop ∨ s24 s = false →
      Runs (.key t ch slot key) s (refused (s.atTime t) ch 0x0304) ∧
        Runs (.ownerKey t ch key) s (refused (s.atTime t) ch 0x0487))

/-- Staged groups and forces (R300, R301, R313, R160 to R162): a commit is refused with the code of its first failed check, which
stays in the group's status and goes out as an event; an accepted one puts the written values in force, and force requests wait for
the next S. An abort, or 30 min of silence of its owner, frees a group. Each of these commands answers a next state with its own
effect: groupCommit, forceCommit, forceRequest, groupAbort, groupOwnerTimeout. -/
def Obligations.StagedGroupsApplyAtTheirCommit : Prop :=
  ∀ (t : Time) (s : State) (ch : Fin 8) (g : U8) (k : Fin 64) (n : Nat) (data : List Byte) (code : U16), Serves s t →
    kindEnabled s 4 = true → s.host.events.length < 256 →
    (g = 0 ∨ 63 < g.toNat → Runs (.groupCommit t ch g) s (refused (s.atTime t) ch 0x0230)) ∧
    (0 < g.toNat → g.toNat ≤ 63 →
      (if groupDefined g.toNat = false then some 0x0501 else if (groupShadow s g.toNat).status ≠ 1 then some 0x0503
        else if (groupShadow s g.toNat).owner ≠ some ch.val then some 0x0504
        else if authorised s ch.val = false then some 0x0340 else if g = 1 ∧ linkFieldsOk s = false then some 0x0502 else none)
        = some code →
      Answers (.groupCommit t ch g) s fun s' =>
        (groupShadow s' g.toNat).code = code ∧ (groupShadow s' g.toNat).shadow = (groupShadow s g.toNat).shadow ∧
          (chanSt s' ch.val).lastAbort = code ∧
          s'.host.events = s.host.events ++ [⟨4, s.host.eseq, [g, 2] ++ leBytes 2 code.toNat⟩] ∧ Frame [.now, .host] s s') ∧
    (∀ x, groupShadow s 40 = x → x.status = 1 → x.owner = some ch.val → authorised s ch.val = true → x.shadow = [(0x2400 + n, 6, data)] →
      Answers (.groupCommit t ch 40) s fun s' =>
        (source s' n).window = some (leNat data) ∧ (∀ m, m ≠ n → source s' m = source s m) ∧
          s'.host.events = s.host.events ++ [⟨4, s.host.eseq, [40, 1, 0, 0]⟩] ∧ Frame [.now, .host, .constable] s s') ∧
    (∀ x, groupShadow s 1 = x → x.status = 1 → x.owner = some ch.val → authorised s ch.val = true → x.shadow = [(0x1100, 1, data)] →
      linkFieldsOk s = true → Answers (.groupCommit t ch 1) s fun s' =>
        setting s' 0x1100 1 500 = leNat data ∧ s'.host.events = s.host.events ++ [⟨4, s.host.eseq, [1, 1, 0, 0]⟩] ∧
          Frame [.now, .host] s s') ∧
    (∀ x, groupShadow s 31 = x → x.status = 1 → x.owner = some ch.val → authorised s ch.val = true →
      (forceRefusal s = none → Answers (.forceCommit t ch) s fun s' =>
        s'.change.queued = some (shadowForces s) ∧ s'.change.forces = s.change.forces ∧ (groupShadow s' 31).status = 2 ∧
          (groupShadow s' 31).pending = some t ∧ (groupShadow s' 31).shadow = [] ∧ s'.host.events = s.host.events ∧
          Frame [.now, .host, .change] s s') ∧
      (forceRefusal s = some code → Answers (.forceCommit t ch) s fun s' =>
        (chanSt s' ch.val).lastAbort = code ∧ s'.change = s.change ∧ (groupShadow s' 31).shadow = x.shadow ∧
          Frame [.now, .host] s s')) ∧
    ((groupShadow s 31).owner = none ∨ (groupShadow s 31).owner = some ch.val → (groupShadow s 31).status ≠ 2 → data.length = 20 →
      data.headD 0 = 1 ∨ data.headD 0 = 2 →
      (forceWriteCode s data = none → Answers (.forceRequest t ch data) s fun s' =>
        (groupShadow s' 31).status = 1 ∧ (groupShadow s' 31).owner = some ch.val ∧
          (groupShadow s' 31).shadow = (groupShadow s 31).shadow ++ [(0x3880, 1, keptData 31 data)] ∧ Frame [.now, .host] s s') ∧
      (forceWriteCode s data = some code → Runs (.forceRequest t ch data) s (refused (s.atTime t) ch code))) ∧
    (data.length ≠ 20 → Runs (.forceRequest t ch data) s (refused (s.atTime t) ch (lengthCode data 20))) ∧
    (0 < g.toNat → g.toNat ≤ 63 → (groupShadow s g.toNat).status ≠ 2 →
      Runs (.groupAbort t ch g) s (accepted (freeGroup (s.atTime t) g.toNat 0) ch)) ∧
    ((groupShadow s g.toNat).status = 2 → 0 < g.toNat → g.toNat ≤ 63 → Runs (.groupAbort t ch g) s (accepted (s.atTime t) ch)) ∧
    ((groupShadow s k.val).owner = some ch.val →
      ((chanSt s ch.val).activity + sec 1800 ≤ t → Answers (.groupOwnerTimeout t k) s fun s' =>
        (groupShadow s' k.val).status = 3 ∧ (groupShadow s' k.val).owner = none ∧ (groupShadow s' k.val).shadow = [] ∧
          Frame [.now, .host] s s') ∧
      (t < (chanSt s ch.val).activity + sec 1800 → Runs (.groupOwnerTimeout t k) s (s.atTime t)))

/-- Events, buses and the Steward (R307, R308, R316): the oldest event goes out; a controller that turns error passive or goes
bus-off raises its source; a restart ends every transfer and authorisation and the event queue, and the Steward serves again within
2 s. Each of these commands answers a next state with its own effect: eventPush, hostBusStateChange, stewardRestart. -/
def Obligations.EventsAndRestartsOfTheSteward : Prop :=
  ∀ (t : Time) (s : State) (b : HostBus) (n : Fin 5) (errors : Nat) (e : Event) (rest : List Event),
    (Serves s t → s.host.events = e :: rest → s.host.dropDue = 0 → Answers (.eventPush t) s fun s' =>
      s'.host.events = rest ∧ Frame [.now, .host, .out] s s' ∧
        ∀ o ∈ s'.out.drop s.out.length, ∃ k, o = .hostFrame k (hostWord 3 true s.host.position 0 0) (padded (eventBytes e))) ∧
    (s.host.events = [] → Runs (.eventPush t) s (s.atTime t)) ∧
    ((hostBus s b).state ≠ 0 → (hostBus s b).state ≠ 4 → (hostBus s b).state ≠ n.val →
      (n.val = 3 → Quiet s (107 + busNo b) → Answers (.hostBusStateChange t b n errors) s fun s' =>
        (hostBus s' b).state = 3 ∧ (hostBus s' b).busOff = (hostBus s b).busOff + 1 ∧ (hostBus s' b).errors = u32 errors ∧
          Raised s s' (107 + busNo b) (u32 (busNo b)) 0 (u32 errors) ∧ Frame [.now, .host, .constable, .draws] s s') ∧
      (n.val = 2 → Quiet s (107 + busNo b) → Answers (.hostBusStateChange t b n errors) s fun s' =>
        (hostBus s' b).state = 2 ∧ (hostBus s' b).busOff = (hostBus s b).busOff ∧
          Raised s s' (107 + busNo b) (u32 (busNo b)) 1 (u32 errors) ∧ Frame [.now, .host, .constable, .draws] s s') ∧
      (n.val = 1 → Answers (.hostBusStateChange t b n errors) s fun s' =>
        (hostBus s' b).state = 1 ∧ (hostBus s' b).errors = u32 errors ∧ Frame [.now, .host, .draws] s s')) ∧
    ((hostBus s b).state = n.val ∨ n.val = 0 ∨ n.val = 4 → Runs (.hostBusStateChange t b n errors) s (s.atTime t)) ∧
    (s.host.serving = true → Answers (.stewardRestart t) s fun s' =>
      t ≤ s'.host.servingAt ∧ s'.host.servingAt ≤ t + sec 2 ∧ s'.host.serving = true ∧
        (∀ ch, (chanSt s' ch).keySlot = none ∧ (chanSt s' ch).transfer = none ∧ (chanSt s' ch).challenge = none) ∧
        s'.host.events.length ≤ 1 ∧ s'.host.keys = s.host.keys ∧ s'.host.settings = s.host.settings ∧
        Frame [.now, .host, .constable, .draws] s s') ∧
    (s.host.serving = false → Runs (.stewardRestart t) s (s.atTime t))

/-- The actions of group 30 (R144 to R149, R155, R156): an action outside its states is refused with 0530h, and each permitted one
leads where Table 05-2 says; a commit of another staged action is no step of the row. Each of these commands answers a next state
with its own effect: changePrepare, changeArm, changeRollback, changeCommit, changeCancel. -/
def Obligations.ChangeActionsFollowTheirStates : Prop :=
  ∀ (t : Time) (s : State) (ch : Fin 8), Serves s t → (groupShadow s 30).status = 1 → (groupShadow s 30).owner = some ch.val →
    authorised s ch.val = true →
    (∀ a c, (a, c) ∈ [(1, Instr.changePrepare t ch), (2, Instr.changeArm t ch), (3, Instr.changeRollback t ch),
        (4, Instr.changeCommit t ch), (5, Instr.changeCancel t ch)] →
      (stagedAction s ≠ a → Runs c s (accepted (s.atTime t) ch)) ∧
      (stagedAction s = a → actionAllowed s a = false → Answers c s fun s' =>
        s'.change = s.change ∧ (groupShadow s' 30).code = 0x0530 ∧ (chanSt s' ch.val).lastAbort = 0x0530) ∧
      (stagedAction s = a → actionAllowed s a = true → expectedProgid s a ≠ some (stagedField s 30 0x3800 5 0) →
        Answers c s fun s' =>
          s'.change = s.change ∧ (groupShadow s' 30).code = 0x0531 ∧ (chanSt s' ch.val).lastAbort = 0x0531)) ∧
    (groupRefusal (s.atTime t) 30 = none →
      (stagedAction s = 1 → Answers (.changePrepare t ch) s fun s' =>
        s'.change.stateC = 1 ∧ s'.change.prepared = none ∧ s'.change.since = t ∧ s'.program = s.program) ∧
      (stagedAction s = 2 → Answers (.changeArm t ch) s fun s' =>
        s'.change.stateC = 4 ∧ s'.change.isRoll = false ∧ s'.change.kSwitch = switchCycle s ∧ s'.program = s.program) ∧
      (stagedAction s = 3 → Answers (.changeRollback t ch) s fun s' =>
        s'.change.stateC = 4 ∧ s'.change.isRoll = true ∧ s'.change.kSwitch = switchCycle s ∧ s'.program = s.program) ∧
      (stagedAction s = 4 → Answers (.changeCommit t ch) s fun s' =>
        s'.change.stateC = 6 ∧ s'.change.retained = none ∧ s'.program = s.program) ∧
      (stagedAction s = 5 → Answers (.changeCancel t ch) s fun s' =>
        s'.change.stateC = (if s.change.stateC = 4 then (if s.change.isRoll then 5 else 3) else 0) ∧
          s'.change.kSwitch = s.change.lastK ∧ s'.change.retained = s.change.retained ∧ s'.program = s.program))

/-- Preparation, the switch and its record (R147, R148, R150, R153 to R156): a package that is not there, fails a check, differs in
a lane or takes 60 s is refused with its result; otherwise the pair is Ready. At cycle K the prepared pair runs and the old one is
retained, or the retained pair runs again, once, before a Mill has begun its Logic; the record makes the running pair the installed
one. Each of these commands answers a next state with its own effect: changePreparationComplete, changePreparationTimeout,
programSwitch, installedRecordWritten. -/
def Obligations.ProgramsSwitchAtTheirCycle : Prop :=
  ∀ (t : Time) (s : State) (l : List Lane) (micros : Nat) (old new : ProgPair) (images : List Byte × List Byte) (x y : List Byte),
    (s.change.stateC = 1 →
      (loadingResult s (stagedImages s) = 0 → Answers (.changePreparationComplete t l) s fun s' =>
        s'.change.stateC = 2 ∧ Frame [.now, .change] s s') ∧
      (loadingResult s (stagedImages s) ≠ 0 → Answers (.changePreparationComplete t l) s fun s' =>
        s'.change.stateC = 0 ∧ s'.change.result = loadingResult s (stagedImages s) ∧ s'.change.prepared = none ∧
          Frame [.now, .change, .constable, .host] s s')) ∧
    (s.change.stateC = 2 → stagedImages s = some images →
      (∀ code ref, checkingResult s images l = (code, ref) → code ≠ 0 → Answers (.changePreparationComplete t l) s fun s' =>
        s'.change.stateC = 0 ∧ s'.change.result = code ∧ s'.change.prepared = none ∧ Frame [.now, .change, .constable, .host] s s') ∧
      Answers (.changePreparationComplete t l) s fun s' =>
        s'.change.result = (checkingResult s images l).1 ∧
          (s'.change.result = 0 → s'.change.stateC = 3 ∧ s'.change.prepared = some (pairOf images) ∧
            s'.update.otherBank = [images.1, images.2] ∧ Frame [.now, .change, .update] s s')) ∧
    (s.change.stateC = 2 → stagedImages s = none → Answers (.changePreparationComplete t l) s fun s' =>
      s'.change.stateC = 0 ∧ s'.change.result = 0x20 ∧ Frame [.now, .change, .constable, .host] s s') ∧
    (s.change.stateC = 1 ∨ s.change.stateC = 2 →
      (s.change.since + sec 60 ≤ t → Answers (.changePreparationTimeout t) s fun s' =>
        s'.change.stateC = 0 ∧ s'.change.result = 0x24 ∧ Frame [.now, .change, .constable, .host] s s') ∧
      (t < s.change.since + sec 60 → Runs (.changePreparationTimeout t) s (s.atTime t))) ∧
    (s.change.stateC ≠ 1 → s.change.stateC ≠ 2 →
      Runs (.changePreparationComplete t l) s (s.atTime t) ∧ Runs (.changePreparationTimeout t) s (s.atTime t)) ∧
    (s.program.pair = some old → s.change.stateC = 4 →
      (s.cyc.number = s.change.kSwitch → s.cyc.running = true → s.lanes.a.complete = false → s.lanes.b.complete = false →
        s.cyc.voted = false →
        (s.change.isRoll = false → s.change.prepared = some new → Answers (.programSwitch t micros) s fun s' =>
          s'.program.pair = some new ∧ s'.change.stateC = 5 ∧ s'.change.retained = some old ∧ s'.change.prepared = none ∧
            s'.change.switchAt = s.cyc.begun ∧ Frame [.now, .program, .lanes, .change, .constable, .host] s s') ∧
        (s.change.isRoll = true → s.change.retained = some new → Answers (.programSwitch t micros) s fun s' =>
          s'.program.pair = some new ∧ s'.change.stateC = 0 ∧ s'.change.retained = none ∧
            Frame [.now, .program, .lanes, .change, .constable, .host] s s')) ∧
      (s.cyc.number ≠ s.change.kSwitch → Runs (.programSwitch t micros) s (s.atTime t))) ∧
    (s.change.stateC = 6 → s.update.otherBank = [x, y] → x ≠ [] → y ≠ [] → Answers (.installedRecordWritten t) s fun s' =>
      s'.change.stateC = 0 ∧ tget [] s'.update.images 2 = x ∧ tget [] s'.update.images 3 = y ∧
        s'.update.otherBank = [tget [] s.update.images 2, tget [] s.update.images 3] ∧
        s'.update.state = (if s.update.state = 4 then 8 else s.update.state) ∧ s'.program = s.program ∧
        Frame [.now, .change, .update, .constable, .host] s s') ∧
    (s.change.stateC ≠ 6 → Runs (.installedRecordWritten t) s (s.atTime t))

/-- The Stile of a lane (R317 to R326): a lane reads one item at a time; a read answered within 20 us completes and any other ends
with TIMEOUT, the item being absent; towards a side in reset it ends with RESET at once. At most four reads of the service side are
outstanding, in order, and one that expires aborts its transfer. Posted entries carry consecutive tags, a gap is Lane-class source
107; towards a side in reset a lane's entry waits, for 20 us, and one of the service side is lost; a message shows that what was
posted before it has arrived; a failed write is counted with its source. A reset ends the reads and starts the tags at 0. A marker
holds for the cycle whose S it closes, and 2.0 ms after S its origin counts as empty. Each of these commands answers a next state
with its own effect: stileRead, stileReadTimeout, lateCompletion, serviceRead, serviceReadTimeout, postedWrite, postedCreditTimeout,
telegramArrived, sessionEvent, mirrorSnapshotComplete, intakeMarker, postedWriteError, farSideResetBegins, farSideResetEnds,
intakeMarkerTimeout. -/
def Obligations.StilesBoundEveryAccess : Prop :=
  ∀ (t : Time) (s : State) (ln : Lane) (x : StileSt) (addr closes num : U32) (lat : Option Nat) (ch : Fin 8) (data : List Byte)
    (tag own : U16) (reason : Fin 6) (slot : Fin 512) (side : Side) (dir : Dir), stile s ln = x →
    (x.laneReset = false → x.reading = none → x.out.wait = none →
      (x.svcReset = false →
        (∀ k, lat = some k → k ≤ 20000 → Answers (.stileRead t ln addr lat) s fun s' =>
          (stile s' ln).done = some ⟨addr, .data, []⟩ ∧ (stile s' ln).reading = none ∧ (stile s' ln).reads = x.reads + 1 ∧
            (stile s' ln).longest = max x.longest k ∧ (stile s' ln).out.queue = [] ∧ (stile s' ln).inw.queue = [] ∧
            Frame [.now, .stiles] s s') ∧
        ((∀ k, lat = some k → 20000 < k) → Runs (.stileRead t ln addr lat) s (modStile (s.atTime t) ln fun y => { y with
          reads := y.reads + 1, reading := some (addr, t) }))) ∧
      (x.svcReset = true → runsCycles s ln = true → (s.lanes.get ln).complete = false → Answers (.stileRead t ln addr lat) s fun s' =>
        (stile s' ln).done = some ⟨addr, .reset, []⟩ ∧ (stile s' ln).reading = none ∧
          (s'.lanes.get ln).absent = (s.lanes.get ln).absent ++ [Config.itemAt addr] ∧ Frame [.now, .stiles, .lanes] s s')) ∧
    (x.laneReset = true ∨ x.reading.isSome = true ∨ x.out.wait.isSome = true → Runs (.stileRead t ln addr lat) s (s.atTime t)) ∧
    (∀ t0, x.reading = some (addr, t0) →
      (t0 + 20000 ≤ t → Quiet s (96 + laneNo ln) → Answers (.stileReadTimeout t ln) s fun s' =>
        (stile s' ln).reading = none ∧ (stile s' ln).done = some ⟨addr, .timeout, []⟩ ∧ (stile s' ln).timeouts = x.timeouts + 1 ∧
          (stile s' ln).expired = x.expired + 1 ∧
          (runsCycles s ln = true → (s.lanes.get ln).complete = false →
            (s'.lanes.get ln).absent = (s.lanes.get ln).absent ++ [Config.itemAt addr]) ∧
          Raised s s' (96 + laneNo ln) (u32 (laneNo ln)) addr s.cyc.number ∧ Frame [.now, .stiles, .lanes, .constable] s s') ∧
      (t < t0 + 20000 → Runs (.stileReadTimeout t ln) s (s.atTime t))) ∧
    (0 < x.expired → Runs (.lateCompletion t ln) s (modStile (s.atTime t) ln fun y => { y with
      expired := y.expired - 1, lateCount := y.lateCount + 1 })) ∧
    (x.expired = 0 → Runs (.lateCompletion t ln) s (s.atTime t)) ∧
    (x.state = 0 → x.serviceRds.length < 4 → (x.serviceRds.head?.all fun r => r.answer.isNone) = true →
      Runs (.serviceRead t ln addr ch false) s (modStile (s.atTime t) ln fun y => { y with
        serviceRds := y.serviceRds ++ [⟨addr, ch.val, t, none⟩] }) ∧
      (x.serviceRds ≠ [] → Runs (.serviceRead t ln addr ch true) s (modStile (s.atTime t) ln fun y => { y with
        serviceRds := y.serviceRds ++ [⟨addr, ch.val, t, some ⟨addr, .data, readbackAt s ln addr⟩⟩] })) ∧
      (x.serviceRds = [] → Answers (.serviceRead t ln addr ch true) s fun s' =>
        (stile s' ln).serviceRds = [] ∧ (chanSt s' ch.val).fetched = readbackAt s ln addr ∧ (stile s' ln).out.queue = [] ∧
          (stile s' ln).inw.queue = [] ∧ Frame [.now, .stiles, .host] s s')) ∧
    (x.state ≠ 0 ∨ 4 ≤ x.serviceRds.length → ∀ b, Runs (.serviceRead t ln addr ch b) s (s.atTime t)) ∧
    (∀ r rest, x.serviceRds = r :: rest → r.chan = ch.val →
      (r.since + 20000 ≤ t → Answers (.serviceReadTimeout t ln) s fun s' =>
        (stile s' ln).serviceRds = rest.dropWhile (fun z => z.answer.isSome) ∧ (stile s' ln).timeouts = x.timeouts + 1 ∧
          (chanSt s' ch.val).lastAbort = 0x0706 ∧ (chanSt s' ch.val).transfer = none ∧
          Frame [.now, .stiles, .host, .out] s s') ∧
      (t < r.since + 20000 → Runs (.serviceReadTimeout t ln) s (s.atTime t))) ∧
    (portOpen x .outward = true → data.length ≤ 64 →
      (x.svcReset = false → x.out.queue.length < 32 → tag = x.out.expect →
        Answers (.postedWrite t ln .outward addr data tag) s fun s' =>
          (stile s' ln).out.expect = tag + 1 ∧ (stile s' ln).out.tag = x.out.tag + 1 ∧ (stile s' ln).out.posted = x.out.posted + 1 ∧
            (stile s' ln).out.queue.getLast? = some ⟨x.out.tag, .write addr data, t⟩ ∧
            (stile s' ln).out.queue.length ≤ x.out.queue.length + 1 ∧
            (stile s' ln).out.hist.getLast? = some ⟨x.out.tag, .outward, data.length, addr, s.cyc.number, u32 (t % 2 ^ 32)⟩ ∧
            (stile s' ln).out.hist.length ≤ 256 ∧ Frame [.now, .stiles, .draws] s s') ∧
      (x.svcReset = true → Runs (.postedWrite t ln .outward addr data tag) s (modStile (s.atTime t) ln fun y => { y with
        out := { y.out with wait := some ⟨.write addr data, tag, t⟩ } }))) ∧
    (∀ w, x.out.wait = some w → w.since + 20000 ≤ t →
      (x.svcReset = true → Quiet s (99 + laneNo ln) → Answers (.postedCreditTimeout t ln addr) s fun s' =>
        (stile s' ln).failures = x.failures + 1 ∧ (stile s' ln).lastReason = 4 ∧ (stile s' ln).out.tag = x.out.tag ∧
          (stile s' ln).out.wait = none ∧ (stile s' ln).out.queue = x.out.queue ∧
          Raised s s' (99 + laneNo ln) 4 w.body.addr (u32 x.out.tag.toNat) ∧ Frame [.now, .stiles, .constable] s s') ∧
      (x.svcReset = false → x.out.queue.length ≤ 32 → w.arrived = x.out.expect →
        Answers (.postedCreditTimeout t ln addr) s fun s' =>
          (stile s' ln).failures = x.failures ∧ (stile s' ln).out.wait = none ∧ (stile s' ln).out.tag = x.out.tag + 1 ∧
            Frame [.now, .stiles, .draws] s s')) ∧
    (x.out.wait = none → x.out.queue = [] → Runs (.postedCreditTimeout t ln addr) s (s.atTime t)) ∧
    (x.svcReset = false → x.inw.wait = none →
      (x.laneReset = false → x.inw.queue.length < 32 → tag ≠ x.inw.expect → AllVoting s → Raisable s t 107 →
        Answers (.postedWrite t ln .inward addr data tag) s fun s' =>
          (stile s' ln).inw.expect = tag + 1 ∧ inVote s' ln = false ∧
            Raised s s' 107 (u32 (laneNo ln)) (u32 x.inw.expect.toNat) (u32 tag.toNat)) ∧
      (x.laneReset = true → Quiet s (99 + laneNo ln) → Answers (.postedWrite t ln .inward addr data tag) s fun s' =>
        (stile s' ln).failures = x.failures + 1 ∧ (stile s' ln).lastReason = 5 ∧ (stile s' ln).inw = x.inw ∧
          Raised s s' (99 + laneNo ln) 5 addr (u32 (65536 + x.inw.tag.toNat)) ∧ Frame [.now, .stiles, .constable] s s') ∧
      (x.laneReset = false → own = x.inw.expect →
        (x.inw.queue.length < 32 →
          (Answers (.telegramArrived t ⟨ln, own⟩ ⟨.inward, num⟩) s fun s' => MessageQueued s s' ln .inward (msgOf 1 0 num)) ∧
          (Answers (.sessionEvent t ⟨ln, own⟩ slot) s fun s' => MessageQueued s s' ln .inward (msgOf 6 0 (u32 slot.val))) ∧
          (Answers (.mirrorSnapshotComplete t ⟨ln, own⟩) s fun s' => MessageQueued s s' ln .inward (msgOf 7 2 0))) ∧
        (∀ o, s.cyc.running = false ∨ closes ≠ u32 (s.cyc.begun % 2 ^ 32) →
          Answers (.intakeMarker t ⟨ln, own⟩ o closes) s fun s' =>
            MessageHeard s s' ln .inward (msgOf 2 (originNo o) closes) ∧ Frame [.now, .stiles] s s') ∧
        (∀ o, s.cyc.running = true → closes = u32 (s.cyc.begun % 2 ^ 32) →
          Answers (.intakeMarker t ⟨ln, own⟩ o closes) s fun s' =>
            MessageHeard s s' ln .inward (msgOf 2 (originNo o) closes) ∧ markerHeld (s'.lanes.get ln) o = true ∧
              Frame [.now, .stiles, .lanes] s s'))) ∧
    (x.state = 0 → x.reading = none → x.out.wait = none → x.out.queue.length < 32 → own = x.out.expect →
      Answers (.telegramArrived t ⟨ln, own⟩ ⟨.outward, num⟩) s fun s' => MessageQueued s s' ln .outward (msgOf 1 4 num)) ∧
    (messagesPass x (opposite dir) = true → (x.side (opposite dir)).wait = none → own = (x.side (opposite dir)).expect →
      Quiet s (99 + laneNo ln) → Answers (.postedWriteError t ⟨ln, own⟩ dir tag reason) s fun s' =>
        (∃ o, MessageHeard s s' ln (opposite dir) { msgOf 3 o (u32 (dirBit dir * 65536 + tag.toNat)) with
          addr := historyAddr x dir tag, reason := u8 reason.val }) ∧
        (reason.val = 0 → (stile s' ln).failures = x.failures ∧ Frame [.now, .stiles, .draws] s s') ∧
        (reason.val ≠ 0 → (stile s' ln).failures = x.failures + 1 ∧ (stile s' ln).lastReason = u8 reason.val ∧
          Raised s s' (99 + laneNo ln) (u32 reason.val) (historyAddr x dir tag) (u32 (dirBit dir * 65536 + tag.toNat)) ∧
          Frame [.now, .stiles, .constable, .draws] s s')) ∧
    (x.state ≠ 0 → (∀ o, Runs (.intakeMarker t ⟨ln, own⟩ o closes) s (s.atTime t)) ∧
      Runs (.postedWriteError t ⟨ln, own⟩ dir tag reason) s (s.atTime t)) ∧
    (senderReset x dir = true → (x.side dir).queue = [] → (x.side dir).wait = none →
      Runs (.postedWrite t ln dir addr data tag) s (s.atTime t) ∧ Runs (.telegramArrived t ⟨ln, own⟩ ⟨dir, num⟩) s (s.atTime t) ∧
        (dir = .inward → Runs (.sessionEvent t ⟨ln, own⟩ slot) s (s.atTime t) ∧
          Runs (.mirrorSnapshotComplete t ⟨ln, own⟩) s (s.atTime t))) ∧
    (x.inReset side = false → dir = towards side → own = (x.side (opposite dir)).expect → (x.side (opposite dir)).wait = none →
      (x.side dir).wait = none → Quiet s 106 → Quiet s (99 + laneNo ln) →
      Answers (.farSideResetBegins t ⟨ln, own⟩ side) s fun s' =>
        (stile s' ln).inReset side = true ∧ (stile s' ln).reading = none ∧ (stile s' ln).serviceRds = [] ∧
          (stile s' ln).out.tag = 0 ∧ (stile s' ln).inw.tag = 0 ∧ (stile s' ln).out.expect = 0 ∧ (stile s' ln).inw.expect = 0 ∧
          (stile s' ln).out.queue = [] ∧ (stile s' ln).inw.queue = [] ∧ (source s' 106).raises = (source s 106).raises + 1 ∧
          ((x.side dir).queue = [] → Raised s s' 106 (u32 (laneNo ln)) (if side = .service then 0 else 1) 0) ∧
          Frame [.now, .stiles, .lanes, .host, .constable, .draws, .out] s s') ∧
    (x.inReset side = true →
      Runs (.farSideResetBegins t ⟨ln, own⟩ side) s (s.atTime t) ∧
      ((x.svcReset && x.laneReset) = false → dir = opposite (towards side) → own = (x.side dir).expect → (x.side dir).wait = none →
        Answers (.farSideResetEnds t ⟨ln, own⟩ side) s fun s' =>
          (stile s' ln).state = 0 ∧ MessageHeard s s' ln dir (msgOf 5 (sideOrigin side) 0) ∧ Frame [.now, .stiles] s s') ∧
      ((x.svcReset && x.laneReset) = true → Answers (.farSideResetEnds t ⟨ln, own⟩ side) s fun s' =>
        (stile s' ln).inReset side = false ∧ (stile s' ln).state ≠ 0 ∧ Frame [.now, .stiles] s s')) ∧
    (x.inReset side = false → Runs (.farSideResetEnds t ⟨ln, own⟩ side) s (s.atTime t)) ∧
    (s.cyc.running = true → runsCycles s ln = true → (s.lanes.get ln).complete = false →
      s.cyc.begun + ms 2 ≤ t ∨ x.svcReset = true → Quiet s 102 →
      ((s.lanes.get ln).markQueue = false → Answers (.intakeMarkerTimeout t ln .commandQueue) s fun s' =>
        (s'.lanes.get ln).markQueue = true ∧ (s'.lanes.get ln).emptyQueue = true ∧ s'.stiles.markers = s.stiles.markers + 1 ∧
          Raised s s' 102 (u32 (laneNo ln)) 1 s.cyc.number ∧ Frame [.now, .stiles, .lanes, .cyc, .constable] s s') ∧
      ((s.lanes.get ln).markBus = false → Answers (.intakeMarkerTimeout t ln .busEngine) s fun s' =>
        (s'.lanes.get ln).markBus = true ∧ (s'.lanes.get ln).emptyBus = true ∧ s'.stiles.markers = s.stiles.markers + 1 ∧
          Raised s s' 102 (u32 (laneNo ln)) 0 s.cyc.number ∧ Frame [.now, .stiles, .lanes, .cyc, .sessions, .constable] s s')) ∧
    (s.cyc.running = false ∨ (s.lanes.get ln).markQueue = true →
      Runs (.intakeMarkerTimeout t ln .commandQueue) s (s.atTime t))

/-- The crossings between clock islands (R327 to R332), in each direction that Table 11-6 gives: an idle crossing sends and waits
for its acknowledge; what comes meanwhile gathers and goes next, but a second toggle is a protocol error by source 105, and so is a
delta that overflowed, when it is received; 2 us without an acknowledge stop the crossing with its source; 10 us of a running clock
resume it, and the end of its receiver's reset sends the current value, or the events not acknowledged, anew. Each of these commands
answers a next state with its own effect: crossingTransfer, crossingAckTimeout, crossingResume, crossingReset. -/
def Obligations.CrossingsWaitForTheirAcknowledge : Prop :=
  ∀ (t t0 : Time) (s : State) (c : Fin 16) (x : CrossSt) (d : Dir) (y : CrossWay) (v : List Byte) (n : Nat) (ran : Time) (b : Bool),
    crossing s c.val = x → crossWay s c.val d = y →
    (x.state = 0 → y.waiting = none →
      (crossKind c.val = 1 → Answers (.crossingTransfer t c ⟨d, .toggle⟩) s fun s' =>
        (crossWay s' c.val d).waiting = some t ∧ (crossWay s' c.val d).level = !y.level ∧
          (crossing s' c.val).transfers = x.transfers + 1 ∧ Frame [.now, .stiles] s s') ∧
      (crossKind c.val = 2 → Answers (.crossingTransfer t c ⟨d, .value v⟩) s fun s' =>
        (crossWay s' c.val d).waiting = some t ∧ (crossWay s' c.val d).current = v ∧ (crossWay s' c.val d).holding = v ∧
          (crossWay s' c.val d).received = y.received ∧ Frame [.now, .stiles] s s') ∧
      (crossKind c.val = 3 → Answers (.crossingTransfer t c ⟨d, .events n⟩) s fun s' =>
        (crossWay s' c.val d).waiting = some t ∧ (crossWay s' c.val d).delta = min (y.gathered + n) 65535 ∧
          (crossWay s' c.val d).overflow = (y.overflow || decide (65535 < y.gathered + n)) ∧
          (crossWay s' c.val d).gathered = 0 ∧ (crossWay s' c.val d).total = y.total ∧ Frame [.now, .stiles] s s') ∧
      Runs (.crossingTransfer t c ⟨d, .acknowledged⟩) s (s.atTime t)) ∧
    (x.state = 0 → y.waiting = some t0 →
      (crossKind c.val = 1 → Quiet s 105 → Answers (.crossingTransfer t c ⟨d, .toggle⟩) s fun s' =>
        (crossing s' c.val).protocol = x.protocol + 1 ∧ s'.stiles.protocol = s.stiles.protocol + 1 ∧
          Raised s s' 105 (u32 c.val) 1 s.cyc.number ∧ Frame [.now, .stiles, .constable] s s') ∧
      (crossKind c.val = 2 → Runs (.crossingTransfer t c ⟨d, .value v⟩) s
        (modWay (s.atTime t) c.val d fun z => { z with current := v })) ∧
      (crossKind c.val = 3 → Runs (.crossingTransfer t c ⟨d, .events n⟩) s
        (modWay (s.atTime t) c.val d fun z => { z with gathered := z.gathered + n })) ∧
      (crossKind c.val = 1 → Runs (.crossingTransfer t c ⟨d, .acknowledged⟩) s
        (modWay (s.atTime t) c.val d fun z => { z with waiting := none })) ∧
      (crossKind c.val = 2 → y.current = y.holding → Runs (.crossingTransfer t c ⟨d, .acknowledged⟩) s
        (modWay (s.atTime t) c.val d fun z => { z with waiting := none, received := z.holding })) ∧
      (crossKind c.val = 2 → y.current ≠ y.holding → Answers (.crossingTransfer t c ⟨d, .acknowledged⟩) s fun s' =>
        (crossWay s' c.val d).waiting = some t ∧ (crossWay s' c.val d).received = y.holding ∧
          (crossWay s' c.val d).holding = y.current ∧ Frame [.now, .stiles] s s') ∧
      (crossKind c.val = 3 → y.overflow = false →
        (y.gathered = 0 → Runs (.crossingTransfer t c ⟨d, .acknowledged⟩) s (modWay (s.atTime t) c.val d fun z => { z with
          waiting := none, total := z.total + z.delta, delta := 0, overflow := false })) ∧
        (y.gathered ≠ 0 → Answers (.crossingTransfer t c ⟨d, .acknowledged⟩) s fun s' =>
          (crossWay s' c.val d).total = y.total + y.delta ∧ (crossWay s' c.val d).delta = min y.gathered 65535 ∧
            (crossWay s' c.val d).waiting = some t ∧ Frame [.now, .stiles] s s')) ∧
      (crossKind c.val = 3 → y.overflow = true → Quiet s 105 → Answers (.crossingTransfer t c ⟨d, .acknowledged⟩) s fun s' =>
        (crossWay s' c.val d).total = y.total + y.delta ∧ (crossing s' c.val).protocol = x.protocol + 1 ∧
          Raised s s' 105 (u32 c.val) 2 s.cyc.number ∧ Frame [.now, .stiles, .constable] s s')) ∧
    (x.state ≠ 0 ∨ crossOverdue (s.atTime t) x = false → Runs (.crossingAckTimeout t c) s (s.atTime t)) ∧
    (x.state = 0 → crossOverdue (s.atTime t) x = true →
      (c.val = 0 ∨ c.val = 1 ∨ c.val = 14 → On s → Raisable s t 103 → Answers (.crossingAckTimeout t c) s fun s' =>
        (crossing s' c.val).state = 1 ∧ (crossing s' c.val).timeouts = x.timeouts + 1 ∧ s'.stiles.lastFault = u8 c.val ∧
          ModuleStops s s' 103 (u32 c.val) 0 (u32 (t % 2 ^ 32))) ∧
      (c.val = 2 ∨ (6 ≤ c.val ∧ c.val ≠ 14) → Quiet s 104 → Answers (.crossingAckTimeout t c) s fun s' =>
        (crossing s' c.val).state = 1 ∧ (crossing s' c.val).timeouts = x.timeouts + 1 ∧ s'.stiles.timeouts = s.stiles.timeouts + 1 ∧
          Raised s s' 104 (u32 c.val) 0 s.cyc.number ∧ Frame [.now, .stiles, .constable] s s') ∧
      (3 ≤ c.val → c.val ≤ 5 → Answers (.crossingAckTimeout t c) s fun s' =>
        (crossing s' c.val).state = 1 ∧ (crossing s' c.val).timeouts = x.timeouts + 1 ∧
          s'.stiles.timeouts = s.stiles.timeouts + 1 ∧ s'.stiles.lastFault = u8 c.val)) ∧
    (x.state = 1 →
      (us 10 ≤ ran → d ∈ crossDirs c.val → Answers (.crossingResume t ⟨c, ran⟩) s fun s' =>
        (crossing s' c.val).state = 0 ∧ (crossing s' c.val).clockRan = ran ∧
          (crossKind c.val = 2 → (crossWay s' c.val d).waiting = some t ∧ (crossWay s' c.val d).holding = y.current) ∧
          Frame [.now, .stiles] s s') ∧
      (crossKind c.val = 2 → Runs (.crossingTransfer t c ⟨d, .value v⟩) s
        (modWay (s.atTime t) c.val d fun z => { z with current := v }))) ∧
    (x.state ≠ 1 ∨ ran < us 10 → Runs (.crossingResume t ⟨c, ran⟩) s (modCross (s.atTime t) c.val fun z => { z with clockRan := ran })) ∧
    (Answers (.crossingReset t c ⟨b, d, false⟩) s fun s' =>
      (crossing s' c.val).state = 2 ∧ (crossing s' c.val).resets = x.resets + 1 ∧ (crossWay s' c.val d).waiting = none ∧
        (crossWay s' c.val d).total = y.total ∧ (crossWay s' c.val d).gathered = (if b then y.gathered else 0) ∧
        (crossWay s' c.val d).delta = (if b then y.delta else 0) ∧ Frame [.now, .stiles] s s') ∧
    (x.state = 2 →
      (crossKind c.val = 2 → Answers (.crossingReset t c ⟨true, d, true⟩) s fun s' =>
        (crossing s' c.val).state = 0 ∧ (crossWay s' c.val d).waiting = some t ∧ (crossWay s' c.val d).holding = y.current ∧
          Frame [.now, .stiles] s s') ∧
      (crossKind c.val = 3 → y.delta + y.gathered ≠ 0 → Answers (.crossingReset t c ⟨true, d, true⟩) s fun s' =>
        (crossing s' c.val).state = 0 ∧ (crossWay s' c.val d).waiting = some t ∧
          (crossWay s' c.val d).delta = min (y.delta + y.gathered) 65535 ∧
          (crossWay s' c.val d).overflow = (y.overflow || decide (65535 < y.delta + y.gathered)) ∧ Frame [.now, .stiles] s s') ∧
      Runs (.crossingReset t c ⟨false, d, true⟩) s (modCross (s.atTime t) c.val fun z => { z with state := 0 })) ∧
    (x.state ≠ 2 → Runs (.crossingReset t c ⟨b, d, true⟩) s (s.atTime t))

/-- Frames of the Twin link (R390, R393, R397, R400, R402, R403, R408): a frame whose TYPE, LEN or CRC does not fit is discarded and
counted, a valid one keeps the link up and is noted by its kind; snapshot blocks are taken in order, and a gap drops the snapshot,
which is counted once; a silent link is down, with source 121 while the active module is seen; the overlap of a give-up ends 200 us
after TAKEN, or at the S of m + 3. Each of these commands answers a next state with its own effect: twinHello, healthReport, taken,
giveup, powerFailNotice, snapshotBlock, twinHelloSend, twinLinkDown, giveupOverlapEnd. -/
def Obligations.TwinFramesKeepTheLinkAndTheMirror : Prop :=
  ∀ (t : Time) (s : State) (x : TwinHead) (h : Hello) (r : HealthReport) (seq : U32) (idx : Nat) (last : Bool) (data : List Byte)
    (cyc : U32) (m : Mirror),
    (twinUp s = true → crossRuns s 9 = true →
      (twinValid x 1 (helloBody h) = true → Answers (.twinHello ⟨t, x⟩ h) s fun s' =>
        TwinHeard t s s' ∧ s'.twin.hello = some h ∧ s'.twin.peerPos = h.position ∧
          s'.twin.paired = (if s.twin.role = .active ∧ h.role = 2 ∧ pairingReason s h = 0 then true else s.twin.paired)) ∧
      (twinValid x 3 (reportBody r) = true → Answers (.healthReport ⟨t, x⟩ r) s fun s' =>
        TwinHeard t s s' ∧ s'.twin.peerHealth = some r ∧ s'.twin.healthAt = t) ∧
      (twinValid x 4 (noticeBody 3 cyc) = true → Answers (.taken ⟨t, x⟩ cyc) s fun s' =>
        TwinHeard t s s' ∧
          s'.twin.takenAt = (if s.twin.giving.isSome = true ∧ s.twin.takenAt = none then some t else s.twin.takenAt)) ∧
      (twinValid x 4 (noticeBody 1 cyc) = true → Answers (.giveup ⟨t, x⟩ cyc) s fun s' =>
        TwinHeard t s s' ∧ s'.twin.notice = (if s.twin.role = .standby then some (1, t) else s.twin.notice)) ∧
      (twinValid x 4 (noticeBody 2 cyc) = true → Answers (.powerFailNotice ⟨t, x⟩ cyc) s fun s' =>
        TwinHeard t s s' ∧ s'.twin.notice = (if s.twin.role = .standby then some (2, t) else s.twin.notice)) ∧
      (twinValid x 1 (helloBody h) = false → Runs (.twinHello ⟨t, x⟩ h) s (twinDiscarded (s.atTime t))) ∧
      (twinValid x 3 (reportBody r) = false → Runs (.healthReport ⟨t, x⟩ r) s (twinDiscarded (s.atTime t))) ∧
      (twinValid x 4 (noticeBody 3 cyc) = false → Runs (.taken ⟨t, x⟩ cyc) s (twinDiscarded (s.atTime t))) ∧
      (twinValid x 4 (noticeBody 1 cyc) = false → Runs (.giveup ⟨t, x⟩ cyc) s (twinDiscarded (s.atTime t))) ∧
      (twinValid x 4 (noticeBody 2 cyc) = false → Runs (.powerFailNotice ⟨t, x⟩ cyc) s (twinDiscarded (s.atTime t))) ∧
      (1024 < data.length ∨ twinValid x 2 (blockBody seq idx last data) = false →
        Runs (.snapshotBlock ⟨t, x⟩ seq idx last data) s (twinDiscarded (s.atTime t))) ∧
      (data.length ≤ 1024 → twinValid x 2 (blockBody seq idx last data) = true →
        (idx = 0 → last = true → s.twin.blockNext = 0 →
          (decodeSnapshot data = some m → Answers (.snapshotBlock ⟨t, x⟩ seq idx last data) s fun s' =>
            s'.twin.newest = some m ∧ s'.twin.blockNext = 0 ∧ s'.twin.incomplete = s.twin.incomplete ∧
              Frame [.now, .twin, .constable] s s') ∧
          (decodeSnapshot data = none → Answers (.snapshotBlock ⟨t, x⟩ seq idx last data) s fun s' =>
            s'.twin.newest = s.twin.newest ∧ s'.twin.incomplete = s.twin.incomplete + 1 ∧
              Frame [.now, .twin, .constable] s s')) ∧
        (0 < s.twin.blockNext →
          (idx = s.twin.blockNext → seq = s.twin.blocksSeq → last = false →
            Answers (.snapshotBlock ⟨t, x⟩ seq idx last data) s fun s' =>
              s'.twin.blocks = s.twin.blocks ++ data ∧ s'.twin.blockNext = idx + 1 ∧ s'.twin.newest = s.twin.newest ∧
                Frame [.now, .twin, .constable] s s') ∧
          (idx ≠ 0 → idx ≠ s.twin.blockNext ∨ seq ≠ s.twin.blocksSeq → Answers (.snapshotBlock ⟨t, x⟩ seq idx last data) s fun s' =>
            s'.twin.blockNext = 0 ∧ s'.twin.droppedSeq = some seq ∧ s'.twin.newest = s.twin.newest ∧
              s'.twin.incomplete = s.twin.incomplete + (if seq = s.twin.blocksSeq then 1 else 2) ∧
              Frame [.now, .twin, .constable] s s')) ∧
        (s.twin.blockNext = 0 → idx ≠ 0 → Answers (.snapshotBlock ⟨t, x⟩ seq idx last data) s fun s' =>
          s'.twin.blockNext = 0 ∧ s'.twin.droppedSeq = some seq ∧ s'.twin.newest = s.twin.newest ∧
            s'.twin.incomplete = s.twin.incomplete + (if s.twin.droppedSeq = some seq then 0 else 1) ∧
            Frame [.now, .twin, .constable] s s'))) ∧
    (twinUp s = false ∨ crossRuns s 9 = false →
      Runs (.twinHello ⟨t, x⟩ h) s (s.atTime t) ∧ Runs (.healthReport ⟨t, x⟩ r) s (s.atTime t) ∧ Runs (.taken ⟨t, x⟩ cyc) s (s.atTime t) ∧
        Runs (.giveup ⟨t, x⟩ cyc) s (s.atTime t) ∧ Runs (.powerFailNotice ⟨t, x⟩ cyc) s (s.atTime t) ∧
        Runs (.snapshotBlock ⟨t, x⟩ seq idx last data) s (s.atTime t)) ∧
    (s.modes.mode ≠ .off → Answers (.twinHelloSend t) s fun s' =>
      s'.out.length = s.out.length + 1 ∧ s'.twin.sent = s.twin.sent + 1 ∧ Frame [.now, .twin, .out] s s') ∧
    (s.modes.mode = .off → Runs (.twinHelloSend t) s (s.atTime t)) ∧
    (∀ at', s.twin.heardAt = some at' → s.twin.link = true →
      (at' + ms 1 ≤ t → s.twin.paired = false → Runs (.twinLinkDown t) s
        (modTwin (s.atTime t) fun y => { y with link := false, losses := y.losses + 1 })) ∧
      (at' + ms 1 ≤ t → s.twin.paired = true → s.twin.role = .active → Quiet s 121 → Answers (.twinLinkDown t) s fun s' =>
        s'.twin.link = false ∧ s'.twin.losses = s.twin.losses + 1 ∧ Raised s s' 121 0 s.cyc.number (lastApplied s) ∧
          Frame [.now, .twin, .constable] s s') ∧
      (t < at' + ms 1 → Runs (.twinLinkDown t) s (s.atTime t))) ∧
    (∀ n, s.twin.giving = some n → s.twin.role = .standby →
      ((s.twin.takenAt.any fun y => decide (y + us 200 ≤ t)) = true ∨ 3 ≤ cyclesSince n s.cyc.number →
        Runs (.giveupOverlapEnd t) s (modTwin (s.atTime t) fun y => { y with giving := none, takenAt := none })) ∧
      ((s.twin.takenAt.all fun y => decide (t < y + us 200)) = true → cyclesSince n s.cyc.number < 3 →
        Runs (.giveupOverlapEnd t) s (s.atTime t))) ∧
    (s.twin.giving = none ∨ s.twin.role ≠ .standby → Runs (.giveupOverlapEnd t) s (s.atTime t))

/-- Who is active (R389, R391, R403 to R406): a peer that is silent on the link and on the bus for its time is noted, for the
boundary at which Kutia would leave Watch; a standby that holds a snapshot not older than three cycles takes over at the next S from
a silent or departing active module, in the mode that Table 14-9 names; the host may ask a healthy pair to hand over at a quiet
point, for 60 s. Each of these commands answers a next state with its own effect: peerSilenceTimeout, activeModuleSilent, takeover,
handoverRequest, handoverRequestLapse. -/
def Obligations.ControlPassesToOneModule : Prop :=
  ∀ (t : Time) (s : State) (m : Mirror) (ch : Fin 8) (v : U8) (x : Time),
    (s.modes.mode = .watch → s.twin.role = .unresolved → preferenceFits s = true → s.twin.preference ≠ 0 →
      peerHeard (s.atTime t) = false →
      s.bus.engine = 5 → silentSince s + (ms 64 + if s.twin.preference = 2 then sec 10 else 0) ≤ t →
      Runs (.peerSilenceTimeout t) s (modTwin (s.atTime t) fun y => { y with silent := true })) ∧
    (s.twin.role ≠ .unresolved ∨ matrixObserved s = false → Runs (.peerSilenceTimeout t) s (s.atTime t)) ∧
    (s.modes.mode = .standby → s.twin.role = .standby → 2 ≤ s.twin.silentRun → activeSilent (s.atTime t) = true →
      (snapshotFresh s = true → Runs (.activeModuleSilent t) s (modTwin (s.atTime t) fun y => { y with dueTakeover := true })) ∧
      (snapshotFresh s = false → Quiet s 121 → Answers (.activeModuleSilent t) s fun s' =>
        s'.twin.dueTakeover = s.twin.dueTakeover ∧ s'.twin.notice = none ∧ Raised s s' 121 2 s.cyc.number (lastApplied s) ∧
          Frame [.now, .twin, .constable] s s')) ∧
    (s.twin.silentRun < 2 → Runs (.activeModuleSilent t) s (s.atTime t)) ∧
    (s.twin.mirror = some m ∨ (s.twin.mirror = none ∧ s.twin.newest = some m) → s.twin.dueTakeover = true → s.modes.mode = .standby →
      s.twin.role = .standby → s.cyc.voted = true → cycleEnd s ≤ t → Quiet s 123 →
      m.final = true ∨ (slotList s = [] ∧ groupsRest s = true) → Answers (.takeover t) s fun s' =>
        s'.twin.role = .active ∧ s'.modes.mode = takeoverMode s m ∧ s'.twin.dueTakeover = false ∧ s'.twin.sendTaken = true ∧
          s'.twin.takeovers = s.twin.takeovers + 1 ∧ s'.twin.lastKind = (if m.final then 1 else 2) ∧ s'.twin.lastAt = t ∧
          (∀ k, (slotSt s' k).armed = false) ∧
          Raised s s' 123 (if m.final then 1 else 2) m.seq m.cycle) ∧
    (s.twin.dueTakeover = false ∨ s.cyc.voted = false ∨ t < cycleEnd s → Runs (.takeover t) s (s.atTime t)) ∧
    (Serves s t → authorised s ch.val = true →
      (v ≠ 1 → Runs (.handoverRequest t ch v) s (refused (s.atTime t) ch 0x0230)) ∧
      (s.twin.role ≠ .active → Runs (.handoverRequest t ch 1) s (refused (s.atTime t) ch 0x0478)) ∧
      (s.twin.role = .active → standbyHealthy s = false → Runs (.handoverRequest t ch 1) s (refused (s.atTime t) ch 0x0479)) ∧
      (s.twin.role = .active → standbyHealthy s = true → s.twin.handover.isSome = true →
        Runs (.handoverRequest t ch 1) s (refused (s.atTime t) ch 0x047A)) ∧
      (s.twin.role = .active → standbyHealthy s = true → s.twin.handover = none → Runs (.handoverRequest t ch 1) s
        (accepted (modTwin (s.atTime t) fun y => { y with handover := some t, handOut := 0 }) ch))) ∧
    (s.twin.handover = some x → x + sec 60 ≤ t → Runs (.handoverRequestLapse t) s
      (modTwin (s.atTime t) fun y => { y with handover := none, handOut := 0x047B })) ∧
    (s.twin.handover = none → Runs (.handoverRequestLapse t) s (s.atTime t))

/-- Download and the host's actions (R419 to R425, R428, Table 15-7): BEGIN and pieces are refused under S21, and BEGIN outside its
states; a piece with a wrong CRC, number or length is refused, one already marked is accepted and not written, and the last missing one
leads to Received; one that is missing in another state than Receiving is refused 0480h (the model's choice, log 58); an action needs the PKGID, then
its state and its conditions, and leads where Table 15-7 says. No action changes an installed image. Each of these commands answers
a next state with its own effect: beginDownload, piece, verify, arm, activate, confirm, cancel, rollBack. -/
def Obligations.UpdateActionsFollowTheirStates : Prop :=
  ∀ (t : Time) (s : State) (ch : Fin 8) (pkgid : U64) (n : Nat) (pcrc : U32) (data : List Byte) (code : U16), Serves s t →
    authorised s ch.val = true →
    (s21 s = true →
      Runs (.beginDownload t ch pkgid n) s (refused (s.atTime t) ch 0x0484) ∧
        (data ≠ [] → data.length ≤ 512 → Runs (.piece t ch n pcrc data) s (refused (s.atTime t) ch 0x0484))) ∧
    (s21 s = false →
      (s.update.state = 3 ∨ s.update.state = 5 ∨ s.update.state = 6 ∨ s.update.state = 7 →
        Runs (.beginDownload t ch pkgid n) s (refused (s.atTime t) ch 0x0480)) ∧
      (s.update.state ≠ 3 → s.update.state ≠ 5 → s.update.state ≠ 6 → s.update.state ≠ 7 →
        (134217728 < n → Runs (.beginDownload t ch pkgid n) s (refused (s.atTime t) ch 0x0660)) ∧
        (n ≤ 134217728 → Answers (.beginDownload t ch pkgid n) s fun s' =>
          s'.update.state = 1 ∧ s'.update.pkgid = pkgid ∧ s'.update.pkglen = n ∧ s'.update.pieces = [] ∧ s'.update.plan = [] ∧
            s'.update.former = [] ∧ s'.update.images = s.update.images ∧ Frame [.now, .update, .constable, .host] s s')) ∧
      (data ≠ [] → data.length ≤ 512 →
        (crc32c data ≠ pcrc.toNat → Runs (.piece t ch n pcrc data) s (refused (s.atTime t) ch 0x0250)) ∧
        (crc32c data = pcrc.toNat → piecesTotal s ≤ n ∨ data.length ≠ pieceLength s n →
          Runs (.piece t ch n pcrc data) s (refused (s.atTime t) ch 0x0251)) ∧
        (crc32c data = pcrc.toNat → n < piecesTotal s → data.length = pieceLength s n →
          (tget [] s.update.pieces n ≠ [] → Runs (.piece t ch n pcrc data) s (accepted (s.atTime t) ch)) ∧
          (tget [] s.update.pieces n = [] → s.update.state ≠ 1 → Runs (.piece t ch n pcrc data) s (refused (s.atTime t) ch 0x0480)) ∧
          (tget [] s.update.pieces n = [] → s.update.state = 1 → Answers (.piece t ch n pcrc data) s fun s' =>
            s'.update.pieces = tput [] s.update.pieces n data ∧ tget [] s'.update.pieces n = data ∧
              s'.update.state = (if s'.update.pieces.length = piecesTotal s then 2 else 1) ∧
              s'.update.images = s.update.images ∧ Frame [.now, .update, .constable, .host] s s')))) ∧
    (∀ a c, (a, c) ∈ [(1, Instr.verify t ch pkgid), (2, .arm t ch pkgid), (3, .activate t ch pkgid), (4, .confirm t ch pkgid),
        (5, .cancel t ch pkgid), (6, .rollBack t ch pkgid)] →
      (pkgid ≠ s.update.pkgid → Runs c s (refused (s.atTime t) ch 0x0481)) ∧
      (pkgid = s.update.pkgid → actionState s a = false → Runs c s (refused (s.atTime t) ch 0x0480)) ∧
      (pkgid = s.update.pkgid → actionState s a = true → s21 s = true → Runs c s (refused (s.atTime t) ch 0x0484)) ∧
      (pkgid = s.update.pkgid → updateRefusal (s.atTime t) a = some code → Runs c s (refused (s.atTime t) ch code))) ∧
    (pkgid = s.update.pkgid →
      (updateRefusal (s.atTime t) 1 = none → Answers (.verify t ch pkgid) s fun s' =>
        UpdateStands s s' 3 ∧ s'.update.former = s.update.former) ∧
      (updateRefusal (s.atTime t) 2 = none → Answers (.arm t ch pkgid) s fun s' =>
        UpdateStands s s' 5 ∧ s'.update.plan = journalPlan (stagedPackage s) s.update.images ∧ s'.update.former = s.update.former) ∧
      (updateRefusal (s.atTime t) 3 = none → Answers (.activate t ch pkgid) s fun s' =>
        UpdateStands s s' 6 ∧ s'.update.former = s.update.images ∧ s'.update.reverse = false ∧ s'.update.pointer = 0) ∧
      (updateRefusal (s.atTime t) 4 = none → Answers (.confirm t ch pkgid) s fun s' =>
        UpdateStands s s' 8 ∧ s'.update.former = [] ∧ s'.update.plan = []) ∧
      (updateRefusal (s.atTime t) 5 = none → Answers (.cancel t ch pkgid) s fun s' =>
        UpdateStands s s' (if s.update.state = 5 then 4 else 0) ∧
          (s.update.state ≠ 5 → s'.update.pieces = [] ∧ s'.update.pkgid = 0)) ∧
      (updateRefusal (s.atTime t) 6 = none → Answers (.rollBack t ch pkgid) s fun s' =>
        UpdateStands s s' 6 ∧ s'.update.reverse = true ∧ s'.update.cause = 3 ∧ s'.update.pointer = s.update.plan.length))

/-- What ends an update's phases (R421, R422, R427, R428): verification ends in Verified or back in Received by source 116, also
when S21 is on or the supply is low; a low supply pauses an activation until VIN has been good for 10 s; the confirmation limit
rolls back as soon as nothing moves, and until then source 117 stands; the elapsed count is saved. Each of these commands answers a
next state with its own effect: verificationComplete, updateLowSupply, activationResume, confirmationLimitExpiry,
probationRecordSave. -/
def Obligations.UpdatePhasesEnd : Prop :=
  ∀ (t : Time) (s : State) (r k : Nat) (x : Time),
    (s.update.state = 3 →
      (s21 s = false → verifyPackage (stagedPackage s) s.update.pkgid s.update.pkglen s.update.ownerKey s.update.images = (r, k) →
        Quiet s 116 → Answers (.verificationComplete t) s fun s' =>
          s'.update.state = (if r = 0 then 4 else 2) ∧ s'.update.result = u8 r ∧ (r ≠ 0 → Raised s s' 116 (u32 r) (u32 k) (pkgLow s)) ∧
            s'.update.images = s.update.images ∧ Frame [.now, .update, .constable, .host] s s') ∧
      (Quiet s 116 → ∀ c, (c = Instr.verificationComplete t ∧ s21 s = true) ∨
          (c = Instr.updateLowSupply t ∧ lowSupply (s.atTime t) = true) → Answers c s fun s' =>
        s'.update.state = 2 ∧ s'.update.result = 9 ∧ Raised s s' 116 9 0xFF (pkgLow s) ∧ Frame [.now, .update, .constable, .host] s s')) ∧
    (s.update.state ≠ 3 → Runs (.verificationComplete t) s (s.atTime t)) ∧
    (s.update.state = 6 → lowSupply (s.atTime t) = true →
      Runs (.updateLowSupply t) s (modUpdate (s.atTime t) fun u => { u with paused := true })) ∧
    (lowSupply (s.atTime t) = false → Runs (.updateLowSupply t) s (s.atTime t)) ∧
    (s.update.paused = true → s.modes.vinOkFrom = some x →
      (x + sec 10 ≤ t → Runs (.activationResume t) s (modUpdate (s.atTime t) fun u => { u with paused := false })) ∧
      (t < x + sec 10 → Runs (.activationResume t) s (s.atTime t))) ∧
    (s.update.state = 7 → s.update.goodStart = true →
      (s.update.due = none → s.update.limit * 3600 ≤ probationSeconds (s.atTime t) →
        (standsStill s = true → s.change.stateC = 0 → Answers (.confirmationLimitExpiry t) s fun s' =>
          s'.update.state = 6 ∧ s'.update.reverse = true ∧ s'.update.cause = 2 ∧ s'.update.due = none ∧
            s'.update.pointer = s.update.plan.length ∧ Frame [.now, .update, .constable, .host] s s') ∧
        (standsStill s = false → Quiet s 117 → Answers (.confirmationLimitExpiry t) s fun s' =>
          s'.update.state = 7 ∧ s'.update.due = some 2 ∧
            Raised s s' 117 2 (u32 (probationSeconds (s.atTime t) / 3600)) (pkgLow s) ∧ Frame [.now, .update, .constable] s s')) ∧
      (probationSeconds (s.atTime t) < s.update.limit * 3600 → Runs (.confirmationLimitExpiry t) s (s.atTime t)) ∧
      Answers (.probationRecordSave t) s fun s' =>
        s'.update.elapsed = s.update.elapsed + (t - s.update.countFrom) / sec 1 ∧ s'.update.savedAt = t ∧ Frame [.now, .update] s s') ∧
    (s.update.state ≠ 7 ∨ s.update.goodStart = false →
      Runs (.confirmationLimitExpiry t) s (s.atTime t) ∧ Runs (.probationRecordSave t) s (s.atTime t))

/-- Ageing, counters and trace (R433 to R445): a ring measurement outside the calibration is discarded and counted, any other gives
the lane's normalised periods; a day's end adds one history point for each lane; a replaced output counts from 0; a capture waits
for the vote; the counters are saved to PD0; a trace record is taken while its port, kind and lane are enabled, behind a sync record
on an idle port, and dropped and counted when the FIFO is full. Each of these commands answers a next state with its own effect:
ringMeasurement, historyPoint, countReset, capture, counterSave, traceRecord. -/
def Obligations.AgeingIsMeasuredAndCounted : Prop :=
  ∀ (t : Time) (s : State) (ln : Lane) (temp : Int) (mv : Nat) (l : List Nat) (ch : Fin 8) (v : U8) (kind : Fin 16) (o : Option Lane)
    (p1 : U32) (p2 : BitVec 24),
    (lanePowered s ln = false ∨ crossRuns s 2 = false → Runs (.ringMeasurement t ln temp mv l) s (s.atTime t)) ∧
    (lanePowered s ln = true → crossRuns s 2 = true → inCalibration temp mv = false → Runs (.ringMeasurement t ln temp mv l) s
      (modAge (s.atTime t) fun a => { a with lanes := a.lanes.set ln { a.lanes.get ln with
        discarded := (a.lanes.get ln).discarded + 1, temp := temp, mv := mv } })) ∧
    (lanePowered s ln = true → crossRuns s 2 = true → inCalibration temp mv = true → Answers (.ringMeasurement t ln temp mv l) s fun s' =>
      (s'.age.lanes.get ln).temp = temp ∧ (s'.age.lanes.get ln).mv = mv ∧
        (s'.age.lanes.get ln).periods = (List.range 8).map (fun r => (normalise (laneNo ln) r (l.getD r 0) temp mv).toNat) ∧
        (s'.age.lanes.get ln).deltas =
          (List.range 8).map (fun r => ringDelta (laneNo ln) r (normalise (laneNo ln) r (l.getD r 0) temp mv)) ∧
        (s'.age.lanes.get ln).history = (s.age.lanes.get ln).history ∧
        (∀ k, k ≠ ln → s'.age.lanes.get k = s.age.lanes.get k) ∧ Frame [.now, .age, .constable] s s') ∧
    (Answers (.historyPoint t) s fun s' =>
      (∀ k, dayPassed (s.age.lanes.get k) (s.age.counters.getD 0 0 / 3600) = true → (s.age.lanes.get k).history.length < 7300 →
        (s'.age.lanes.get k).history = (s.age.lanes.get k).history ++ [(s.age.counters.getD 0 0 / 3600, laneDelta (s.age.lanes.get k))] ∧
          (s'.age.lanes.get k).sums = []) ∧
      (∀ k, dayPassed (s.age.lanes.get k) (s.age.counters.getD 0 0 / 3600) = false → s'.age.lanes.get k = s.age.lanes.get k) ∧
      Frame [.now, .age, .constable] s s') ∧
    (Serves s t → authorised s ch.val = true →
      (v.toNat < 24 → Answers (.countReset t ch v) s fun s' =>
        s'.age.ops.getD v.toNat 0 = 0 ∧ (∀ k, k < 24 → k ≠ v.toNat → s'.age.ops.getD k 0 = s.age.ops.getD k 0) ∧
          s'.age.lastReset = v ∧ Frame [.now, .age, .constable, .host] s s') ∧
      (24 ≤ v.toNat → Runs (.countReset t ch v) s (refused (s.atTime t) ch 0x0230))) ∧
    (Serves s t →
      Runs (.capture t ch 1) s (accepted (modAge (s.atTime t) fun a => { a with capDue := true }) ch) ∧
        (v ≠ 1 → Runs (.capture t ch v) s (refused (s.atTime t) ch 0x0230))) ∧
    (s.modes.mode ≠ .off → Answers (.counterSave t) s fun s' =>
      s'.age.saved = s'.age.counters ∧ s'.age.savedAt = t ∧ Frame [.now, .age] s s') ∧
    (s.modes.mode = .off → Runs (.counterSave t) s (s.atTime t)) ∧
    (kind.val < 8 →
      (traceTaken s kind.val o = false → Runs (.traceRecord t kind o p1 p2) s (s.atTime t)) ∧
      (traceTaken s kind.val o = true → kind.val ≠ 0 → s.age.fifo = [] → s.age.portFree ≤ t → s.age.dropNew = 0 →
        Answers (.traceRecord t kind o p1 p2) s fun s' =>
          s'.out = s.out ++ [.traceRec (traceBytes
            ⟨0, 3, s.age.tseq, u32 t, u32 (t / 2 ^ 32), BitVec.ofNat 24 s.cyc.number.toNat⟩)] ∧
            s'.age.fifo = [⟨kind.val, (o.map laneNo).getD 3, s.age.tseq + 1, u32 t,
              (traceWords (s.atTime t) kind.val p1 p2).1, (traceWords (s.atTime t) kind.val p1 p2).2⟩] ∧
            s'.age.sinceSync = 1 ∧ Frame [.now, .age, .out] s s') ∧
      (traceTaken s kind.val o = true → 16384 ≤ s.age.fifo.length → t < s.age.portFree → Answers (.traceRecord t kind o p1 p2) s fun s' =>
        s'.age.dropped = s.age.dropped + 1 ∧ s'.age.dropNew = s.age.dropNew + 1 ∧ s'.age.fifo = s.age.fifo ∧ s'.out = s.out ∧
          Frame [.now, .age] s s'))

end
end

