-- ==== Sys2Proof/Laws/State.lean ====
section
/-!
SUPPORT. Laws/State.lean: what each update of one record leaves of the other fields of the state; every law holds by rfl.
-/

namespace Sys2Proof.Machine

/-! ### What leaves the queue of commands alone -/

@[simp] theorem modLane_pending {s : State} (ln : Lane) (f : LaneSt → LaneSt) :
    (modLane s ln f).pending = s.pending := rfl
@[simp] theorem State.atTime_pending (s : State) (t : Time) : (State.atTime s t).pending = s.pending := rfl
@[simp] theorem modElem_pending (s : State) (e : Nat) (f : ElemSt → ElemSt) :
    (modElem s e f).pending = s.pending := rfl
@[simp] theorem modGroup_pending {s : State} (g : Nat) (f : GroupSt → GroupSt) :
    (modGroup s g f).pending = s.pending := rfl
@[simp] theorem putSetting_pending {s : State} (index sub v : Nat) : (putSetting s index sub v).pending = s.pending := rfl
@[simp] theorem modRoute_pending (s : State) (r : Nat) (f : RouteSt → RouteSt) :
    (modRoute s r f).pending = s.pending := rfl
@[simp] theorem draw_pending (s : State) : (draw s).pending = s.pending := rfl
@[simp] theorem modSlot_pending {s : State} (k : Nat) (f : Slot → Slot) :
    (modSlot s k f).pending = s.pending := rfl
@[simp] theorem emit_pending {s : State} (o : Output) : (emit s o).pending = s.pending := rfl
@[simp] theorem modSess_pending (s : State) (k : Nat) (f : Sess → Sess) :
    (modSess s k f).pending = s.pending := rfl
@[simp] theorem countUp_pending (s : State) (sub n : Nat) : (countUp s sub n).pending = s.pending := rfl
@[simp] theorem modSource_pending {s : State} (n : Nat) (f : SourceSt → SourceSt) :
    (modSource s n f).pending = s.pending := rfl
@[simp] theorem setHealth_pending {s : State} (ln : Lane) (h : HealthSt) : (setHealth s ln h).pending = s.pending := rfl
@[simp] theorem modChan_pending (s : State) (c : Nat) (f : ChannelSt → ChannelSt) :
    (modChan s c f).pending = s.pending := rfl
@[simp] theorem endForce_pending (s : State) (n : Nat) : (endForce s n).pending = s.pending := rfl
@[simp] theorem modDomain_pending {s : State} (d : Nat) (f : DomainSt → DomainSt) :
    (modDomain s d f).pending = s.pending := rfl
@[simp] theorem withdraw_pending {s : State} (n : Nat) : (withdraw s n).pending = s.pending := rfl
@[simp] theorem modModes_pending (s : State) (f : ModesSt → ModesSt) : (modModes s f).pending = s.pending := rfl
@[simp] theorem acknowledge_pending (s : State) (n : Nat) : (acknowledge s n).pending = s.pending := rfl
@[simp] theorem modField_pending {s : State} (f : FieldSt → FieldSt) : (modField s f).pending = s.pending := rfl
@[simp] theorem touch_pending {s : State} (ch : Nat) : (touch s ch).pending = s.pending := rfl
@[simp] theorem modBar_pending (s : State) (ln : Lane) (f : BarrierSt → BarrierSt) :
    (modBar s ln f).pending = s.pending := rfl
@[simp] theorem noteAbort_pending (s : State) (ch : Nat) (code : U16) : (noteAbort s ch code).pending = s.pending := rfl
@[simp] theorem modStile_pending {s : State} (ln : Lane) (f : StileSt → StileSt) :
    (modStile s ln f).pending = s.pending := rfl
@[simp] theorem endAuth_pending {s : State} (ch : Nat) : (endAuth s ch).pending = s.pending := rfl
@[simp] theorem modCross_pending (s : State) (c : Nat) (f : CrossSt → CrossSt) :
    (modCross s c f).pending = s.pending := rfl
@[simp] theorem freeGroup_pending (s : State) (g status : Nat) : (freeGroup s g status).pending = s.pending := rfl
@[simp] theorem modShadow_pending {s : State} (g : Nat) (f : GroupShadow → GroupShadow) :
    (modShadow s g f).pending = s.pending := rfl
@[simp] theorem modHostBus_pending (s : State) (b : HostBus) (f : HostBusSt → HostBusSt) : (modHostBus s b f).pending = s.pending := by cases b <;> rfl
@[simp] theorem modBus_pending (s : State) (c : Chan) (f : ChanSt → ChanSt) :
    (modBus s c f).pending = s.pending := rfl

/-! ### What leaves the time alone -/

@[simp] theorem modLane_now {s : State} (ln : Lane) (f : LaneSt → LaneSt) :
    (modLane s ln f).now = s.now := rfl
@[simp] theorem modElem_now (s : State) (e : Nat) (f : ElemSt → ElemSt) :
    (modElem s e f).now = s.now := rfl
@[simp] theorem State.withQueue_now (s : State) (l : List Instr) : (State.withQueue s l).now = s.now := rfl
@[simp] theorem modGroup_now {s : State} (g : Nat) (f : GroupSt → GroupSt) :
    (modGroup s g f).now = s.now := rfl
@[simp] theorem putSetting_now {s : State} (index sub v : Nat) : (putSetting s index sub v).now = s.now := rfl
@[simp] theorem modRoute_now (s : State) (r : Nat) (f : RouteSt → RouteSt) :
    (modRoute s r f).now = s.now := rfl
@[simp] theorem draw_now (s : State) : (draw s).now = s.now := rfl
@[simp] theorem modSlot_now {s : State} (k : Nat) (f : Slot → Slot) :
    (modSlot s k f).now = s.now := rfl
@[simp] theorem emit_now {s : State} (o : Output) : (emit s o).now = s.now := rfl
@[simp] theorem modSess_now (s : State) (k : Nat) (f : Sess → Sess) :
    (modSess s k f).now = s.now := rfl
@[simp] theorem countUp_now (s : State) (sub n : Nat) : (countUp s sub n).now = s.now := rfl
@[simp] theorem modSource_now {s : State} (n : Nat) (f : SourceSt → SourceSt) :
    (modSource s n f).now = s.now := rfl
@[simp] theorem setHealth_now {s : State} (ln : Lane) (h : HealthSt) : (setHealth s ln h).now = s.now := rfl
@[simp] theorem modChan_now (s : State) (c : Nat) (f : ChannelSt → ChannelSt) :
    (modChan s c f).now = s.now := rfl
@[simp] theorem endForce_now (s : State) (n : Nat) : (endForce s n).now = s.now := rfl
@[simp] theorem modDomain_now {s : State} (d : Nat) (f : DomainSt → DomainSt) :
    (modDomain s d f).now = s.now := rfl
@[simp] theorem withdraw_now {s : State} (n : Nat) : (withdraw s n).now = s.now := rfl
@[simp] theorem modModes_now (s : State) (f : ModesSt → ModesSt) : (modModes s f).now = s.now := rfl
@[simp] theorem acknowledge_now (s : State) (n : Nat) : (acknowledge s n).now = s.now := rfl
@[simp] theorem modField_now {s : State} (f : FieldSt → FieldSt) : (modField s f).now = s.now := rfl
@[simp] theorem touch_now {s : State} (ch : Nat) : (touch s ch).now = s.now := rfl
@[simp] theorem modBar_now (s : State) (ln : Lane) (f : BarrierSt → BarrierSt) :
    (modBar s ln f).now = s.now := rfl
@[simp] theorem noteAbort_now (s : State) (ch : Nat) (code : U16) : (noteAbort s ch code).now = s.now := rfl
@[simp] theorem modStile_now {s : State} (ln : Lane) (f : StileSt → StileSt) :
    (modStile s ln f).now = s.now := rfl
@[simp] theorem endAuth_now {s : State} (ch : Nat) : (endAuth s ch).now = s.now := rfl
@[simp] theorem modCross_now (s : State) (c : Nat) (f : CrossSt → CrossSt) :
    (modCross s c f).now = s.now := rfl
@[simp] theorem freeGroup_now (s : State) (g status : Nat) : (freeGroup s g status).now = s.now := rfl
@[simp] theorem modShadow_now {s : State} (g : Nat) (f : GroupShadow → GroupShadow) :
    (modShadow s g f).now = s.now := rfl
@[simp] theorem modHostBus_now (s : State) (b : HostBus) (f : HostBusSt → HostBusSt) : (modHostBus s b f).now = s.now := by cases b <;> rfl
@[simp] theorem modBus_now (s : State) (c : Chan) (f : ChanSt → ChanSt) :
    (modBus s c f).now = s.now := rfl

/-! ### What leaves `station` alone -/

@[simp] theorem modLane_station {s : State} (ln : Lane) (f : LaneSt → LaneSt) :
    (modLane s ln f).station = s.station := rfl
@[simp] theorem State.atTime_station (s : State) (t : Time) : (State.atTime s t).station = s.station := rfl
@[simp] theorem modElem_station (s : State) (e : Nat) (f : ElemSt → ElemSt) :
    (modElem s e f).station = s.station := rfl
@[simp] theorem State.withQueue_station {s : State} (l : List Instr) : (State.withQueue s l).station = s.station := rfl
@[simp] theorem modGroup_station {s : State} (g : Nat) (f : GroupSt → GroupSt) :
    (modGroup s g f).station = s.station := rfl
@[simp] theorem putSetting_station (s : State) (index sub v : Nat) : (putSetting s index sub v).station = s.station := rfl
@[simp] theorem modRoute_station (s : State) (r : Nat) (f : RouteSt → RouteSt) :
    (modRoute s r f).station = s.station := rfl
@[simp] theorem draw_station (s : State) : (draw s).station = s.station := rfl
@[simp] theorem modSlot_station {s : State} (k : Nat) (f : Slot → Slot) :
    (modSlot s k f).station = s.station := rfl
@[simp] theorem emit_station (s : State) (o : Output) : (emit s o).station = s.station := rfl
@[simp] theorem modSess_station (s : State) (k : Nat) (f : Sess → Sess) :
    (modSess s k f).station = s.station := rfl
@[simp] theorem countUp_station {s : State} (sub n : Nat) : (countUp s sub n).station = s.station := rfl
@[simp] theorem modSource_station {s : State} (n : Nat) (f : SourceSt → SourceSt) :
    (modSource s n f).station = s.station := rfl
@[simp] theorem setHealth_station (s : State) (ln : Lane) (h : HealthSt) : (setHealth s ln h).station = s.station := rfl
@[simp] theorem modChan_station (s : State) (c : Nat) (f : ChannelSt → ChannelSt) :
    (modChan s c f).station = s.station := rfl
@[simp] theorem endForce_station {s : State} (n : Nat) : (endForce s n).station = s.station := rfl
@[simp] theorem modDomain_station {s : State} (d : Nat) (f : DomainSt → DomainSt) :
    (modDomain s d f).station = s.station := rfl
@[simp] theorem withdraw_station (s : State) (n : Nat) : (withdraw s n).station = s.station := rfl
@[simp] theorem modModes_station (s : State) (f : ModesSt → ModesSt) : (modModes s f).station = s.station := rfl
@[simp] theorem acknowledge_station {s : State} (n : Nat) : (acknowledge s n).station = s.station := rfl
@[simp] theorem modField_station {s : State} (f : FieldSt → FieldSt) : (modField s f).station = s.station := rfl
@[simp] theorem touch_station (s : State) (ch : Nat) : (touch s ch).station = s.station := rfl
@[simp] theorem modBar_station (s : State) (ln : Lane) (f : BarrierSt → BarrierSt) :
    (modBar s ln f).station = s.station := rfl
@[simp] theorem noteAbort_station {s : State} (ch : Nat) (code : U16) : (noteAbort s ch code).station = s.station := rfl
@[simp] theorem modStile_station {s : State} (ln : Lane) (f : StileSt → StileSt) :
    (modStile s ln f).station = s.station := rfl
@[simp] theorem endAuth_station (s : State) (ch : Nat) : (endAuth s ch).station = s.station := rfl
@[simp] theorem modCross_station (s : State) (c : Nat) (f : CrossSt → CrossSt) :
    (modCross s c f).station = s.station := rfl
@[simp] theorem freeGroup_station {s : State} (g status : Nat) : (freeGroup s g status).station = s.station := rfl
@[simp] theorem modShadow_station {s : State} (g : Nat) (f : GroupShadow → GroupShadow) :
    (modShadow s g f).station = s.station := rfl
@[simp] theorem modHostBus_station (s : State) (b : HostBus) (f : HostBusSt → HostBusSt) : (modHostBus s b f).station = s.station := by cases b <;> rfl
@[simp] theorem modBus_station (s : State) (c : Chan) (f : ChanSt → ChanSt) :
    (modBus s c f).station = s.station := rfl

/-! ### What leaves `stationOk` alone -/

@[simp] theorem modLane_stationOk {s : State} (ln : Lane) (f : LaneSt → LaneSt) :
    (modLane s ln f).stationOk = s.stationOk := rfl
@[simp] theorem State.atTime_stationOk (s : State) (t : Time) : (State.atTime s t).stationOk = s.stationOk := rfl
@[simp] theorem modElem_stationOk (s : State) (e : Nat) (f : ElemSt → ElemSt) :
    (modElem s e f).stationOk = s.stationOk := rfl
@[simp] theorem State.withQueue_stationOk {s : State} (l : List Instr) : (State.withQueue s l).stationOk = s.stationOk := rfl
@[simp] theorem modGroup_stationOk {s : State} (g : Nat) (f : GroupSt → GroupSt) :
    (modGroup s g f).stationOk = s.stationOk := rfl
@[simp] theorem putSetting_stationOk (s : State) (index sub v : Nat) : (putSetting s index sub v).stationOk = s.stationOk := rfl
@[simp] theorem modRoute_stationOk (s : State) (r : Nat) (f : RouteSt → RouteSt) :
    (modRoute s r f).stationOk = s.stationOk := rfl
@[simp] theorem draw_stationOk (s : State) : (draw s).stationOk = s.stationOk := rfl
@[simp] theorem modSlot_stationOk {s : State} (k : Nat) (f : Slot → Slot) :
    (modSlot s k f).stationOk = s.stationOk := rfl
@[simp] theorem emit_stationOk (s : State) (o : Output) : (emit s o).stationOk = s.stationOk := rfl
@[simp] theorem modSess_stationOk (s : State) (k : Nat) (f : Sess → Sess) :
    (modSess s k f).stationOk = s.stationOk := rfl
@[simp] theorem countUp_stationOk {s : State} (sub n : Nat) : (countUp s sub n).stationOk = s.stationOk := rfl
@[simp] theorem modSource_stationOk {s : State} (n : Nat) (f : SourceSt → SourceSt) :
    (modSource s n f).stationOk = s.stationOk := rfl
@[simp] theorem setHealth_stationOk (s : State) (ln : Lane) (h : HealthSt) : (setHealth s ln h).stationOk = s.stationOk := rfl
@[simp] theorem modChan_stationOk (s : State) (c : Nat) (f : ChannelSt → ChannelSt) :
    (modChan s c f).stationOk = s.stationOk := rfl
@[simp] theorem endForce_stationOk {s : State} (n : Nat) : (endForce s n).stationOk = s.stationOk := rfl
@[simp] theorem modDomain_stationOk {s : State} (d : Nat) (f : DomainSt → DomainSt) :
    (modDomain s d f).stationOk = s.stationOk := rfl
@[simp] theorem withdraw_stationOk (s : State) (n : Nat) : (withdraw s n).stationOk = s.stationOk := rfl
@[simp] theorem modModes_stationOk (s : State) (f : ModesSt → ModesSt) : (modModes s f).stationOk = s.stationOk := rfl
@[simp] theorem acknowledge_stationOk {s : State} (n : Nat) : (acknowledge s n).stationOk = s.stationOk := rfl
@[simp] theorem modField_stationOk {s : State} (f : FieldSt → FieldSt) : (modField s f).stationOk = s.stationOk := rfl
@[simp] theorem touch_stationOk (s : State) (ch : Nat) : (touch s ch).stationOk = s.stationOk := rfl
@[simp] theorem modBar_stationOk (s : State) (ln : Lane) (f : BarrierSt → BarrierSt) :
    (modBar s ln f).stationOk = s.stationOk := rfl
@[simp] theorem noteAbort_stationOk {s : State} (ch : Nat) (code : U16) : (noteAbort s ch code).stationOk = s.stationOk := rfl
@[simp] theorem modStile_stationOk {s : State} (ln : Lane) (f : StileSt → StileSt) :
    (modStile s ln f).stationOk = s.stationOk := rfl
@[simp] theorem endAuth_stationOk (s : State) (ch : Nat) : (endAuth s ch).stationOk = s.stationOk := rfl
@[simp] theorem modCross_stationOk (s : State) (c : Nat) (f : CrossSt → CrossSt) :
    (modCross s c f).stationOk = s.stationOk := rfl
@[simp] theorem freeGroup_stationOk {s : State} (g status : Nat) : (freeGroup s g status).stationOk = s.stationOk := rfl
@[simp] theorem modShadow_stationOk {s : State} (g : Nat) (f : GroupShadow → GroupShadow) :
    (modShadow s g f).stationOk = s.stationOk := rfl
@[simp] theorem modHostBus_stationOk (s : State) (b : HostBus) (f : HostBusSt → HostBusSt) : (modHostBus s b f).stationOk = s.stationOk := by cases b <;> rfl
@[simp] theorem modBus_stationOk (s : State) (c : Chan) (f : ChanSt → ChanSt) :
    (modBus s c f).stationOk = s.stationOk := rfl

/-! ### What leaves `loadCode` alone -/

@[simp] theorem modLane_loadCode {s : State} (ln : Lane) (f : LaneSt → LaneSt) :
    (modLane s ln f).loadCode = s.loadCode := rfl
@[simp] theorem State.atTime_loadCode (s : State) (t : Time) : (State.atTime s t).loadCode = s.loadCode := rfl
@[simp] theorem modElem_loadCode (s : State) (e : Nat) (f : ElemSt → ElemSt) :
    (modElem s e f).loadCode = s.loadCode := rfl
@[simp] theorem State.withQueue_loadCode {s : State} (l : List Instr) : (State.withQueue s l).loadCode = s.loadCode := rfl
@[simp] theorem modGroup_loadCode {s : State} (g : Nat) (f : GroupSt → GroupSt) :
    (modGroup s g f).loadCode = s.loadCode := rfl
@[simp] theorem putSetting_loadCode (s : State) (index sub v : Nat) : (putSetting s index sub v).loadCode = s.loadCode := rfl
@[simp] theorem modRoute_loadCode (s : State) (r : Nat) (f : RouteSt → RouteSt) :
    (modRoute s r f).loadCode = s.loadCode := rfl
@[simp] theorem draw_loadCode (s : State) : (draw s).loadCode = s.loadCode := rfl
@[simp] theorem modSlot_loadCode {s : State} (k : Nat) (f : Slot → Slot) :
    (modSlot s k f).loadCode = s.loadCode := rfl
@[simp] theorem emit_loadCode (s : State) (o : Output) : (emit s o).loadCode = s.loadCode := rfl
@[simp] theorem modSess_loadCode (s : State) (k : Nat) (f : Sess → Sess) :
    (modSess s k f).loadCode = s.loadCode := rfl
@[simp] theorem countUp_loadCode {s : State} (sub n : Nat) : (countUp s sub n).loadCode = s.loadCode := rfl
@[simp] theorem modSource_loadCode {s : State} (n : Nat) (f : SourceSt → SourceSt) :
    (modSource s n f).loadCode = s.loadCode := rfl
@[simp] theorem setHealth_loadCode (s : State) (ln : Lane) (h : HealthSt) : (setHealth s ln h).loadCode = s.loadCode := rfl
@[simp] theorem modChan_loadCode (s : State) (c : Nat) (f : ChannelSt → ChannelSt) :
    (modChan s c f).loadCode = s.loadCode := rfl
@[simp] theorem endForce_loadCode {s : State} (n : Nat) : (endForce s n).loadCode = s.loadCode := rfl
@[simp] theorem modDomain_loadCode {s : State} (d : Nat) (f : DomainSt → DomainSt) :
    (modDomain s d f).loadCode = s.loadCode := rfl
@[simp] theorem withdraw_loadCode (s : State) (n : Nat) : (withdraw s n).loadCode = s.loadCode := rfl
@[simp] theorem modModes_loadCode (s : State) (f : ModesSt → ModesSt) : (modModes s f).loadCode = s.loadCode := rfl
@[simp] theorem acknowledge_loadCode {s : State} (n : Nat) : (acknowledge s n).loadCode = s.loadCode := rfl
@[simp] theorem modField_loadCode {s : State} (f : FieldSt → FieldSt) : (modField s f).loadCode = s.loadCode := rfl
@[simp] theorem touch_loadCode (s : State) (ch : Nat) : (touch s ch).loadCode = s.loadCode := rfl
@[simp] theorem modBar_loadCode (s : State) (ln : Lane) (f : BarrierSt → BarrierSt) :
    (modBar s ln f).loadCode = s.loadCode := rfl
@[simp] theorem noteAbort_loadCode {s : State} (ch : Nat) (code : U16) : (noteAbort s ch code).loadCode = s.loadCode := rfl
@[simp] theorem modStile_loadCode {s : State} (ln : Lane) (f : StileSt → StileSt) :
    (modStile s ln f).loadCode = s.loadCode := rfl
@[simp] theorem endAuth_loadCode (s : State) (ch : Nat) : (endAuth s ch).loadCode = s.loadCode := rfl
@[simp] theorem modCross_loadCode (s : State) (c : Nat) (f : CrossSt → CrossSt) :
    (modCross s c f).loadCode = s.loadCode := rfl
@[simp] theorem freeGroup_loadCode {s : State} (g status : Nat) : (freeGroup s g status).loadCode = s.loadCode := rfl
@[simp] theorem modShadow_loadCode {s : State} (g : Nat) (f : GroupShadow → GroupShadow) :
    (modShadow s g f).loadCode = s.loadCode := rfl
@[simp] theorem modHostBus_loadCode (s : State) (b : HostBus) (f : HostBusSt → HostBusSt) : (modHostBus s b f).loadCode = s.loadCode := by cases b <;> rfl
@[simp] theorem modBus_loadCode (s : State) (c : Chan) (f : ChanSt → ChanSt) :
    (modBus s c f).loadCode = s.loadCode := rfl

/-! ### What leaves `loadRef` alone -/

@[simp] theorem modLane_loadRef {s : State} (ln : Lane) (f : LaneSt → LaneSt) :
    (modLane s ln f).loadRef = s.loadRef := rfl
@[simp] theorem State.atTime_loadRef (s : State) (t : Time) : (State.atTime s t).loadRef = s.loadRef := rfl
@[simp] theorem modElem_loadRef (s : State) (e : Nat) (f : ElemSt → ElemSt) :
    (modElem s e f).loadRef = s.loadRef := rfl
@[simp] theorem State.withQueue_loadRef {s : State} (l : List Instr) : (State.withQueue s l).loadRef = s.loadRef := rfl
@[simp] theorem modGroup_loadRef {s : State} (g : Nat) (f : GroupSt → GroupSt) :
    (modGroup s g f).loadRef = s.loadRef := rfl
@[simp] theorem putSetting_loadRef (s : State) (index sub v : Nat) : (putSetting s index sub v).loadRef = s.loadRef := rfl
@[simp] theorem modRoute_loadRef (s : State) (r : Nat) (f : RouteSt → RouteSt) :
    (modRoute s r f).loadRef = s.loadRef := rfl
@[simp] theorem draw_loadRef (s : State) : (draw s).loadRef = s.loadRef := rfl
@[simp] theorem modSlot_loadRef {s : State} (k : Nat) (f : Slot → Slot) :
    (modSlot s k f).loadRef = s.loadRef := rfl
@[simp] theorem emit_loadRef (s : State) (o : Output) : (emit s o).loadRef = s.loadRef := rfl
@[simp] theorem modSess_loadRef (s : State) (k : Nat) (f : Sess → Sess) :
    (modSess s k f).loadRef = s.loadRef := rfl
@[simp] theorem countUp_loadRef {s : State} (sub n : Nat) : (countUp s sub n).loadRef = s.loadRef := rfl
@[simp] theorem modSource_loadRef {s : State} (n : Nat) (f : SourceSt → SourceSt) :
    (modSource s n f).loadRef = s.loadRef := rfl
@[simp] theorem setHealth_loadRef (s : State) (ln : Lane) (h : HealthSt) : (setHealth s ln h).loadRef = s.loadRef := rfl
@[simp] theorem modChan_loadRef (s : State) (c : Nat) (f : ChannelSt → ChannelSt) :
    (modChan s c f).loadRef = s.loadRef := rfl
@[simp] theorem endForce_loadRef {s : State} (n : Nat) : (endForce s n).loadRef = s.loadRef := rfl
@[simp] theorem modDomain_loadRef {s : State} (d : Nat) (f : DomainSt → DomainSt) :
    (modDomain s d f).loadRef = s.loadRef := rfl
@[simp] theorem withdraw_loadRef (s : State) (n : Nat) : (withdraw s n).loadRef = s.loadRef := rfl
@[simp] theorem modModes_loadRef (s : State) (f : ModesSt → ModesSt) : (modModes s f).loadRef = s.loadRef := rfl
@[simp] theorem acknowledge_loadRef {s : State} (n : Nat) : (acknowledge s n).loadRef = s.loadRef := rfl
@[simp] theorem modField_loadRef {s : State} (f : FieldSt → FieldSt) : (modField s f).loadRef = s.loadRef := rfl
@[simp] theorem touch_loadRef (s : State) (ch : Nat) : (touch s ch).loadRef = s.loadRef := rfl
@[simp] theorem modBar_loadRef (s : State) (ln : Lane) (f : BarrierSt → BarrierSt) :
    (modBar s ln f).loadRef = s.loadRef := rfl
@[simp] theorem noteAbort_loadRef {s : State} (ch : Nat) (code : U16) : (noteAbort s ch code).loadRef = s.loadRef := rfl
@[simp] theorem modStile_loadRef {s : State} (ln : Lane) (f : StileSt → StileSt) :
    (modStile s ln f).loadRef = s.loadRef := rfl
@[simp] theorem endAuth_loadRef (s : State) (ch : Nat) : (endAuth s ch).loadRef = s.loadRef := rfl
@[simp] theorem modCross_loadRef (s : State) (c : Nat) (f : CrossSt → CrossSt) :
    (modCross s c f).loadRef = s.loadRef := rfl
@[simp] theorem freeGroup_loadRef {s : State} (g status : Nat) : (freeGroup s g status).loadRef = s.loadRef := rfl
@[simp] theorem modShadow_loadRef {s : State} (g : Nat) (f : GroupShadow → GroupShadow) :
    (modShadow s g f).loadRef = s.loadRef := rfl
@[simp] theorem modHostBus_loadRef (s : State) (b : HostBus) (f : HostBusSt → HostBusSt) : (modHostBus s b f).loadRef = s.loadRef := by cases b <;> rfl
@[simp] theorem modBus_loadRef (s : State) (c : Chan) (f : ChanSt → ChanSt) :
    (modBus s c f).loadRef = s.loadRef := rfl

/-! ### What leaves `program` alone -/

@[simp] theorem modLane_program {s : State} (ln : Lane) (f : LaneSt → LaneSt) :
    (modLane s ln f).program = s.program := rfl
@[simp] theorem State.atTime_program (s : State) (t : Time) : (State.atTime s t).program = s.program := rfl
@[simp] theorem modElem_program (s : State) (e : Nat) (f : ElemSt → ElemSt) :
    (modElem s e f).program = s.program := rfl
@[simp] theorem State.withQueue_program {s : State} (l : List Instr) : (State.withQueue s l).program = s.program := rfl
@[simp] theorem modGroup_program {s : State} (g : Nat) (f : GroupSt → GroupSt) :
    (modGroup s g f).program = s.program := rfl
@[simp] theorem putSetting_program (s : State) (index sub v : Nat) : (putSetting s index sub v).program = s.program := rfl
@[simp] theorem modRoute_program (s : State) (r : Nat) (f : RouteSt → RouteSt) :
    (modRoute s r f).program = s.program := rfl
@[simp] theorem draw_program (s : State) : (draw s).program = s.program := rfl
@[simp] theorem modSlot_program {s : State} (k : Nat) (f : Slot → Slot) :
    (modSlot s k f).program = s.program := rfl
@[simp] theorem emit_program (s : State) (o : Output) : (emit s o).program = s.program := rfl
@[simp] theorem modSess_program (s : State) (k : Nat) (f : Sess → Sess) :
    (modSess s k f).program = s.program := rfl
@[simp] theorem countUp_program {s : State} (sub n : Nat) : (countUp s sub n).program = s.program := rfl
@[simp] theorem modSource_program {s : State} (n : Nat) (f : SourceSt → SourceSt) :
    (modSource s n f).program = s.program := rfl
@[simp] theorem setHealth_program (s : State) (ln : Lane) (h : HealthSt) : (setHealth s ln h).program = s.program := rfl
@[simp] theorem modChan_program (s : State) (c : Nat) (f : ChannelSt → ChannelSt) :
    (modChan s c f).program = s.program := rfl
@[simp] theorem endForce_program {s : State} (n : Nat) : (endForce s n).program = s.program := rfl
@[simp] theorem modDomain_program {s : State} (d : Nat) (f : DomainSt → DomainSt) :
    (modDomain s d f).program = s.program := rfl
@[simp] theorem withdraw_program (s : State) (n : Nat) : (withdraw s n).program = s.program := rfl
@[simp] theorem modModes_program (s : State) (f : ModesSt → ModesSt) : (modModes s f).program = s.program := rfl
@[simp] theorem acknowledge_program {s : State} (n : Nat) : (acknowledge s n).program = s.program := rfl
@[simp] theorem modField_program {s : State} (f : FieldSt → FieldSt) : (modField s f).program = s.program := rfl
@[simp] theorem touch_program (s : State) (ch : Nat) : (touch s ch).program = s.program := rfl
@[simp] theorem modBar_program (s : State) (ln : Lane) (f : BarrierSt → BarrierSt) :
    (modBar s ln f).program = s.program := rfl
@[simp] theorem noteAbort_program {s : State} (ch : Nat) (code : U16) : (noteAbort s ch code).program = s.program := rfl
@[simp] theorem modStile_program {s : State} (ln : Lane) (f : StileSt → StileSt) :
    (modStile s ln f).program = s.program := rfl
@[simp] theorem endAuth_program (s : State) (ch : Nat) : (endAuth s ch).program = s.program := rfl
@[simp] theorem modCross_program (s : State) (c : Nat) (f : CrossSt → CrossSt) :
    (modCross s c f).program = s.program := rfl
@[simp] theorem freeGroup_program {s : State} (g status : Nat) : (freeGroup s g status).program = s.program := rfl
@[simp] theorem modShadow_program {s : State} (g : Nat) (f : GroupShadow → GroupShadow) :
    (modShadow s g f).program = s.program := rfl
@[simp] theorem modHostBus_program (s : State) (b : HostBus) (f : HostBusSt → HostBusSt) : (modHostBus s b f).program = s.program := by cases b <;> rfl
@[simp] theorem modBus_program (s : State) (c : Chan) (f : ChanSt → ChanSt) :
    (modBus s c f).program = s.program := rfl

/-! ### What leaves `change` alone -/

@[simp] theorem modLane_change {s : State} (ln : Lane) (f : LaneSt → LaneSt) :
    (modLane s ln f).change = s.change := rfl
@[simp] theorem State.atTime_change (s : State) (t : Time) : (State.atTime s t).change = s.change := rfl
@[simp] theorem modElem_change (s : State) (e : Nat) (f : ElemSt → ElemSt) :
    (modElem s e f).change = s.change := rfl
@[simp] theorem State.withQueue_change {s : State} (l : List Instr) : (State.withQueue s l).change = s.change := rfl
@[simp] theorem modGroup_change {s : State} (g : Nat) (f : GroupSt → GroupSt) :
    (modGroup s g f).change = s.change := rfl
@[simp] theorem putSetting_change (s : State) (index sub v : Nat) : (putSetting s index sub v).change = s.change := rfl
@[simp] theorem modRoute_change (s : State) (r : Nat) (f : RouteSt → RouteSt) :
    (modRoute s r f).change = s.change := rfl
@[simp] theorem draw_change (s : State) : (draw s).change = s.change := rfl
@[simp] theorem modSlot_change {s : State} (k : Nat) (f : Slot → Slot) :
    (modSlot s k f).change = s.change := rfl
@[simp] theorem emit_change (s : State) (o : Output) : (emit s o).change = s.change := rfl
@[simp] theorem modSess_change (s : State) (k : Nat) (f : Sess → Sess) :
    (modSess s k f).change = s.change := rfl
@[simp] theorem countUp_change {s : State} (sub n : Nat) : (countUp s sub n).change = s.change := rfl
@[simp] theorem modSource_change {s : State} (n : Nat) (f : SourceSt → SourceSt) :
    (modSource s n f).change = s.change := rfl
@[simp] theorem setHealth_change (s : State) (ln : Lane) (h : HealthSt) : (setHealth s ln h).change = s.change := rfl
@[simp] theorem modChan_change (s : State) (c : Nat) (f : ChannelSt → ChannelSt) :
    (modChan s c f).change = s.change := rfl
@[simp] theorem endForce_change {s : State} (n : Nat) : (endForce s n).change = s.change := rfl
@[simp] theorem modDomain_change {s : State} (d : Nat) (f : DomainSt → DomainSt) :
    (modDomain s d f).change = s.change := rfl
@[simp] theorem withdraw_change (s : State) (n : Nat) : (withdraw s n).change = s.change := rfl
@[simp] theorem modModes_change (s : State) (f : ModesSt → ModesSt) : (modModes s f).change = s.change := rfl
@[simp] theorem acknowledge_change {s : State} (n : Nat) : (acknowledge s n).change = s.change := rfl
@[simp] theorem modField_change {s : State} (f : FieldSt → FieldSt) : (modField s f).change = s.change := rfl
@[simp] theorem touch_change (s : State) (ch : Nat) : (touch s ch).change = s.change := rfl
@[simp] theorem modBar_change (s : State) (ln : Lane) (f : BarrierSt → BarrierSt) :
    (modBar s ln f).change = s.change := rfl
@[simp] theorem noteAbort_change {s : State} (ch : Nat) (code : U16) : (noteAbort s ch code).change = s.change := rfl
@[simp] theorem modStile_change {s : State} (ln : Lane) (f : StileSt → StileSt) :
    (modStile s ln f).change = s.change := rfl
@[simp] theorem endAuth_change (s : State) (ch : Nat) : (endAuth s ch).change = s.change := rfl
@[simp] theorem modCross_change (s : State) (c : Nat) (f : CrossSt → CrossSt) :
    (modCross s c f).change = s.change := rfl
@[simp] theorem freeGroup_change {s : State} (g status : Nat) : (freeGroup s g status).change = s.change := rfl
@[simp] theorem modShadow_change {s : State} (g : Nat) (f : GroupShadow → GroupShadow) :
    (modShadow s g f).change = s.change := rfl
@[simp] theorem modHostBus_change (s : State) (b : HostBus) (f : HostBusSt → HostBusSt) : (modHostBus s b f).change = s.change := by cases b <;> rfl
@[simp] theorem modBus_change (s : State) (c : Chan) (f : ChanSt → ChanSt) :
    (modBus s c f).change = s.change := rfl

/-! ### What leaves the lanes alone -/

@[simp] theorem State.atTime_lanes {s : State} (t : Time) : (State.atTime s t).lanes = s.lanes := rfl
@[simp] theorem modElem_lanes (s : State) (e : Nat) (f : ElemSt → ElemSt) :
    (modElem s e f).lanes = s.lanes := rfl
@[simp] theorem State.withQueue_lanes (s : State) (l : List Instr) : (State.withQueue s l).lanes = s.lanes := rfl
@[simp] theorem modGroup_lanes {s : State} (g : Nat) (f : GroupSt → GroupSt) :
    (modGroup s g f).lanes = s.lanes := rfl
@[simp] theorem putSetting_lanes {s : State} (index sub v : Nat) : (putSetting s index sub v).lanes = s.lanes := rfl
@[simp] theorem modRoute_lanes (s : State) (r : Nat) (f : RouteSt → RouteSt) :
    (modRoute s r f).lanes = s.lanes := rfl
@[simp] theorem draw_lanes (s : State) : (draw s).lanes = s.lanes := rfl
@[simp] theorem modSlot_lanes {s : State} (k : Nat) (f : Slot → Slot) :
    (modSlot s k f).lanes = s.lanes := rfl
@[simp] theorem emit_lanes {s : State} (o : Output) : (emit s o).lanes = s.lanes := rfl
@[simp] theorem modSess_lanes (s : State) (k : Nat) (f : Sess → Sess) :
    (modSess s k f).lanes = s.lanes := rfl
@[simp] theorem countUp_lanes (s : State) (sub n : Nat) : (countUp s sub n).lanes = s.lanes := rfl
@[simp] theorem modSource_lanes {s : State} (n : Nat) (f : SourceSt → SourceSt) :
    (modSource s n f).lanes = s.lanes := rfl
@[simp] theorem setHealth_lanes {s : State} (ln : Lane) (h : HealthSt) : (setHealth s ln h).lanes = s.lanes := rfl
@[simp] theorem modChan_lanes (s : State) (c : Nat) (f : ChannelSt → ChannelSt) :
    (modChan s c f).lanes = s.lanes := rfl
@[simp] theorem endForce_lanes (s : State) (n : Nat) : (endForce s n).lanes = s.lanes := rfl
@[simp] theorem modDomain_lanes {s : State} (d : Nat) (f : DomainSt → DomainSt) :
    (modDomain s d f).lanes = s.lanes := rfl
@[simp] theorem withdraw_lanes {s : State} (n : Nat) : (withdraw s n).lanes = s.lanes := rfl
@[simp] theorem modModes_lanes (s : State) (f : ModesSt → ModesSt) : (modModes s f).lanes = s.lanes := rfl
@[simp] theorem acknowledge_lanes (s : State) (n : Nat) : (acknowledge s n).lanes = s.lanes := rfl
@[simp] theorem modField_lanes {s : State} (f : FieldSt → FieldSt) : (modField s f).lanes = s.lanes := rfl
@[simp] theorem touch_lanes {s : State} (ch : Nat) : (touch s ch).lanes = s.lanes := rfl
@[simp] theorem modBar_lanes (s : State) (ln : Lane) (f : BarrierSt → BarrierSt) :
    (modBar s ln f).lanes = s.lanes := rfl
@[simp] theorem noteAbort_lanes (s : State) (ch : Nat) (code : U16) : (noteAbort s ch code).lanes = s.lanes := rfl
@[simp] theorem modStile_lanes {s : State} (ln : Lane) (f : StileSt → StileSt) :
    (modStile s ln f).lanes = s.lanes := rfl
@[simp] theorem endAuth_lanes {s : State} (ch : Nat) : (endAuth s ch).lanes = s.lanes := rfl
@[simp] theorem modCross_lanes (s : State) (c : Nat) (f : CrossSt → CrossSt) :
    (modCross s c f).lanes = s.lanes := rfl
@[simp] theorem freeGroup_lanes (s : State) (g status : Nat) : (freeGroup s g status).lanes = s.lanes := rfl
@[simp] theorem modShadow_lanes {s : State} (g : Nat) (f : GroupShadow → GroupShadow) :
    (modShadow s g f).lanes = s.lanes := rfl
@[simp] theorem modHostBus_lanes (s : State) (b : HostBus) (f : HostBusSt → HostBusSt) : (modHostBus s b f).lanes = s.lanes := by cases b <;> rfl
@[simp] theorem modBus_lanes (s : State) (c : Chan) (f : ChanSt → ChanSt) :
    (modBus s c f).lanes = s.lanes := rfl

/-! ### What leaves the vote alone -/

@[simp] theorem modLane_vote {s : State} (ln : Lane) (f : LaneSt → LaneSt) :
    (modLane s ln f).vote = s.vote := rfl
@[simp] theorem State.atTime_vote (s : State) (t : Time) : (State.atTime s t).vote = s.vote := rfl
@[simp] theorem modElem_vote (s : State) (e : Nat) (f : ElemSt → ElemSt) :
    (modElem s e f).vote = s.vote := rfl
@[simp] theorem State.withQueue_vote {s : State} (l : List Instr) : (State.withQueue s l).vote = s.vote := rfl
@[simp] theorem modGroup_vote {s : State} (g : Nat) (f : GroupSt → GroupSt) :
    (modGroup s g f).vote = s.vote := rfl
@[simp] theorem putSetting_vote (s : State) (index sub v : Nat) : (putSetting s index sub v).vote = s.vote := rfl
@[simp] theorem modRoute_vote (s : State) (r : Nat) (f : RouteSt → RouteSt) :
    (modRoute s r f).vote = s.vote := rfl
@[simp] theorem draw_vote (s : State) : (draw s).vote = s.vote := rfl
@[simp] theorem modSlot_vote {s : State} (k : Nat) (f : Slot → Slot) :
    (modSlot s k f).vote = s.vote := rfl
@[simp] theorem emit_vote (s : State) (o : Output) : (emit s o).vote = s.vote := rfl
@[simp] theorem modSess_vote (s : State) (k : Nat) (f : Sess → Sess) :
    (modSess s k f).vote = s.vote := rfl
@[simp] theorem countUp_vote {s : State} (sub n : Nat) : (countUp s sub n).vote = s.vote := rfl
@[simp] theorem modSource_vote {s : State} (n : Nat) (f : SourceSt → SourceSt) :
    (modSource s n f).vote = s.vote := rfl
@[simp] theorem setHealth_vote (s : State) (ln : Lane) (h : HealthSt) : (setHealth s ln h).vote = s.vote := rfl
@[simp] theorem modChan_vote (s : State) (c : Nat) (f : ChannelSt → ChannelSt) :
    (modChan s c f).vote = s.vote := rfl
@[simp] theorem endForce_vote {s : State} (n : Nat) : (endForce s n).vote = s.vote := rfl
@[simp] theorem modDomain_vote {s : State} (d : Nat) (f : DomainSt → DomainSt) :
    (modDomain s d f).vote = s.vote := rfl
@[simp] theorem withdraw_vote (s : State) (n : Nat) : (withdraw s n).vote = s.vote := rfl
@[simp] theorem modModes_vote (s : State) (f : ModesSt → ModesSt) : (modModes s f).vote = s.vote := rfl
@[simp] theorem acknowledge_vote {s : State} (n : Nat) : (acknowledge s n).vote = s.vote := rfl
@[simp] theorem modField_vote {s : State} (f : FieldSt → FieldSt) : (modField s f).vote = s.vote := rfl
@[simp] theorem touch_vote (s : State) (ch : Nat) : (touch s ch).vote = s.vote := rfl
@[simp] theorem modBar_vote (s : State) (ln : Lane) (f : BarrierSt → BarrierSt) :
    (modBar s ln f).vote = s.vote := rfl
@[simp] theorem noteAbort_vote {s : State} (ch : Nat) (code : U16) : (noteAbort s ch code).vote = s.vote := rfl
@[simp] theorem modStile_vote {s : State} (ln : Lane) (f : StileSt → StileSt) :
    (modStile s ln f).vote = s.vote := rfl
@[simp] theorem endAuth_vote (s : State) (ch : Nat) : (endAuth s ch).vote = s.vote := rfl
@[simp] theorem modCross_vote (s : State) (c : Nat) (f : CrossSt → CrossSt) :
    (modCross s c f).vote = s.vote := rfl
@[simp] theorem freeGroup_vote {s : State} (g status : Nat) : (freeGroup s g status).vote = s.vote := rfl
@[simp] theorem modShadow_vote {s : State} (g : Nat) (f : GroupShadow → GroupShadow) :
    (modShadow s g f).vote = s.vote := rfl
@[simp] theorem modHostBus_vote (s : State) (b : HostBus) (f : HostBusSt → HostBusSt) : (modHostBus s b f).vote = s.vote := by cases b <;> rfl
@[simp] theorem modBus_vote (s : State) (c : Chan) (f : ChanSt → ChanSt) :
    (modBus s c f).vote = s.vote := rfl

/-! ### What leaves the cycle alone -/

@[simp] theorem modLane_cyc {s : State} (ln : Lane) (f : LaneSt → LaneSt) :
    (modLane s ln f).cyc = s.cyc := rfl
@[simp] theorem State.atTime_cyc (s : State) (t : Time) : (State.atTime s t).cyc = s.cyc := rfl
@[simp] theorem modElem_cyc (s : State) (e : Nat) (f : ElemSt → ElemSt) :
    (modElem s e f).cyc = s.cyc := rfl
@[simp] theorem State.withQueue_cyc {s : State} (l : List Instr) : (State.withQueue s l).cyc = s.cyc := rfl
@[simp] theorem modGroup_cyc {s : State} (g : Nat) (f : GroupSt → GroupSt) :
    (modGroup s g f).cyc = s.cyc := rfl
@[simp] theorem putSetting_cyc (s : State) (index sub v : Nat) : (putSetting s index sub v).cyc = s.cyc := rfl
@[simp] theorem modRoute_cyc (s : State) (r : Nat) (f : RouteSt → RouteSt) :
    (modRoute s r f).cyc = s.cyc := rfl
@[simp] theorem draw_cyc (s : State) : (draw s).cyc = s.cyc := rfl
@[simp] theorem modSlot_cyc {s : State} (k : Nat) (f : Slot → Slot) :
    (modSlot s k f).cyc = s.cyc := rfl
@[simp] theorem emit_cyc (s : State) (o : Output) : (emit s o).cyc = s.cyc := rfl
@[simp] theorem modSess_cyc (s : State) (k : Nat) (f : Sess → Sess) :
    (modSess s k f).cyc = s.cyc := rfl
@[simp] theorem countUp_cyc {s : State} (sub n : Nat) : (countUp s sub n).cyc = s.cyc := rfl
@[simp] theorem modSource_cyc {s : State} (n : Nat) (f : SourceSt → SourceSt) :
    (modSource s n f).cyc = s.cyc := rfl
@[simp] theorem setHealth_cyc (s : State) (ln : Lane) (h : HealthSt) : (setHealth s ln h).cyc = s.cyc := rfl
@[simp] theorem modChan_cyc (s : State) (c : Nat) (f : ChannelSt → ChannelSt) :
    (modChan s c f).cyc = s.cyc := rfl
@[simp] theorem endForce_cyc {s : State} (n : Nat) : (endForce s n).cyc = s.cyc := rfl
@[simp] theorem modDomain_cyc {s : State} (d : Nat) (f : DomainSt → DomainSt) :
    (modDomain s d f).cyc = s.cyc := rfl
@[simp] theorem withdraw_cyc (s : State) (n : Nat) : (withdraw s n).cyc = s.cyc := rfl
@[simp] theorem modModes_cyc (s : State) (f : ModesSt → ModesSt) : (modModes s f).cyc = s.cyc := rfl
@[simp] theorem acknowledge_cyc {s : State} (n : Nat) : (acknowledge s n).cyc = s.cyc := rfl
@[simp] theorem modField_cyc {s : State} (f : FieldSt → FieldSt) : (modField s f).cyc = s.cyc := rfl
@[simp] theorem touch_cyc (s : State) (ch : Nat) : (touch s ch).cyc = s.cyc := rfl
@[simp] theorem modBar_cyc (s : State) (ln : Lane) (f : BarrierSt → BarrierSt) :
    (modBar s ln f).cyc = s.cyc := rfl
@[simp] theorem noteAbort_cyc {s : State} (ch : Nat) (code : U16) : (noteAbort s ch code).cyc = s.cyc := rfl
@[simp] theorem modStile_cyc {s : State} (ln : Lane) (f : StileSt → StileSt) :
    (modStile s ln f).cyc = s.cyc := rfl
@[simp] theorem endAuth_cyc (s : State) (ch : Nat) : (endAuth s ch).cyc = s.cyc := rfl
@[simp] theorem modCross_cyc (s : State) (c : Nat) (f : CrossSt → CrossSt) :
    (modCross s c f).cyc = s.cyc := rfl
@[simp] theorem freeGroup_cyc {s : State} (g status : Nat) : (freeGroup s g status).cyc = s.cyc := rfl
@[simp] theorem modShadow_cyc {s : State} (g : Nat) (f : GroupShadow → GroupShadow) :
    (modShadow s g f).cyc = s.cyc := rfl
@[simp] theorem modHostBus_cyc (s : State) (b : HostBus) (f : HostBusSt → HostBusSt) : (modHostBus s b f).cyc = s.cyc := by cases b <;> rfl
@[simp] theorem modBus_cyc (s : State) (c : Chan) (f : ChanSt → ChanSt) :
    (modBus s c f).cyc = s.cyc := rfl

/-! ### What leaves `commons` alone -/

@[simp] theorem modLane_commons {s : State} (ln : Lane) (f : LaneSt → LaneSt) :
    (modLane s ln f).commons = s.commons := rfl
@[simp] theorem State.atTime_commons (s : State) (t : Time) : (State.atTime s t).commons = s.commons := rfl
@[simp] theorem modElem_commons (s : State) (e : Nat) (f : ElemSt → ElemSt) :
    (modElem s e f).commons = s.commons := rfl
@[simp] theorem State.withQueue_commons {s : State} (l : List Instr) : (State.withQueue s l).commons = s.commons := rfl
@[simp] theorem modGroup_commons {s : State} (g : Nat) (f : GroupSt → GroupSt) :
    (modGroup s g f).commons = s.commons := rfl
@[simp] theorem putSetting_commons (s : State) (index sub v : Nat) : (putSetting s index sub v).commons = s.commons := rfl
@[simp] theorem draw_commons (s : State) : (draw s).commons = s.commons := rfl
@[simp] theorem emit_commons {s : State} (o : Output) : (emit s o).commons = s.commons := rfl
@[simp] theorem modSess_commons {s : State} (k : Nat) (f : Sess → Sess) :
    (modSess s k f).commons = s.commons := rfl
@[simp] theorem countUp_commons (s : State) (sub n : Nat) : (countUp s sub n).commons = s.commons := rfl
@[simp] theorem modSource_commons (s : State) (n : Nat) (f : SourceSt → SourceSt) :
    (modSource s n f).commons = s.commons := rfl
@[simp] theorem setHealth_commons {s : State} (ln : Lane) (h : HealthSt) : (setHealth s ln h).commons = s.commons := rfl
@[simp] theorem modChan_commons {s : State} (c : Nat) (f : ChannelSt → ChannelSt) :
    (modChan s c f).commons = s.commons := rfl
@[simp] theorem endForce_commons (s : State) (n : Nat) : (endForce s n).commons = s.commons := rfl
@[simp] theorem modDomain_commons (s : State) (d : Nat) (f : DomainSt → DomainSt) :
    (modDomain s d f).commons = s.commons := rfl
@[simp] theorem withdraw_commons {s : State} (n : Nat) : (withdraw s n).commons = s.commons := rfl
@[simp] theorem modModes_commons {s : State} (f : ModesSt → ModesSt) : (modModes s f).commons = s.commons := rfl
@[simp] theorem acknowledge_commons (s : State) (n : Nat) : (acknowledge s n).commons = s.commons := rfl
@[simp] theorem modField_commons (s : State) (f : FieldSt → FieldSt) : (modField s f).commons = s.commons := rfl
@[simp] theorem touch_commons {s : State} (ch : Nat) : (touch s ch).commons = s.commons := rfl
@[simp] theorem modBar_commons {s : State} (ln : Lane) (f : BarrierSt → BarrierSt) :
    (modBar s ln f).commons = s.commons := rfl
@[simp] theorem noteAbort_commons (s : State) (ch : Nat) (code : U16) : (noteAbort s ch code).commons = s.commons := rfl
@[simp] theorem modStile_commons (s : State) (ln : Lane) (f : StileSt → StileSt) :
    (modStile s ln f).commons = s.commons := rfl
@[simp] theorem endAuth_commons {s : State} (ch : Nat) : (endAuth s ch).commons = s.commons := rfl
@[simp] theorem modCross_commons {s : State} (c : Nat) (f : CrossSt → CrossSt) :
    (modCross s c f).commons = s.commons := rfl
@[simp] theorem freeGroup_commons (s : State) (g status : Nat) : (freeGroup s g status).commons = s.commons := rfl
@[simp] theorem modShadow_commons (s : State) (g : Nat) (f : GroupShadow → GroupShadow) :
    (modShadow s g f).commons = s.commons := rfl
@[simp] theorem modHostBus_commons (s : State) (b : HostBus) (f : HostBusSt → HostBusSt) : (modHostBus s b f).commons = s.commons := by cases b <;> rfl
@[simp] theorem modBus_commons {s : State} (c : Chan) (f : ChanSt → ChanSt) :
    (modBus s c f).commons = s.commons := rfl

/-! ### What leaves `points` alone -/

@[simp] theorem modLane_points {s : State} (ln : Lane) (f : LaneSt → LaneSt) :
    (modLane s ln f).points = s.points := rfl
@[simp] theorem State.atTime_points (s : State) (t : Time) : (State.atTime s t).points = s.points := rfl
@[simp] theorem State.withQueue_points (s : State) (l : List Instr) : (State.withQueue s l).points = s.points := rfl
@[simp] theorem putSetting_points {s : State} (index sub v : Nat) : (putSetting s index sub v).points = s.points := rfl
@[simp] theorem modRoute_points {s : State} (r : Nat) (f : RouteSt → RouteSt) :
    (modRoute s r f).points = s.points := rfl
@[simp] theorem draw_points (s : State) : (draw s).points = s.points := rfl
@[simp] theorem modSlot_points (s : State) (k : Nat) (f : Slot → Slot) :
    (modSlot s k f).points = s.points := rfl
@[simp] theorem emit_points {s : State} (o : Output) : (emit s o).points = s.points := rfl
@[simp] theorem modSess_points {s : State} (k : Nat) (f : Sess → Sess) :
    (modSess s k f).points = s.points := rfl
@[simp] theorem countUp_points (s : State) (sub n : Nat) : (countUp s sub n).points = s.points := rfl
@[simp] theorem modSource_points (s : State) (n : Nat) (f : SourceSt → SourceSt) :
    (modSource s n f).points = s.points := rfl
@[simp] theorem setHealth_points {s : State} (ln : Lane) (h : HealthSt) : (setHealth s ln h).points = s.points := rfl
@[simp] theorem modChan_points {s : State} (c : Nat) (f : ChannelSt → ChannelSt) :
    (modChan s c f).points = s.points := rfl
@[simp] theorem endForce_points (s : State) (n : Nat) : (endForce s n).points = s.points := rfl
@[simp] theorem modDomain_points (s : State) (d : Nat) (f : DomainSt → DomainSt) :
    (modDomain s d f).points = s.points := rfl
@[simp] theorem withdraw_points {s : State} (n : Nat) : (withdraw s n).points = s.points := rfl
@[simp] theorem modModes_points {s : State} (f : ModesSt → ModesSt) : (modModes s f).points = s.points := rfl
@[simp] theorem acknowledge_points (s : State) (n : Nat) : (acknowledge s n).points = s.points := rfl
@[simp] theorem modField_points (s : State) (f : FieldSt → FieldSt) : (modField s f).points = s.points := rfl
@[simp] theorem touch_points {s : State} (ch : Nat) : (touch s ch).points = s.points := rfl
@[simp] theorem modBar_points {s : State} (ln : Lane) (f : BarrierSt → BarrierSt) :
    (modBar s ln f).points = s.points := rfl
@[simp] theorem noteAbort_points (s : State) (ch : Nat) (code : U16) : (noteAbort s ch code).points = s.points := rfl
@[simp] theorem modStile_points (s : State) (ln : Lane) (f : StileSt → StileSt) :
    (modStile s ln f).points = s.points := rfl
@[simp] theorem endAuth_points {s : State} (ch : Nat) : (endAuth s ch).points = s.points := rfl
@[simp] theorem modCross_points {s : State} (c : Nat) (f : CrossSt → CrossSt) :
    (modCross s c f).points = s.points := rfl
@[simp] theorem freeGroup_points (s : State) (g status : Nat) : (freeGroup s g status).points = s.points := rfl
@[simp] theorem modShadow_points (s : State) (g : Nat) (f : GroupShadow → GroupShadow) :
    (modShadow s g f).points = s.points := rfl
@[simp] theorem modHostBus_points (s : State) (b : HostBus) (f : HostBusSt → HostBusSt) : (modHostBus s b f).points = s.points := by cases b <;> rfl
@[simp] theorem modBus_points {s : State} (c : Chan) (f : ChanSt → ChanSt) :
    (modBus s c f).points = s.points := rfl

/-! ### What leaves `field` alone -/

@[simp] theorem modLane_field {s : State} (ln : Lane) (f : LaneSt → LaneSt) :
    (modLane s ln f).field = s.field := rfl
@[simp] theorem State.atTime_field (s : State) (t : Time) : (State.atTime s t).field = s.field := rfl
@[simp] theorem modElem_field (s : State) (e : Nat) (f : ElemSt → ElemSt) :
    (modElem s e f).field = s.field := rfl
@[simp] theorem State.withQueue_field {s : State} (l : List Instr) : (State.withQueue s l).field = s.field := rfl
@[simp] theorem modGroup_field {s : State} (g : Nat) (f : GroupSt → GroupSt) :
    (modGroup s g f).field = s.field := rfl
@[simp] theorem putSetting_field (s : State) (index sub v : Nat) : (putSetting s index sub v).field = s.field := rfl
@[simp] theorem modRoute_field (s : State) (r : Nat) (f : RouteSt → RouteSt) :
    (modRoute s r f).field = s.field := rfl
@[simp] theorem draw_field (s : State) : (draw s).field = s.field := rfl
@[simp] theorem modSlot_field {s : State} (k : Nat) (f : Slot → Slot) :
    (modSlot s k f).field = s.field := rfl
@[simp] theorem emit_field (s : State) (o : Output) : (emit s o).field = s.field := rfl
@[simp] theorem modSess_field (s : State) (k : Nat) (f : Sess → Sess) :
    (modSess s k f).field = s.field := rfl
@[simp] theorem countUp_field {s : State} (sub n : Nat) : (countUp s sub n).field = s.field := rfl
@[simp] theorem modSource_field {s : State} (n : Nat) (f : SourceSt → SourceSt) :
    (modSource s n f).field = s.field := rfl
@[simp] theorem setHealth_field (s : State) (ln : Lane) (h : HealthSt) : (setHealth s ln h).field = s.field := rfl
@[simp] theorem modChan_field (s : State) (c : Nat) (f : ChannelSt → ChannelSt) :
    (modChan s c f).field = s.field := rfl
@[simp] theorem endForce_field {s : State} (n : Nat) : (endForce s n).field = s.field := rfl
@[simp] theorem modDomain_field {s : State} (d : Nat) (f : DomainSt → DomainSt) :
    (modDomain s d f).field = s.field := rfl
@[simp] theorem withdraw_field (s : State) (n : Nat) : (withdraw s n).field = s.field := rfl
@[simp] theorem modModes_field (s : State) (f : ModesSt → ModesSt) : (modModes s f).field = s.field := rfl
@[simp] theorem acknowledge_field {s : State} (n : Nat) : (acknowledge s n).field = s.field := rfl
@[simp] theorem touch_field {s : State} (ch : Nat) : (touch s ch).field = s.field := rfl
@[simp] theorem noteAbort_field (s : State) (ch : Nat) (code : U16) : (noteAbort s ch code).field = s.field := rfl
@[simp] theorem modStile_field (s : State) (ln : Lane) (f : StileSt → StileSt) :
    (modStile s ln f).field = s.field := rfl
@[simp] theorem endAuth_field {s : State} (ch : Nat) : (endAuth s ch).field = s.field := rfl
@[simp] theorem modCross_field {s : State} (c : Nat) (f : CrossSt → CrossSt) :
    (modCross s c f).field = s.field := rfl
@[simp] theorem freeGroup_field (s : State) (g status : Nat) : (freeGroup s g status).field = s.field := rfl
@[simp] theorem modShadow_field (s : State) (g : Nat) (f : GroupShadow → GroupShadow) :
    (modShadow s g f).field = s.field := rfl
@[simp] theorem modHostBus_field (s : State) (b : HostBus) (f : HostBusSt → HostBusSt) : (modHostBus s b f).field = s.field := by cases b <;> rfl
@[simp] theorem modBus_field {s : State} (c : Chan) (f : ChanSt → ChanSt) :
    (modBus s c f).field = s.field := rfl

/-! ### What leaves the bus engine alone -/

@[simp] theorem modLane_bus {s : State} (ln : Lane) (f : LaneSt → LaneSt) :
    (modLane s ln f).bus = s.bus := rfl
@[simp] theorem State.atTime_bus (s : State) (t : Time) : (State.atTime s t).bus = s.bus := rfl
@[simp] theorem modElem_bus (s : State) (e : Nat) (f : ElemSt → ElemSt) :
    (modElem s e f).bus = s.bus := rfl
@[simp] theorem State.withQueue_bus {s : State} (l : List Instr) : (State.withQueue s l).bus = s.bus := rfl
@[simp] theorem modGroup_bus {s : State} (g : Nat) (f : GroupSt → GroupSt) :
    (modGroup s g f).bus = s.bus := rfl
@[simp] theorem putSetting_bus (s : State) (index sub v : Nat) : (putSetting s index sub v).bus = s.bus := rfl
@[simp] theorem modRoute_bus (s : State) (r : Nat) (f : RouteSt → RouteSt) :
    (modRoute s r f).bus = s.bus := rfl
@[simp] theorem draw_bus (s : State) : (draw s).bus = s.bus := rfl
@[simp] theorem modSlot_bus {s : State} (k : Nat) (f : Slot → Slot) :
    (modSlot s k f).bus = s.bus := rfl
@[simp] theorem emit_bus (s : State) (o : Output) : (emit s o).bus = s.bus := rfl
@[simp] theorem modSess_bus (s : State) (k : Nat) (f : Sess → Sess) :
    (modSess s k f).bus = s.bus := rfl
@[simp] theorem countUp_bus {s : State} (sub n : Nat) : (countUp s sub n).bus = s.bus := rfl
@[simp] theorem modSource_bus {s : State} (n : Nat) (f : SourceSt → SourceSt) :
    (modSource s n f).bus = s.bus := rfl
@[simp] theorem setHealth_bus (s : State) (ln : Lane) (h : HealthSt) : (setHealth s ln h).bus = s.bus := rfl
@[simp] theorem modChan_bus (s : State) (c : Nat) (f : ChannelSt → ChannelSt) :
    (modChan s c f).bus = s.bus := rfl
@[simp] theorem endForce_bus {s : State} (n : Nat) : (endForce s n).bus = s.bus := rfl
@[simp] theorem modDomain_bus {s : State} (d : Nat) (f : DomainSt → DomainSt) :
    (modDomain s d f).bus = s.bus := rfl
@[simp] theorem withdraw_bus (s : State) (n : Nat) : (withdraw s n).bus = s.bus := rfl
@[simp] theorem modModes_bus (s : State) (f : ModesSt → ModesSt) : (modModes s f).bus = s.bus := rfl
@[simp] theorem acknowledge_bus {s : State} (n : Nat) : (acknowledge s n).bus = s.bus := rfl
@[simp] theorem modField_bus {s : State} (f : FieldSt → FieldSt) : (modField s f).bus = s.bus := rfl
@[simp] theorem touch_bus (s : State) (ch : Nat) : (touch s ch).bus = s.bus := rfl
@[simp] theorem modBar_bus (s : State) (ln : Lane) (f : BarrierSt → BarrierSt) :
    (modBar s ln f).bus = s.bus := rfl
@[simp] theorem noteAbort_bus {s : State} (ch : Nat) (code : U16) : (noteAbort s ch code).bus = s.bus := rfl
@[simp] theorem modStile_bus {s : State} (ln : Lane) (f : StileSt → StileSt) :
    (modStile s ln f).bus = s.bus := rfl
@[simp] theorem endAuth_bus (s : State) (ch : Nat) : (endAuth s ch).bus = s.bus := rfl
@[simp] theorem modCross_bus (s : State) (c : Nat) (f : CrossSt → CrossSt) :
    (modCross s c f).bus = s.bus := rfl
@[simp] theorem freeGroup_bus {s : State} (g status : Nat) : (freeGroup s g status).bus = s.bus := rfl
@[simp] theorem modShadow_bus {s : State} (g : Nat) (f : GroupShadow → GroupShadow) :
    (modShadow s g f).bus = s.bus := rfl
@[simp] theorem modHostBus_bus (s : State) (b : HostBus) (f : HostBusSt → HostBusSt) : (modHostBus s b f).bus = s.bus := by cases b <;> rfl

/-! ### What leaves `sessions` alone -/

@[simp] theorem modLane_sessions {s : State} (ln : Lane) (f : LaneSt → LaneSt) :
    (modLane s ln f).sessions = s.sessions := rfl
@[simp] theorem State.atTime_sessions (s : State) (t : Time) : (State.atTime s t).sessions = s.sessions := rfl
@[simp] theorem modElem_sessions (s : State) (e : Nat) (f : ElemSt → ElemSt) :
    (modElem s e f).sessions = s.sessions := rfl
@[simp] theorem State.withQueue_sessions {s : State} (l : List Instr) : (State.withQueue s l).sessions = s.sessions := rfl
@[simp] theorem modGroup_sessions {s : State} (g : Nat) (f : GroupSt → GroupSt) :
    (modGroup s g f).sessions = s.sessions := rfl
@[simp] theorem putSetting_sessions (s : State) (index sub v : Nat) : (putSetting s index sub v).sessions = s.sessions := rfl
@[simp] theorem modRoute_sessions (s : State) (r : Nat) (f : RouteSt → RouteSt) :
    (modRoute s r f).sessions = s.sessions := rfl
@[simp] theorem draw_sessions (s : State) : (draw s).sessions = s.sessions := rfl
@[simp] theorem modSlot_sessions {s : State} (k : Nat) (f : Slot → Slot) :
    (modSlot s k f).sessions = s.sessions := rfl
@[simp] theorem emit_sessions (s : State) (o : Output) : (emit s o).sessions = s.sessions := rfl
@[simp] theorem countUp_sessions (s : State) (sub n : Nat) : (countUp s sub n).sessions = s.sessions := rfl
@[simp] theorem modSource_sessions {s : State} (n : Nat) (f : SourceSt → SourceSt) :
    (modSource s n f).sessions = s.sessions := rfl
@[simp] theorem setHealth_sessions {s : State} (ln : Lane) (h : HealthSt) : (setHealth s ln h).sessions = s.sessions := rfl
@[simp] theorem modChan_sessions (s : State) (c : Nat) (f : ChannelSt → ChannelSt) :
    (modChan s c f).sessions = s.sessions := rfl
@[simp] theorem endForce_sessions (s : State) (n : Nat) : (endForce s n).sessions = s.sessions := rfl
@[simp] theorem modDomain_sessions {s : State} (d : Nat) (f : DomainSt → DomainSt) :
    (modDomain s d f).sessions = s.sessions := rfl
@[simp] theorem withdraw_sessions {s : State} (n : Nat) : (withdraw s n).sessions = s.sessions := rfl
@[simp] theorem modModes_sessions (s : State) (f : ModesSt → ModesSt) : (modModes s f).sessions = s.sessions := rfl
@[simp] theorem acknowledge_sessions (s : State) (n : Nat) : (acknowledge s n).sessions = s.sessions := rfl
@[simp] theorem modField_sessions {s : State} (f : FieldSt → FieldSt) : (modField s f).sessions = s.sessions := rfl
@[simp] theorem touch_sessions {s : State} (ch : Nat) : (touch s ch).sessions = s.sessions := rfl
@[simp] theorem modBar_sessions (s : State) (ln : Lane) (f : BarrierSt → BarrierSt) :
    (modBar s ln f).sessions = s.sessions := rfl
@[simp] theorem noteAbort_sessions (s : State) (ch : Nat) (code : U16) : (noteAbort s ch code).sessions = s.sessions := rfl
@[simp] theorem modStile_sessions {s : State} (ln : Lane) (f : StileSt → StileSt) :
    (modStile s ln f).sessions = s.sessions := rfl
@[simp] theorem endAuth_sessions {s : State} (ch : Nat) : (endAuth s ch).sessions = s.sessions := rfl
@[simp] theorem modCross_sessions (s : State) (c : Nat) (f : CrossSt → CrossSt) :
    (modCross s c f).sessions = s.sessions := rfl
@[simp] theorem freeGroup_sessions (s : State) (g status : Nat) : (freeGroup s g status).sessions = s.sessions := rfl
@[simp] theorem modShadow_sessions {s : State} (g : Nat) (f : GroupShadow → GroupShadow) :
    (modShadow s g f).sessions = s.sessions := rfl
@[simp] theorem modHostBus_sessions (s : State) (b : HostBus) (f : HostBusSt → HostBusSt) : (modHostBus s b f).sessions = s.sessions := by cases b <;> rfl
@[simp] theorem modBus_sessions (s : State) (c : Chan) (f : ChanSt → ChanSt) :
    (modBus s c f).sessions = s.sessions := rfl

/-! ### What leaves `host` alone -/

@[simp] theorem modLane_host {s : State} (ln : Lane) (f : LaneSt → LaneSt) :
    (modLane s ln f).host = s.host := rfl
@[simp] theorem State.atTime_host (s : State) (t : Time) : (State.atTime s t).host = s.host := rfl
@[simp] theorem modElem_host (s : State) (e : Nat) (f : ElemSt → ElemSt) :
    (modElem s e f).host = s.host := rfl
@[simp] theorem State.withQueue_host {s : State} (l : List Instr) : (State.withQueue s l).host = s.host := rfl
@[simp] theorem modGroup_host {s : State} (g : Nat) (f : GroupSt → GroupSt) :
    (modGroup s g f).host = s.host := rfl
@[simp] theorem modRoute_host (s : State) (r : Nat) (f : RouteSt → RouteSt) :
    (modRoute s r f).host = s.host := rfl
@[simp] theorem draw_host (s : State) : (draw s).host = s.host := rfl
@[simp] theorem modSlot_host {s : State} (k : Nat) (f : Slot → Slot) :
    (modSlot s k f).host = s.host := rfl
@[simp] theorem emit_host {s : State} (o : Output) : (emit s o).host = s.host := rfl
@[simp] theorem modSess_host (s : State) (k : Nat) (f : Sess → Sess) :
    (modSess s k f).host = s.host := rfl
@[simp] theorem countUp_host (s : State) (sub n : Nat) : (countUp s sub n).host = s.host := rfl
@[simp] theorem modSource_host {s : State} (n : Nat) (f : SourceSt → SourceSt) :
    (modSource s n f).host = s.host := rfl
@[simp] theorem setHealth_host {s : State} (ln : Lane) (h : HealthSt) : (setHealth s ln h).host = s.host := rfl
@[simp] theorem endForce_host (s : State) (n : Nat) : (endForce s n).host = s.host := rfl
@[simp] theorem modDomain_host (s : State) (d : Nat) (f : DomainSt → DomainSt) :
    (modDomain s d f).host = s.host := rfl
@[simp] theorem withdraw_host {s : State} (n : Nat) : (withdraw s n).host = s.host := rfl
@[simp] theorem modModes_host {s : State} (f : ModesSt → ModesSt) : (modModes s f).host = s.host := rfl
@[simp] theorem acknowledge_host (s : State) (n : Nat) : (acknowledge s n).host = s.host := rfl
@[simp] theorem modField_host (s : State) (f : FieldSt → FieldSt) : (modField s f).host = s.host := rfl
@[simp] theorem modBar_host {s : State} (ln : Lane) (f : BarrierSt → BarrierSt) :
    (modBar s ln f).host = s.host := rfl
@[simp] theorem modStile_host {s : State} (ln : Lane) (f : StileSt → StileSt) :
    (modStile s ln f).host = s.host := rfl
@[simp] theorem modCross_host (s : State) (c : Nat) (f : CrossSt → CrossSt) :
    (modCross s c f).host = s.host := rfl
@[simp] theorem modBus_host (s : State) (c : Chan) (f : ChanSt → ChanSt) :
    (modBus s c f).host = s.host := rfl

/-! ### What leaves `stiles` alone -/

@[simp] theorem modLane_stiles {s : State} (ln : Lane) (f : LaneSt → LaneSt) :
    (modLane s ln f).stiles = s.stiles := rfl
@[simp] theorem State.atTime_stiles (s : State) (t : Time) : (State.atTime s t).stiles = s.stiles := rfl
@[simp] theorem modElem_stiles (s : State) (e : Nat) (f : ElemSt → ElemSt) :
    (modElem s e f).stiles = s.stiles := rfl
@[simp] theorem State.withQueue_stiles {s : State} (l : List Instr) : (State.withQueue s l).stiles = s.stiles := rfl
@[simp] theorem modGroup_stiles {s : State} (g : Nat) (f : GroupSt → GroupSt) :
    (modGroup s g f).stiles = s.stiles := rfl
@[simp] theorem putSetting_stiles (s : State) (index sub v : Nat) : (putSetting s index sub v).stiles = s.stiles := rfl
@[simp] theorem modRoute_stiles (s : State) (r : Nat) (f : RouteSt → RouteSt) :
    (modRoute s r f).stiles = s.stiles := rfl
@[simp] theorem draw_stiles (s : State) : (draw s).stiles = s.stiles := rfl
@[simp] theorem modSlot_stiles {s : State} (k : Nat) (f : Slot → Slot) :
    (modSlot s k f).stiles = s.stiles := rfl
@[simp] theorem emit_stiles (s : State) (o : Output) : (emit s o).stiles = s.stiles := rfl
@[simp] theorem modSess_stiles (s : State) (k : Nat) (f : Sess → Sess) :
    (modSess s k f).stiles = s.stiles := rfl
@[simp] theorem countUp_stiles {s : State} (sub n : Nat) : (countUp s sub n).stiles = s.stiles := rfl
@[simp] theorem modSource_stiles {s : State} (n : Nat) (f : SourceSt → SourceSt) :
    (modSource s n f).stiles = s.stiles := rfl
@[simp] theorem setHealth_stiles (s : State) (ln : Lane) (h : HealthSt) : (setHealth s ln h).stiles = s.stiles := rfl
@[simp] theorem modChan_stiles (s : State) (c : Nat) (f : ChannelSt → ChannelSt) :
    (modChan s c f).stiles = s.stiles := rfl
@[simp] theorem endForce_stiles {s : State} (n : Nat) : (endForce s n).stiles = s.stiles := rfl
@[simp] theorem modDomain_stiles {s : State} (d : Nat) (f : DomainSt → DomainSt) :
    (modDomain s d f).stiles = s.stiles := rfl
@[simp] theorem withdraw_stiles (s : State) (n : Nat) : (withdraw s n).stiles = s.stiles := rfl
@[simp] theorem modModes_stiles (s : State) (f : ModesSt → ModesSt) : (modModes s f).stiles = s.stiles := rfl
@[simp] theorem acknowledge_stiles {s : State} (n : Nat) : (acknowledge s n).stiles = s.stiles := rfl
@[simp] theorem modField_stiles {s : State} (f : FieldSt → FieldSt) : (modField s f).stiles = s.stiles := rfl
@[simp] theorem touch_stiles (s : State) (ch : Nat) : (touch s ch).stiles = s.stiles := rfl
@[simp] theorem modBar_stiles (s : State) (ln : Lane) (f : BarrierSt → BarrierSt) :
    (modBar s ln f).stiles = s.stiles := rfl
@[simp] theorem noteAbort_stiles {s : State} (ch : Nat) (code : U16) : (noteAbort s ch code).stiles = s.stiles := rfl
@[simp] theorem endAuth_stiles {s : State} (ch : Nat) : (endAuth s ch).stiles = s.stiles := rfl
@[simp] theorem freeGroup_stiles (s : State) (g status : Nat) : (freeGroup s g status).stiles = s.stiles := rfl
@[simp] theorem modShadow_stiles (s : State) (g : Nat) (f : GroupShadow → GroupShadow) :
    (modShadow s g f).stiles = s.stiles := rfl
@[simp] theorem modHostBus_stiles (s : State) (b : HostBus) (f : HostBusSt → HostBusSt) : (modHostBus s b f).stiles = s.stiles := by cases b <;> rfl
@[simp] theorem modBus_stiles {s : State} (c : Chan) (f : ChanSt → ChanSt) :
    (modBus s c f).stiles = s.stiles := rfl

/-! ### What leaves `modes` alone -/

@[simp] theorem modLane_modes {s : State} (ln : Lane) (f : LaneSt → LaneSt) :
    (modLane s ln f).modes = s.modes := rfl
@[simp] theorem State.atTime_modes (s : State) (t : Time) : (State.atTime s t).modes = s.modes := rfl
@[simp] theorem modElem_modes (s : State) (e : Nat) (f : ElemSt → ElemSt) :
    (modElem s e f).modes = s.modes := rfl
@[simp] theorem State.withQueue_modes {s : State} (l : List Instr) : (State.withQueue s l).modes = s.modes := rfl
@[simp] theorem modGroup_modes {s : State} (g : Nat) (f : GroupSt → GroupSt) :
    (modGroup s g f).modes = s.modes := rfl
@[simp] theorem putSetting_modes (s : State) (index sub v : Nat) : (putSetting s index sub v).modes = s.modes := rfl
@[simp] theorem modRoute_modes (s : State) (r : Nat) (f : RouteSt → RouteSt) :
    (modRoute s r f).modes = s.modes := rfl
@[simp] theorem draw_modes (s : State) : (draw s).modes = s.modes := rfl
@[simp] theorem modSlot_modes {s : State} (k : Nat) (f : Slot → Slot) :
    (modSlot s k f).modes = s.modes := rfl
@[simp] theorem emit_modes (s : State) (o : Output) : (emit s o).modes = s.modes := rfl
@[simp] theorem modSess_modes (s : State) (k : Nat) (f : Sess → Sess) :
    (modSess s k f).modes = s.modes := rfl
@[simp] theorem countUp_modes {s : State} (sub n : Nat) : (countUp s sub n).modes = s.modes := rfl
@[simp] theorem modSource_modes {s : State} (n : Nat) (f : SourceSt → SourceSt) :
    (modSource s n f).modes = s.modes := rfl
@[simp] theorem setHealth_modes (s : State) (ln : Lane) (h : HealthSt) : (setHealth s ln h).modes = s.modes := rfl
@[simp] theorem modChan_modes (s : State) (c : Nat) (f : ChannelSt → ChannelSt) :
    (modChan s c f).modes = s.modes := rfl
@[simp] theorem endForce_modes {s : State} (n : Nat) : (endForce s n).modes = s.modes := rfl
@[simp] theorem withdraw_modes {s : State} (n : Nat) : (withdraw s n).modes = s.modes := rfl
@[simp] theorem acknowledge_modes (s : State) (n : Nat) : (acknowledge s n).modes = s.modes := rfl
@[simp] theorem modField_modes (s : State) (f : FieldSt → FieldSt) : (modField s f).modes = s.modes := rfl
@[simp] theorem touch_modes {s : State} (ch : Nat) : (touch s ch).modes = s.modes := rfl
@[simp] theorem modBar_modes {s : State} (ln : Lane) (f : BarrierSt → BarrierSt) :
    (modBar s ln f).modes = s.modes := rfl
@[simp] theorem noteAbort_modes (s : State) (ch : Nat) (code : U16) : (noteAbort s ch code).modes = s.modes := rfl
@[simp] theorem modStile_modes (s : State) (ln : Lane) (f : StileSt → StileSt) :
    (modStile s ln f).modes = s.modes := rfl
@[simp] theorem endAuth_modes {s : State} (ch : Nat) : (endAuth s ch).modes = s.modes := rfl
@[simp] theorem modCross_modes {s : State} (c : Nat) (f : CrossSt → CrossSt) :
    (modCross s c f).modes = s.modes := rfl
@[simp] theorem freeGroup_modes (s : State) (g status : Nat) : (freeGroup s g status).modes = s.modes := rfl
@[simp] theorem modShadow_modes (s : State) (g : Nat) (f : GroupShadow → GroupShadow) :
    (modShadow s g f).modes = s.modes := rfl
@[simp] theorem modHostBus_modes (s : State) (b : HostBus) (f : HostBusSt → HostBusSt) : (modHostBus s b f).modes = s.modes := by cases b <;> rfl
@[simp] theorem modBus_modes {s : State} (c : Chan) (f : ChanSt → ChanSt) :
    (modBus s c f).modes = s.modes := rfl

/-! ### What leaves `constable` alone -/

@[simp] theorem modLane_constable {s : State} (ln : Lane) (f : LaneSt → LaneSt) :
    (modLane s ln f).constable = s.constable := rfl
@[simp] theorem State.atTime_constable (s : State) (t : Time) : (State.atTime s t).constable = s.constable := rfl
@[simp] theorem modElem_constable (s : State) (e : Nat) (f : ElemSt → ElemSt) :
    (modElem s e f).constable = s.constable := rfl
@[simp] theorem State.withQueue_constable {s : State} (l : List Instr) : (State.withQueue s l).constable = s.constable := rfl
@[simp] theorem modGroup_constable {s : State} (g : Nat) (f : GroupSt → GroupSt) :
    (modGroup s g f).constable = s.constable := rfl
@[simp] theorem putSetting_constable (s : State) (index sub v : Nat) : (putSetting s index sub v).constable = s.constable := rfl
@[simp] theorem modRoute_constable (s : State) (r : Nat) (f : RouteSt → RouteSt) :
    (modRoute s r f).constable = s.constable := rfl
@[simp] theorem draw_constable (s : State) : (draw s).constable = s.constable := rfl
@[simp] theorem modSlot_constable {s : State} (k : Nat) (f : Slot → Slot) :
    (modSlot s k f).constable = s.constable := rfl
@[simp] theorem emit_constable (s : State) (o : Output) : (emit s o).constable = s.constable := rfl
@[simp] theorem modSess_constable (s : State) (k : Nat) (f : Sess → Sess) :
    (modSess s k f).constable = s.constable := rfl
@[simp] theorem countUp_constable {s : State} (sub n : Nat) : (countUp s sub n).constable = s.constable := rfl
@[simp] theorem setHealth_constable {s : State} (ln : Lane) (h : HealthSt) : (setHealth s ln h).constable = s.constable := rfl
@[simp] theorem modChan_constable (s : State) (c : Nat) (f : ChannelSt → ChannelSt) :
    (modChan s c f).constable = s.constable := rfl
@[simp] theorem modDomain_constable (s : State) (d : Nat) (f : DomainSt → DomainSt) :
    (modDomain s d f).constable = s.constable := rfl
@[simp] theorem modModes_constable {s : State} (f : ModesSt → ModesSt) : (modModes s f).constable = s.constable := rfl
@[simp] theorem modField_constable {s : State} (f : FieldSt → FieldSt) : (modField s f).constable = s.constable := rfl
@[simp] theorem touch_constable (s : State) (ch : Nat) : (touch s ch).constable = s.constable := rfl
@[simp] theorem modBar_constable (s : State) (ln : Lane) (f : BarrierSt → BarrierSt) :
    (modBar s ln f).constable = s.constable := rfl
@[simp] theorem noteAbort_constable {s : State} (ch : Nat) (code : U16) : (noteAbort s ch code).constable = s.constable := rfl
@[simp] theorem modStile_constable {s : State} (ln : Lane) (f : StileSt → StileSt) :
    (modStile s ln f).constable = s.constable := rfl
@[simp] theorem endAuth_constable (s : State) (ch : Nat) : (endAuth s ch).constable = s.constable := rfl
@[simp] theorem modCross_constable (s : State) (c : Nat) (f : CrossSt → CrossSt) :
    (modCross s c f).constable = s.constable := rfl
@[simp] theorem freeGroup_constable {s : State} (g status : Nat) : (freeGroup s g status).constable = s.constable := rfl
@[simp] theorem modShadow_constable {s : State} (g : Nat) (f : GroupShadow → GroupShadow) :
    (modShadow s g f).constable = s.constable := rfl
@[simp] theorem modHostBus_constable (s : State) (b : HostBus) (f : HostBusSt → HostBusSt) : (modHostBus s b f).constable = s.constable := by cases b <;> rfl
@[simp] theorem modBus_constable (s : State) (c : Chan) (f : ChanSt → ChanSt) :
    (modBus s c f).constable = s.constable := rfl

/-! ### What leaves `twin` alone -/

@[simp] theorem modLane_twin {s : State} (ln : Lane) (f : LaneSt → LaneSt) :
    (modLane s ln f).twin = s.twin := rfl
@[simp] theorem State.atTime_twin (s : State) (t : Time) : (State.atTime s t).twin = s.twin := rfl
@[simp] theorem modElem_twin (s : State) (e : Nat) (f : ElemSt → ElemSt) :
    (modElem s e f).twin = s.twin := rfl
@[simp] theorem State.withQueue_twin {s : State} (l : List Instr) : (State.withQueue s l).twin = s.twin := rfl
@[simp] theorem modGroup_twin {s : State} (g : Nat) (f : GroupSt → GroupSt) :
    (modGroup s g f).twin = s.twin := rfl
@[simp] theorem putSetting_twin (s : State) (index sub v : Nat) : (putSetting s index sub v).twin = s.twin := rfl
@[simp] theorem modRoute_twin (s : State) (r : Nat) (f : RouteSt → RouteSt) :
    (modRoute s r f).twin = s.twin := rfl
@[simp] theorem draw_twin (s : State) : (draw s).twin = s.twin := rfl
@[simp] theorem modSlot_twin {s : State} (k : Nat) (f : Slot → Slot) :
    (modSlot s k f).twin = s.twin := rfl
@[simp] theorem emit_twin (s : State) (o : Output) : (emit s o).twin = s.twin := rfl
@[simp] theorem modSess_twin (s : State) (k : Nat) (f : Sess → Sess) :
    (modSess s k f).twin = s.twin := rfl
@[simp] theorem countUp_twin {s : State} (sub n : Nat) : (countUp s sub n).twin = s.twin := rfl
@[simp] theorem modSource_twin {s : State} (n : Nat) (f : SourceSt → SourceSt) :
    (modSource s n f).twin = s.twin := rfl
@[simp] theorem setHealth_twin (s : State) (ln : Lane) (h : HealthSt) : (setHealth s ln h).twin = s.twin := rfl
@[simp] theorem modChan_twin (s : State) (c : Nat) (f : ChannelSt → ChannelSt) :
    (modChan s c f).twin = s.twin := rfl
@[simp] theorem endForce_twin {s : State} (n : Nat) : (endForce s n).twin = s.twin := rfl
@[simp] theorem modDomain_twin {s : State} (d : Nat) (f : DomainSt → DomainSt) :
    (modDomain s d f).twin = s.twin := rfl
@[simp] theorem withdraw_twin (s : State) (n : Nat) : (withdraw s n).twin = s.twin := rfl
@[simp] theorem modModes_twin (s : State) (f : ModesSt → ModesSt) : (modModes s f).twin = s.twin := rfl
@[simp] theorem acknowledge_twin {s : State} (n : Nat) : (acknowledge s n).twin = s.twin := rfl
@[simp] theorem modField_twin {s : State} (f : FieldSt → FieldSt) : (modField s f).twin = s.twin := rfl
@[simp] theorem touch_twin (s : State) (ch : Nat) : (touch s ch).twin = s.twin := rfl
@[simp] theorem modBar_twin (s : State) (ln : Lane) (f : BarrierSt → BarrierSt) :
    (modBar s ln f).twin = s.twin := rfl
@[simp] theorem noteAbort_twin {s : State} (ch : Nat) (code : U16) : (noteAbort s ch code).twin = s.twin := rfl
@[simp] theorem modStile_twin {s : State} (ln : Lane) (f : StileSt → StileSt) :
    (modStile s ln f).twin = s.twin := rfl
@[simp] theorem endAuth_twin (s : State) (ch : Nat) : (endAuth s ch).twin = s.twin := rfl
@[simp] theorem modCross_twin (s : State) (c : Nat) (f : CrossSt → CrossSt) :
    (modCross s c f).twin = s.twin := rfl
@[simp] theorem freeGroup_twin {s : State} (g status : Nat) : (freeGroup s g status).twin = s.twin := rfl
@[simp] theorem modShadow_twin {s : State} (g : Nat) (f : GroupShadow → GroupShadow) :
    (modShadow s g f).twin = s.twin := rfl
@[simp] theorem modHostBus_twin (s : State) (b : HostBus) (f : HostBusSt → HostBusSt) : (modHostBus s b f).twin = s.twin := by cases b <;> rfl
@[simp] theorem modBus_twin (s : State) (c : Chan) (f : ChanSt → ChanSt) :
    (modBus s c f).twin = s.twin := rfl

/-! ### What leaves `update` alone -/

@[simp] theorem modLane_update {s : State} (ln : Lane) (f : LaneSt → LaneSt) :
    (modLane s ln f).update = s.update := rfl
@[simp] theorem State.atTime_update (s : State) (t : Time) : (State.atTime s t).update = s.update := rfl
@[simp] theorem modElem_update (s : State) (e : Nat) (f : ElemSt → ElemSt) :
    (modElem s e f).update = s.update := rfl
@[simp] theorem State.withQueue_update {s : State} (l : List Instr) : (State.withQueue s l).update = s.update := rfl
@[simp] theorem modGroup_update {s : State} (g : Nat) (f : GroupSt → GroupSt) :
    (modGroup s g f).update = s.update := rfl
@[simp] theorem putSetting_update (s : State) (index sub v : Nat) : (putSetting s index sub v).update = s.update := rfl
@[simp] theorem modRoute_update (s : State) (r : Nat) (f : RouteSt → RouteSt) :
    (modRoute s r f).update = s.update := rfl
@[simp] theorem draw_update (s : State) : (draw s).update = s.update := rfl
@[simp] theorem modSlot_update {s : State} (k : Nat) (f : Slot → Slot) :
    (modSlot s k f).update = s.update := rfl
@[simp] theorem emit_update (s : State) (o : Output) : (emit s o).update = s.update := rfl
@[simp] theorem modSess_update (s : State) (k : Nat) (f : Sess → Sess) :
    (modSess s k f).update = s.update := rfl
@[simp] theorem countUp_update {s : State} (sub n : Nat) : (countUp s sub n).update = s.update := rfl
@[simp] theorem modSource_update {s : State} (n : Nat) (f : SourceSt → SourceSt) :
    (modSource s n f).update = s.update := rfl
@[simp] theorem setHealth_update (s : State) (ln : Lane) (h : HealthSt) : (setHealth s ln h).update = s.update := rfl
@[simp] theorem modChan_update (s : State) (c : Nat) (f : ChannelSt → ChannelSt) :
    (modChan s c f).update = s.update := rfl
@[simp] theorem endForce_update {s : State} (n : Nat) : (endForce s n).update = s.update := rfl
@[simp] theorem modDomain_update {s : State} (d : Nat) (f : DomainSt → DomainSt) :
    (modDomain s d f).update = s.update := rfl
@[simp] theorem withdraw_update (s : State) (n : Nat) : (withdraw s n).update = s.update := rfl
@[simp] theorem modModes_update (s : State) (f : ModesSt → ModesSt) : (modModes s f).update = s.update := rfl
@[simp] theorem acknowledge_update {s : State} (n : Nat) : (acknowledge s n).update = s.update := rfl
@[simp] theorem modField_update {s : State} (f : FieldSt → FieldSt) : (modField s f).update = s.update := rfl
@[simp] theorem touch_update (s : State) (ch : Nat) : (touch s ch).update = s.update := rfl
@[simp] theorem modBar_update (s : State) (ln : Lane) (f : BarrierSt → BarrierSt) :
    (modBar s ln f).update = s.update := rfl
@[simp] theorem noteAbort_update {s : State} (ch : Nat) (code : U16) : (noteAbort s ch code).update = s.update := rfl
@[simp] theorem modStile_update {s : State} (ln : Lane) (f : StileSt → StileSt) :
    (modStile s ln f).update = s.update := rfl
@[simp] theorem endAuth_update (s : State) (ch : Nat) : (endAuth s ch).update = s.update := rfl
@[simp] theorem modCross_update (s : State) (c : Nat) (f : CrossSt → CrossSt) :
    (modCross s c f).update = s.update := rfl
@[simp] theorem freeGroup_update {s : State} (g status : Nat) : (freeGroup s g status).update = s.update := rfl
@[simp] theorem modShadow_update {s : State} (g : Nat) (f : GroupShadow → GroupShadow) :
    (modShadow s g f).update = s.update := rfl
@[simp] theorem modHostBus_update (s : State) (b : HostBus) (f : HostBusSt → HostBusSt) : (modHostBus s b f).update = s.update := by cases b <;> rfl
@[simp] theorem modBus_update (s : State) (c : Chan) (f : ChanSt → ChanSt) :
    (modBus s c f).update = s.update := rfl

/-! ### What leaves `age` alone -/

@[simp] theorem modLane_age {s : State} (ln : Lane) (f : LaneSt → LaneSt) :
    (modLane s ln f).age = s.age := rfl
@[simp] theorem State.atTime_age (s : State) (t : Time) : (State.atTime s t).age = s.age := rfl
@[simp] theorem modElem_age (s : State) (e : Nat) (f : ElemSt → ElemSt) :
    (modElem s e f).age = s.age := rfl
@[simp] theorem State.withQueue_age {s : State} (l : List Instr) : (State.withQueue s l).age = s.age := rfl
@[simp] theorem modGroup_age {s : State} (g : Nat) (f : GroupSt → GroupSt) :
    (modGroup s g f).age = s.age := rfl
@[simp] theorem putSetting_age (s : State) (index sub v : Nat) : (putSetting s index sub v).age = s.age := rfl
@[simp] theorem modRoute_age (s : State) (r : Nat) (f : RouteSt → RouteSt) :
    (modRoute s r f).age = s.age := rfl
@[simp] theorem draw_age (s : State) : (draw s).age = s.age := rfl
@[simp] theorem modSlot_age {s : State} (k : Nat) (f : Slot → Slot) :
    (modSlot s k f).age = s.age := rfl
@[simp] theorem emit_age (s : State) (o : Output) : (emit s o).age = s.age := rfl
@[simp] theorem modSess_age (s : State) (k : Nat) (f : Sess → Sess) :
    (modSess s k f).age = s.age := rfl
@[simp] theorem modSource_age {s : State} (n : Nat) (f : SourceSt → SourceSt) :
    (modSource s n f).age = s.age := rfl
@[simp] theorem modChan_age {s : State} (c : Nat) (f : ChannelSt → ChannelSt) :
    (modChan s c f).age = s.age := rfl
@[simp] theorem endForce_age (s : State) (n : Nat) : (endForce s n).age = s.age := rfl
@[simp] theorem modDomain_age (s : State) (d : Nat) (f : DomainSt → DomainSt) :
    (modDomain s d f).age = s.age := rfl
@[simp] theorem withdraw_age {s : State} (n : Nat) : (withdraw s n).age = s.age := rfl
@[simp] theorem modModes_age {s : State} (f : ModesSt → ModesSt) : (modModes s f).age = s.age := rfl
@[simp] theorem acknowledge_age (s : State) (n : Nat) : (acknowledge s n).age = s.age := rfl
@[simp] theorem modField_age (s : State) (f : FieldSt → FieldSt) : (modField s f).age = s.age := rfl
@[simp] theorem touch_age {s : State} (ch : Nat) : (touch s ch).age = s.age := rfl
@[simp] theorem modBar_age {s : State} (ln : Lane) (f : BarrierSt → BarrierSt) :
    (modBar s ln f).age = s.age := rfl
@[simp] theorem noteAbort_age (s : State) (ch : Nat) (code : U16) : (noteAbort s ch code).age = s.age := rfl
@[simp] theorem modStile_age (s : State) (ln : Lane) (f : StileSt → StileSt) :
    (modStile s ln f).age = s.age := rfl
@[simp] theorem endAuth_age {s : State} (ch : Nat) : (endAuth s ch).age = s.age := rfl
@[simp] theorem modCross_age {s : State} (c : Nat) (f : CrossSt → CrossSt) :
    (modCross s c f).age = s.age := rfl
@[simp] theorem freeGroup_age (s : State) (g status : Nat) : (freeGroup s g status).age = s.age := rfl
@[simp] theorem modShadow_age (s : State) (g : Nat) (f : GroupShadow → GroupShadow) :
    (modShadow s g f).age = s.age := rfl
@[simp] theorem modHostBus_age (s : State) (b : HostBus) (f : HostBusSt → HostBusSt) : (modHostBus s b f).age = s.age := by cases b <;> rfl
@[simp] theorem modBus_age {s : State} (c : Chan) (f : ChanSt → ChanSt) :
    (modBus s c f).age = s.age := rfl

/-! ### What leaves what was sent alone -/

@[simp] theorem modLane_out {s : State} (ln : Lane) (f : LaneSt → LaneSt) :
    (modLane s ln f).out = s.out := rfl
@[simp] theorem State.atTime_out (s : State) (t : Time) : (State.atTime s t).out = s.out := rfl
@[simp] theorem modElem_out (s : State) (e : Nat) (f : ElemSt → ElemSt) :
    (modElem s e f).out = s.out := rfl
@[simp] theorem State.withQueue_out {s : State} (l : List Instr) : (State.withQueue s l).out = s.out := rfl
@[simp] theorem modGroup_out {s : State} (g : Nat) (f : GroupSt → GroupSt) :
    (modGroup s g f).out = s.out := rfl
@[simp] theorem putSetting_out (s : State) (index sub v : Nat) : (putSetting s index sub v).out = s.out := rfl
@[simp] theorem modRoute_out (s : State) (r : Nat) (f : RouteSt → RouteSt) :
    (modRoute s r f).out = s.out := rfl
@[simp] theorem draw_out (s : State) : (draw s).out = s.out := rfl
@[simp] theorem modSlot_out {s : State} (k : Nat) (f : Slot → Slot) :
    (modSlot s k f).out = s.out := rfl
@[simp] theorem modSess_out (s : State) (k : Nat) (f : Sess → Sess) :
    (modSess s k f).out = s.out := rfl
@[simp] theorem countUp_out (s : State) (sub n : Nat) : (countUp s sub n).out = s.out := rfl
@[simp] theorem modSource_out {s : State} (n : Nat) (f : SourceSt → SourceSt) :
    (modSource s n f).out = s.out := rfl
@[simp] theorem setHealth_out {s : State} (ln : Lane) (h : HealthSt) : (setHealth s ln h).out = s.out := rfl
@[simp] theorem modChan_out (s : State) (c : Nat) (f : ChannelSt → ChannelSt) :
    (modChan s c f).out = s.out := rfl
@[simp] theorem endForce_out (s : State) (n : Nat) : (endForce s n).out = s.out := rfl
@[simp] theorem modDomain_out {s : State} (d : Nat) (f : DomainSt → DomainSt) :
    (modDomain s d f).out = s.out := rfl
@[simp] theorem withdraw_out {s : State} (n : Nat) : (withdraw s n).out = s.out := rfl
@[simp] theorem modModes_out (s : State) (f : ModesSt → ModesSt) : (modModes s f).out = s.out := rfl
@[simp] theorem acknowledge_out (s : State) (n : Nat) : (acknowledge s n).out = s.out := rfl
@[simp] theorem modField_out {s : State} (f : FieldSt → FieldSt) : (modField s f).out = s.out := rfl
@[simp] theorem touch_out {s : State} (ch : Nat) : (touch s ch).out = s.out := rfl
@[simp] theorem modBar_out (s : State) (ln : Lane) (f : BarrierSt → BarrierSt) :
    (modBar s ln f).out = s.out := rfl
@[simp] theorem noteAbort_out (s : State) (ch : Nat) (code : U16) : (noteAbort s ch code).out = s.out := rfl
@[simp] theorem modStile_out {s : State} (ln : Lane) (f : StileSt → StileSt) :
    (modStile s ln f).out = s.out := rfl
@[simp] theorem endAuth_out {s : State} (ch : Nat) : (endAuth s ch).out = s.out := rfl
@[simp] theorem modCross_out (s : State) (c : Nat) (f : CrossSt → CrossSt) :
    (modCross s c f).out = s.out := rfl
@[simp] theorem freeGroup_out (s : State) (g status : Nat) : (freeGroup s g status).out = s.out := rfl
@[simp] theorem modShadow_out {s : State} (g : Nat) (f : GroupShadow → GroupShadow) :
    (modShadow s g f).out = s.out := rfl
@[simp] theorem modHostBus_out (s : State) (b : HostBus) (f : HostBusSt → HostBusSt) : (modHostBus s b f).out = s.out := by cases b <;> rfl
@[simp] theorem modBus_out (s : State) (c : Chan) (f : ChanSt → ChanSt) :
    (modBus s c f).out = s.out := rfl

/-! ### What leaves the free values drawn alone -/

@[simp] theorem modLane_draws {s : State} (ln : Lane) (f : LaneSt → LaneSt) :
    (modLane s ln f).draws = s.draws := rfl
@[simp] theorem State.atTime_draws (s : State) (t : Time) : (State.atTime s t).draws = s.draws := rfl
@[simp] theorem modElem_draws (s : State) (e : Nat) (f : ElemSt → ElemSt) :
    (modElem s e f).draws = s.draws := rfl
@[simp] theorem State.withQueue_draws {s : State} (l : List Instr) : (State.withQueue s l).draws = s.draws := rfl
@[simp] theorem modGroup_draws {s : State} (g : Nat) (f : GroupSt → GroupSt) :
    (modGroup s g f).draws = s.draws := rfl
@[simp] theorem putSetting_draws (s : State) (index sub v : Nat) : (putSetting s index sub v).draws = s.draws := rfl
@[simp] theorem modRoute_draws (s : State) (r : Nat) (f : RouteSt → RouteSt) :
    (modRoute s r f).draws = s.draws := rfl
@[simp] theorem modSlot_draws {s : State} (k : Nat) (f : Slot → Slot) :
    (modSlot s k f).draws = s.draws := rfl
@[simp] theorem emit_draws {s : State} (o : Output) : (emit s o).draws = s.draws := rfl
@[simp] theorem modSess_draws (s : State) (k : Nat) (f : Sess → Sess) :
    (modSess s k f).draws = s.draws := rfl
@[simp] theorem countUp_draws (s : State) (sub n : Nat) : (countUp s sub n).draws = s.draws := rfl
@[simp] theorem modSource_draws {s : State} (n : Nat) (f : SourceSt → SourceSt) :
    (modSource s n f).draws = s.draws := rfl
@[simp] theorem setHealth_draws {s : State} (ln : Lane) (h : HealthSt) : (setHealth s ln h).draws = s.draws := rfl
@[simp] theorem modChan_draws (s : State) (c : Nat) (f : ChannelSt → ChannelSt) :
    (modChan s c f).draws = s.draws := rfl
@[simp] theorem endForce_draws (s : State) (n : Nat) : (endForce s n).draws = s.draws := rfl
@[simp] theorem modDomain_draws {s : State} (d : Nat) (f : DomainSt → DomainSt) :
    (modDomain s d f).draws = s.draws := rfl
@[simp] theorem withdraw_draws {s : State} (n : Nat) : (withdraw s n).draws = s.draws := rfl
@[simp] theorem modModes_draws (s : State) (f : ModesSt → ModesSt) : (modModes s f).draws = s.draws := rfl
@[simp] theorem acknowledge_draws (s : State) (n : Nat) : (acknowledge s n).draws = s.draws := rfl
@[simp] theorem modField_draws {s : State} (f : FieldSt → FieldSt) : (modField s f).draws = s.draws := rfl
@[simp] theorem touch_draws {s : State} (ch : Nat) : (touch s ch).draws = s.draws := rfl
@[simp] theorem modBar_draws (s : State) (ln : Lane) (f : BarrierSt → BarrierSt) :
    (modBar s ln f).draws = s.draws := rfl
@[simp] theorem noteAbort_draws (s : State) (ch : Nat) (code : U16) : (noteAbort s ch code).draws = s.draws := rfl
@[simp] theorem modStile_draws {s : State} (ln : Lane) (f : StileSt → StileSt) :
    (modStile s ln f).draws = s.draws := rfl
@[simp] theorem endAuth_draws {s : State} (ch : Nat) : (endAuth s ch).draws = s.draws := rfl
@[simp] theorem modCross_draws (s : State) (c : Nat) (f : CrossSt → CrossSt) :
    (modCross s c f).draws = s.draws := rfl
@[simp] theorem freeGroup_draws (s : State) (g status : Nat) : (freeGroup s g status).draws = s.draws := rfl
@[simp] theorem modShadow_draws {s : State} (g : Nat) (f : GroupShadow → GroupShadow) :
    (modShadow s g f).draws = s.draws := rfl
@[simp] theorem modHostBus_draws (s : State) (b : HostBus) (f : HostBusSt → HostBusSt) : (modHostBus s b f).draws = s.draws := by cases b <;> rfl
@[simp] theorem modBus_draws (s : State) (c : Chan) (f : ChanSt → ChanSt) :
    (modBus s c f).draws = s.draws := rfl


/-! ### Lanes and channels -/

@[simp] theorem perLane_get_set {α : Type} (p : PerLane α) (i j : Lane) (x : α) :
    (p.set i x).get j = if j = i then x else p.get j := by cases i <;> cases j <;> simp [PerLane.get, PerLane.set]
@[simp] theorem perLane_get_map {α : Type} (p : PerLane α) (f : α → α) (i : Lane) : (p.map f).get i = f (p.get i) := by
  cases i <;> rfl
@[simp] theorem perChan_get_set {α : Type} (p : PerChan α) (i j : Chan) (x : α) :
    (p.set i x).get j = if j = i then x else p.get j := by cases i <;> cases j <;> simp [PerChan.get, PerChan.set]
theorem modLane_get (s : State) (i j : Lane) (f : LaneSt → LaneSt) :
    (modLane s i f).lanes.get j = if j = i then f (s.lanes.get i) else s.lanes.get j := by simp [modLane]

/-! ### Frames -/

theorem Frame.refl (l : List Part) (s : State) : Frame l s s := fun p _ => by cases p <;> rfl
theorem Frame.mono {l m : List Part} {s s' : State} (h : Frame l s s') (hl : ∀ p ∈ l, p ∈ m) : Frame m s s' :=
  fun p hp => h p fun hp' => hp (hl p hp')
theorem Frame.trans {l : List Part} {s s1 s2 : State} (h : Frame l s s1) (h' : Frame l s1 s2) : Frame l s s2 := by
  intro p hp
  have a := h p hp
  have b := h' p hp
  cases p <;> exact b.trans a

end Sys2Proof.Machine
end

