-- ==== Sys2Proof/Laws/Frames.lean ====
section
/-!
SUPPORT. Laws/Frames.lean: the parts that the shared operations of Machine/Ops.lean leave alone: for each operation one lemma, whose
conclusion names every part that the operation leaves as it was.
-/

namespace Sys2Proof.Machine

/-- A Book record changes the Constable only. -/
@[simp] theorem bookPush_rest (s : State) (x : BookRec) :
    (bookPush s x).pending = s.pending ∧ (bookPush s x).now = s.now ∧ (bookPush s x).station = s.station ∧
      (bookPush s x).stationOk = s.stationOk ∧ (bookPush s x).loadCode = s.loadCode ∧ (bookPush s x).loadRef = s.loadRef ∧
      (bookPush s x).program = s.program ∧ (bookPush s x).change = s.change ∧ (bookPush s x).lanes = s.lanes ∧
      (bookPush s x).vote = s.vote ∧ (bookPush s x).cyc = s.cyc ∧ (bookPush s x).commons = s.commons ∧
      (bookPush s x).points = s.points ∧ (bookPush s x).field = s.field ∧ (bookPush s x).bus = s.bus ∧
      (bookPush s x).sessions = s.sessions ∧ (bookPush s x).host = s.host ∧ (bookPush s x).stiles = s.stiles ∧
      (bookPush s x).modes = s.modes ∧ (bookPush s x).twin = s.twin ∧ (bookPush s x).update = s.update ∧
      (bookPush s x).age = s.age ∧ (bookPush s x).out = s.out ∧ (bookPush s x).draws = s.draws := by
  unfold bookPush; (repeat' split) <;> simp

/-- So does a Book event. -/
@[simp] theorem bookEvent_rest (s : State) (code : Nat) (p1 p2 p3 : U32) :
    (bookEvent s code p1 p2 p3).pending = s.pending ∧ (bookEvent s code p1 p2 p3).now = s.now ∧
      (bookEvent s code p1 p2 p3).station = s.station ∧ (bookEvent s code p1 p2 p3).stationOk = s.stationOk ∧
      (bookEvent s code p1 p2 p3).loadCode = s.loadCode ∧ (bookEvent s code p1 p2 p3).loadRef = s.loadRef ∧
      (bookEvent s code p1 p2 p3).program = s.program ∧ (bookEvent s code p1 p2 p3).change = s.change ∧
      (bookEvent s code p1 p2 p3).lanes = s.lanes ∧ (bookEvent s code p1 p2 p3).vote = s.vote ∧
      (bookEvent s code p1 p2 p3).cyc = s.cyc ∧ (bookEvent s code p1 p2 p3).commons = s.commons ∧
      (bookEvent s code p1 p2 p3).points = s.points ∧ (bookEvent s code p1 p2 p3).field = s.field ∧
      (bookEvent s code p1 p2 p3).bus = s.bus ∧ (bookEvent s code p1 p2 p3).sessions = s.sessions ∧
      (bookEvent s code p1 p2 p3).host = s.host ∧ (bookEvent s code p1 p2 p3).stiles = s.stiles ∧
      (bookEvent s code p1 p2 p3).modes = s.modes ∧ (bookEvent s code p1 p2 p3).twin = s.twin ∧
      (bookEvent s code p1 p2 p3).update = s.update ∧ (bookEvent s code p1 p2 p3).age = s.age ∧
      (bookEvent s code p1 p2 p3).out = s.out ∧ (bookEvent s code p1 p2 p3).draws = s.draws := by
  simp [bookEvent]

/-- So does the record of a raise. -/
@[simp] theorem bookRaise_rest (s : State) (x : BookRec) :
    (bookRaise s x).pending = s.pending ∧ (bookRaise s x).now = s.now ∧ (bookRaise s x).station = s.station ∧
      (bookRaise s x).stationOk = s.stationOk ∧ (bookRaise s x).loadCode = s.loadCode ∧ (bookRaise s x).loadRef = s.loadRef ∧
      (bookRaise s x).program = s.program ∧ (bookRaise s x).change = s.change ∧ (bookRaise s x).lanes = s.lanes ∧
      (bookRaise s x).vote = s.vote ∧ (bookRaise s x).cyc = s.cyc ∧ (bookRaise s x).commons = s.commons ∧
      (bookRaise s x).points = s.points ∧ (bookRaise s x).field = s.field ∧ (bookRaise s x).bus = s.bus ∧
      (bookRaise s x).sessions = s.sessions ∧ (bookRaise s x).host = s.host ∧ (bookRaise s x).stiles = s.stiles ∧
      (bookRaise s x).modes = s.modes ∧ (bookRaise s x).twin = s.twin ∧ (bookRaise s x).update = s.update ∧
      (bookRaise s x).age = s.age ∧ (bookRaise s x).out = s.out ∧ (bookRaise s x).draws = s.draws := by
  unfold bookRaise; (repeat' split) <;> simp

/-- So does the note of a raise in its tick. -/
@[simp] theorem noteTick_rest (s : State) (cls : Nat) :
    (noteTick s cls).pending = s.pending ∧ (noteTick s cls).now = s.now ∧ (noteTick s cls).station = s.station ∧
      (noteTick s cls).stationOk = s.stationOk ∧ (noteTick s cls).loadCode = s.loadCode ∧
      (noteTick s cls).loadRef = s.loadRef ∧ (noteTick s cls).program = s.program ∧ (noteTick s cls).change = s.change ∧
      (noteTick s cls).lanes = s.lanes ∧ (noteTick s cls).vote = s.vote ∧ (noteTick s cls).cyc = s.cyc ∧
      (noteTick s cls).commons = s.commons ∧ (noteTick s cls).points = s.points ∧ (noteTick s cls).field = s.field ∧
      (noteTick s cls).bus = s.bus ∧ (noteTick s cls).sessions = s.sessions ∧ (noteTick s cls).host = s.host ∧
      (noteTick s cls).stiles = s.stiles ∧ (noteTick s cls).modes = s.modes ∧ (noteTick s cls).twin = s.twin ∧
      (noteTick s cls).update = s.update ∧ (noteTick s cls).age = s.age ∧ (noteTick s cls).out = s.out ∧
      (noteTick s cls).draws = s.draws := by
  simp [noteTick]

/-- So does what a raise records. -/
@[simp] theorem recordRaise_rest (s : State) (n : Nat) (forced : Bool) (p1 p2 p3 : U32) :
    (recordRaise s n forced p1 p2 p3).pending = s.pending ∧ (recordRaise s n forced p1 p2 p3).now = s.now ∧
      (recordRaise s n forced p1 p2 p3).station = s.station ∧ (recordRaise s n forced p1 p2 p3).stationOk = s.stationOk ∧
      (recordRaise s n forced p1 p2 p3).loadCode = s.loadCode ∧ (recordRaise s n forced p1 p2 p3).loadRef = s.loadRef ∧
      (recordRaise s n forced p1 p2 p3).program = s.program ∧ (recordRaise s n forced p1 p2 p3).change = s.change ∧
      (recordRaise s n forced p1 p2 p3).lanes = s.lanes ∧ (recordRaise s n forced p1 p2 p3).vote = s.vote ∧
      (recordRaise s n forced p1 p2 p3).cyc = s.cyc ∧ (recordRaise s n forced p1 p2 p3).commons = s.commons ∧
      (recordRaise s n forced p1 p2 p3).points = s.points ∧ (recordRaise s n forced p1 p2 p3).field = s.field ∧
      (recordRaise s n forced p1 p2 p3).bus = s.bus ∧ (recordRaise s n forced p1 p2 p3).sessions = s.sessions ∧
      (recordRaise s n forced p1 p2 p3).host = s.host ∧ (recordRaise s n forced p1 p2 p3).stiles = s.stiles ∧
      (recordRaise s n forced p1 p2 p3).modes = s.modes ∧ (recordRaise s n forced p1 p2 p3).twin = s.twin ∧
      (recordRaise s n forced p1 p2 p3).update = s.update ∧ (recordRaise s n forced p1 p2 p3).age = s.age ∧
      (recordRaise s n forced p1 p2 p3).out = s.out ∧ (recordRaise s n forced p1 p2 p3).draws = s.draws := by
  simp [recordRaise]

/-- So does the stop of the kill lines. -/
@[simp] theorem stopKillLines_rest (s : State) (src : U8) :
    (stopKillLines s src).pending = s.pending ∧ (stopKillLines s src).now = s.now ∧
      (stopKillLines s src).station = s.station ∧ (stopKillLines s src).stationOk = s.stationOk ∧
      (stopKillLines s src).loadCode = s.loadCode ∧ (stopKillLines s src).loadRef = s.loadRef ∧
      (stopKillLines s src).program = s.program ∧ (stopKillLines s src).change = s.change ∧
      (stopKillLines s src).lanes = s.lanes ∧ (stopKillLines s src).vote = s.vote ∧ (stopKillLines s src).cyc = s.cyc ∧
      (stopKillLines s src).commons = s.commons ∧ (stopKillLines s src).points = s.points ∧
      (stopKillLines s src).field = s.field ∧ (stopKillLines s src).bus = s.bus ∧
      (stopKillLines s src).sessions = s.sessions ∧ (stopKillLines s src).host = s.host ∧
      (stopKillLines s src).stiles = s.stiles ∧ (stopKillLines s src).modes = s.modes ∧ (stopKillLines s src).twin = s.twin ∧
      (stopKillLines s src).update = s.update ∧ (stopKillLines s src).age = s.age ∧ (stopKillLines s src).out = s.out ∧
      (stopKillLines s src).draws = s.draws := by
  unfold stopKillLines; (repeat' split) <;> simp

/-- Reading a table at the key just written, for a value other than the default. -/
theorem tget_tput_self {α : Type} [DecidableEq α] (d : α) (t : Table α) (n : Nat) (x : α) (h : x ≠ d) :
    tget d (tput d t n x) n = x := by
  induction t with
  | nil => simp [tput, h, tget]
  | cons e t ih =>
    obtain ⟨k, v⟩ := e
    simp only [tput]
    (repeat' split) <;> simp_all [tget]
    omega

/-- Reading a table at another key than the one just written. -/
theorem tget_tput_ne {α : Type} [DecidableEq α] (d : α) (t : Table α) (n m : Nat) (x : α) (h : m ≠ n) :
    tget d (tput d t n x) m = tget d t m := by
  induction t with
  | nil => by_cases hx : x = d <;> simp [tput, hx, tget, Ne.symm h]
  | cons e t ih =>
    obtain ⟨k, v⟩ := e
    simp only [tput]
    split
    · split <;> simp [tget, Ne.symm h]
    · split
      · next hk => subst hk; split <;> simp [tget, Ne.symm h]
      · simp [tget, ih]

@[simp] theorem bookPush_sources (s : State) (x : BookRec) : (bookPush s x).constable.sources = s.constable.sources := by
  unfold bookPush; split <;> rfl
@[simp] theorem bookPush_source (s : State) (x : BookRec) (n : Nat) : source (bookPush s x) n = source s n := by
  simp [source]
@[simp] theorem bookEvent_source (s : State) (code : Nat) (p1 p2 p3 : U32) (n : Nat) :
    source (bookEvent s code p1 p2 p3) n = source s n := by simp [bookEvent]
@[simp] theorem bookRaise_sources (s : State) (x : BookRec) : (bookRaise s x).constable.sources = s.constable.sources := by
  unfold bookRaise; split <;> simp
@[simp] theorem bookRaise_source (s : State) (x : BookRec) (n : Nat) : source (bookRaise s x) n = source s n := by
  simp [source]
@[simp] theorem noteTick_source (s : State) (cls n : Nat) : source (noteTick s cls) n = source s n := by simp [source, noteTick]
theorem modSource_source_ne (s : State) (f : SourceSt → SourceSt) {n m : Nat} (h : m ≠ n) :
    source (modSource s n f) m = source s m := tget_tput_ne _ _ _ _ _ h
theorem modSource_source (s : State) (f : SourceSt → SourceSt) {n : Nat} (h : f (source s n) ≠ {}) :
    source (modSource s n f) n = f (source s n) := tget_tput_self _ _ _ _ h

/-- What a raise leaves of its own source (R367, R369). -/
theorem recordRaise_source (s : State) (n : Nat) (forced : Bool) (p1 p2 p3 : U32) :
    source (recordRaise s n forced p1 p2 p3) n =
      { source s n with
        effective := raiseClass s n, assertedR := .bit (!(raiseClass s n == 0) || srcIsState n || forced)
        reported := !forced && srcIsState n, pendingR := .bit (!(raiseClass s n == 0))
        escalatedR := .bit ((source s n).pending && (source s n).escalated)
        inForce := windowFor s n (raiseClass s n), elapsed := 0, ticked := s.now
        raisedSeq := if s.constable.queue.length < 64 then (source s n).raisedSeq else none32
        raises := (source s n).raises + 1, lastRaise := s.now, params := [p1, p2, p3], forcedRaise := forced } := by
  unfold recordRaise
  dsimp only
  rw [modSource_source]
  · simp
  · intro h; have := congrArg SourceSt.params h; simp at this
theorem recordRaise_effective (s : State) (n : Nat) (forced : Bool) (p1 p2 p3 : U32) :
    (source (recordRaise s n forced p1 p2 p3) n).effective = raiseClass s n := by rw [recordRaise_source]
/-- A raise leaves every other source alone. -/
theorem recordRaise_source_ne (s : State) {n m : Nat} (forced : Bool) (p1 p2 p3 : U32) (h : m ≠ n) :
    source (recordRaise s n forced p1 p2 p3) m = source s m := by
  simp [recordRaise, modSource_source_ne _ _ h]


/-- An event for the host changes the host link only. -/
@[simp] theorem queueEvent_rest (s : State) (kind : Nat) (bytes : List Byte) :
    (queueEvent s kind bytes).pending = s.pending ∧ (queueEvent s kind bytes).now = s.now ∧
      (queueEvent s kind bytes).station = s.station ∧ (queueEvent s kind bytes).stationOk = s.stationOk ∧
      (queueEvent s kind bytes).loadCode = s.loadCode ∧ (queueEvent s kind bytes).loadRef = s.loadRef ∧
      (queueEvent s kind bytes).program = s.program ∧ (queueEvent s kind bytes).change = s.change ∧
      (queueEvent s kind bytes).lanes = s.lanes ∧ (queueEvent s kind bytes).vote = s.vote ∧
      (queueEvent s kind bytes).cyc = s.cyc ∧ (queueEvent s kind bytes).commons = s.commons ∧
      (queueEvent s kind bytes).points = s.points ∧ (queueEvent s kind bytes).field = s.field ∧
      (queueEvent s kind bytes).bus = s.bus ∧ (queueEvent s kind bytes).sessions = s.sessions ∧
      (queueEvent s kind bytes).stiles = s.stiles ∧ (queueEvent s kind bytes).modes = s.modes ∧
      (queueEvent s kind bytes).constable = s.constable ∧ (queueEvent s kind bytes).twin = s.twin ∧
      (queueEvent s kind bytes).update = s.update ∧ (queueEvent s kind bytes).age = s.age ∧
      (queueEvent s kind bytes).out = s.out ∧ (queueEvent s kind bytes).draws = s.draws := by
  unfold queueEvent; (repeat' split) <;> simp

/-- A Notice source that is an event changes the Constable only. -/
@[simp] theorem raiseNotice_rest (s : State) (n : Nat) (p1 p2 p3 : U32) :
    (raiseNotice s n p1 p2 p3).pending = s.pending ∧ (raiseNotice s n p1 p2 p3).now = s.now ∧
      (raiseNotice s n p1 p2 p3).station = s.station ∧ (raiseNotice s n p1 p2 p3).stationOk = s.stationOk ∧
      (raiseNotice s n p1 p2 p3).loadCode = s.loadCode ∧ (raiseNotice s n p1 p2 p3).loadRef = s.loadRef ∧
      (raiseNotice s n p1 p2 p3).program = s.program ∧ (raiseNotice s n p1 p2 p3).change = s.change ∧
      (raiseNotice s n p1 p2 p3).lanes = s.lanes ∧ (raiseNotice s n p1 p2 p3).vote = s.vote ∧
      (raiseNotice s n p1 p2 p3).cyc = s.cyc ∧ (raiseNotice s n p1 p2 p3).commons = s.commons ∧
      (raiseNotice s n p1 p2 p3).points = s.points ∧ (raiseNotice s n p1 p2 p3).field = s.field ∧
      (raiseNotice s n p1 p2 p3).bus = s.bus ∧ (raiseNotice s n p1 p2 p3).sessions = s.sessions ∧
      (raiseNotice s n p1 p2 p3).host = s.host ∧ (raiseNotice s n p1 p2 p3).stiles = s.stiles ∧
      (raiseNotice s n p1 p2 p3).modes = s.modes ∧ (raiseNotice s n p1 p2 p3).twin = s.twin ∧
      (raiseNotice s n p1 p2 p3).update = s.update ∧ (raiseNotice s n p1 p2 p3).age = s.age ∧
      (raiseNotice s n p1 p2 p3).out = s.out ∧ (raiseNotice s n p1 p2 p3).draws = s.draws := by
  unfold raiseNotice; (repeat' split) <;> simp

/-- A pushed event may lose one, which the Constable notes. -/
@[simp] theorem pushEvent_rest (s : State) (kind : Nat) (bytes : List Byte) :
    (pushEvent s kind bytes).pending = s.pending ∧ (pushEvent s kind bytes).now = s.now ∧
      (pushEvent s kind bytes).station = s.station ∧ (pushEvent s kind bytes).stationOk = s.stationOk ∧
      (pushEvent s kind bytes).loadCode = s.loadCode ∧ (pushEvent s kind bytes).loadRef = s.loadRef ∧
      (pushEvent s kind bytes).program = s.program ∧ (pushEvent s kind bytes).change = s.change ∧
      (pushEvent s kind bytes).lanes = s.lanes ∧ (pushEvent s kind bytes).vote = s.vote ∧
      (pushEvent s kind bytes).cyc = s.cyc ∧ (pushEvent s kind bytes).commons = s.commons ∧
      (pushEvent s kind bytes).points = s.points ∧ (pushEvent s kind bytes).field = s.field ∧
      (pushEvent s kind bytes).bus = s.bus ∧ (pushEvent s kind bytes).sessions = s.sessions ∧
      (pushEvent s kind bytes).stiles = s.stiles ∧ (pushEvent s kind bytes).modes = s.modes ∧
      (pushEvent s kind bytes).twin = s.twin ∧ (pushEvent s kind bytes).update = s.update ∧
      (pushEvent s kind bytes).age = s.age ∧ (pushEvent s kind bytes).out = s.out ∧ (pushEvent s kind bytes).draws = s.draws := by
  unfold pushEvent; (repeat' split) <;> simp

/-- A lapse is pushed. -/
@[simp] theorem lapseRequest_rest (s : State) :
    (lapseRequest s).pending = s.pending ∧ (lapseRequest s).now = s.now ∧ (lapseRequest s).station = s.station ∧
      (lapseRequest s).stationOk = s.stationOk ∧ (lapseRequest s).loadCode = s.loadCode ∧
      (lapseRequest s).loadRef = s.loadRef ∧ (lapseRequest s).program = s.program ∧ (lapseRequest s).change = s.change ∧
      (lapseRequest s).lanes = s.lanes ∧ (lapseRequest s).vote = s.vote ∧ (lapseRequest s).cyc = s.cyc ∧
      (lapseRequest s).commons = s.commons ∧ (lapseRequest s).points = s.points ∧ (lapseRequest s).field = s.field ∧
      (lapseRequest s).bus = s.bus ∧ (lapseRequest s).sessions = s.sessions ∧ (lapseRequest s).stiles = s.stiles ∧
      (lapseRequest s).modes = s.modes ∧ (lapseRequest s).twin = s.twin ∧ (lapseRequest s).update = s.update ∧
      (lapseRequest s).age = s.age ∧ (lapseRequest s).out = s.out ∧ (lapseRequest s).draws = s.draws := by
  unfold lapseRequest; (repeat' split) <;> simp

/-- A result is written to the ring and pushed. -/
@[simp] theorem writeResult_rest (s : State) (x : ResultRec) :
    (writeResult s x).pending = s.pending ∧ (writeResult s x).now = s.now ∧ (writeResult s x).station = s.station ∧
      (writeResult s x).stationOk = s.stationOk ∧ (writeResult s x).loadCode = s.loadCode ∧
      (writeResult s x).loadRef = s.loadRef ∧ (writeResult s x).program = s.program ∧ (writeResult s x).change = s.change ∧
      (writeResult s x).lanes = s.lanes ∧ (writeResult s x).vote = s.vote ∧ (writeResult s x).commons = s.commons ∧
      (writeResult s x).points = s.points ∧ (writeResult s x).field = s.field ∧ (writeResult s x).bus = s.bus ∧
      (writeResult s x).sessions = s.sessions ∧ (writeResult s x).stiles = s.stiles ∧ (writeResult s x).modes = s.modes ∧
      (writeResult s x).twin = s.twin ∧ (writeResult s x).update = s.update ∧ (writeResult s x).age = s.age ∧
      (writeResult s x).out = s.out ∧ (writeResult s x).draws = s.draws := by
  simp [writeResult]

/-- A route command leaves its latest result in the Commons. -/
@[simp] theorem noteResult_rest (s : State) (c : Command) (code : U8) (ref : U32) :
    (noteResult s c code ref).pending = s.pending ∧ (noteResult s c code ref).now = s.now ∧
      (noteResult s c code ref).station = s.station ∧ (noteResult s c code ref).stationOk = s.stationOk ∧
      (noteResult s c code ref).loadCode = s.loadCode ∧ (noteResult s c code ref).loadRef = s.loadRef ∧
      (noteResult s c code ref).program = s.program ∧ (noteResult s c code ref).change = s.change ∧
      (noteResult s c code ref).lanes = s.lanes ∧ (noteResult s c code ref).vote = s.vote ∧
      (noteResult s c code ref).cyc = s.cyc ∧ (noteResult s c code ref).points = s.points ∧
      (noteResult s c code ref).field = s.field ∧ (noteResult s c code ref).bus = s.bus ∧
      (noteResult s c code ref).sessions = s.sessions ∧ (noteResult s c code ref).host = s.host ∧
      (noteResult s c code ref).stiles = s.stiles ∧ (noteResult s c code ref).modes = s.modes ∧
      (noteResult s c code ref).constable = s.constable ∧ (noteResult s c code ref).twin = s.twin ∧
      (noteResult s c code ref).update = s.update ∧ (noteResult s c code ref).age = s.age ∧
      (noteResult s c code ref).out = s.out ∧ (noteResult s c code ref).draws = s.draws := by
  unfold noteResult; (repeat' split) <;> simp

/-- Results for a list of commands. -/
@[simp] theorem foldl_results_rest (code : U8) (ref : U32) (f : State → Command → ResultRec) (l : List Command) (s : State) :
    (l.foldl (fun st c => writeResult (noteResult st c code ref) (f st c)) s).pending = s.pending ∧
      (l.foldl (fun st c => writeResult (noteResult st c code ref) (f st c)) s).now = s.now ∧
      (l.foldl (fun st c => writeResult (noteResult st c code ref) (f st c)) s).station = s.station ∧
      (l.foldl (fun st c => writeResult (noteResult st c code ref) (f st c)) s).stationOk = s.stationOk ∧
      (l.foldl (fun st c => writeResult (noteResult st c code ref) (f st c)) s).loadCode = s.loadCode ∧
      (l.foldl (fun st c => writeResult (noteResult st c code ref) (f st c)) s).loadRef = s.loadRef ∧
      (l.foldl (fun st c => writeResult (noteResult st c code ref) (f st c)) s).program = s.program ∧
      (l.foldl (fun st c => writeResult (noteResult st c code ref) (f st c)) s).change = s.change ∧
      (l.foldl (fun st c => writeResult (noteResult st c code ref) (f st c)) s).lanes = s.lanes ∧
      (l.foldl (fun st c => writeResult (noteResult st c code ref) (f st c)) s).vote = s.vote ∧
      (l.foldl (fun st c => writeResult (noteResult st c code ref) (f st c)) s).points = s.points ∧
      (l.foldl (fun st c => writeResult (noteResult st c code ref) (f st c)) s).field = s.field ∧
      (l.foldl (fun st c => writeResult (noteResult st c code ref) (f st c)) s).bus = s.bus ∧
      (l.foldl (fun st c => writeResult (noteResult st c code ref) (f st c)) s).sessions = s.sessions ∧
      (l.foldl (fun st c => writeResult (noteResult st c code ref) (f st c)) s).stiles = s.stiles ∧
      (l.foldl (fun st c => writeResult (noteResult st c code ref) (f st c)) s).modes = s.modes ∧
      (l.foldl (fun st c => writeResult (noteResult st c code ref) (f st c)) s).twin = s.twin ∧
      (l.foldl (fun st c => writeResult (noteResult st c code ref) (f st c)) s).update = s.update ∧
      (l.foldl (fun st c => writeResult (noteResult st c code ref) (f st c)) s).age = s.age ∧
      (l.foldl (fun st c => writeResult (noteResult st c code ref) (f st c)) s).out = s.out ∧
      (l.foldl (fun st c => writeResult (noteResult st c code ref) (f st c)) s).draws = s.draws := by
  induction l generalizing s with
  | nil => simp
  | cons x l ih => simp [ih]

/-- An emptied queue answers its commands. -/
@[simp] theorem flushCommands_rest (s : State) :
    (flushCommands s).pending = s.pending ∧ (flushCommands s).now = s.now ∧ (flushCommands s).station = s.station ∧
      (flushCommands s).stationOk = s.stationOk ∧ (flushCommands s).loadCode = s.loadCode ∧
      (flushCommands s).loadRef = s.loadRef ∧ (flushCommands s).program = s.program ∧ (flushCommands s).change = s.change ∧
      (flushCommands s).lanes = s.lanes ∧ (flushCommands s).vote = s.vote ∧ (flushCommands s).points = s.points ∧
      (flushCommands s).field = s.field ∧ (flushCommands s).bus = s.bus ∧ (flushCommands s).sessions = s.sessions ∧
      (flushCommands s).stiles = s.stiles ∧ (flushCommands s).modes = s.modes ∧ (flushCommands s).twin = s.twin ∧
      (flushCommands s).update = s.update ∧ (flushCommands s).age = s.age ∧ (flushCommands s).out = s.out ∧
      (flushCommands s).draws = s.draws := by
  simp [flushCommands]

/-- The end of the forces on a list of sources. -/
@[simp] theorem foldl_endForce_rest (l : List (Nat × SourceSt)) (s : State) :
    (l.foldl (fun st e => endForce st e.1) s).pending = s.pending ∧ (l.foldl (fun st e => endForce st e.1) s).now = s.now ∧
      (l.foldl (fun st e => endForce st e.1) s).station = s.station ∧
      (l.foldl (fun st e => endForce st e.1) s).stationOk = s.stationOk ∧
      (l.foldl (fun st e => endForce st e.1) s).loadCode = s.loadCode ∧
      (l.foldl (fun st e => endForce st e.1) s).loadRef = s.loadRef ∧
      (l.foldl (fun st e => endForce st e.1) s).program = s.program ∧
      (l.foldl (fun st e => endForce st e.1) s).change = s.change ∧
      (l.foldl (fun st e => endForce st e.1) s).lanes = s.lanes ∧ (l.foldl (fun st e => endForce st e.1) s).vote = s.vote ∧
      (l.foldl (fun st e => endForce st e.1) s).cyc = s.cyc ∧ (l.foldl (fun st e => endForce st e.1) s).commons = s.commons ∧
      (l.foldl (fun st e => endForce st e.1) s).points = s.points ∧
      (l.foldl (fun st e => endForce st e.1) s).field = s.field ∧ (l.foldl (fun st e => endForce st e.1) s).bus = s.bus ∧
      (l.foldl (fun st e => endForce st e.1) s).sessions = s.sessions ∧
      (l.foldl (fun st e => endForce st e.1) s).host = s.host ∧ (l.foldl (fun st e => endForce st e.1) s).stiles = s.stiles ∧
      (l.foldl (fun st e => endForce st e.1) s).modes = s.modes ∧ (l.foldl (fun st e => endForce st e.1) s).twin = s.twin ∧
      (l.foldl (fun st e => endForce st e.1) s).update = s.update ∧ (l.foldl (fun st e => endForce st e.1) s).age = s.age ∧
      (l.foldl (fun st e => endForce st e.1) s).out = s.out ∧ (l.foldl (fun st e => endForce st e.1) s).draws = s.draws := by
  induction l generalizing s with
  | nil => simp
  | cons x l ih => simp [ih]

/-- A change of mode is noted by the Constable. -/
@[simp] theorem setMode_rest (s : State) (m : Mode) (cause : U32) :
    (setMode s m cause).pending = s.pending ∧ (setMode s m cause).now = s.now ∧ (setMode s m cause).station = s.station ∧
      (setMode s m cause).stationOk = s.stationOk ∧ (setMode s m cause).loadCode = s.loadCode ∧
      (setMode s m cause).loadRef = s.loadRef ∧ (setMode s m cause).program = s.program ∧
      (setMode s m cause).change = s.change ∧ (setMode s m cause).lanes = s.lanes ∧ (setMode s m cause).vote = s.vote ∧
      (setMode s m cause).cyc = s.cyc ∧ (setMode s m cause).commons = s.commons ∧ (setMode s m cause).points = s.points ∧
      (setMode s m cause).field = s.field ∧ (setMode s m cause).bus = s.bus ∧ (setMode s m cause).sessions = s.sessions ∧
      (setMode s m cause).host = s.host ∧ (setMode s m cause).stiles = s.stiles ∧ (setMode s m cause).twin = s.twin ∧
      (setMode s m cause).update = s.update ∧ (setMode s m cause).age = s.age ∧ (setMode s m cause).out = s.out ∧
      (setMode s m cause).draws = s.draws := by
  unfold setMode; dsimp only [carryWindows]; (repeat' split) <;> simp

/-- A cancelled change is noted by the Constable. -/
@[simp] theorem cancelArmed_rest (s : State) :
    (cancelArmed s).pending = s.pending ∧ (cancelArmed s).now = s.now ∧ (cancelArmed s).station = s.station ∧
      (cancelArmed s).stationOk = s.stationOk ∧ (cancelArmed s).loadCode = s.loadCode ∧ (cancelArmed s).loadRef = s.loadRef ∧
      (cancelArmed s).program = s.program ∧ (cancelArmed s).lanes = s.lanes ∧ (cancelArmed s).vote = s.vote ∧
      (cancelArmed s).cyc = s.cyc ∧ (cancelArmed s).commons = s.commons ∧ (cancelArmed s).points = s.points ∧
      (cancelArmed s).field = s.field ∧ (cancelArmed s).bus = s.bus ∧ (cancelArmed s).sessions = s.sessions ∧
      (cancelArmed s).host = s.host ∧ (cancelArmed s).stiles = s.stiles ∧ (cancelArmed s).modes = s.modes ∧
      (cancelArmed s).twin = s.twin ∧ (cancelArmed s).update = s.update ∧ (cancelArmed s).age = s.age ∧
      (cancelArmed s).out = s.out ∧ (cancelArmed s).draws = s.draws := by
  unfold cancelArmed; (repeat' split) <;> simp

/-- A failed attempt changes its lane and is noted by the Constable. -/
@[simp] theorem failAttempt_rest (s : State) (ln : Lane) (result : U8) :
    (failAttempt s ln result).pending = s.pending ∧ (failAttempt s ln result).now = s.now ∧
      (failAttempt s ln result).station = s.station ∧ (failAttempt s ln result).stationOk = s.stationOk ∧
      (failAttempt s ln result).loadCode = s.loadCode ∧ (failAttempt s ln result).loadRef = s.loadRef ∧
      (failAttempt s ln result).program = s.program ∧ (failAttempt s ln result).change = s.change ∧
      (failAttempt s ln result).vote = s.vote ∧ (failAttempt s ln result).cyc = s.cyc ∧
      (failAttempt s ln result).commons = s.commons ∧ (failAttempt s ln result).points = s.points ∧
      (failAttempt s ln result).field = s.field ∧ (failAttempt s ln result).bus = s.bus ∧
      (failAttempt s ln result).sessions = s.sessions ∧ (failAttempt s ln result).host = s.host ∧
      (failAttempt s ln result).stiles = s.stiles ∧ (failAttempt s ln result).modes = s.modes ∧
      (failAttempt s ln result).twin = s.twin ∧ (failAttempt s ln result).update = s.update ∧
      (failAttempt s ln result).age = s.age ∧ (failAttempt s ln result).out = s.out ∧
      (failAttempt s ln result).draws = s.draws := by
  simp [failAttempt]

/-- So do the attempts of all lanes. -/
@[simp] theorem abortAttempts_rest (s : State) :
    (abortAttempts s).pending = s.pending ∧ (abortAttempts s).now = s.now ∧ (abortAttempts s).station = s.station ∧
      (abortAttempts s).stationOk = s.stationOk ∧ (abortAttempts s).loadCode = s.loadCode ∧
      (abortAttempts s).loadRef = s.loadRef ∧ (abortAttempts s).program = s.program ∧ (abortAttempts s).change = s.change ∧
      (abortAttempts s).vote = s.vote ∧ (abortAttempts s).cyc = s.cyc ∧ (abortAttempts s).commons = s.commons ∧
      (abortAttempts s).points = s.points ∧ (abortAttempts s).field = s.field ∧ (abortAttempts s).bus = s.bus ∧
      (abortAttempts s).sessions = s.sessions ∧ (abortAttempts s).host = s.host ∧ (abortAttempts s).stiles = s.stiles ∧
      (abortAttempts s).modes = s.modes ∧ (abortAttempts s).twin = s.twin ∧ (abortAttempts s).update = s.update ∧
      (abortAttempts s).age = s.age ∧ (abortAttempts s).out = s.out ∧ (abortAttempts s).draws = s.draws := by
  simp only [abortAttempts, allLanes, List.foldl]; (repeat' split) <;> simp

/-- Giving up control is noted by the Constable. -/
@[simp] theorem recordGiveUp_rest (s : State) (cause : Nat) (snap : U32) :
    (recordGiveUp s cause snap).pending = s.pending ∧ (recordGiveUp s cause snap).now = s.now ∧
      (recordGiveUp s cause snap).station = s.station ∧ (recordGiveUp s cause snap).stationOk = s.stationOk ∧
      (recordGiveUp s cause snap).loadCode = s.loadCode ∧ (recordGiveUp s cause snap).loadRef = s.loadRef ∧
      (recordGiveUp s cause snap).program = s.program ∧ (recordGiveUp s cause snap).change = s.change ∧
      (recordGiveUp s cause snap).lanes = s.lanes ∧ (recordGiveUp s cause snap).vote = s.vote ∧
      (recordGiveUp s cause snap).cyc = s.cyc ∧ (recordGiveUp s cause snap).commons = s.commons ∧
      (recordGiveUp s cause snap).points = s.points ∧ (recordGiveUp s cause snap).field = s.field ∧
      (recordGiveUp s cause snap).bus = s.bus ∧ (recordGiveUp s cause snap).sessions = s.sessions ∧
      (recordGiveUp s cause snap).host = s.host ∧ (recordGiveUp s cause snap).stiles = s.stiles ∧
      (recordGiveUp s cause snap).modes = s.modes ∧ (recordGiveUp s cause snap).update = s.update ∧
      (recordGiveUp s cause snap).age = s.age ∧ (recordGiveUp s cause snap).out = s.out ∧
      (recordGiveUp s cause snap).draws = s.draws := by
  simp [recordGiveUp]

/-- A Twin frame is counted and sent. -/
@[simp] theorem sendTwin_rest (s : State) (typ : Nat) (body : List Byte) :
    (sendTwin s typ body).pending = s.pending ∧ (sendTwin s typ body).now = s.now ∧
      (sendTwin s typ body).station = s.station ∧ (sendTwin s typ body).stationOk = s.stationOk ∧
      (sendTwin s typ body).loadCode = s.loadCode ∧ (sendTwin s typ body).loadRef = s.loadRef ∧
      (sendTwin s typ body).program = s.program ∧ (sendTwin s typ body).change = s.change ∧
      (sendTwin s typ body).lanes = s.lanes ∧ (sendTwin s typ body).vote = s.vote ∧ (sendTwin s typ body).cyc = s.cyc ∧
      (sendTwin s typ body).commons = s.commons ∧ (sendTwin s typ body).points = s.points ∧
      (sendTwin s typ body).field = s.field ∧ (sendTwin s typ body).bus = s.bus ∧
      (sendTwin s typ body).sessions = s.sessions ∧ (sendTwin s typ body).host = s.host ∧
      (sendTwin s typ body).stiles = s.stiles ∧ (sendTwin s typ body).modes = s.modes ∧
      (sendTwin s typ body).constable = s.constable ∧ (sendTwin s typ body).update = s.update ∧
      (sendTwin s typ body).age = s.age ∧ (sendTwin s typ body).draws = s.draws := by
  unfold sendTwin; (repeat' split) <;> simp

/-- So is a notice. -/
@[simp] theorem twinNotice_rest (s : State) (code : Nat) :
    (twinNotice s code).pending = s.pending ∧ (twinNotice s code).now = s.now ∧ (twinNotice s code).station = s.station ∧
      (twinNotice s code).stationOk = s.stationOk ∧ (twinNotice s code).loadCode = s.loadCode ∧
      (twinNotice s code).loadRef = s.loadRef ∧ (twinNotice s code).program = s.program ∧
      (twinNotice s code).change = s.change ∧ (twinNotice s code).lanes = s.lanes ∧ (twinNotice s code).vote = s.vote ∧
      (twinNotice s code).cyc = s.cyc ∧ (twinNotice s code).commons = s.commons ∧ (twinNotice s code).points = s.points ∧
      (twinNotice s code).field = s.field ∧ (twinNotice s code).bus = s.bus ∧ (twinNotice s code).sessions = s.sessions ∧
      (twinNotice s code).host = s.host ∧ (twinNotice s code).stiles = s.stiles ∧ (twinNotice s code).modes = s.modes ∧
      (twinNotice s code).constable = s.constable ∧ (twinNotice s code).update = s.update ∧ (twinNotice s code).age = s.age ∧
      (twinNotice s code).draws = s.draws := by
  simp [twinNotice]

/-- What entering Safe State may change (R344). -/
@[simp] theorem enterSafeState_rest (s : State) (src : U8) :
    (enterSafeState s src).pending = s.pending ∧ (enterSafeState s src).now = s.now ∧
      (enterSafeState s src).station = s.station ∧ (enterSafeState s src).stationOk = s.stationOk ∧
      (enterSafeState s src).loadCode = s.loadCode ∧ (enterSafeState s src).loadRef = s.loadRef ∧
      (enterSafeState s src).program = s.program ∧ (enterSafeState s src).vote = s.vote ∧
      (enterSafeState s src).points = s.points ∧ (enterSafeState s src).field = s.field ∧
      (enterSafeState s src).bus = s.bus ∧ (enterSafeState s src).sessions = s.sessions ∧
      (enterSafeState s src).stiles = s.stiles ∧ (enterSafeState s src).update = s.update ∧
      (enterSafeState s src).draws = s.draws := by
  unfold enterSafeState; dsimp only; (repeat' split) <;> simp

/-- The limit timer is the vote's. -/
@[simp] theorem startLimit_rest (s : State) :
    (startLimit s).pending = s.pending ∧ (startLimit s).now = s.now ∧ (startLimit s).station = s.station ∧
      (startLimit s).stationOk = s.stationOk ∧ (startLimit s).loadCode = s.loadCode ∧ (startLimit s).loadRef = s.loadRef ∧
      (startLimit s).program = s.program ∧ (startLimit s).change = s.change ∧ (startLimit s).lanes = s.lanes ∧
      (startLimit s).cyc = s.cyc ∧ (startLimit s).commons = s.commons ∧ (startLimit s).points = s.points ∧
      (startLimit s).field = s.field ∧ (startLimit s).bus = s.bus ∧ (startLimit s).sessions = s.sessions ∧
      (startLimit s).host = s.host ∧ (startLimit s).stiles = s.stiles ∧ (startLimit s).modes = s.modes ∧
      (startLimit s).constable = s.constable ∧ (startLimit s).twin = s.twin ∧ (startLimit s).update = s.update ∧
      (startLimit s).age = s.age ∧ (startLimit s).out = s.out ∧ (startLimit s).draws = s.draws := by
  unfold startLimit; (repeat' split) <;> simp

/-- A clamped domain is one of the modes' part. -/
@[simp] theorem clampLane_rest (s : State) (ln : Lane) :
    (clampLane s ln).pending = s.pending ∧ (clampLane s ln).now = s.now ∧ (clampLane s ln).station = s.station ∧
      (clampLane s ln).stationOk = s.stationOk ∧ (clampLane s ln).loadCode = s.loadCode ∧
      (clampLane s ln).loadRef = s.loadRef ∧ (clampLane s ln).program = s.program ∧ (clampLane s ln).change = s.change ∧
      (clampLane s ln).lanes = s.lanes ∧ (clampLane s ln).vote = s.vote ∧ (clampLane s ln).cyc = s.cyc ∧
      (clampLane s ln).commons = s.commons ∧ (clampLane s ln).points = s.points ∧ (clampLane s ln).field = s.field ∧
      (clampLane s ln).bus = s.bus ∧ (clampLane s ln).sessions = s.sessions ∧ (clampLane s ln).host = s.host ∧
      (clampLane s ln).stiles = s.stiles ∧ (clampLane s ln).constable = s.constable ∧ (clampLane s ln).twin = s.twin ∧
      (clampLane s ln).update = s.update ∧ (clampLane s ln).age = s.age ∧ (clampLane s ln).out = s.out ∧
      (clampLane s ln).draws = s.draws := by
  unfold clampLane; (repeat' split) <;> simp

/-- What excluding a lane may change (R41). -/
@[simp] theorem excludeLane_rest (s : State) (ln : Lane) (src : Nat) :
    (excludeLane s ln src).pending = s.pending ∧ (excludeLane s ln src).now = s.now ∧
      (excludeLane s ln src).station = s.station ∧ (excludeLane s ln src).stationOk = s.stationOk ∧
      (excludeLane s ln src).loadCode = s.loadCode ∧ (excludeLane s ln src).loadRef = s.loadRef ∧
      (excludeLane s ln src).program = s.program ∧ (excludeLane s ln src).points = s.points ∧
      (excludeLane s ln src).field = s.field ∧ (excludeLane s ln src).bus = s.bus ∧
      (excludeLane s ln src).sessions = s.sessions ∧ (excludeLane s ln src).stiles = s.stiles ∧
      (excludeLane s ln src).update = s.update ∧ (excludeLane s ln src).draws = s.draws := by
  unfold excludeLane; dsimp only; (repeat' split) <;> simp

/-- What the effect of a class may change (Table 13-3). -/
@[simp] theorem classEffect_rest (s : State) (n cls : Nat) (p1 : U32) :
    (classEffect s n cls p1).pending = s.pending ∧ (classEffect s n cls p1).now = s.now ∧
      (classEffect s n cls p1).station = s.station ∧ (classEffect s n cls p1).stationOk = s.stationOk ∧
      (classEffect s n cls p1).loadCode = s.loadCode ∧ (classEffect s n cls p1).loadRef = s.loadRef ∧
      (classEffect s n cls p1).program = s.program ∧ (classEffect s n cls p1).points = s.points ∧
      (classEffect s n cls p1).field = s.field ∧ (classEffect s n cls p1).bus = s.bus ∧
      (classEffect s n cls p1).sessions = s.sessions ∧ (classEffect s n cls p1).stiles = s.stiles ∧
      (classEffect s n cls p1).update = s.update ∧ (classEffect s n cls p1).draws = s.draws := by
  unfold classEffect; (repeat' split) <;> simp

/-- What a raise may change. -/
@[simp] theorem raiseWith_rest (s : State) (n : Nat) (forced : Bool) (p1 p2 p3 : U32) :
    (raiseWith s n forced p1 p2 p3).pending = s.pending ∧ (raiseWith s n forced p1 p2 p3).now = s.now ∧
      (raiseWith s n forced p1 p2 p3).station = s.station ∧ (raiseWith s n forced p1 p2 p3).stationOk = s.stationOk ∧
      (raiseWith s n forced p1 p2 p3).loadCode = s.loadCode ∧ (raiseWith s n forced p1 p2 p3).loadRef = s.loadRef ∧
      (raiseWith s n forced p1 p2 p3).program = s.program ∧ (raiseWith s n forced p1 p2 p3).points = s.points ∧
      (raiseWith s n forced p1 p2 p3).field = s.field ∧ (raiseWith s n forced p1 p2 p3).bus = s.bus ∧
      (raiseWith s n forced p1 p2 p3).sessions = s.sessions ∧ (raiseWith s n forced p1 p2 p3).stiles = s.stiles ∧
      (raiseWith s n forced p1 p2 p3).update = s.update ∧ (raiseWith s n forced p1 p2 p3).draws = s.draws := by
  unfold raiseWith; dsimp only; (repeat' split) <;> simp

/-- What a block's report of a source may change. -/
@[simp] theorem raise_rest (s : State) (n : Nat) (p1 p2 p3 : U32) :
    (raise s n p1 p2 p3).pending = s.pending ∧ (raise s n p1 p2 p3).now = s.now ∧ (raise s n p1 p2 p3).station = s.station ∧
      (raise s n p1 p2 p3).stationOk = s.stationOk ∧ (raise s n p1 p2 p3).loadCode = s.loadCode ∧
      (raise s n p1 p2 p3).loadRef = s.loadRef ∧ (raise s n p1 p2 p3).program = s.program ∧
      (raise s n p1 p2 p3).points = s.points ∧ (raise s n p1 p2 p3).field = s.field ∧ (raise s n p1 p2 p3).bus = s.bus ∧
      (raise s n p1 p2 p3).sessions = s.sessions ∧ (raise s n p1 p2 p3).stiles = s.stiles ∧
      (raise s n p1 p2 p3).update = s.update ∧ (raise s n p1 p2 p3).draws = s.draws := by
  unfold raise; (repeat' split) <;> simp

/-- What the end of every command may change. -/
@[simp] theorem settle_rest (s0 s : State) :
    (settle s0 s).pending = s.pending ∧ (settle s0 s).now = s.now ∧ (settle s0 s).station = s.station ∧
      (settle s0 s).stationOk = s.stationOk ∧ (settle s0 s).loadCode = s.loadCode ∧ (settle s0 s).loadRef = s.loadRef ∧
      (settle s0 s).program = s.program ∧ (settle s0 s).change = s.change ∧ (settle s0 s).lanes = s.lanes ∧
      (settle s0 s).vote = s.vote ∧ (settle s0 s).cyc = s.cyc ∧ (settle s0 s).commons = s.commons ∧
      (settle s0 s).points = s.points ∧ (settle s0 s).field = s.field ∧ (settle s0 s).bus = s.bus ∧
      (settle s0 s).sessions = s.sessions ∧ (settle s0 s).stiles = s.stiles ∧ (settle s0 s).modes = s.modes ∧
      (settle s0 s).twin = s.twin ∧ (settle s0 s).update = s.update ∧ (settle s0 s).age = s.age ∧ (settle s0 s).out = s.out ∧
      (settle s0 s).draws = s.draws := by
  unfold settle; (repeat' split) <;> simp

end Sys2Proof.Machine
end

