-- ==== Sys2Proof/Laws/Steps.lean ====
section
/-!
SUPPORT. Laws/Steps.lean: what every command shares: its single exit, and when it pushes no change of the device state.
-/

namespace Sys2Proof.Machine

/-- No attribute of the device state has changed: nothing is pushed. -/
theorem settle_same {s s' : State} (h : attributes s = attributes s') : settle s s' = s' := by simp [settle, h]

/-- A Steward that does not serve pushes nothing. -/
theorem settle_dark {s s' : State} (h : s'.host.serving = false) : settle s s' = s' := by simp [settle, h]

theorem withQueue_self {s : State} {l : List Instr} (h : s.pending = l) : s.withQueue l = s := by subst h; rfl

/-- The exit of every command when its effect leaves the six attributes and the queue alone. -/
theorem at_plain {t : Time} {s : State} {f : State → State} (h : attributes s = attributes (f (s.atTime t)))
    (hp : (f (s.atTime t)).pending = s.pending) : at_ t s f = .next (f (s.atTime t)) := by
  rw [at_, settle_same h, withQueue_self hp]

/-- The exit of every command answers a next state. -/
theorem at_next (t : Time) (s : State) (f : State → State) : ∃ s', at_ t s f = .next s' ∧ s'.pending = s.pending :=
  ⟨_, rfl, rfl⟩

/-- A host write while the Steward serves: accepted. -/
theorem hostWrite_ok {s : State} {ch : Nat} {f : State → Write} {x : State} (hs : stewardServes s = true) (h : f s = .ok x) :
    hostWrite s ch f = touch x ch := by simp [hostWrite, hs, h, afterWrite]

/-- A host write while the Steward serves: refused. -/
theorem hostWrite_error {s : State} {ch : Nat} {f : State → Write} {code : U16} (hs : stewardServes s = true)
    (h : f s = .error code) : hostWrite s ch f = touch (noteAbort s ch code) ch := by simp [hostWrite, hs, h, afterWrite]

/-- While the Steward does not serve, no frame of the host has any effect (R308). -/
theorem hostWrite_unserved {s : State} {ch : Nat} {f : State → Write} (hs : stewardServes s = false) :
    hostWrite s ch f = s := by simp [hostWrite, hs]

/-- A quiet source is raised at its configured class, whose effect applies unless a higher class was raised in the tick (R371). -/
theorem raise_quiet_tick {s : State} {n : Nat} (h : Quiet s n) (p1 p2 p3 : U32) :
    raise s n p1 p2 p3 = if srcClass n < tickClass s then recordRaise s n false p1 p2 p3
      else classEffect (recordRaise s n false p1 p2 p3) n (srcClass n) p1 := by
  obtain ⟨h1, h2, h3⟩ := h
  have hc : raiseClass s n = srcClass n := by
    simp only [raiseClass]; split <;> omega
  simp [raise, raiseWith, h1, h2, recordRaise_effective, hc]

/-- With no higher class in the tick, a quiet source has the effect of its class. -/
theorem raise_quiet {s : State} {n : Nat} (h : Quiet s n) (ht : tickClass s ≤ srcClass n) (p1 p2 p3 : U32) :
    raise s n p1 p2 p3 = classEffect (recordRaise s n false p1 p2 p3) n (srcClass n) p1 := by
  rw [raise_quiet_tick h, if_neg (by omega)]

/-- A Notice or Minor source acts in its block only (Table 13-3). -/
theorem raise_minor {s : State} {n : Nat} (h : Quiet s n) (hc : srcClass n ≤ 1) (p1 p2 p3 : U32) :
    raise s n p1 p2 p3 = recordRaise s n false p1 p2 p3 := by
  rw [raise_quiet_tick h]
  obtain hc | hc : srcClass n = 0 ∨ srcClass n = 1 := by omega
  all_goals simp [classEffect, hc]

/-- A Notice source that is an event and quiet is recorded. -/
theorem raiseNotice_quiet {s : State} {n : Nat} (h : Quiet s n) (p1 p2 p3 : U32) :
    raiseNotice s n p1 p2 p3 = recordRaise s n false p1 p2 p3 := by
  simp [raiseNotice, h.2.1]

end Sys2Proof.Machine
end

