-- ==== Sys2Proof/Laws/Completion.lean ====
section
/-!
SUPPORT. Laws/Completion.lean: how a command's run is shown: the attributes stay, the function is applied, a host write is answered.
-/

namespace Sys2Proof.Machine

/-- The attributes of R311 stay while the fields they are read from stay. -/
theorem attrs_same {s s' : State} (h1 : s'.modes.mode = s.modes.mode) (h2 : s'.modes.lanesAtEntry = s.modes.lanesAtEntry ∧ s'.modes.previous = s.modes.previous) (h3 : s'.twin.role = s.twin.role)
  (h4 : s'.update.state = s.update.state) (h5 : s'.lanes = s.lanes) (h6 : s'.change.forces = s.change.forces) : attributes s = attributes s' := by
  have hv : voters s' = voters s := by unfold voters inVote; rw [h5]
  simp [attributes, roleNow, lanesNow, hv, forcesPresent, fence, h1, h2, h3, h4, h6]
/-- A command that applies one function at its time runs it, when the attributes stay. -/
theorem runs_at {t : Time} {s r : State} {f : State → State} {c : Instr} (hc : exec c s = at_ t s f) (hr : f (s.atTime t) = r)
  (h1 : r.modes.mode = s.modes.mode) (h2 : r.modes.lanesAtEntry = s.modes.lanesAtEntry ∧ r.modes.previous = s.modes.previous) (h3 : r.twin.role = s.twin.role)
  (h4 : r.update.state = s.update.state) (h5 : r.lanes = s.lanes) (h6 : r.change.forces = s.change.forces) (hp : r.pending = s.pending) : Runs c s r := by
  unfold Runs; rw [hc]; subst hr; exact at_plain (attrs_same h1 h2 h3 h4 h5 h6) hp
/-- An accepted host write runs, and is answered. -/
theorem runs_write {t : Time} {s r : State} {f : State → Write} {c : Instr} {ch : Fin 8} (hc : exec c s = writeAt t s ch.val f) (hs : Serves s t) (hr : f (s.atTime t) = .ok r)
  (h1 : r.modes.mode = s.modes.mode) (h2 : r.modes.lanesAtEntry = s.modes.lanesAtEntry ∧ r.modes.previous = s.modes.previous) (h3 : r.twin.role = s.twin.role)
  (h4 : r.update.state = s.update.state) (h5 : r.lanes = s.lanes) (h6 : r.change.forces = s.change.forces) (hp : r.pending = s.pending) : Runs c s (accepted r ch) := by
  unfold Runs; rw [hc, writeAt]
  have hs' : stewardServes (s.atTime t) = true := by simp [stewardServes, State.atTime, hs.1, hs.2]
  have e : (fun s1 => hostWrite s1 ch.val f) (s.atTime t) = accepted r ch := hostWrite_ok hs' hr
  have := at_plain (f := fun s1 => hostWrite s1 ch.val f) (t := t) (s := s) (by simp only [e]; apply attrs_same <;> simp [accepted, *]) (by simp only [e]; simp [accepted, hp])
  rw [this]; exact congrArg _ e
/-- A refused host write runs: its code is answered, and nothing else changes. -/
theorem runs_refused {t : Time} {s : State} {f : State → Write} {c : Instr} {ch : Fin 8} {code : U16} (hc : exec c s = writeAt t s ch.val f) (hs : Serves s t) (hr : f (s.atTime t) = .error code) :
   Runs c s (refused (s.atTime t) ch code) := by
  unfold Runs; rw [hc, writeAt]
  have hs' : stewardServes (s.atTime t) = true := by simp [stewardServes, State.atTime, hs.1, hs.2]
  have e : (fun s1 => hostWrite s1 ch.val f) (s.atTime t) = refused (s.atTime t) ch code := hostWrite_error hs' hr
  have := at_plain (f := fun s1 => hostWrite s1 ch.val f) (t := t) (s := s) (by simp only [e]; apply attrs_same <;> simp [refused]) (by simp only [e]; simp [refused])
  rw [this]; exact congrArg _ e

end Sys2Proof.Machine
end

