-- ==== Sys2Proof/Laws/Faults.lean ====
section
/-!
SUPPORT. Laws/Faults.lean: what losing a lane and entering Safe State do, once for all the commands that lead there.
-/

namespace Sys2Proof.Machine

/-! ### Lanes and tables -/

@[simp] theorem PerLane.get_set_self {α : Type} (p : PerLane α) (ln : Lane) (x : α) : (p.set ln x).get ln = x := by cases ln <;> rfl
theorem PerLane.get_set_ne {α : Type} (p : PerLane α) {ln k : Lane} (x : α) (h : k ≠ ln) : (p.set ln x).get k = p.get k := by
  cases ln <;> cases k <;> first | rfl | exact absurd rfl h

/-- With three lanes in the vote every lane's state is 0. -/
theorem voters_all {s : State} (h : voters s = allLanes) (ln : Lane) : (s.lanes.get ln).state = 0 := by
  have hm : ∀ x ∈ allLanes, inVote s x = true := by
    rw [← h]; intro x hx; exact (List.mem_filter.1 hx).2
  have := hm ln (by cases ln <;> simp [allLanes])
  simpa [inVote] using this

/-- Reading a table every value of which was changed, at a key whose value is listed before and after. -/
theorem tget_tmap {α : Type} [DecidableEq α] (d : α) (f : Nat → α → α) {t : Table α} {n : Nat} (h1 : tget d t n ≠ d)
    (h2 : f n (tget d t n) ≠ d) : tget d (tmap d f t) n = f n (tget d t n) := by
  induction t with
  | nil => exact absurd rfl h1
  | cons e t ih =>
    obtain ⟨k, v⟩ := e
    by_cases hk : k = n
    · subst hk
      simp only [tget, if_true] at h1 h2 ⊢
      simp [tmap, h2, tget]
    · simp only [tget, hk, if_false] at h1 h2 ⊢
      have := ih h1 h2
      simp only [tmap, List.map_cons, List.filter_cons] at this ⊢
      split
      · simpa [tget, hk] using this
      · exact this

/-- What holds of the default and of every changed value holds of every value read. -/
theorem tget_tmap_all {α : Type} [DecidableEq α] (d : α) (f : Nat → α → α) (P : α → Prop) (hd : P d) (hf : ∀ k x, P (f k x))
    (t : Table α) (n : Nat) : P (tget d (tmap d f t) n) := by
  induction t with
  | nil => exact hd
  | cons e t ih =>
    simp only [tmap, List.map_cons, List.filter_cons] at ih ⊢
    split
    · simp only [tget]
      split
      · exact hf _ _
      · exact ih
    · exact ih

/-! ### What a raise records, to the end of the command -/

/-- The Book's records leave the kill lines and the latch alone. -/
@[simp] theorem bookPush_lines (s : State) (x : BookRec) :
    (bookPush s x).constable.kill = s.constable.kill ∧ (bookPush s x).constable.grave = s.constable.grave := by
  unfold bookPush; split <;> exact ⟨rfl, rfl⟩
/-- So does the record of a raise. -/
@[simp] theorem bookRaise_lines (s : State) (x : BookRec) :
    (bookRaise s x).constable.kill = s.constable.kill ∧ (bookRaise s x).constable.grave = s.constable.grave := by
  unfold bookRaise; split
  · exact ⟨rfl, rfl⟩
  · simp
/-- So does the note of a raise in its tick. -/
@[simp] theorem noteTick_lines (s : State) (cls : Nat) :
    (noteTick s cls).constable.kill = s.constable.kill ∧ (noteTick s cls).constable.grave = s.constable.grave := ⟨rfl, rfl⟩
/-- So does what a raise records, before its class acts. -/
@[simp] theorem recordRaise_lines (s : State) (n : Nat) (forced : Bool) (p1 p2 p3 : U32) :
    (recordRaise s n forced p1 p2 p3).constable.kill = s.constable.kill ∧
      (recordRaise s n forced p1 p2 p3).constable.grave = s.constable.grave := by
  have h (x : State) (f : SourceSt → SourceSt) : (modSource x n f).constable.kill = x.constable.kill ∧
      (modSource x n f).constable.grave = x.constable.grave := ⟨rfl, rfl⟩
  simp [recordRaise, h]
/-- So does a Book event. -/
@[simp] theorem bookEvent_lines (s : State) (code : Nat) (p1 p2 p3 : U32) :
    (bookEvent s code p1 p2 p3).constable.kill = s.constable.kill ∧
      (bookEvent s code p1 p2 p3).constable.grave = s.constable.grave := by simp [bookEvent]

/-- What later steps of the same command leave of a source that was just raised. -/
structure Kept (s s' : State) (n : Nat) : Prop where
  raises : (source s' n).raises = (source s n).raises
  params : (source s' n).params = (source s n).params
  lastRaise : (source s' n).lastRaise = (source s n).lastRaise
  effective : (source s' n).effective = (source s n).effective

theorem Kept.refl (s : State) (n : Nat) : Kept s s n := ⟨rfl, rfl, rfl, rfl⟩
theorem Kept.trans {s s' s'' : State} {n : Nat} (h : Kept s s' n) (h' : Kept s' s'' n) : Kept s s'' n :=
  ⟨h'.raises.trans h.raises, h'.params.trans h.params, h'.lastRaise.trans h.lastRaise, h'.effective.trans h.effective⟩
theorem Kept.of_sources {s s' : State} (n : Nat) (h : s'.constable.sources = s.constable.sources) : Kept s s' n := by
  have : source s' n = source s n := by simp [source, h]
  exact ⟨by rw [this], by rw [this], by rw [this], by rw [this]⟩
theorem Kept.of_source {s s' : State} {n : Nat} (h : source s' n = source s n) : Kept s s' n :=
  ⟨by rw [h], by rw [h], by rw [h], by rw [h]⟩

@[simp] theorem queueEvent_constable' (s : State) (k : Nat) (b : List Byte) : (queueEvent s k b).constable = s.constable := by
  unfold queueEvent; dsimp only; split <;> rfl

/-- A pushed event touches no source but 111. -/
theorem pushEvent_source {s : State} {k n : Nat} {b : List Byte} (h : n ≠ 111) : source (pushEvent s k b) n = source s n := by
  unfold pushEvent raiseNotice; dsimp only
  (repeat' split) <;> first | (simp [source]; done) | (rw [recordRaise_source_ne _ _ _ _ _ h]; simp [source])

/-- Nor the kill lines or the latch. -/
@[simp] theorem pushEvent_lines (s : State) (k : Nat) (b : List Byte) :
    (pushEvent s k b).constable.kill = s.constable.kill ∧ (pushEvent s k b).constable.grave = s.constable.grave := by
  unfold pushEvent raiseNotice; dsimp only
  (repeat' split) <;> simp

/-- The push of a changed device state touches no source but 111. -/
theorem settle_source {s0 s : State} {n : Nat} (h : n ≠ 111) : source (settle s0 s) n = source s n := by
  unfold settle; split
  · rfl
  · exact pushEvent_source h

/-- Nor the kill lines or the latch. -/
@[simp] theorem settle_lines (s0 s : State) :
    (settle s0 s).constable.kill = s.constable.kill ∧ (settle s0 s).constable.grave = s.constable.grave := by
  unfold settle; split
  · exact ⟨rfl, rfl⟩
  · exact pushEvent_lines _ _ _

end Sys2Proof.Machine
end

