-- ==== Sys2Proof/Tests/Slice0.lean ====
section
/-!
SUPPORT. Tests/Slice0.lean: the model's own tests: ill-formed commands, worked examples of the manual, check values of the codes, and a
witness for the hypotheses of every clause of every statement.
-/

open Sys2Proof Sys2Proof.Machine
namespace Sys2Proof.Tests
set_option Elab.async false
set_option maxRecDepth 20000
def ln0 : LaneSt := { state := 0 }
def live : State := { State.reset with
  lanes := ⟨ln0, ln0, ln0⟩, modes := { mode := .run, previous := .stop, domains := [(0,{state:=2}),(1,{state:=2}),(2,{state:=2}),(3,{state:=2}),(4,{state:=2}),(5,{state:=2}),(6,{state:=2}),(7,{state:=2})] }
  constable := { killR := Rails.bit true }, cyc := { running := true, number := 7, voted := true }
  host := { serving := true, channels := [(0, { keySlot := some 0 })] }
  twin := { role := .solo } }
def env0 : StartEnv := ⟨0x123456, 5, List.replicate 8 ⟨.passed, 0xFFFFFFFF⟩, 300, none, [], false, false, false, [], false⟩
def inMode (s : State) (m : Mode) : State := { s with modes := { s.modes with mode := m } }
def rec0 : BookRec := ⟨0, 0, 0, 0, 0, false, false, false, false, 0, 0, 0, 0⟩
def mirror0 : Mirror := ⟨0, 0, 0, false, false, 0, 0, 0, 0, 0, [], [], [], [], [], 0⟩
def hdr0 : Header := ⟨0, 0, 0, 0, 0, 0, 0, 0, some 0, 0, some 0, some 0, 0, 0, 0, 0, 0, 0⟩
def clu0 : Cluster := ⟨0, 0, false, false, 0, 0, 0, 0, 0, [none, none, none, none], 0, some 0, 0, [none, none, none, none], [], [], []⟩
def stn0 : Station := ⟨hdr0, [], [], [], [], clu0, [], [], none, []⟩
def bnd0 : Binding := ⟨none, 0, false, 0, none, none⟩
def el0 : Element := ⟨0, 0, false, bnd0, bnd0, 0, 0⟩
def gr0 : GroupRec :=
    { elem := 1, fstop := 5, fmarg := 3, frunmin := 0, fmax := 1000, dect := 500, sstw := 80, imax := 100, istall := 8, izero := 10, startd := 0, runn := 8, runr := 9 }
def rt0 : Route :=
    { profile := 0, contin := false, noseq := false, shunt := false, xzone := false, list := [⟨0, 0, true, 1, 1⟩, ⟨0, 0, false, 0, 2⟩, ⟨1, 63, false, 0, 4⟩], exit := 3, entry := 3, appr1 := none, appr2 := none, ovlt := 10, apprt := 10, maxcls := 2, berth := none, cont := none }
def pr0 : Profile :=
    { boundary := true, apprall := false, seqrel := true, ovltimer := true, apprmax := 100, apprmin := 1, ovlmax := 100, ovlmin := 1, throwmax := 20, aspect := [[0],[1],[2],[3]] }
def stn : Station := { stn0 with
  elements := [(1, some { el0 with kind := 1, bind1 := { bnd0 with drive := true } }), (2, some el0), (3, some { el0 with kind := 3 }), (4, some el0), (5, some { el0 with kind := 4, kp0 := 10 }), (6, some { el0 with kind := 1, remote := true, bind1 := { bnd0 with partner := some 2 } })],
  routes := [(7, some rt0)], profiles := [(0, some pr0)], groups := [(0, some gr0)], partners := [(2, some ⟨0, 9, 0, 77, false, 0, []⟩)] }
def liveS : State :=
    { live with station := some stn, stationOk := true, cyc := { live.cyc with snap := { at_ := 100000000, means := [5,5,5,5] } } }
def grp (s : State) (f : GroupSt → GroupSt) : State := modGroup s 0 f
def elt (s : State) (e : Nat) (f : ElemSt → ElemSt) : State := modElem s e f
def cmd0 : Command :=
    { opcode := 0x10, target := 1, param := 1, opid := 4, hseq := 9, chan := 0, auth := true, stamp := 3, reserved := 1, answered := true, run := true }
def locked : State := modRoute (modSlot liveS 2 fun _ => { route := some 7, held := [1,2,4], token := 9 }) 7 fun _ =>
    { state := 4, slot := some 2 }
def rtState (n : Nat) (f : Slot → Slot) : State := modSlot (modRoute locked 7 fun x => { x with state := n }) 2 f
def stopS24 : State := { live with modes := { live.modes with mode := .stop, sealStart := 0xFFFFFF, sealNow := 0xFFFFFF } }
def entOf (s : State) (i k : Nat) : Entry := match entryAt (s.atTime 5) i k with | .ok e => e | .error _ => writeOnly
def clu : Cluster :=
    { stn.cluster with nkutia := 2, nodeA := 5, nodeB := 6, sched := 0x12345, dmax := 100, rate := 2, ratep := 2, tableA := [(3, ⟨2, 5, 20, false, 4⟩), (7, ⟨1, 9, 20, false, 5⟩)], tableB := [(7, ⟨1, 9, 20, false, 5⟩)], fwd := [(⟨.a, 0, 7, 1, 9⟩ : FwdEntry)] }
def sesF (k : Nat) (y : Sess) (s : State) : State := modSess s k fun _ => y
def busS (f : BusSt → BusSt) : State :=
    { liveS with station := some { stn with cluster := clu, header := { stn.header with posA := 1, posB := none }, scs := [(1, some ⟨1, 32, 0x04C11DB7, 0, 0, false, false, 0x111⟩), (2, some ⟨1, 32, 0x1EDC6F41, 0, 0, false, false, 0x222⟩)] }, bus := f { liveS.bus with engine := 5, node := 5, rank := some 2, ch := ⟨{delay := some 3}, {delay := some 4}⟩ } }
def mkf (f : BusFrame) : BusFrame := { f with crc := u32 (busCrc f) }
def ff (ft : Nat) (c : Chan) (pos : Nat) (off : Int := 0) : BusFrame := mkf
    { ftype := ft, chan := c, split := false, node := 9, pos := pos, bcyc := 0, matrix := 4, sched := 0x2345, rank := 3, flags := 0, body := leBytes 8 100 ++ [5,0,0,0,0,0,0,0], crc := 0, codeOk := true, off := off }
def tx (p : Fin 200) (ok : Option Nat) : Instr := .transmitPosition 2000 .a 0 p ⟨ok, []⟩
def rq (p : Fin 200) (ok : Option Nat) : Instr := .arbitrationRetry 2000 .a 0 p ok
def qf : BusFrame := ownFrame 4 [1,2,3]
def fg : BusFrame := ff 4 .a 7
def fg2 := mkf {fg with sched := 4}
def fg3 := mkf {fg with off := 500}
def ses0 : Sess :=
    { state := 2, partner := some 2, node := 9, gen := 1, payload := 16, option := 2, period := 1, pa := 1, pb := 2, carried := 3, rseq := 10, firstCyc := some 4 }
def vs : State := sesF 3 ses0 (busS id)
def pay : List Byte := [0, 0, 3, 0, 9,9,9,9,9,9,9,9,9,9,9,9]
def pq : Partner := ⟨0, 9, 0, 77, false, 0, []⟩
def tel (x : State) : List Byte := let m := messageM (addrUp x pq) 2 12 pay; pay ++ leBytes 8 (codeOf x 1 m) ++ leBytes 8 (codeOf x 2 m)
def ft (c : Chan) (bd : List Byte) := mkf { (ff 2 c 7) with body := bd }
def pol0 : Policy := ⟨3, [2], [1], [2], [1], [(1,2)]⟩
def qp (p : Partner) : Partner := { p with pref := [3], allow := 8 }
def sS (f : SessionsSt → SessionsSt) : State := let s := busS id; { s with sessions := f s.sessions, station := s.station.map fun d => { d with partners := [(2, some (qp ⟨0, 9, 0, 77, false, 0, []⟩)), (4, some (qp ⟨1, 9, 0, 88, false, 0, []⟩))], policies := [(0, some pol0), (1, some pol0), (3, some pol0)], cluster := { d.cluster with tableA := [(3, ⟨2, 5, 20, false, 4⟩), (7, ⟨1, 9, 20, false, 5⟩),(8, ⟨4, 9, 20, false, 5⟩),(9, ⟨4, 5, 20, false, 9⟩)] } } }
def of0 : OpenFrame :=
    { reason := 0, target := 5, ident := 77, ptype := 0, gens := 2, pls := 1, opts := 2, pers := 1, prof := 3, profs := 8, codes := 6, sess := 2, slices := [0,0,0,0], schka := 0, schkb := 0, matrix := 6 }
def of4 : OpenFrame := { of0 with ident := 0xF009, ptype := 1, gens := 1, pls := 1, codes := 18 }
def op0 := (⟨2, 16, 2, 1, 1, 2, 3⟩ : Options)
def hS (f : HostSt → HostSt) (s : State := liveS) : State := { s with host := f { s.host with hl1 := { s.host.hl1 with state := 1 } } }
def ch0 (f : ChannelSt → ChannelSt) (s : State := hS id) : State := modChan s 0 f
def rq0 (i su : Nat) (op : Nat := 1) : HostReq := ⟨⟨.hl1, 4, false, 0⟩, 0, 5, op, i, su⟩
def xx (s : State) (q : HostReq) : State := noteTransfer (frameIn (s.atTime 2000000000) q.bus q.chan.val) q
def rS (r : Nat) : State := ch0 fun c => {c with transfer := some (.receiving .hl1 5 0x2602 1 100 [] 0 0 r)}
def tS (r : Nat) : State := ch0 fun c =>
    {c with transfer := some (.sending .hl1 5 0x2000 1 (List.replicate 100 1) 0 2 r), frameAt := 1900000000}
def grpS (g : Nat) (x : GroupShadow) : State := modShadow (hS id) g fun _ => x
def k32 : List Byte := List.replicate 32 3
def chal : List Byte := List.replicate 16 7
def aS (r : Nat) : State := hS (fun h => {h with keys := [(2, ⟨some k32, 0⟩)], refusals := List.replicate r 1900000000}) (ch0 fun c =>
    {c with keySlot := none, challenge := some (chal, 1900000000)})
def fq : List Byte := 1 :: List.replicate 19 0
def x40 : GroupShadow := {owner := some 0, status := 1, shadow := [(0x2405, 6, [4,1])]}
def x1 : GroupShadow := {owner := some 0, status := 1, shadow := [(0x1100, 1, [0xe8, 3])]}
def x31 : GroupShadow := {owner := some 0, status := 1}
def x31b : GroupShadow := {owner := some 0, status := 1, shadow := [(0x3880, 1, 2 :: List.replicate 19 0)]}
def va0 (n : Nat) : Variant := { (parseVariant []) with progid := u64 n, commit := u64 n, map := [⟨2,0,3,1,77,4,0⟩], init := [1,2,3,4] }
def pp (n : Nat) : ProgPair := ⟨va0 n, va0 n⟩
def cS (a n prog : Nat) (roll : Bool := false) (kk : Nat := 0) : State := let s := grpS 30 {owner := some 0, status := 1, shadow := [(0x3800,3,[u8 a]),(0x3800,4,leBytes 4 kk),(0x3800,5,leBytes 8 prog)]}; { s with program := {s.program with pair := some (pp 1)}, change := {s.change with stateC := n, isRoll := roll, prepared := some (pp 2), retained := some (pp 3), kSwitch := 7, since := 5} }
def stl (f : StileSt → StileSt) (s : State := hS id) : State := modStile s .b f
def St0 : StileSt := {}
def cr (c : Nat) (x : CrossSt) : State := modCross (hS id) c fun _ => x
def withLane (s : State) (ln : Lane) (x : LaneSt) : State := { s with lanes := s.lanes.set ln x }
def book : State := bookEvent (bookEvent live 5 1 2 3) 6 1 2 3
def book1 : State := match exec (.bookWrite 3 0) book with | .next s => s | _ => book
def book2 : State :=
    { book with constable := { book.constable with circ := [{ (book.constable.queue.headD rec0) with seq := 9, rcount := 3 }] , founding := [{ (book.constable.queue.headD rec0) with seq := 9, rcount := 3 }]} }
def book3 : State :=
    { book with constable := { book.constable with circ := [{ (book.constable.queue.headD rec0) with seq := 9, rcount := 65535 }] , founding := [{ (book.constable.queue.headD rec0) with seq := 9, rcount := 3 }]} }
def spl : State := match exec (.programSplit 3) {live with vote := {prog := 3}} with | .next s => s | _ => book
def a0 : CmdArgs := ⟨0, 5, 77, 88⟩
def cyc1 : State := { live with cyc := { live.cyc with started := true, voted := false, phase := 1, number := 0xFFFFFFFF } }
def cyc2 (m : Mode) : State := { inMode cyc1 m with lanes := cyc1.lanes.map fun x => {x with markBus := true, markQueue := true}}
def cyc3 : State := { cyc1 with lanes := cyc1.lanes.map fun x => {x with markBus := true, markQueue := true, complete := true}}
def del (x y : U64) : Delivery := ⟨Rails.code x, Rails.code y, [], []⟩
def d0 : Delivery := del 5 6
def cyc4 : State := { cyc3 with lanes := cyc3.lanes.map fun x => {x with delivered := some d0}}
def voted : State := match exec (.vote 6000000) cyc4 with | .next s => s | _ => cyc4
def x5 : Element := (elem? liveS 1).getD el0
def fb (s : State) : State := {s with cyc := {s.cyc with snap := {s.cyc.snap with di := 0x300, pulses := [0]}, live := [cmd0]}}
def C5a : State := elt (grp liveS fun y => {y with state := 4, j := 10}) 1 fun y => {y with detected := 1, stopping := true}
def rt5 : Route := { rt0 with list := [⟨0, 0, true, 1, 5⟩, ⟨0, 0, false, 0, 2⟩] }
def st5 : State :=
    { (rtState 3 fun y => {y with claimedFor := 1250, held := [5,2]}) with station := some { stn with routes := [(7, some rt5)] } }
def cfg0 : FieldConfig := (parseField (List.replicate 128 0))
def fcfg : FieldConfig := { cfg0 with pair := 1, dt := List.replicate 24 100, fmask := 0xFFFFFF, par2 := 1, fbin := [0x80], fbt := 5 }
def fr (ln : Nat) (w3 : U32) : DownFrame := sealDown { DownFrame.blank with kind := 1, lane := BitVec.ofNat 2 ln, w3 := w3, seq := 2 }
def fld (f : FieldSt → FieldSt) : State := modField live fun x => f
    { x with unconf := false, flost := false, kill := 3, config := some fcfg, bar := ⟨{stale := false, upStale := false, latest := some (fr 0 5), lastSeq := 1}, {stale := false, upStale := false, latest := some (fr 1 4), lastSeq := 1}, {upStale := false}⟩ }
def smp0 : FieldSample :=
    { di := List.replicate 10 1, edges := List.replicate 8 0, ai := List.replicate 4 0, ai2 := List.replicate 4 0, dorb := 0, vf := 2400, iout := 10, key := 0, fsflt := false, tick := true }
def upf (q : U32) : UpFrame := sealUp { (upFrame live .a) with seq := q }
def pgs : Table (List U32) := (List.range 8).map fun p => (p, [u32 (crc32c (List.replicate 124 0)), 0, 0, 0, if p = 7 then u32 (crc32c
    (List.replicate 124 0)) else 0])
def pk : List Byte := leBytes 4 0x5055544B ++ [1,0,2,0] ++ List.replicate 56 0 ++ [2] ++ List.replicate 63 0 ++ [3] ++ List.replicate
    63 0
def prS (n : Nat) : State := let s := (cS 1 n ((stagedProgid {liveS with update := {liveS.update with state := 4, pkglen := 192, pieces := [(0, pk)]}}).getD 0)); {s with update := {s.update with state := 4, pkglen := 192, pieces := [(0, pk)]}}
def rd6 : NRead := ⟨5, 0, 6, none⟩
def s1x := (stl fun y => {y with out := {y.out with tag := 4, expect := 4}, reading := some (5, 9), expired := 2, serviceRds := [rd6]})
def x1x : StileSt := {St0 with out := {tag := 4, expect := 4}, reading := some (5, 9), expired := 2, serviceRds := [rd6]}
def tS0 (f : TwinSt → TwinSt) (s : State := hS id) : State :=
    { s with twin := f s.twin, modes := { s.modes with domains := [(4, {state := 2})] }, station := some { stn with cluster := clu, header := { stn.header with posA := 0, posB := some 1, commit := 5 } } }
def he : Hello := ⟨5, 0, 2, 4, 2, 1⟩
def hr : HealthReport := ⟨5, 12, 7, 0xFF, true, false, true, 20, 5⟩
def mb : List Byte := let s := tS0 fun x => {x with role := .active, paired := true}; encodeSnapshot s true
def mf : Mirror := (decodeSnapshot mb).getD mirror0
def uS (f : UpdateSt → UpdateSt) (s : State := hS id) : State := { s with update := f s.update }
def pd : List Byte := [3, 3, 3, 3]
def pc : U32 := u32 (crc32c pd)
def gS (f : AgeSt → AgeSt) (s : State := hS id) : State := { s with age := f s.age }
def pA : Partner := qp ⟨0, 9, 0, 77, false, 0, []⟩
def rd : HostReq := rq0 0x1100 1
def no1 : HostReq := rq0 0x0FFF 1
def pc1 : HostReq := rq0 0x2602 1
def d100 : List Byte := List.replicate 100 1
def mac0 : List Byte := hmac256 k32 (authMessage (aS 0) 0 2 chal)
def cyc7 (m : Mode) : State := let s := cyc2 m; { s with lanes := s.lanes.map fun x => {x with held := true, current := true}}
def fcl : FieldConfig := { fcfg with fbin := [0x80] }
def sy (x y : Option BusFrame) : Instr := .syncFrame ⟨2000, .a⟩ x y
def sfa (off : Int) : BusFrame := ff 0 .a 160 off
def sfb (off : Int) : BusFrame := ff 0 .b 160 off
def chA (f : ChanSt → ChanSt) (g : BusSt → BusSt := id) : State := busS fun b => g { b with ch := ⟨f b.ch.a, b.ch.b⟩ }
def telT (x : State) : List Byte := let pay := [0, 128, 3, 0, 9,9,9,9,9,9,9,9,9,9,9,9]; let m := messageM (addrUp x pq) 2 12 pay; pay ++ leBytes 8 (codeOf x 1 m) ++ leBytes 8 (codeOf x 2 m)
def nx (i : Instr) (s : State) : State := match exec i s with | .next s' => s' | _ => s
def opn (op : Nat) (o : OpenFrame) : BusFrame := mkf { (ff 7 .a 170) with body := openBody op o }
def afterOpen : State := nx (.sessionOpen ⟨5, .a⟩ (opn 1 of0) of0) (sS id)
def accCh : Chan := if (chanBus afterOpen .a).queue.isEmpty then .b else .a
def accF : BusFrame := (((chanBus afterOpen accCh).queue.headD ⟨0, qf⟩).frame)
def accY : Promise := afterOpen.sessions.promised.headD ⟨0, 0, 0, of0, {}⟩
def strS : State := sS fun y => {y with strangers := [⟨9, 0x77777777, 3, 5⟩]}
def ofS : OpenFrame := { of0 with ident := 0x77777777 }
def w9 : PWait := ⟨.write 5 [1], 0, 9⟩
def stlR : State := stl fun y => {y with svcReset := true}
def StR : StileSt := {St0 with svcReset := true}
def stlL : State := stl fun y => {y with laneReset := true}
def StL : StileSt := {St0 with laneReset := true}
def stlW (r : Bool) : State := stl fun y => {y with svcReset := r, out := {wait := some w9}}
def StW (r : Bool) : StileSt := {St0 with svcReset := r, out := {wait := some w9}}
def wx (f : CrossWay → CrossWay := id) : CrossWay := f {}
def cx (n : Nat) (f : CrossWay → CrossWay := id) : CrossSt := { state := n, out := f {} }
def thx (k : Nat) (b : List Byte) : TwinHead := ⟨k, b.length, 4, twinCrc k 4 b⟩
def twA (f : TwinSt → TwinSt := id) : State := tS0 fun x => f
    {x with role := .active, preference := 1, giving := some 3, link := true, heardAt := some 5}
def twB : State := tS0 fun x =>
    {x with role := .standby, preference := 1, giving := some 3, takenAt := some 5, blockNext := 2, blocksSeq := 5}

theorem test_hypotheses_StoppedModesStayDark :
    ∃ s s' : State, KillStopped s ∧ step s = .next s' :=
  ⟨State.reset.withQueue [.vote 5], State.reset.atTime 5, by decide +kernel, rfl⟩

theorem test_hypotheses_ImagesChangeOnlyByTheirSteps :
    ∃ (c : Instr) (s s' : State), exec c s = .next s' ∧
      (∀ t env, c ≠ .activationComplete t env) ∧ (∀ t env, c ≠ .rollbackComplete t env) ∧ ∀ t, c ≠ .installedRecordWritten t :=
  ⟨.vote 5, State.reset, State.reset.atTime 5, rfl, nofun, nofun, nofun⟩

theorem test_hypotheses_LanesAreExcluded :
    (∃ (t : Time) (s : State) (ln : Lane), AllVoting s ∧ Raisable s t (laneBase ln)) ∧
    (∃ (t held : Time) (s : State) (ln : Lane), AllVoting s ∧ us 50 ≤ held ∧ Raisable s t (laneBase ln + 1)) ∧
    (∃ (t : Time) (s : State) (mill : Lane) (x y : Retired), AllVoting s ∧ mill ≠ .l ∧ s.modes.mode ≠ .split ∧ x ≠ y ∧ Raisable s t
        (laneBase mill + 2)) ∧
    (∃ (s : State) (x y : Retired), AllVoting s ∧ (x = y ∨ s.modes.mode = .split)) ∧
    (∃ (t : Time) (s : State) (v w : U64), AllVoting s ∧ v ≠ w ∧ Raisable s t 50) ∧
    (∃ (t : Time) (s : State) (ln : Lane), AllVoting s ∧ 3 ≤ (s.lanes.get ln).streak ∧ (s.lanes.get ln).judged = true ∧ Raisable s t
        (laneBase ln + 3)) ∧
    (∃ (t : Time) (s : State) (ln : Lane), AllVoting s ∧ Raisable s t (laneBase ln + 4) ∧ ((3 ≤ ((s.lanes.get ln).misses.filter
        id).length ∧ s.cyc.phase ≠ 1 ∧ issueStart s ≤ t) ∨ (s.cyc.running = true ∧ s.cyc.started = true ∧ (s.lanes.get ln).delivered =
        none ∧ (s.lanes.get ln).late = false ∧ cycleEnd s ≤ t))) ∧
    (∃ (s : State) (ln : Lane), AllVoting s ∧ (s.lanes.get ln).streak < 3) :=
  ⟨⟨5, live, .a, by decide +kernel⟩,
   ⟨5, 50000, live, .a, by decide +kernel⟩,
   ⟨5, live, .b, (Retired.branch true 4), (Retired.branch false 4), by decide +kernel⟩,
   ⟨live, (Retired.branch true 4), (Retired.branch true 4), by decide +kernel⟩,
   ⟨5, live, 7, 8, by decide +kernel⟩,
   ⟨5, (withLane live .b {state := 0, streak := 3, judged := true}), .b, by decide +kernel⟩,
   ⟨100000000, (withLane live .b {state := 0, misses := [true, true, true]}), .b, by decide +kernel⟩,
   ⟨(withLane live .b {state := 0, misses := [true, true, true]}), .b, by decide +kernel⟩⟩

theorem test_hypotheses_SecondLaneLostStops :
    (∃ (t : Time) (s : State) (ln : Lane), (voters s).length = 2 ∧ (s.modes.mode = .stop ∨ s.modes.mode = .run ∨ s.modes.mode =
        .degraded ∨ s.modes.mode = .testTrack ∨ s.modes.mode = .hold ∨ s.modes.mode = .standby) ∧ inVote s ln = true ∧ Raisable s t
        (laneBase ln)) ∧
    (∃ (t held : Time) (s : State) (ln : Lane), (voters s).length = 2 ∧ (s.modes.mode = .stop ∨ s.modes.mode = .run ∨ s.modes.mode =
        .degraded ∨ s.modes.mode = .testTrack ∨ s.modes.mode = .hold ∨ s.modes.mode = .standby) ∧ inVote s ln = true ∧ us 50 ≤ held ∧
        Raisable s t (laneBase ln + 1)) ∧
    (∃ (t : Time) (s : State) (mill : Lane) (x y : Retired), (voters s).length = 2 ∧ (s.modes.mode = .stop ∨ s.modes.mode = .run ∨
        s.modes.mode = .degraded ∨ s.modes.mode = .testTrack ∨ s.modes.mode = .hold ∨ s.modes.mode = .standby) ∧ mill ≠ .l ∧ inVote s
        mill = true ∧ x ≠ y ∧ Raisable s t (laneBase mill + 2)) ∧
    (∃ (t : Time) (s : State) (v w : U64), (voters s).length = 2 ∧ (s.modes.mode = .stop ∨ s.modes.mode = .run ∨ s.modes.mode =
        .degraded ∨ s.modes.mode = .testTrack ∨ s.modes.mode = .hold ∨ s.modes.mode = .standby) ∧ inVote s .l = true ∧ v ≠ w ∧
        Raisable s t 50) :=
  ⟨⟨5, (withLane live .b {state := 2}), .a, by decide +kernel⟩,
   ⟨5, 50000, (withLane live .b {state := 2}), .a, by decide +kernel⟩,
   ⟨5, (withLane live .b {state := 2}), .a, (Retired.branch true 4), (Retired.branch false 4), by decide +kernel⟩,
   ⟨5, (withLane live .b {state := 2}), 7, 8, by decide +kernel⟩⟩

theorem test_hypotheses_ModuleFaultsStopKutia :
    (∃ (t : Time) (s : State), cyclic s.modes.mode = true ∧ 3 ≤ s.vote.split ∧ Raisable s t 56) ∧
    (∃ (t : Time) (s : State), cyclic s.modes.mode = true ∧ 3 ≤ s.vote.prog ∧ Raisable s t 57) ∧
    (∃ (t : Time) (s : State), s.cyc.running = true ∧ On s ∧ s.vote.limitRuns = true ∧ s.vote.limitAt + s.vote.limitLeft ≤ t ∧ inVote
        s .l = false ∧ joinDue s .l = false ∧ Raisable s t 55) ∧
    (∃ (t : Time) (s : State), (s.modes.mode = .start ∨ s.modes.mode = .watch) ∧ s.modes.startAt + sec 90 ≤ t ∧ Raisable s t 7) ∧
    (∃ (t : Time) (s : State), On s ∧ Raisable s t 12) ∧
    (∃ (t : Time) (s : State), On s ∧ 2 ≤ s.bus.diffRun ∧ s.twin.role = .active ∧ pairedZone s = true ∧ atPosA s = false ∧ Raisable s
        t 122) :=
  ⟨⟨500000000000000,
      {live with vote := {live.vote with split := 3, prog := 3, limitRuns := true}, lanes := ⟨ln0, ln0, {state := 1}⟩, bus := {live.bus with diffRun := 2}},
      by decide +kernel⟩,
   ⟨500000000000000,
       {live with vote := {live.vote with split := 3, prog := 3, limitRuns := true}, lanes := ⟨ln0, ln0, {state := 1}⟩, bus := {live.bus with diffRun := 2}},
       by decide +kernel⟩,
   ⟨500000000000000,
       {live with vote := {live.vote with split := 3, prog := 3, limitRuns := true}, lanes := ⟨ln0, ln0, {state := 1}⟩, bus := {live.bus with diffRun := 2}},
       by decide +kernel⟩,
   ⟨90000000000, (inMode live .watch), by decide +kernel⟩,
   ⟨500000000000000,
       {live with vote := {live.vote with split := 3, prog := 3, limitRuns := true}, lanes := ⟨ln0, ln0, {state := 1}⟩, bus := {live.bus with diffRun := 2}},
       by decide +kernel⟩,
   ⟨5, { (tS0 fun x => {x with role := .active}) with bus := {live.bus with diffRun := 2}, host := {live.host with position := 1} },
       by decide +kernel⟩⟩

theorem test_hypotheses_SafeStateAnswersTheQueue :
    ∃ s : State, On s :=
  ⟨{live with cyc := {live.cyc with cmdq := [cmd0]}}, by decide +kernel⟩

theorem test_hypotheses_ReservedSourcesAreNeverRaised :
    ∃ n : Nat, srcReserved n = true :=
  ⟨115, by decide +kernel⟩

theorem test_hypotheses_SupplyReadingsAndPowerFailure :
    (∃ (s : State) (vin : Nat), s.modes.mode ≠ .off ∧ vin < 4200 ∧ Quiet s 1) ∧
    (∃ (s : State) (vin : Nat), s.modes.mode ≠ .off ∧ 4400 < vin ∧ (source s 1).reported = true) ∧
    (∃ (s : State) (vin : Nat), s.modes.mode ≠ .off ∧ 4200 ≤ vin ∧ vin ≤ 4400) ∧
    (∃ s : State, s.modes.mode ≠ .off) :=
  ⟨⟨live, 4000, by decide +kernel⟩,
   ⟨(recordRaise live 1 false 0 0 0), 4500, by decide +kernel⟩,
   ⟨live, 4300, by decide +kernel⟩,
   ⟨live, by decide +kernel⟩⟩

theorem test_hypotheses_DomainFaultsReactByDomain :
    (∃ (s : State) (d : Fin 8), (domain s d.val).state ≠ 2 ∧ (domain s d.val).state ≠ 3) ∧
    (∃ (t : Time) (s : State) (d : Fin 8), ∃ ln, ((domain s d.val).state = 2 ∨ (domain s d.val).state = 3) ∧ domainLane d.val = some
        ln ∧ AllVoting s ∧ Raisable s t 3) ∧
    (∃ (t : Time) (s : State) (d : Fin 8), ((domain s d.val).state = 2 ∨ (domain s d.val).state = 3) ∧ (d.val = 0 ∨ d.val = 5 ∨ d.val
        = 6) ∧ On s ∧ Raisable s t 6) ∧
    (∃ (s : State) (d : Fin 8), ((domain s d.val).state = 2 ∨ (domain s d.val).state = 3) ∧ d.val = 7) ∧
    (∃ (s : State) (d : Fin 8), ((domain s d.val).state = 2 ∨ (domain s d.val).state = 3) ∧ d.val = 4 ∧ (∀ ln ∈ allLanes, (stile s
        ln).out.wait = none ∧ (stile s ln).inw.wait = none ∧ (stile s ln).inw.tag = (stile s ln).inw.expect)) :=
  ⟨⟨State.reset, 1, by decide +kernel⟩,
   ⟨5, live, 1, Lane.a, by decide +kernel⟩,
   ⟨5, live, 5, by decide +kernel⟩,
   ⟨live, 7, by decide +kernel⟩,
   ⟨live, 4, by decide +kernel⟩⟩

theorem test_hypotheses_StartsBeginAfresh :
    (∃ (s : State) (vin : Nat), s.modes.mode = .off ∧ 3600 < vin) ∧
    (∃ (t : Time) (s : State) (ch : Fin 8), s.modes.mode = .shutdown ∧ Serves s t ∧ authorised s ch.val = true) ∧
    (∃ (s : State) (k : KeyOperation), validKey k = true ∧ keySeen k = true ∧ fieldUp s = true ∧ (s.modes.mode = .shutdown ∨
        (s.modes.mode = .safeState ∧ s.constable.grave = false ∧ assertedModule s = none))) ∧
    (∃ s : State, s.update.state = 6 ∧ s.update.paused = false ∧ s.update.reverse = false ∧ (s.modes.mode = .stop ∨ s.modes.mode =
        .start)) ∧
    (∃ s : State, s.update.state = 6 ∧ s.update.paused = false ∧ s.update.reverse = true ∧ (s.modes.mode = .stop ∨ s.modes.mode =
        .start)) ∧
    (∃ s : State, s.update.restart = true) :=
  ⟨⟨(inMode live .off), 3700, by decide +kernel⟩,
   ⟨5, (inMode live .shutdown), 0, by decide +kernel⟩,
   ⟨(inMode live .safeState), ⟨0,500,0,500,[.a,.l]⟩, by decide +kernel⟩,
   ⟨(inMode (uS fun u => {u with state := 6}) .stop), by decide +kernel⟩,
   ⟨(inMode (uS fun u => {u with state := 6, reverse := true}) .start), by decide +kernel⟩,
   ⟨(inMode (uS fun u => {u with restart := true}) .stop), by decide +kernel⟩⟩

theorem test_hypotheses_ModeRequestsAndShutdown :
    (∃ (t : Time) (s : State) (ch : Fin 8) (env : StartEnv), ∃ c v, Serves s t ∧ (c, v) ∈ [(Instr.modeRequestStop t ch env, 3),
        (.modeRequestRun t ch, 4), (.modeRequestTestTrack t ch, 6), (.modeRequestHold t ch, 7), (.modeRequestShutdown t ch env, 11)] ∧
        authorised s ch.val = false) ∧
    (∃ (t : Time) (s : State) (ch : Fin 8) (env : StartEnv), ∃ c v, Serves s t ∧ (c, v) ∈ [(Instr.modeRequestStop t ch env, 3),
        (.modeRequestRun t ch, 4), (.modeRequestTestTrack t ch, 6), (.modeRequestHold t ch, 7), (.modeRequestShutdown t ch env, 11)] ∧
        authorised s ch.val = true ∧ requestAllowed s v = false) ∧
    (∃ (t : Time) (s : State) (ch : Fin 8) (env : StartEnv), ∃ c v, Serves s t ∧ (c, v) ∈ [(Instr.modeRequestStop t ch env, 3),
        (.modeRequestRun t ch, 4), (.modeRequestTestTrack t ch, 6), (.modeRequestHold t ch, 7), (.modeRequestShutdown t ch env, 11)] ∧
        authorised s ch.val = true ∧ requestAllowed s v = true ∧ appliesAtOnce s.modes.mode = false) ∧
    (∃ (t : Time) (s : State) (ch : Fin 8), Serves s t ∧ authorised s ch.val = true ∧ (s.modes.mode = Mode.split ∨ (s.modes.mode =
        .safeState ∧ s.constable.grave = false))) :=
  ⟨⟨5, live, 1, env0, (.modeRequestHold 5 1), 7, by decide +kernel⟩,
   ⟨5, live, 0, env0, (.modeRequestRun 5 0), 4, by decide +kernel⟩,
   ⟨5, live, 0, env0, (.modeRequestStop 5 0 env0), 3, by decide +kernel⟩,
   ⟨5, (inMode live Mode.split), 0, by decide +kernel⟩⟩

theorem test_hypotheses_AcknowledgementsAndWindows :
    (∃ (t : Time) (s : State) (src : Fin 128) (l : List Lane), windowExpired (s.atTime t) src.val = false ∧ srcHandler src.val = 1 ∧
        votedAck s l = true ∧ (source s src.val).pending = true ∧ (source s src.val).setting ≠ 2) ∧
    (∃ (t : Time) (s : State) (src : Fin 128), windowExpired (s.atTime t) src.val = false ∧ srcHandler src.val = 2 ∧ Serves s t ∧
        (source s src.val).pending = true ∧ (source s src.val).setting ≠ 2) ∧
    (∃ (t : Time) (s : State) (src : Fin 128), windowExpired (s.atTime t) src.val = false ∧ (source s src.val).pending = false) ∧
    (∃ (t : Time) (s : State) (src : Fin 128) (l : List Lane), windowExpired (s.atTime t) src.val = false ∧ (srcHandler src.val ≠ 1 ∨
        votedAck s l = false)) ∧
    (∃ (t : Time) (s : State) (src : Fin 128), windowExpired (s.atTime t) src.val = false ∧ srcHandler src.val ≠ 2) ∧
    (∃ (t : Time) (s : State) (src : Fin 128), windowExpired (s.atTime t) src.val = true ∧ On s ∧ src.val ∉ ([22, 38, 54, 111] : List
        Nat) ∧ 2 ≤ srcEffective src.val (source s src.val) ∧ srcEffective src.val (source s src.val) ≤ 3) ∧
    (∃ (t : Time) (s : State) (src : Fin 128), windowExpired (s.atTime t) src.val = false) :=
  ⟨⟨5, (recordRaise live 16 false 0 0 0), 16, [.a,.b], by decide +kernel⟩,
   ⟨5, (recordRaise live 2 false 0 0 0), 2, by decide +kernel⟩,
   ⟨5, live, 16, by decide +kernel⟩,
   ⟨5, live, 16, [.a], by decide +kernel⟩,
   ⟨5, live, 16, by decide +kernel⟩,
   ⟨5000000000, (recordRaise live 16 false 0 0 0), 16, by decide +kernel⟩,
   ⟨(ms 200), live, 2, by decide +kernel⟩⟩

theorem test_hypotheses_SealSamplesAndProofSweeps_1 :
    (∃ (s : State) (w : BitVec 24), s.modes.mode = .shutdown ∧ w ≠ s.modes.sealNow) ∧
    (∃ s : State, s.modes.mode ≠ .shutdown) ∧
    (∃ (s : State) (w : BitVec 24), s.modes.mode = .safeState ∧ w ≠ s.modes.sealNow ∧ w ≠ s.modes.sealStart) ∧
    (∃ (s : State) (w : BitVec 24), s.modes.mode = .safeState ∧ w = s.modes.sealStart ∧ (source s 2).reported = true ∧ w =
        s.modes.sealNow) ∧
    (∃ s : State, s.modes.mode ≠ .safeState) ∧
    (∃ (t : Time) (s : State), proofDue (s.atTime t) = true ∧ s.constable.onDemand = false ∧ s.constable.proved + 1 < 18944) ∧
    (∃ (t : Time) (s : State), proofDue (s.atTime t) = true ∧ s.constable.onDemand = false ∧ s.constable.proved + 1 = 18944) ∧
    (∃ (t : Time) (s : State), (sweepMode s.modes.mode = false ∨ (s.constable.onDemand = false ∧ s.constable.proofAt.any (fun x => t <
        x + ms 4500)))) :=
  ⟨⟨(inMode live .shutdown), 3, by decide +kernel⟩,
   ⟨(recordRaise (inMode live .safeState) 2 false 0 0 0), by decide +kernel⟩,
   ⟨(inMode live .safeState), 3, by decide +kernel⟩,
   ⟨(recordRaise (inMode live .safeState) 2 false 0 0 0), 0, by decide +kernel⟩,
   ⟨(inMode live .shutdown), by decide +kernel⟩,
   ⟨5, live, by decide +kernel⟩,
   ⟨(sec 90001), {live with constable := {live.constable with proved := 18943}}, by decide +kernel⟩,
   ⟨5, (inMode live .safeState), by decide +kernel⟩⟩

theorem test_hypotheses_SealSamplesAndProofSweeps_2 :
    (∃ (t : Time) (s : State) (ch : Fin 8) (value : U8), Serves s t ∧ authorised s ch.val = true ∧ value = 1 ∧ sweepMode s.modes.mode
        = true ∧ s.constable.onDemand = false) ∧
    (∃ (t : Time) (s : State) (ch : Fin 8) (value : U8), Serves s t ∧ authorised s ch.val = true ∧ value = 1 ∧ (sweepMode s.modes.mode
        = false ∨ s.constable.onDemand = true)) ∧
    (∃ (t : Time) (s : State), s.modes.mode ≠ .off ∧ Quiet s 15 ∧ max s.constable.sweepEnd s.modes.startAt + sec 90000 ≤ t) :=
  ⟨⟨5, live, 0, 1, by decide +kernel⟩,
   ⟨5, (inMode live .safeState), 0, 1, by decide +kernel⟩,
   ⟨(sec 90001), {live with constable := {live.constable with proved := 18943}}, by decide +kernel⟩⟩

theorem test_hypotheses_ForcesFollowTheirChecks :
    (∃ (t : Time) (s : State) (ch : Fin 8), Serves s t ∧ authorised s ch.val = false) ∧
    (∃ (t : Time) (s : State) (ch : Fin 8) (src : Fin 128) (v : U8), Serves s t ∧ authorised s ch.val = true ∧ (2 < v.toNat ∨ (v ≠ 0 ∧
        srcReserved src.val = true))) ∧
    (∃ (t : Time) (s : State) (ch : Fin 8) (src : Fin 128) (v : U8), Serves s t ∧ authorised s ch.val = true ∧ 1 ≤ v.toNat ∧ v.toNat ≤
        2 ∧ srcReserved src.val = false ∧ srcClass src.val = 4) ∧
    (∃ (t : Time) (s : State) (ch : Fin 8) (src : Fin 128) (v : U8), Serves s t ∧ authorised s ch.val = true ∧ 1 ≤ v.toNat ∧ v.toNat ≤
        2 ∧ srcReserved src.val = false ∧ srcClass src.val ≠ 4 ∧ s.modes.mode ≠ .testTrack ∧ s.modes.mode ≠ .hold) ∧
    (∃ (t : Time) (s : State) (ch : Fin 8) (src : Fin 128) (v : U8), Serves s t ∧ authorised s ch.val = true ∧ 1 ≤ v.toNat ∧ v.toNat ≤
        2 ∧ srcClass src.val ≤ 1 ∧ Quiet s src.val ∧ (s.modes.mode = .testTrack ∨ s.modes.mode = .hold)) ∧
    (∃ (t : Time) (s : State) (ch : Fin 8) (v : U8), Serves s t ∧ authorised s ch.val = true ∧ v = 0) :=
  ⟨⟨5, live, 1, by decide +kernel⟩,
   ⟨5, (inMode live .hold), 0, 10, 3, by decide +kernel⟩,
   ⟨5, (inMode live .hold), 0, 5, 2, by decide +kernel⟩,
   ⟨5, live, 0, 16, 1, by decide +kernel⟩,
   ⟨5, (inMode live .hold), 0, 11, 1, by decide +kernel⟩,
   ⟨5, (recordRaise live 11 true 0 0 0), 0, 0, by decide +kernel⟩⟩

theorem test_hypotheses_ReadmissionFollowsTheTable_1 :
    (∃ (t : Time) (s : State) (v : U8), Serves s t ∧ (v = 0 ∨ 3 < v.toNat)) ∧
    (∃ (t : Time) (s : State) (v : U8), ∃ ln, Serves s t ∧ v.toNat = laneNo ln + 1 ∧ (s.lanes.get ln).state = 0) ∧
    (∃ (t : Time) (s : State) (v : U8), ∃ ln, Serves s t ∧ v.toNat = laneNo ln + 1 ∧ (s.lanes.get ln).state ≠ 0 ∧ 3 ≤ (recentAttempts
        (s.atTime t)).length) ∧
    (∃ (t : Time) (s : State) (v : U8), ∃ ln, Serves s t ∧ v.toNat = laneNo ln + 1 ∧ (s.lanes.get ln).state ≠ 0 ∧ (recentAttempts
        (s.atTime t)).length < 3 ∧ readmits s = false) ∧
    (∃ (t : Time) (s : State) (v : U8), ∃ ln, Serves s t ∧ v.toNat = laneNo ln + 1 ∧ (s.lanes.get ln).state ≠ 0 ∧ (recentAttempts
        (s.atTime t)).length < 3 ∧ readmits s = true ∧ (s.lanes.get ln).state ≠ 1) ∧
    (∃ (t : Time) (s : State) (v : U8), ∃ ln, Serves s t ∧ v.toNat = laneNo ln + 1 ∧ (s.lanes.get ln).state = 1 ∧ (recentAttempts
        (s.atTime t)).length < 3 ∧ readmits s = true) ∧
    (∃ (t : Time) (s : State) (ln : Lane), (s.lanes.get ln).state = 2 ∧ ((s.lanes.get ln).hostAsked = true ∨ (s.lanes.get ln).since +
        sec 5 ≤ t) ∧ readmits s = true ∧ (recentAttempts (s.atTime t)).length < 3) ∧
    (∃ (s : State) (ln : Lane), (s.lanes.get ln).state = 3) :=
  ⟨⟨5, live, 0, by decide +kernel⟩,
   ⟨5, live, 1, .a, by decide +kernel⟩,
   ⟨5, (withLane {live with vote := {attempts := [1,1,1]}} .b {state := 2}), 2, .b, by decide +kernel⟩,
   ⟨5, (withLane (inMode live .hold) .b {state := 2}), 2, .b, by decide +kernel⟩,
   ⟨5, (withLane live .b {state := 2}), 2, .b, by decide +kernel⟩,
   ⟨5, (withLane live .b {state := 1}), 2, .b, by decide +kernel⟩,
   ⟨5, (withLane live .b {state := 2, hostAsked := true}), .b, by decide +kernel⟩,
   ⟨(withLane live .b {state := 3}), .b, by decide +kernel⟩⟩

theorem test_hypotheses_ReadmissionFollowsTheTable_2 :
    (∃ (s : State) (ln : Lane), (s.lanes.get ln).state = 4 ∧ s.stationOk = true ∧ copyGood s [] ln = true) ∧
    (∃ (t : Time) (s : State) (ln : Lane), ∃ src, (s.lanes.get ln).state = 5 ∧ (s.lanes.get ln).source = some src ∧ inVote s src =
        true ∧ atBoundary (s.atTime t) = true) :=
  ⟨⟨(withLane {live with stationOk := true} .l {state := 4}), .l, by decide +kernel⟩,
   ⟨5, (withLane live .b {state := 5, source := some .a}), .b, .a, by decide +kernel⟩⟩

theorem test_hypotheses_AttemptsEndInTheVoteOrFail_1 :
    (∃ (t : Time) (s : State) (ln : Lane), (s.lanes.get ln).state = 6 ∧ 16 ≤ (s.lanes.get ln).matching ∧ atBoundary (s.atTime t) =
        true) ∧
    (∃ (t : Time) (s : State) (ln : Lane), ((s.lanes.get ln).state ≠ 6 ∨ (s.lanes.get ln).matching < 16 ∨ atBoundary (s.atTime t) =
        false)) ∧
    (∃ (t : Time) (s : State), ∃ x, inVote s .l = true ∧ s.vote.loomSince = some x ∧ x + sec 86400 ≤ t) ∧
    (∃ s : State, inVote s .l = false) ∧
    (∃ (s : State) (ln : Lane), (source s (laneBase ln + 6)).asserted = false ∧ (s.lanes.get ln).state = 3) ∧
    (∃ (s : State) (ln : Lane), (source s (laneBase ln + 6)).asserted = false ∧ (s.lanes.get ln).state = 4) ∧
    (∃ (t : Time) (s : State) (ln : Lane), (source s (laneBase ln + 6)).asserted = false ∧ (s.lanes.get ln).state = 3 ∧ (s.lanes.get
        ln).since + ms 2700 ≤ t) ∧
    (∃ (t : Time) (s : State) (ln : Lane), (source s (laneBase ln + 6)).asserted = false ∧ (s.lanes.get ln).state = 4 ∧ (s.lanes.get
        ln).since + ms 4000 ≤ t) :=
  ⟨⟨5, (withLane (inMode live .degraded) .b {state := 6, matching := 17}), .b, by decide +kernel⟩,
   ⟨86400000000001, {live with vote := {loomSince := some 1}}, .b, by decide +kernel⟩,
   ⟨86400000000001, {live with vote := {loomSince := some 1}}, 1, by decide +kernel⟩,
   ⟨(withLane live .l {state := 2}), by decide +kernel⟩,
   ⟨(withLane live .b {state := 3}), .b, by decide +kernel⟩,
   ⟨(withLane live .b {state := 4}), .b, by decide +kernel⟩,
   ⟨5000000000, (withLane live .b {state := 3}), .b, by decide +kernel⟩,
   ⟨5000000000, (withLane live .b {state := 4}), .b, by decide +kernel⟩⟩

theorem test_hypotheses_AttemptsEndInTheVoteOrFail_2 :
    (∃ (t : Time) (s : State) (ln : Lane), (source s (laneBase ln + 6)).asserted = false ∧ (s.lanes.get ln).state = 5 ∧ (s.lanes.get
        ln).since + ms 30000 ≤ t) ∧
    (∃ (s : State) (ln : Lane), (source s (laneBase ln + 6)).asserted = false ∧ (s.lanes.get ln).state = 6 ∧ 256 ≤ (s.lanes.get
        ln).shadows) ∧
    (∃ (s : State) (ln : Lane), (source s (laneBase ln + 6)).asserted = false ∧ ((s.lanes.get ln).state < 3 ∨ 6 < (s.lanes.get
        ln).state)) :=
  ⟨⟨50000000000, (withLane live .b {state := 5}), .b, by decide +kernel⟩,
   ⟨(withLane live .l {state := 6, shadows := 256}), .l, by decide +kernel⟩,
   ⟨live, .l, by decide +kernel⟩⟩

theorem test_hypotheses_BookIsWrittenMergedAndCleared_1 :
    (∃ (s : State) (q x : BookRec) (rest : List BookRec), s.constable.queue = q :: rest ∧ awaitsComparison s q = false ∧ withRaiseSeq
        s q = x ∧ (∀ y, s.constable.circ.getLast? = some y → sameEvent x y = false)) ∧
    (∃ (s : State) (q x : BookRec) (rest : List BookRec), ∃ y, s.constable.queue = q :: rest ∧ awaitsComparison s q = false ∧
        withRaiseSeq s q = x ∧ s.constable.circ.getLast? = some y ∧ sameEvent x y = true ∧ y.rcount < 65535) ∧
    (∃ (s : State) (q x : BookRec) (rest : List BookRec), ∃ y, s.constable.queue = q :: rest ∧ awaitsComparison s q = false ∧
        withRaiseSeq s q = x ∧ s.constable.circ.getLast? = some y ∧ sameEvent x y = true ∧ 65535 ≤ y.rcount) ∧
    (∃ (t : Time) (s : State) (ch : Fin 8) (v : U32), Serves s t ∧ authorised s ch.val = true ∧ v ≠ s.constable.nextSeq) ∧
    (∃ (t : Time) (s : State) (ch : Fin 8) (v : U32), Serves s t ∧ authorised s ch.val = true ∧ v = s.constable.nextSeq ∧
        ((assertedModule s).isSome = true ∨ s.constable.grave = true ∨ s.modes.mode = .start ∨ s.modes.mode = .shutdown)) ∧
    (∃ (t : Time) (s : State) (ch : Fin 8) (v : U32), Serves s t ∧ authorised s ch.val = true ∧ v = s.constable.nextSeq ∧
        assertedModule s = none ∧ s.constable.grave = false ∧ s.modes.mode ≠ .start ∧ s.modes.mode ≠ .shutdown) ∧
    (∃ (t : Time) (s : State), ∃ at', s.vote.comparing = some at' ∧ t < at' + ms 20) ∧
    (∃ (t : Time) (s : State), ∃ at', s.vote.comparing = some at' ∧ at' + ms 20 ≤ t) :=
  ⟨⟨book1, (book1.constable.queue.headD rec0), (withRaiseSeq book1 (book1.constable.queue.headD rec0)), (book1.constable.queue.drop
      1), by decide +kernel⟩,
   ⟨book2, (book.constable.queue.headD rec0), (withRaiseSeq book2 (book.constable.queue.headD rec0)), (book.constable.queue.drop 1),
       (book2.constable.circ.getD 0 rec0), by decide +kernel⟩,
   ⟨book3, (book.constable.queue.headD rec0), (withRaiseSeq book3 (book.constable.queue.headD rec0)), (book.constable.queue.drop 1),
       (book3.constable.circ.getD 0 rec0), by decide +kernel⟩,
   ⟨5, spl, 0, 1, by decide +kernel⟩,
   ⟨5, {book1 with constable := {book1.constable with graveR := .bit true}}, 0, 1, by decide +kernel⟩,
   ⟨5, book1, 0, 1, by decide +kernel⟩,
   ⟨5, spl, 3, by decide +kernel⟩,
   ⟨20000003, spl, 3, by decide +kernel⟩⟩

theorem test_hypotheses_BookIsWrittenMergedAndCleared_2 :
    ∃ s : State, s.constable.queue = [] :=
  ⟨live, by decide +kernel⟩

theorem test_hypotheses_CommandsJoinTheQueue :
    (∃ (t : Time) (s : State) (ch : Fin 8) (p : U32) (a : CmdArgs), ∃ c op param, Serves s t ∧ (c, op, param) ∈ [(Instr.setRoute t ch
        p a, 1, p), (.cancelRoute t ch p a, 2, p), (.emergencyReleaseArm t ch a, 3, 1), (.emergencyReleaseConfirm t ch a, 3, 2),
        (.pointMove t ch p a, 0x10, p), (.pointBlock t ch a, 0x11, 1), (.pointUnblock t ch a, 0x11, 0), (.sectionReset t ch p a, 0x12,
        p), (.pointStop t ch p a, 0x13, p), (.signalBlock t ch a, 0x20, 1), (.signalUnblock t ch a, 0x20, 0)] ∧ (a.flags ≠ 0 ∨ paramOk
        op param.toNat = false)) ∧
    (∃ (t : Time) (s : State) (ch : Fin 8) (p : U32) (a : CmdArgs), ∃ c op param, Serves s t ∧ (c, op, param) ∈ [(Instr.setRoute t ch
        p a, 1, p), (.cancelRoute t ch p a, 2, p), (.emergencyReleaseArm t ch a, 3, 1), (.emergencyReleaseConfirm t ch a, 3, 2),
        (.pointMove t ch p a, 0x10, p), (.pointBlock t ch a, 0x11, 1), (.pointUnblock t ch a, 0x11, 0), (.sectionReset t ch p a, 0x12,
        p), (.pointStop t ch p a, 0x13, p), (.signalBlock t ch a, 0x20, 1), (.signalUnblock t ch a, 0x20, 0)] ∧ a.flags = 0 ∧ paramOk
        op param.toNat = true ∧ (256 ≤ s.cyc.cmdq.length ∨ 4096 < s.cyc.ring.length + s.cyc.reserved + 2)) ∧
    (∃ (t : Time) (s : State) (ch : Fin 8) (p : U32) (a : CmdArgs), ∃ c op param, Serves s t ∧ (c, op, param) ∈ [(Instr.setRoute t ch
        p a, 1, p), (.cancelRoute t ch p a, 2, p), (.emergencyReleaseArm t ch a, 3, 1), (.emergencyReleaseConfirm t ch a, 3, 2),
        (.pointMove t ch p a, 0x10, p), (.pointBlock t ch a, 0x11, 1), (.pointUnblock t ch a, 0x11, 0), (.sectionReset t ch p a, 0x12,
        p), (.pointStop t ch p a, 0x13, p), (.signalBlock t ch a, 0x20, 1), (.signalUnblock t ch a, 0x20, 0)] ∧ a.flags = 0 ∧ paramOk
        op param.toNat = true ∧ s.cyc.cmdq.length < 256 ∧ s.cyc.ring.length + s.cyc.reserved + 2 ≤ 4096 ∧ takesNone s.modes.mode =
        false) ∧
    (∃ (t : Time) (s : State) (ch : Fin 8) (p : U32) (a : CmdArgs), ∃ c op param, Serves s t ∧ (c, op, param) ∈ [(Instr.setRoute t ch
        p a, 1, p), (.cancelRoute t ch p a, 2, p), (.emergencyReleaseArm t ch a, 3, 1), (.emergencyReleaseConfirm t ch a, 3, 2),
        (.pointMove t ch p a, 0x10, p), (.pointBlock t ch a, 0x11, 1), (.pointUnblock t ch a, 0x11, 0), (.sectionReset t ch p a, 0x12,
        p), (.pointStop t ch p a, 0x13, p), (.signalBlock t ch a, 0x20, 1), (.signalUnblock t ch a, 0x20, 0)] ∧ a.flags = 0 ∧ paramOk
        op param.toNat = true ∧ s.cyc.cmdq.length < 256 ∧ s.cyc.ring.length + s.cyc.reserved + 2 ≤ 4096 ∧ takesNone s.modes.mode =
        true) :=
  ⟨⟨5, live, 0, 1, a0, (.setRoute 5 0 1 a0), 1, 1, by decide +kernel⟩,
   ⟨5, {live with cyc := {live.cyc with reserved := 4095}}, 0, 0, a0, (Instr.pointStop 5 0 0 a0), 0x13, 0, by decide +kernel⟩,
   ⟨5, live, 0, 1, a0, (.signalUnblock 5 0 a0), 0x20, 0, by decide +kernel⟩,
   ⟨5, (inMode live .safeState), 0, 1, a0, (.signalUnblock 5 0 a0), 0x20, 0, by decide +kernel⟩⟩

theorem test_hypotheses_RingReadsAndBoundaryRecords :
    (∃ (t : Time) (s : State) (v : U32), Serves s t ∧ (v - s.cyc.readSeq).toNat ≤ (s.cyc.writeSeq - s.cyc.readSeq).toNat) ∧
    (∃ (t : Time) (s : State) (v : U32), Serves s t ∧ (s.cyc.writeSeq - s.cyc.readSeq).toNat < (v - s.cyc.readSeq).toNat) ∧
    (∃ (t : Time) (s : State) (k : Fin 512) (b : BoundaryRec), ∃ c msg, (c, msg) ∈ [(Instr.boundaryReq t k b, 1), (.boundaryGrant t k
        b, 2), (.boundaryRefuse t k b, 3), (.boundaryState t k b, 4), (.boundaryCancel t k b, 5), (.boundaryRelease t k b, 6)] ∧ (sess
        s k.val).state = 2) ∧
    (∃ (t : Time) (s : State) (k : Fin 512) (b : BoundaryRec), ∃ c msg, (c, msg) ∈ [(Instr.boundaryReq t k b, 1), (.boundaryGrant t k
        b, 2), (.boundaryRefuse t k b, 3), (.boundaryState t k b, 4), (.boundaryCancel t k b, 5), (.boundaryRelease t k b, 6)] ∧ (sess
        s k.val).state ≠ 2) :=
  ⟨⟨5, {live with cyc := {live.cyc with readSeq := 0xFFFFFFFF, writeSeq := 2}}, 1, by decide +kernel⟩,
   ⟨5, {live with cyc := {live.cyc with readSeq := 0xFFFFFFFF, writeSeq := 2}}, 3, by decide +kernel⟩,
   ⟨5, (modSess live 3 fun x => {x with state := 2}), 3, ⟨1,2,3,4,5,6,7⟩, (.boundaryState 5 3 ⟨1,2,3,4,5,6,7⟩), 4, by decide +kernel⟩,
   ⟨5, live, 3, ⟨1,2,3,4,5,6,7⟩, (.boundaryReq 5 3 ⟨1,2,3,4,5,6,7⟩), 1, by decide +kernel⟩⟩

theorem test_hypotheses_CyclesBeginAndLogicRuns :
    (∃ (t : Time) (s : State), cycleDue (s.atTime t) = false) ∧
    (∃ (t : Time) (s : State), cycleDue (s.atTime t) = true ∧ s.update.restart = false) ∧
    (∃ (t : Time) (s : State) (ln : Lane) (got : Option UpFrame), ((s.lanes.get ln).complete = true ∨ (s.lanes.get ln).markBus = false
        ∨ (s.lanes.get ln).markQueue = false ∨ s.cyc.running = false ∨ runsCycles s ln = false ∨ t < logicStart s ∨ holdsFrame s ln
        got = false ∨ (ln ≠ .l ∧ switchPending s = true))) ∧
    (∃ (t : Time) (s : State) (ln : Lane) (got : Option UpFrame), s.cyc.running = true ∧ runsCycles s ln = true ∧ (s.lanes.get
        ln).markBus = true ∧ (s.lanes.get ln).markQueue = true ∧ (s.lanes.get ln).complete = false ∧ logicStart s ≤ t ∧ holdsFrame s
        ln got = true ∧ wrongClaim s ln = none ∧ (ln = .l ∨ switchPending s = false) ∧ programExecuted s = false) ∧
    (∃ (t : Time) (s : State) (ln : Lane) (got : Option UpFrame), s.cyc.running = true ∧ runsCycles s ln = true ∧ (s.lanes.get
        ln).markBus = true ∧ (s.lanes.get ln).markQueue = true ∧ (s.lanes.get ln).complete = false ∧ logicStart s ≤ t ∧ holdsFrame s
        ln got = true ∧ wrongClaim s ln = none ∧ (ln = .l ∨ switchPending s = false) ∧ programExecuted s = true) ∧
    (∃ (t : Time) (s : State) (ln : Lane) (got : Option UpFrame), s.cyc.running = true ∧ runsCycles s ln = true ∧ (s.lanes.get
        ln).markBus = true ∧ (s.lanes.get ln).markQueue = true ∧ (s.lanes.get ln).complete = false ∧ logicStart s ≤ t ∧ holdsFrame s
        ln got = true ∧ wrongClaim s ln = none ∧ (ln = .l ∨ switchPending s = false) ∧ programExecuted s = false ∧ AllVoting s ∧
        Raisable s t (laneBase ln + 5)) ∧
    (∃ (t : Time) (s : State) (ln : Lane) (got : Option UpFrame) (e : Nat) (w : BitVec 32), s.cyc.running = true ∧ runsCycles s ln =
        true ∧ (s.lanes.get ln).markBus = true ∧ (s.lanes.get ln).markQueue = true ∧ (s.lanes.get ln).complete = false ∧ logicStart s
        ≤ t ∧ holdsFrame s ln got = true ∧ wrongClaim s ln = none ∧ (ln = .l ∨ switchPending s = false) ∧ programExecuted s = false ∧
        AllVoting s ∧ Raisable s t 58 ∧ (s.lanes.get ln).current = true ∧ scrubbed w ≠ scrubbed (tget 0 (claimTable s) e)) :=
  ⟨⟨5, cyc1, by decide +kernel⟩,
   ⟨8000000, {cyc1 with modes := {cyc1.modes with mode := .watch}, twin := {}, host := {cyc1.host with modeReq := some (3, 1)}},
       by decide +kernel⟩,
   ⟨499999, (cyc7 .run), .a, none, by decide +kernel⟩,
   ⟨500000, (cyc7 .stop), .l, none, by decide +kernel⟩,
   ⟨500005, (cyc7 .run), .a, none, by decide +kernel⟩,
   ⟨500000, (cyc7 .stop), .l, none, by decide +kernel⟩,
   ⟨500000, (cyc7 .stop), .l, none, 5, 0xFFFFFFFF, by decide +kernel⟩⟩

theorem test_hypotheses_DeliveriesCountByTheVotePoint :
    (∃ (t : Time) (s : State) (ln : Lane), s.cyc.running = true ∧ runsCycles s ln = true ∧ (s.lanes.get ln).complete = true ∧
        (s.lanes.get ln).delivered = none ∧ (s.lanes.get ln).late = false ∧ t < cycleEnd s ∧ t ≤ votePoint s ∧ s.cyc.voted = false) ∧
    (∃ (t : Time) (s : State) (ln : Lane), s.cyc.running = true ∧ runsCycles s ln = true ∧ (s.lanes.get ln).complete = true ∧
        (s.lanes.get ln).delivered = none ∧ (s.lanes.get ln).late = false ∧ t < cycleEnd s ∧ (votePoint s < t ∨ s.cyc.voted = true))
        :=
  ⟨⟨6000000, cyc3, .l, by decide +kernel⟩,
   ⟨6000001, cyc3, .l, by decide +kernel⟩⟩

theorem test_hypotheses_VotesAreWrittenUnlessAStreakStops :
    (∃ (t : Time) (s : State), cyclic s.modes.mode = true ∧ s.modes.mode ≠ .watch ∧ (s.cyc.running = false ∨ s.cyc.voted = true ∨
        s.cyc.phase = 2 ∨ t < votePoint s)) ∧
    (∃ (t : Time) (s : State), cyclic s.modes.mode = true ∧ s.modes.mode ≠ .watch ∧ s.cyc.running = true ∧ s.cyc.voted = false ∧
        s.cyc.phase ≠ 2 ∧ votePoint s ≤ t ∧ (onTime s).length < 2 ∧ Raisable s t 9) ∧
    (∃ (t : Time) (s : State), cyclic s.modes.mode = true ∧ s.modes.mode ≠ .watch ∧ s.cyc.running = true ∧ s.cyc.voted = false ∧
        s.cyc.phase ≠ 2 ∧ votePoint s ≤ t ∧ 2 ≤ (onTime s).length) :=
  ⟨⟨5000000, cyc4, by decide +kernel⟩,
   ⟨6000000, cyc3, by decide +kernel⟩,
   ⟨6000000, cyc4, by decide +kernel⟩⟩

theorem test_hypotheses_IssueFollowsTheVote :
    (∃ (t : Time) (s : State), (s.cyc.running = false ∨ s.cyc.voted = false ∨ s.cyc.phase = 3 ∨ t < issueStart s)) ∧
    (∃ (t : Time) (s : State), s.cyc.running = true ∧ s.cyc.voted = true ∧ s.cyc.phase ≠ 3 ∧ issueStart s ≤ t) :=
  ⟨⟨6000001, voted, by decide +kernel⟩,
   ⟨6500000, voted, by decide +kernel⟩⟩

theorem test_hypotheses_PermissionMovementStateAndClaimVotes :
    (∃ (m : Lane → Move) (l : List Lane), .a ∈ l ∧ .b ∈ l ∧ m .a ≠ .hold ∧ m .b ≠ .hold ∧ m .a ≠ m .b) ∧
    (∃ m : Lane → Move, ∃ v, (m .a = .hold ∨ m .b = .hold ∨ m .a = m .b) ∧ (2 ≤ (allLanes.filter fun k => m k = v).length)) ∧
    (∃ m : Lane → Move, m .a ≠ m .b ∧ m .a ≠ m .l ∧ m .b ≠ m .l) ∧
    (∃ (m : Lane → Move) (x y : Lane), x ≠ y ∧ m x = m y) ∧
    (∃ (m : Lane → Move) (x y : Lane), x ≠ y ∧ m x ≠ m y) ∧
    (∃ r : Lane → Nat, ∃ v, (2 ≤ (allLanes.filter fun k => r k = v).length)) ∧
    (∃ r : Lane → Nat, ∀ v, (allLanes.filter fun k => r k = v).length < 2) ∧
    (∃ x y : Lane, x ≠ y) :=
  ⟨⟨(fun | .a => .normal | .b => .rev | .l => .hold), [.a, .b], by decide +kernel⟩,
   ⟨(fun | .a => .normal | .b => .normal | .l => .rev), Move.normal, by decide +kernel⟩,
   ⟨(fun | .a => .normal | .b => .rev | .l => .hold), by decide +kernel⟩,
   ⟨(fun | .a => .normal | .b => .rev | .l => .rev), .b, .l, by decide +kernel⟩,
   ⟨(fun | .a => .normal | .b => .normal | .l => .rev), .b, .l, by decide +kernel⟩,
   ⟨(fun _ => 3), (3 : Nat), by decide +kernel⟩,
   ⟨fun | .a => 1 | .b => 2 | .l => 3, fun v => by
    simp only [allLanes, List.filter]; by_cases h : 1 = v <;> by_cases h2 : 2 = v <;> by_cases h3 : 3 = v <;> simp [h, h2, h3] <;> omega⟩,
   ⟨.b, .l, by decide +kernel⟩⟩

theorem test_hypotheses_DriveGroupsLoseTorqueByTheRules :
    (∃ (s : State) (g : Fin 4) (r : GroupRec), group? s g.val = some r ∧ s.cyc.voted = true ∧ pullInFails s g.val = true) ∧
    (∃ (s : State) (g : Fin 4) (r : GroupRec), group? s g.val = some r ∧ (s.cyc.voted = false ∨ pullInFails s g.val = false)) ∧
    (∃ (s : State) (g : Fin 4) (r : GroupRec), group? s g.val = some r ∧ s.cyc.voted = true ∧ (groupSt s g.val).state = 4 ∧ cyclesOfMs
        s r.sstw ≤ (groupSt s g.val).j) ∧
    (∃ (s : State) (g : Fin 4) (r : GroupRec), group? s g.val = some r ∧ (s.cyc.voted = false ∨ (groupSt s g.val).state ≠ 4)) ∧
    (∃ (s : State) (g : Fin 4) (r : GroupRec), ∃ x, group? s g.val = some r ∧ elem? s r.elem = some x ∧ driveOf s x = some (g.val, r)
        ∧ s.cyc.voted = true ∧ (groupSt s g.val).state = 2 ∧ obstructed s g.val r = true ∧ pullInFails s g.val = false ∧ (elemSt s
        r.elem).throwTimer ≠ 0 ∧ detectedIn s r.elem (elemSt s r.elem).throwing = false) ∧
    (∃ (t : Time) (s : State) (g : Fin 4) (r : GroupRec) (ch : Fin 8) (v : U8), group? s g.val = some r ∧ Serves s t ∧ authorised s
        ch.val = true ∧ v = 1 ∧ (groupSt s g.val).state = 6) ∧
    (∃ (t : Time) (s : State) (g : Fin 4) (r : GroupRec) (ch : Fin 8) (v : U8), group? s g.val = some r ∧ Serves s t ∧ authorised s
        ch.val = true ∧ v = 1 ∧ (groupSt s g.val).state ≠ 6) :=
  ⟨⟨(grp liveS fun y => {y with state := 2, onAt := some 49000000, feedback := 1}), 0, gr0, by decide +kernel⟩,
   ⟨(elt (grp liveS fun y => {y with state := 2, overRun := 1}) 1 fun y => {y with throwTimer := 4, throwing := 2}), 0, gr0,
       by decide +kernel⟩,
   ⟨(grp liveS fun y => {y with state := 4, j := 10}), 0, gr0, by decide +kernel⟩,
   ⟨(elt (grp liveS fun y => {y with state := 2, overRun := 1}) 1 fun y => {y with throwTimer := 4, throwing := 2}), 0, gr0,
       by decide +kernel⟩,
   ⟨(elt (grp liveS fun y => {y with state := 2, overRun := 1}) 1 fun y => {y with throwTimer := 4, throwing := 2}), 0, gr0, x5,
       by decide +kernel⟩,
   ⟨100000005, (grp liveS fun y => {y with state := 6}), 0, gr0, 0, 1, by decide +kernel⟩,
   ⟨100000005, (elt (grp liveS fun y => {y with state := 2, overRun := 1}) 1 fun y => {y with throwTimer := 4, throwing := 2}), 0,
       gr0, 0, 1, by decide +kernel⟩⟩

theorem test_hypotheses_TorqueOffIsConfirmedOrLocksOut :
    (∃ (s : State) (g : Fin 4) (r : GroupRec), group? s g.val = some r ∧ (s.cyc.voted = false ∨ confirmDue s (groupSt s g.val) =
        false)) ∧
    (∃ (s : State) (g : Fin 4) (r : GroupRec), group? s g.val = some r ∧ s.cyc.voted = true ∧ confirmDue s (groupSt s g.val) = true ∧
        feedbackOf s g.val = 3 ∧ motorCurrent s g.val < r.izero ∧ (groupSt s g.val).state = 3) ∧
    (∃ (s : State) (g : Fin 4) (r : GroupRec), group? s g.val = some r ∧ s.cyc.voted = true ∧ confirmDue s (groupSt s g.val) = true ∧
        feedbackOf s g.val = 3 ∧ motorCurrent s g.val < r.izero ∧ (groupSt s g.val).state = 5 ∧ (groupSt s g.val).lock = false) ∧
    (∃ (s : State) (g : Fin 4) (r : GroupRec), group? s g.val = some r ∧ s.cyc.voted = true ∧ confirmDue s (groupSt s g.val) = true ∧
        feedbackOf s g.val = 3 ∧ motorCurrent s g.val < r.izero ∧ (groupSt s g.val).state = 5 ∧ (groupSt s g.val).lock = true ∧ Quiet
        s (72 + g.val)) ∧
    (∃ (s : State) (g : Fin 4) (r : GroupRec), group? s g.val = some r ∧ s.cyc.voted = true ∧ confirmDue s (groupSt s g.val) = true ∧
        (feedbackOf s g.val ≠ 3 ∨ r.izero ≤ motorCurrent s g.val) ∧ Quiet s (72 + g.val)) ∧
    (∃ s : State, (torqueLost s = false ∨ (s.cyc.voted = false ∧ s.cyc.running = true))) ∧
    (∃ s : State, torqueLost s = true ∧ (s.cyc.voted = true ∨ s.cyc.running = false)) :=
  ⟨⟨liveS, 0, gr0, by decide +kernel⟩,
   ⟨(fb (grp liveS fun y => {y with state := 3, offAt := some 5, sense := 2})), 0, gr0, by decide +kernel⟩,
   ⟨(fb (grp liveS fun y => {y with state := 5, offAt := some 5, sense := 2})), 0, gr0, by decide +kernel⟩,
   ⟨(fb (grp liveS fun y => {y with state := 5, lock := true, reason := 3, offAt := some 5, sense := 2})), 0, gr0, by decide +kernel⟩,
   ⟨(grp liveS fun y => {y with state := 3, offAt := some 5, sense := 2}), 0, gr0, by decide +kernel⟩,
   ⟨C5a, by decide +kernel⟩,
   ⟨(inMode C5a .hold), by decide +kernel⟩⟩

theorem test_hypotheses_ThrowsAndResetsEnd :
    (∃ (s : State) (e : Nat) (x : Element), elem? s e = some x ∧ s.cyc.voted = true ∧ (elemSt s e).throwing ≠ 0 ∧ detectedIn s e
        (elemSt s e).throwing = true) ∧
    (∃ (s : State) (e : Nat) (x : Element), elem? s e = some x ∧ s.cyc.voted = true ∧ supervisionExpired s e x = true) ∧
    (∃ (t : Time) (s : State) (e : Nat) (x : Element), elem? s e = some x ∧ x.remote = true ∧ (elemSt s e).stopping = true ∧ (elemSt s
        e).stopAt + ms 6000 ≤ t ∧ Quiet s 76) ∧
    (∃ (s : State) (e : Nat) (x : Element), elem? s e = some x ∧ s.cyc.voted = true ∧ (elemSt s e).resetting = true ∧ cyclesOfMs s
        30000 ≤ (elemSt s e).resetVotes) ∧
    (∃ (s : State) (e : Nat) (x : Element), elem? s e = some x ∧ (s.cyc.voted = false ∨ (elemSt s e).throwing = 0)) ∧
    (∃ (s : State) (e : Nat) (x : Element), elem? s e = some x ∧ (elemSt s e).stopping = false) ∧
    (∃ (s : State) (e : Nat) (x : Element), elem? s e = some x ∧ (s.cyc.voted = false ∨ (elemSt s e).resetting = false)) :=
  ⟨⟨(fb (elt (grp liveS fun y => {y with state := 2}) 1 fun y => {y with detected := 1, throwing := 1})), 1, x5, by decide +kernel⟩,
   ⟨(fb (elt (grp liveS fun y => {y with state := 2}) 1 fun y => {y with detected := 2, throwing := 1})), 1, x5, by decide +kernel⟩,
   ⟨7000000000, (fb (elt liveS 6 fun y => {y with detected := 2, stopping := true})), 6, ((elem? liveS 6).getD el0), by decide +kernel⟩,
   ⟨(fb (elt liveS 2 fun y => {y with resetting := true, resetVotes := 3750})), 2, el0, by decide +kernel⟩,
   ⟨(fb (elt liveS 2 fun y => {y with resetting := true, resetVotes := 3750})), 2, el0, by decide +kernel⟩,
   ⟨(fb (elt (grp liveS fun y => {y with state := 2}) 1 fun y => {y with detected := 1, throwing := 1})), 1, x5, by decide +kernel⟩,
   ⟨(fb (elt (grp liveS fun y => {y with state := 2}) 1 fun y => {y with detected := 1, throwing := 1})), 1, x5, by decide +kernel⟩⟩

theorem test_hypotheses_RouteTimersAndAbandonedRequests_1 :
    (∃ (s : State) (r k : Nat) (x : Route), route? s r = some x ∧ slotOfRoute s r = some k ∧ s.cyc.voted = true ∧ (routeSt s r).state
        = 6 ∧ (slotSt s k).apprTimer = 0 ∧ movedNow s r = false) ∧
    (∃ (s : State) (r k : Nat) (x : Route), route? s r = some x ∧ slotOfRoute s r = some k ∧ (s.cyc.voted = false ∨ (routeSt s
        r).state ≠ 6)) ∧
    (∃ (s : State) (r k : Nat) (x : Route), route? s r = some x ∧ slotOfRoute s r = some k ∧ s.cyc.voted = true ∧ overlapDue s x
        (slotSt s k) = true ∧ frozenContinuation s x = false) ∧
    (∃ (s : State) (r k : Nat) (x : Route), route? s r = some x ∧ slotOfRoute s r = some k ∧ (routeSt s r).state = 7 ∧ cyclesOfSec s
        600 ≤ (slotSt s k).relCycles ∧ Quiet s 63) ∧
    (∃ (s : State) (r k : Nat) (x : Route), route? s r = some x ∧ slotOfRoute s r = some k ∧ (routeSt s r).state ≠ 7) ∧
    (∃ (s : State) (r k e : Nat) (x : Route) (z : Element), route? s r = some x ∧ slotOfRoute s r = some k ∧ s.cyc.voted = true ∧
        provingOpen s (slotSt s k) = true ∧ elem? s e = some z ∧ (∃ y ∈ x.list, y.elem = e ∧ provingLate s (slotSt s k) y = true) ∧
        Quiet s 61) ∧
    (∃ (s : State) (r k : Nat) (x : Route), route? s r = some x ∧ slotOfRoute s r = some k ∧ s.cyc.voted = true ∧ (routeSt s r).state
        = 1 ∧ 4 ≤ cyclesSince (slotSt s k).reqCycle s.cyc.number ∧ movedNow s r = false ∧ Quiet s 60) ∧
    (∃ (s : State) (r k : Nat) (x : Route), route? s r = some x ∧ slotOfRoute s r = some k ∧ (s.cyc.voted = false ∨ (routeSt s
        r).state ≠ 1)) :=
  ⟨⟨(rtState 6 fun y => {y with approach := true}), 7, 2, rt0, by decide +kernel⟩,
   ⟨(elt (rtState 7 fun y => {y with ovlTimer := some 0, held := [4]}) 4 fun y => {y with detected := 1}), 7, 2, rt0,
       by decide +kernel⟩,
   ⟨(elt (rtState 7 fun y => {y with ovlTimer := some 0, held := [4]}) 4 fun y => {y with detected := 1}), 7, 2, rt0,
       by decide +kernel⟩,
   ⟨(rtState 7 fun y => {y with relCycles := 75000}), 7, 2, rt0, by decide +kernel⟩,
   ⟨(rtState 6 fun y => {y with approach := true}), 7, 2, rt0, by decide +kernel⟩,
   ⟨st5, 7, 2, 5, rt5, ((elem? st5 5).getD el0), by decide +kernel⟩,
   ⟨(rtState 1 fun y => {y with reqCycle := 3}), 7, 2, rt0, by decide +kernel⟩,
   ⟨(rtState 4 fun y => {y with emergency := true}), 7, 2, rt0, by decide +kernel⟩⟩

theorem test_hypotheses_RouteTimersAndAbandonedRequests_2 :
    (∃ (s : State) (r k : Nat) (x : Route), route? s r = some x ∧ slotOfRoute s r = some k ∧ s.cyc.voted = true ∧ (slotSt s
        k).emergency = true ∧ (slotSt s k).emrgTimer = 0 ∧ x.xzone = false ∧ Quiet s 62) ∧
    (∃ (s : State) (r k : Nat) (x : Route), route? s r = some x ∧ slotOfRoute s r = some k ∧ (s.cyc.voted = false ∨ (slotSt s
        k).emergency = false)) ∧
    (∃ (s : State) (r k : Nat) (x : Route), route? s r = some x ∧ slotOfRoute s r = some k ∧ s.cyc.voted = true ∧ (slotSt s k).armed =
        true ∧ (slotSt s k).route = some r ∧ 60000 / s.cyc.c + 1 ≤ (slotSt s k).armVotes ∧ s.constable.queue.length < 64) ∧
    (∃ (s : State) (r k : Nat) (x : Route), route? s r = some x ∧ slotOfRoute s r = some k ∧ (s.cyc.voted = false ∨ (slotSt s k).armed
        = false)) :=
  ⟨⟨(rtState 4 fun y => {y with emergency := true}), 7, 2, rt0, by decide +kernel⟩,
   ⟨(rtState 4 fun y => {y with armed := true, armVotes := 7501}), 7, 2, rt0, by decide +kernel⟩,
   ⟨(rtState 4 fun y => {y with armed := true, armVotes := 7501}), 7, 2, rt0, by decide +kernel⟩,
   ⟨(rtState 4 fun y => {y with emergency := true}), 7, 2, rt0, by decide +kernel⟩⟩

theorem test_hypotheses_ExcludedLanesCommandAllOff :
    (∃ (s : State) (ln : Lane), (laneSends s ln = false ∨ crossRuns s 3 = false)) ∧
    (∃ (s : State) (ln : Lane), s.modes.mode = .start ∧ ln ≠ firmwareLane s) ∧
    (∃ (s : State) (ln : Lane), laneSends s ln = true ∧ crossRuns s 3 = true ∧ (s.modes.mode ≠ .start ∨ ln = firmwareLane s)) :=
  ⟨⟨(inMode live .off), .b, by decide +kernel⟩,
   ⟨(inMode live .start), .b, by decide +kernel⟩,
   ⟨live, .a, by decide +kernel⟩⟩

theorem test_hypotheses_OutputsAreEnergisedExactlyByTheConditions :
    ∃ s : State, fieldUp s = true :=
  ⟨(fld id), by decide +kernel⟩

theorem test_hypotheses_UpFramesAndStaleChannels_1 :
    (∃ s : State, fieldUp s = false) ∧
    (∃ (s : State) (x : FieldSample), fieldUp s = true ∧ 1920 ≤ x.vf ∧ x.fsflt = false) ∧
    (∃ (t : Time) (s : State) (x : FieldSample), fieldUp s = true ∧ 1920 ≤ x.vf ∧ x.fsflt = true ∧ On s ∧ Raisable s t 79) ∧
    (∃ s : State, crossRuns s 4 = false) ∧
    (∃ (s : State) (f : UpFrame), crossRuns s 4 = true ∧ f.crc ≠ u32 (crc32c (upBytes f))) ∧
    (∃ (s : State) (ln : Lane) (f : UpFrame), crossRuns s 4 = true ∧ f.crc = u32 (crc32c (upBytes f)) ∧ (s.field.bar.get ln).upStale =
        true ∧ (s.field.bar.get ln).upResync = false) ∧
    (∃ (s : State) (ln : Lane) (f : UpFrame), crossRuns s 4 = true ∧ f.crc = u32 (crc32c (upBytes f)) ∧ ((s.field.bar.get ln).upStale
        = false ∨ (s.field.bar.get ln).upResync = true) ∧ f.kind = 9 ∧ f.lane.toNat = laneNo ln ∧ seqFollows (s.field.bar.get
        ln).upSeq f.seq = true) ∧
    (∃ (s : State) (ln : Lane) (f : UpFrame), crossRuns s 4 = true ∧ f.crc = u32 (crc32c (upBytes f)) ∧ ((s.field.bar.get ln).upStale
        = false ∨ (s.field.bar.get ln).upResync = true) ∧ (f.kind ≠ 9 ∨ f.lane.toNat ≠ laneNo ln ∨ seqFollows (s.field.bar.get
        ln).upSeq f.seq = false)) :=
  ⟨⟨State.reset, by decide +kernel⟩,
   ⟨{(fld id) with stiles := {(fld id).stiles with crossings := [(4, {state := 1})]}}, smp0, by decide +kernel⟩,
   ⟨5, (fld id), { smp0 with fsflt := true }, by decide +kernel⟩,
   ⟨{(fld id) with stiles := {(fld id).stiles with crossings := [(4, {state := 1})]}}, by decide +kernel⟩,
   ⟨State.reset, { upf 7 with crc := 0 }, by decide +kernel⟩,
   ⟨live, .a, (upf 7), by decide +kernel⟩,
   ⟨(fld id), .a, (upf 1), by decide +kernel⟩,
   ⟨(fld id), .a, (upf 7), by decide +kernel⟩⟩

theorem test_hypotheses_UpFramesAndStaleChannels_2 :
    (∃ (t : Time) (s : State) (ln : Lane), (s.field.bar.get ln).stale = false ∧ (s.field.bar.get ln).downAt + us 500 ≤ t) ∧
    (∃ (t : Time) (s : State) (ln : Lane), (s.field.bar.get ln).upStale = false ∧ (s.field.bar.get ln).upAt + us 500 ≤ t ∧ AllVoting s
        ∧ cyclic s.modes.mode = true ∧ Raisable s t (64 + laneNo ln)) ∧
    (∃ (t : Time) (s : State) (ln : Lane), t < (s.field.bar.get ln).downAt + us 500) ∧
    (∃ (t : Time) (s : State) (ln : Lane), t < (s.field.bar.get ln).upAt + us 500) ∧
    (∃ s : State, s.constable.kill = false) ∧
    (∃ (t : Time) (s : State), s.constable.kill = true ∧ On s ∧ Raisable s t 79) :=
  ⟨⟨500000, (fld id), .a, by decide +kernel⟩,
   ⟨500000, (fld id), .a, by decide +kernel⟩,
   ⟨50000, (fld id), .b, by decide +kernel⟩,
   ⟨50000, (fld id), .b, by decide +kernel⟩,
   ⟨{(fld id) with constable := {}}, by decide +kernel⟩,
   ⟨50000, (fld id), by decide +kernel⟩⟩

theorem test_hypotheses_InputFaultsLatchUntilReset_1 :
    (∃ (s : State) (k : Fin 24), ∃ c, s.field.config = some c ∧ c.pair.getLsbD k.val = true ∧ s.field.pairf.getLsbD k.val = false ∧
        c.dt.getD k.val 0 ≤ s.field.pairRun.getD k.val 0 ∧ Quiet s 69) ∧
    (∃ (s : State) (k : Fin 24), s.field.pairf.getLsbD k.val = true) ∧
    (∃ (t : Time) (s : State) (ch : Fin 8) (mask : U32), Serves s t ∧ authorised s ch.val = true ∧ mask.toNat ≤ 0xFFFFFF) ∧
    (∃ (t : Time) (s : State) (ch : Fin 8) (mask : U32), Serves s t ∧ authorised s ch.val = true ∧ 0xFFFFFF < mask.toNat) ∧
    (∃ s : State, fieldUp s = true) ∧
    (∃ (s : State) (k : Fin 24), s.field.pairEdge.getLsbD k.val = true ∧ s.field.pairSafe.getLsbD k.val = true) ∧
    (∃ (s : State) (k : Fin 24), s.field.pairEdge.getLsbD k.val = true ∧ s.field.pairSafe.getLsbD k.val = false) ∧
    (∃ (s : State) (k : Fin 24), s.field.pairEdge.getLsbD k.val = false) :=
  ⟨⟨(fld fun x => {x with pairRun := [100], aiRun := [3]}), 0, fcfg, by decide +kernel⟩,
   ⟨(fld fun x => {x with pairf := 1, pairEdge := 1, pairSafe := 1}), 0, by decide +kernel⟩,
   ⟨5, (fld fun x => {x with pairRun := [100], aiRun := [3]}), 0, 6, by decide +kernel⟩,
   ⟨5, (fld fun x => {x with pairf := 1, pairEdge := 1, pairSafe := 1}), 0, 0x1000000, by decide +kernel⟩,
   ⟨(fld fun x => {x with pairf := 1, pairEdge := 1, pairSafe := 1}), by decide +kernel⟩,
   ⟨(fld fun x => {x with pairf := 1, pairEdge := 1, pairSafe := 1}), 0, by decide +kernel⟩,
   ⟨(fld fun x => {x with pairf := 1, pairEdge := 1, di := 3}), 0, by decide +kernel⟩,
   ⟨(fld fun x =>
       {x with bar := ⟨{x.bar.a with latest := some {fr 0 4 with w4 := 1}}, {x.bar.b with latest := some {fr 1 4 with w4 := 1}}, x.bar.l⟩}),
       0, by decide +kernel⟩⟩

theorem test_hypotheses_InputFaultsLatchUntilReset_2 :
    (∃ (s : State) (i : Fin 4), 3 ≤ s.field.aiRun.getD i.val 0 ∧ s.field.aiflt.getLsbD i.val = false ∧ Quiet s 68) ∧
    (∃ (s : State) (i : Fin 4), s.field.aiRun.getD i.val 0 < 3) :=
  ⟨⟨(fld fun x => {x with pairRun := [100], aiRun := [3]}), 0, by decide +kernel⟩,
   ⟨(fld fun x => {x with pairf := 1, pairEdge := 1, pairSafe := 1}), 0, by decide +kernel⟩⟩

theorem test_hypotheses_OutputFaultsLatchUntilTheirEdge_1 :
    (∃ (t : Time) (s : State), ∃ x, Quiet s 68 ∧ s.field.iouSince = some x ∧ x + ms 10 ≤ t ∧ 900 < s.field.iout) ∧
    (∃ (s : State) (d : Fin 24) (h1 : Bool), ∃ c, Quiet s 68 ∧ s.field.config = some c ∧ c.tpdis.getLsbD d.val = false ∧
        s.field.gate.getLsbD d.val = true ∧ h1 = true) ∧
    (∃ (s : State) (d : Fin 24) (h1 h2 : Bool), ∃ c, Quiet s 68 ∧ s.field.config = some c ∧ c.tpdis.getLsbD d.val = false ∧
        s.field.gate.getLsbD d.val = true ∧ h1 = false ∧ h2 = true) ∧
    (∃ (t : Time) (s : State) (d : Fin 24), Quiet s 68 ∧ s.field.gate.getLsbD d.val = true ∧ heldFor (s.atTime t) d.val (ms 2) = true) ∧
    (∃ s : State, Quiet s 68) ∧
    (∃ (t : Time) (s : State) (d : Fin 24), ∃ c, Quiet s 68 ∧ s.field.config = some c ∧ (c.fbin.getD d.val 0).toNat.testBit 7 = true ∧
        heldFor (s.atTime t) d.val (ms c.fbt) = true ∧ s.field.di.getLsbD ((c.fbin.getD d.val 0).toNat % 64) = s.field.gate.getLsbD
        d.val) ∧
    (∃ (t : Time) (s : State) (d : Fin 24), On s ∧ Raisable s t 67 ∧ s.field.gate.getLsbD d.val = false ∧ heldFor (s.atTime t) d.val
        (ms 2) = true) ∧
    (∃ s : State, (s.field.iouSince = none ∨ s.field.iout ≤ 900)) :=
  ⟨⟨10000001, (fld fun x => {x with iouSince := some 1, iout := 901, gate := 1}), 1, by decide +kernel⟩,
   ⟨(fld fun x => {x with iouSince := some 1, iout := 901, gate := 1}), 0, true, fcfg, by decide +kernel⟩,
   ⟨(fld fun x => {x with gate := 1}), 0, false, true, fcl, by decide +kernel⟩,
   ⟨50000000, (fld fun x => {x with gate := 1}), 0, by decide +kernel⟩,
   ⟨(fld fun x => {x with gate := 1}), by decide +kernel⟩,
   ⟨50000000, (fld fun x => {x with gate := 0}), 0, fcl, by decide +kernel⟩,
   ⟨50000000, (fld fun x => {x with gate := 1}), 1, by decide +kernel⟩,
   ⟨(fld fun x => {x with gate := 1}), by decide +kernel⟩⟩

theorem test_hypotheses_OutputFaultsLatchUntilTheirEdge_2 :
    (∃ (s : State) (d : Fin 24), s.field.gate.getLsbD d.val = false) ∧
    (∃ (s : State) (d : Fin 24), ∃ c, s.field.config = some c ∧ s.field.di.getLsbD ((c.fbin.getD d.val 0).toNat % 64) ≠
        s.field.gate.getLsbD d.val) ∧
    (∃ (s : State) (d : Fin 24) (h1 : Bool), h1 ≠ s.field.gate.getLsbD d.val) ∧
    (∃ (t : Time) (s : State) (ch : Fin 8) (mask : U32), Serves s t ∧ authorised s ch.val = true ∧ mask.toNat ≤ 0xFFFFFF) ∧
    (∃ (t : Time) (s : State) (ch : Fin 8) (mask : U32), Serves s t ∧ authorised s ch.val = true ∧ 0xFFFFFF < mask.toNat) ∧
    (∃ (t : Time) (s : State) (ch : Fin 8), Serves s t ∧ authorised s ch.val = false) ∧
    (∃ s : State, fieldUp s = true) ∧
    (∃ (s : State) (d : Fin 24), s.field.outEdge.getLsbD d.val = true ∧ s.field.outSafe.getLsbD d.val = true) :=
  ⟨⟨(fld fun x => {x with gate := 1}), 1, by decide +kernel⟩,
   ⟨(fld fun x => {x with gate := 1}), 0, fcl, by decide +kernel⟩,
   ⟨(fld fun x => {x with gate := 1}), 0, false, by decide +kernel⟩,
   ⟨5, (fld fun x => {x with outEdge := 1, doflt := 1}), 0, 5, by decide +kernel⟩,
   ⟨5, (fld fun x =>
       {x with outEdge := 2, doflt := 1, bar := ⟨{x.bar.a with latest := some {fr 0 4 with w5 := 1}}, {x.bar.b with latest := some {fr 1 4 with w5 := 1}}, x.bar.l⟩}),
       0, 0x1000000, by decide +kernel⟩,
   ⟨5, (fld id), 1, by decide +kernel⟩,
   ⟨(fld fun x =>
       {x with outEdge := 2, doflt := 1, bar := ⟨{x.bar.a with latest := some {fr 0 4 with w5 := 1}}, {x.bar.b with latest := some {fr 1 4 with w5 := 1}}, x.bar.l⟩}),
       by decide +kernel⟩,
   ⟨(fld fun x => {x with outEdge := 1, outSafe := 1, doflt := 1}), 0, by decide +kernel⟩⟩

theorem test_hypotheses_OutputFaultsLatchUntilTheirEdge_3 :
    (∃ (s : State) (d : Fin 24), s.field.outEdge.getLsbD d.val = true ∧ s.field.outSafe.getLsbD d.val = false) ∧
    (∃ (s : State) (d : Fin 24), s.field.outEdge.getLsbD d.val = false) :=
  ⟨⟨(fld fun x => {x with outEdge := 1, doflt := 1}), 0, by decide +kernel⟩,
   ⟨(fld fun x =>
       {x with outEdge := 2, doflt := 1, bar := ⟨{x.bar.a with latest := some {fr 0 4 with w5 := 1}}, {x.bar.b with latest := some {fr 1 4 with w5 := 1}}, x.bar.l⟩}),
       0, by decide +kernel⟩⟩

theorem test_hypotheses_FieldConfigurationAndSupply_1 :
    (∃ s : State, ∃ c, assembled s = some c ∧ s.field.unconf = true ∧ fieldUp s = true) ∧
    (∃ s : State, (assembled s = none ∨ s.field.unconf = false)) ∧
    (∃ (t : Time) (s : State), ∃ x, s.field.configSince = some x ∧ s.field.unconf = true ∧ x + ms 100 ≤ t ∧ On s ∧ Raisable s t 79) ∧
    (∃ s : State, (s.field.configSince = none ∨ s.field.unconf = false)) ∧
    (∃ (t : Time) (s : State), fieldUp s = true ∧ cyclic s.modes.mode = true ∧ s.modes.mode ≠ .watch ∧ Raisable s t 79) ∧
    (∃ s : State, fieldUp s = true ∧ (cyclic s.modes.mode = false ∨ s.modes.mode = .watch)) ∧
    (∃ (s : State) (vf : Nat), fieldUp s = true ∧ vf < 1920 ∧ Quiet s 70) ∧
    (∃ (s : State) (vf : Nat), fieldUp s = true ∧ 1920 ≤ vf) :=
  ⟨⟨(fld fun x => {x with unconf := true, bar := x.bar.map fun b => {b with pages := pgs}}), ((assembled (fld fun x =>
      {x with unconf := true, bar := x.bar.map fun b => {b with pages := pgs}})).getD cfg0), by decide +kernel⟩,
   ⟨(inMode (fld id) .watch), by decide +kernel⟩,
   ⟨500000000, (fld fun x => {x with unconf := true, configSince := some 3}), 3, by decide +kernel⟩,
   ⟨(inMode (fld id) .watch), by decide +kernel⟩,
   ⟨500000000, (fld fun x => {x with unconf := true, bar := x.bar.map fun b => {b with pages := pgs}}), by decide +kernel⟩,
   ⟨(inMode (fld id) .watch), by decide +kernel⟩,
   ⟨(fld id), 1500, by decide +kernel⟩,
   ⟨(fld fun x => {x with flost := true, flow := true, okSince := some 5}), 1950, by decide +kernel⟩⟩

theorem test_hypotheses_FieldConfigurationAndSupply_2 :
    (∃ (t : Time) (s : State) (vf : Nat), ∃ x, fieldUp s = true ∧ s.field.lowSince = some x ∧ x + ms 2 ≤ t ∧ vf < 1600 ∧ s.field.flost
        = false ∧ (source s 70).asserted = true ∧ Quiet s 71) ∧
    (∃ (t : Time) (s : State), fieldUp s = true ∧ ((∀ x, s.field.lowSince = some x → t < x + ms 2) ∨ s.field.flost = true)) ∧
    (∃ (t : Time) (s : State) (vf : Nat), ∃ x, fieldUp s = true ∧ s.field.okSince = some x ∧ x + ms 100 ≤ t ∧ 1920 < vf) ∧
    (∃ (t : Time) (s : State) (vf : Nat), fieldUp s = true ∧ (∀ x, s.field.okSince = some x → t < x + ms 100) ∧ 1920 ≤ vf) :=
  ⟨⟨2000005, (recordRaise (fld fun x => {x with flow := true, vfLow := 1550, lowSince := some 5}) 70 false 0 0 0), 1580, 5,
      by decide +kernel⟩,
   ⟨100000004, (fld fun x => {x with flost := true, flow := true, okSince := some 5}), by decide +kernel⟩,
   ⟨100000005, (fld fun x => {x with flost := true, flow := true, okSince := some 5}), 1950, 5, by decide +kernel⟩,
   ⟨100000004, (fld fun x => {x with flost := true, flow := true, okSince := some 5}), 1950, by decide +kernel⟩⟩

theorem test_hypotheses_ResetKeyCountsAndStuck_1 :
    (∃ (s : State) (k : KeyOperation), fieldUp s = true ∧ validKey k = true ∧ ((s.modes.mode ≠ .shutdown ∧ s.modes.mode ≠ .safeState)
        ∨ keySeen k = false)) ∧
    (∃ (s : State) (k : KeyOperation), fieldUp s = true ∧ validKey k = true ∧ s.modes.mode = .safeState ∧ s.constable.grave = true) ∧
    (∃ (s : State) (k : KeyOperation), ∃ n, fieldUp s = true ∧ validKey k = true ∧ s.modes.mode = .safeState ∧ s.constable.grave =
        false ∧ keySeen k = true ∧ assertedModule s = some n) ∧
    (∃ (s : State) (k : KeyOperation), fieldUp s = true ∧ validKey k = false) ∧
    (∃ (t : Time) (s : State) (w : BitVec 2), fieldUp s = true ∧ keyLong (readKey s.field w t) t = true ∧ Quiet s 78) ∧
    (∃ (t : Time) (s : State) (w : BitVec 2), fieldUp s = true ∧ keyLong (readKey s.field w t) t = true ∧ (source s 78).asserted =
        true) ∧
    (∃ (t : Time) (s : State) (w : BitVec 2), fieldUp s = true ∧ keyLong (readKey s.field w t) t = false) ∧
    (∃ (t : Time) (s : State), fieldUp s = true ∧ heldSince (s.atTime t) s.field.keyOff (sec 1) = true ∧ (source s 78).reported =
        true) :=
  ⟨⟨(fld id), ⟨0,500,0,500,[.a,.b]⟩, by decide +kernel⟩,
   ⟨(inMode {(fld id) with constable := {graveR := .bit true}} .safeState), ⟨0,500,0,500,[.a,.b]⟩, by decide +kernel⟩,
   ⟨(inMode (raise live 2 0 0 0) .safeState), ⟨0,500,0,500,[.a,.b]⟩, 2, by decide +kernel⟩,
   ⟨(inMode (raise live 78 0 0 0) .safeState), ⟨0,5000,0,500,[.a]⟩, by decide +kernel⟩,
   ⟨3000000006, (fld fun x => {x with keyOn := ⟨some 5, none⟩}), 1, by decide +kernel⟩,
   ⟨3000000006, (recordRaise (fld fun x => {x with keyOn := ⟨some 5, none⟩}) 78 false 0 0 0), 1, by decide +kernel⟩,
   ⟨5, (fld id), 1, by decide +kernel⟩,
   ⟨1000000005, (recordRaise (fld fun x => {x with keyOff := some 5}) 78 false 0 0 0), by decide +kernel⟩⟩

theorem test_hypotheses_ResetKeyCountsAndStuck_2 :
    (∃ (t : Time) (s : State), fieldUp s = true ∧ heldSince (s.atTime t) s.field.keyOff (sec 1) = true ∧ (source s 78).reported =
        false) ∧
    (∃ (t : Time) (s : State), heldSince (s.atTime t) s.field.keyOff (sec 1) = false) ∧
    (∃ s : State, fieldUp s = false) :=
  ⟨⟨1000000005, (fld fun x => {x with keyOff := some 5}), by decide +kernel⟩,
   ⟨5, (fld id), by decide +kernel⟩,
   ⟨State.reset, by decide +kernel⟩⟩

theorem test_hypotheses_ColdstartMakesOneTimeMaster_1 :
    (∃ (t : Time) (s : State) (c : Chan) (a b : Option Nat) (r : Nat), ∃ i, rankOn s c = some r ∧ ((i = Instr.listenEnd ⟨t, c⟩ a b ∧
        engineOn s c = 1 ∧ (port s c).listenFrom + ms (128 + r) ≤ t) ∨ (i = Instr.coldstartRetry ⟨t, c⟩ a b ∧ engineOn s c = 2 ∧ 1 ≤
        (port s c).collided ∧ (port s c).listenFrom + ms (1 + r) ≤ t)) ∧ (∀ x ∈ portChans s c, ((readOf a b x).any fun n => decide (n
        / 2 ≤ dmaxNs s)) = true)) ∧
    (∃ (t : Time) (s : State) (c : Chan) (a b : Option Nat) (r : Nat), ∃ i, rankOn s c = some r ∧ ((i = Instr.listenEnd ⟨t, c⟩ a b ∧
        engineOn s c = 1 ∧ (port s c).listenFrom + ms (128 + r) ≤ t) ∨ (i = Instr.coldstartRetry ⟨t, c⟩ a b ∧ engineOn s c = 2 ∧ 1 ≤
        (port s c).collided ∧ (port s c).listenFrom + ms (1 + r) ≤ t)) ∧ (∃ x ∈ portChans s c, readOf a b x = none) ∧ (port s
        c).collided < 2) ∧
    (∃ (t : Time) (s : State) (c : Chan) (a b : Option Nat) (r : Nat), ∃ i, rankOn s c = some r ∧ ((i = Instr.listenEnd ⟨t, c⟩ a b ∧
        engineOn s c = 1 ∧ (port s c).listenFrom + ms (128 + r) ≤ t) ∨ (i = Instr.coldstartRetry ⟨t, c⟩ a b ∧ engineOn s c = 2 ∧ 1 ≤
        (port s c).collided ∧ (port s c).listenFrom + ms (1 + r) ≤ t)) ∧ (∃ x ∈ portChans s c, readOf a b x = none) ∧ 2 ≤ (port s
        c).collided ∧ Quiet s 83) ∧
    (∃ (t : Time) (s : State) (c : Chan) (r : Nat), rankOn s c = some r ∧ (engineOn s c ≠ 1 ∨ t < (port s c).listenFrom + ms (128 +
        r))) ∧
    (∃ (t : Time) (s : State) (c : Chan) (r : Nat), rankOn s c = some r ∧ (engineOn s c ≠ 2 ∨ t < (port s c).listenFrom + ms (1 + r))) ∧
    (∃ (s : State) (c : Chan) (r : Nat) (f : BusFrame), rankOn s c = some r ∧ f.chan = c ∧ f.ftype = 1 ∧ engineOn s c ≠ 0 ∧ linkBad s
        f = true) ∧
    (∃ (s : State) (c : Chan) (r : Nat) (f : BusFrame), rankOn s c = some r ∧ f.chan = c ∧ f.ftype = 1 ∧ engineOn s c ≠ 0 ∧ linkBad s
        f = false ∧ f.sched = ownSched s ∧ Timely s f ∧ f.node ≠ nodeOn s c ∧ (engineOn s c = 1 ∨ engineOn s c = 2)) ∧
    (∃ (s : State) (c : Chan) (r : Nat) (f : BusFrame), rankOn s c = some r ∧ f.chan = c ∧ f.ftype = 1 ∧ engineOn s c ≠ 0 ∧ linkBad s
        f = false ∧ f.sched = ownSched s ∧ Timely s f ∧ f.node ≠ nodeOn s c ∧ engineOn s c = 5 ∧ f.rank.toNat = r ∧ Quiet s 83) :=
  ⟨⟨3000000, (busS fun b => {b with engine := 2, collided := 1}), .a, (some 100), (some 300), 2, (Instr.coldstartRetry ⟨3000000, .a⟩
      (some 100) (some 300)), by decide +kernel⟩,
   ⟨130000000, (busS fun b => {b with engine := 1}), .a, none, (some 300), 2, (Instr.listenEnd ⟨130000000, .a⟩ none (some 300)),
       by decide +kernel⟩,
   ⟨3000000, (busS fun b => {b with engine := 2, collided := 2}), .a, none, (some 300), 2, (Instr.coldstartRetry ⟨3000000, .a⟩ none
       (some 300)), by decide +kernel⟩,
   ⟨3000000, (busS fun b => {b with engine := 2, collided := 1}), .a, 2, by decide +kernel⟩,
   ⟨130000000, (busS fun b => {b with engine := 1}), .a, 2, by decide +kernel⟩,
   ⟨(busS id), .a, 2, {ff 1 .a 7 with crc := 0}, by decide +kernel⟩,
   ⟨(busS fun b => {b with engine := 2, collided := 1}), .a, 2, (ff 1 .a 7), by decide +kernel⟩,
   ⟨(busS id), .a, 2, (mkf {ff 1 .a 7 with rank := 2}), by decide +kernel⟩⟩

theorem test_hypotheses_ColdstartMakesOneTimeMaster_2 :
    ∃ (s : State) (c : Chan) (r : Nat) (f : BusFrame), rankOn s c = some r ∧ engineOn s f.chan = 0 :=
  ⟨(busS fun b => {b with engine := 0}), .a, 2, {ff 1 .a 7 with crc := 0}, by decide +kernel⟩

theorem test_hypotheses_SyncFramesSteerTheBelfry_1 :
    (∃ (t : Time) (s : State) (c : Chan) (x : BusFrame) (r : Nat), ∃ i, engineOn s c = 5 ∧ rankOn s c = some r ∧ x.chan ∈ portChans s
        c ∧ x.ftype = 0 ∧ linkBad s x = false ∧ x.sched = ownSched s ∧ x.node ≠ nodeOn s c ∧ x.rank.toNat ≠ r ∧ (i = Instr.syncFrame
        ⟨t, c⟩ (if x.chan = .a then some x else none) (if x.chan = .b then some x else none)) ∧ Timely s x) ∧
    (∃ (t : Time) (s : State) (c : Chan) (x : BusFrame) (r : Nat), ∃ i, engineOn s c = 5 ∧ rankOn s c = some r ∧ x.chan ∈ portChans s
        c ∧ x.ftype = 0 ∧ linkBad s x = false ∧ x.sched = ownSched s ∧ x.node ≠ nodeOn s c ∧ x.rank.toNat ≠ r ∧ (i = Instr.syncFrame
        ⟨t, c⟩ (if x.chan = .a then some x else none) (if x.chan = .b then some x else none)) ∧ (chanBus s x.chan).delay.isSome = true
        ∧ isMaster s c = false ∧ 400 < x.off ∧ x.off ≤ 500) ∧
    (∃ (t : Time) (s : State) (c : Chan) (x : BusFrame) (r : Nat), ∃ i, engineOn s c = 5 ∧ rankOn s c = some r ∧ x.chan ∈ portChans s
        c ∧ x.ftype = 0 ∧ linkBad s x = false ∧ x.sched = ownSched s ∧ x.node ≠ nodeOn s c ∧ x.rank.toNat ≠ r ∧ (i = Instr.syncFrame
        ⟨t, c⟩ (if x.chan = .a then some x else none) (if x.chan = .b then some x else none)) ∧ (chanBus s x.chan).delay.isSome = true
        ∧ isMaster s c = false ∧ 500 < x.off ∧ (port s c).limitRun = 0) ∧
    (∃ (t : Time) (s : State) (c : Chan) (x : BusFrame) (r : Nat), ∃ i, engineOn s c = 5 ∧ rankOn s c = some r ∧ x.chan ∈ portChans s
        c ∧ x.ftype = 0 ∧ linkBad s x = false ∧ x.sched = ownSched s ∧ x.node ≠ nodeOn s c ∧ x.rank.toNat ≠ r ∧ (i = Instr.syncFrame
        ⟨t, c⟩ (if x.chan = .a then some x else none) (if x.chan = .b then some x else none)) ∧ (chanBus s x.chan).delay.isSome = true
        ∧ isMaster s c = false ∧ x.off < -500 ∧ 1 ≤ (port s c).limitRun ∧ Quiet s 82) ∧
    (∃ (t : Time) (s : State) (c : Chan) (x y : BusFrame) (r : Nat), ∃ i, engineOn s c = 5 ∧ rankOn s c = some r ∧ x.chan ∈ portChans
        s c ∧ x.ftype = 0 ∧ linkBad s x = false ∧ x.sched = ownSched s ∧ x.node ≠ nodeOn s c ∧ x.rank.toNat ≠ r ∧ (i = Instr.syncFrame
        ⟨t, c⟩ (if x.chan = .a then some x else none) (if x.chan = .b then some x else none)) ∧ portChans s c = [.a, .b] ∧ x.chan = .a
        ∧ y.chan = .b ∧ y.ftype = 0 ∧ linkBad s y = false ∧ y.sched = ownSched s ∧ y.node = x.node ∧ y.rank = x.rank ∧ inWindow x =
        true ∧ inWindow y = true ∧ (chanBus s .a).delay.isSome = true ∧ (chanBus s .b).delay.isSome = true) ∧
    (∃ (s : State) (c : Chan) (r : Nat), engineOn s c = 5 ∧ rankOn s c = some r ∧ isMaster s c = false) ∧
    (∃ (s : State) (c : Chan) (r : Nat), engineOn s c = 5 ∧ rankOn s c = some r ∧ isMaster s c = true) ∧
    (∃ (s : State) (c : Chan) (r : Nat), engineOn s c = 5 ∧ rankOn s c = some r ∧ 8 ≤ (port s c).noSync) :=
  ⟨⟨2000, (busS fun b => {b with master := some 9}), .a, (sfa 400), 2, (sy (some (sfa 400)) none), by decide +kernel⟩,
   ⟨2000, (busS fun b => {b with master := some 9}), .a, (sfa 500), 2, (sy (some (sfa 500)) none), by decide +kernel⟩,
   ⟨2000, (busS fun b => {b with master := some 9}), .a, (sfa 501), 2, (sy (some (sfa 501)) none), by decide +kernel⟩,
   ⟨2000, (busS fun b => {b with master := some 9, limitRun := 1, noSync := 8, missedRun := 4}), .a, (sfb (-501)), 2, (sy none (some
       (sfb (-501)))), by decide +kernel⟩,
   ⟨2000, (busS fun b => {b with master := some 9}), .a, (sfa 400), (sfb (-400)), 2, (sy (some (sfa 400)) none), by decide +kernel⟩,
   ⟨(busS fun b => {b with master := some 9}), .a, 2, by decide +kernel⟩,
   ⟨(busS fun b => {b with master := some 5, ownSync := true}), .a, 2, by decide +kernel⟩,
   ⟨(busS fun b => {b with master := some 9, limitRun := 1, noSync := 8, missedRun := 4}), .a, 2, by decide +kernel⟩⟩

theorem test_hypotheses_SyncFramesSteerTheBelfry_2 :
    (∃ (s : State) (c : Chan) (r : Nat), engineOn s c = 5 ∧ rankOn s c = some r ∧ (port s c).noSync < 8) ∧
    (∃ (s : State) (c : Chan) (r : Nat), engineOn s c = 5 ∧ rankOn s c = some r ∧ isMaster s c = false ∧ (port s c).missedRun = 2 + r
        ∧ Quiet s 87) ∧
    (∃ (s : State) (c : Chan) (r : Nat), engineOn s c = 5 ∧ rankOn s c = some r ∧ (isMaster s c = true ∨ (port s c).missedRun ≠ 2 +
        r)) ∧
    (∃ (s : State) (c : Chan) (r : Nat), engineOn s c = 5 ∧ rankOn s c = some r) :=
  ⟨⟨(busS fun b => {b with master := some 9}), .a, 2, by decide +kernel⟩,
   ⟨(busS fun b => {b with master := some 9, limitRun := 1, noSync := 8, missedRun := 4}), .a, 2, by decide +kernel⟩,
   ⟨(busS fun b => {b with master := some 9}), .a, 2, by decide +kernel⟩,
   ⟨(busS fun b => {b with master := some 9}), .a, 2, by decide +kernel⟩⟩

theorem test_hypotheses_DelaysComeFromFourMeasurements :
    (∃ (s : State) (f : BusFrame), f.ftype = 5 ∧ linkBad s f = false ∧ f.sched = ownSched s ∧ isMaster s f.chan = true) ∧
    (∃ (s : State) (f : BusFrame), engineOn s f.chan = 0) ∧
    (∃ (f : BusFrame) (ch : Chan), f.chan ≠ ch) ∧
    (∃ (s : State) (f : BusFrame) (tsend trip d : Nat), f.ftype = 6 ∧ engineOn s f.chan ≠ 0 ∧ linkBad s f = false ∧ f.sched = ownSched
        s ∧ Timely s f ∧ field f.body 8 2 = nodeOn s f.chan ∧ (chanBus s f.chan).asked.isSome = true ∧ (chanBus s f.chan).sentAt =
        some (tsend, trip) ∧ d = trip / 2 ∧ d ≤ dmaxNs s ∧ (chanBus s f.chan).measured.length < 3) ∧
    (∃ (s : State) (f : BusFrame) (tsend trip d : Nat), f.ftype = 6 ∧ engineOn s f.chan ≠ 0 ∧ linkBad s f = false ∧ f.sched = ownSched
        s ∧ Timely s f ∧ field f.body 8 2 = nodeOn s f.chan ∧ (chanBus s f.chan).asked.isSome = true ∧ (chanBus s f.chan).sentAt =
        some (tsend, trip) ∧ d = trip / 2 ∧ d ≤ dmaxNs s ∧ (chanBus s f.chan).measured.length = 3 ∧ engineOn s f.chan = 3) ∧
    (∃ (s : State) (f : BusFrame) (tsend trip d : Nat), f.ftype = 6 ∧ engineOn s f.chan ≠ 0 ∧ linkBad s f = false ∧ f.sched = ownSched
        s ∧ Timely s f ∧ field f.body 8 2 = nodeOn s f.chan ∧ (chanBus s f.chan).asked.isSome = true ∧ (chanBus s f.chan).sentAt =
        some (tsend, trip) ∧ d = trip / 2 ∧ dmaxNs s < d ∧ Quiet s 82) ∧
    (∃ (s : State) (ch : Chan), ∃ n, (chanBus s ch).asked = some n ∧ 2 ≤ n ∧ (engineOn s ch = 3 ∨ engineOn s ch = 5)) ∧
    (∃ (s : State) (ch : Chan), ∃ n, (chanBus s ch).asked = some n ∧ n < 2) :=
  ⟨⟨(busS fun b => {b with master := some 5}), (ff 5 .a 170 400), by decide +kernel⟩,
   ⟨(busS fun b => {b with engine := 0}), (ff 6 .a 170), by decide +kernel⟩,
   ⟨(ff 6 .a 170), .b, by decide +kernel⟩,
   ⟨(chA (fun y => {y with asked := some 1, measured := [1, 2], sentAt := some (900, 1001)}) fun b => {b with engine := 3}), (ff 6 .a
       170 (-400)), 900, 1001, 500, by decide +kernel⟩,
   ⟨(chA (fun y => {y with asked := some 1, measured := [1, 2, 3], sentAt := some (900, 1001)}) fun b => {b with engine := 3}), (ff 6
       .a 170 (-400)), 900, 1001, 500, by decide +kernel⟩,
   ⟨(chA fun y => {y with asked := some 1, sentAt := some (900, 2002)}), (ff 6 .a 170), 900, 2002, 1001, by decide +kernel⟩,
   ⟨(chA fun y => {y with asked := some 2, sentAt := some (900, 1000)}), .a, 2, by decide +kernel⟩,
   ⟨(chA (fun y => {y with asked := some 1, measured := [1, 2, 3], sentAt := some (900, 1001)}) fun b => {b with engine := 3}), .a, 1,
       by decide +kernel⟩⟩

theorem test_hypotheses_PositionsAreSentByTheSchedule_1 :
    (∃ (s : State) (ch : Chan) (b : Fin 64) (p : Fin 200), engineOn s ch = 5 ∧ p.val < 160 ∧ ownsEntry s ch (schedAt s ch b.val p.val)
        = false) ∧
    (∃ (s : State) (ch : Chan) (b : Fin 64) (p : Fin 200), ∃ e, engineOn s ch = 5 ∧ schedAt s ch b.val p.val = e ∧ p.val < 160 ∧
        e.kind = 2 ∧ e.pair = false ∧ e.node = nodeOn s ch ∧ inSplit s = false ∧ (chanBus s ch).delay.isSome = true ∧ sessionSilent s
        = false ∧ tget [] s.bus.telegrams (512 + e.peer) ≠ [] ∧ guardianCuts (rateOn s ch) (tget [] s.bus.telegrams (512 +
        e.peer)).length e.span = false) ∧
    (∃ (s : State) (ch : Chan) (b : Fin 64) (p : Fin 200), ∃ e, engineOn s ch = 5 ∧ schedAt s ch b.val p.val = e ∧ p.val < 160 ∧
        e.kind = 2 ∧ e.pair = false ∧ e.node = nodeOn s ch ∧ inSplit s = false ∧ (chanBus s ch).delay.isSome = true ∧ sessionSilent s
        = false ∧ tget [] s.bus.telegrams (512 + e.peer) ≠ [] ∧ guardianCuts (rateOn s ch) (tget [] s.bus.telegrams (512 +
        e.peer)).length e.span = true) ∧
    (∃ (s : State) (ch : Chan) (p : Fin 200) (back : Option Nat), engineOn s ch = 5 ∧ p.val = 160 ∧ isMaster s ch = true ∧ (chanBus s
        ch).delay.isSome = true ∧ ((back.all fun n => decide (n / 2 ≤ dmaxNs s)) = true)) ∧
    (∃ (s : State) (ch : Chan) (p : Fin 200), engineOn s ch = 5 ∧ p.val = 160 ∧ (isMaster s ch = false ∨ (chanBus s ch).delay = none)) ∧
    (∃ (t : Time) (s : State) (ch : Chan) (b : Fin 64) (p : Fin 200) (back : Option Nat), ∃ f c, engineOn s ch = 5 ∧ nextArbitrating s
        ch = some f ∧ f.ftype ≠ 7 ∧ f.ftype ≠ 5 ∧ arbitratingFits s ch p.val f.body.length = true ∧ (chanBus s ch).delay.isSome = true
        ∧ ((c = Instr.transmitPosition t ch b p ⟨back, []⟩ ∧ (chanBus s ch).tries = 0) ∨ (c = Instr.arbitrationRetry t ch b p back ∧ 0
        < (chanBus s ch).tries ∧ (chanBus s ch).backoff = 0)) ∧ back.isSome = true) ∧
    (∃ (t : Time) (s : State) (ch : Chan) (b : Fin 64) (p : Fin 200) (back : Option Nat), ∃ f c, engineOn s ch = 5 ∧ nextArbitrating s
        ch = some f ∧ f.ftype ≠ 7 ∧ f.ftype ≠ 5 ∧ arbitratingFits s ch p.val f.body.length = true ∧ (chanBus s ch).delay.isSome = true
        ∧ ((c = Instr.transmitPosition t ch b p ⟨back, []⟩ ∧ (chanBus s ch).tries = 0) ∨ (c = Instr.arbitrationRetry t ch b p back ∧ 0
        < (chanBus s ch).tries ∧ (chanBus s ch).backoff = 0)) ∧ back = none ∧ (chanBus s ch).tries < 15) ∧
    (∃ (t : Time) (s : State) (ch : Chan) (b : Fin 64) (p : Fin 200) (back : Option Nat), ∃ f c, engineOn s ch = 5 ∧ nextArbitrating s
        ch = some f ∧ f.ftype ≠ 7 ∧ f.ftype ≠ 5 ∧ arbitratingFits s ch p.val f.body.length = true ∧ (chanBus s ch).delay.isSome = true
        ∧ ((c = Instr.transmitPosition t ch b p ⟨back, []⟩ ∧ (chanBus s ch).tries = 0) ∨ (c = Instr.arbitrationRetry t ch b p back ∧ 0
        < (chanBus s ch).tries ∧ (chanBus s ch).backoff = 0)) ∧ back = none ∧ (chanBus s ch).tries = 15) :=
  ⟨⟨(busS id), .a, 0, 7, by decide +kernel⟩,
   ⟨(busS fun b => {b with telegrams := [(516, [3,4,5])]}), .a, 0, 3, ⟨2, 5, 20, false, 4⟩, by decide +kernel⟩,
   ⟨(busS fun b => {b with telegrams := [(516, List.replicate 3000 1)]}), .a, 0, 3, ⟨2, 5, 20, false, 4⟩, by decide +kernel⟩,
   ⟨(busS fun b => {b with master := some 5}), .a, 160, (some 4), by decide +kernel⟩,
   ⟨(busS fun b => {b with master := some 8}), .a, 160, by decide +kernel⟩,
   ⟨2000, (chA fun y => {y with queue := [⟨5, qf⟩], tries := 1}), .a, 0, 170, (some 4), qf, (rq 170 (some 4)), by decide +kernel⟩,
   ⟨2000, (chA fun y => {y with queue := [⟨5, qf⟩]}), .a, 0, 170, none, qf, (tx 170 none), by decide +kernel⟩,
   ⟨2000, (chA fun y => {y with queue := [⟨5, qf⟩], tries := 15}), .a, 0, 170, none, qf, (rq 170 none), by decide +kernel⟩⟩

theorem test_hypotheses_PositionsAreSentByTheSchedule_2 :
    (∃ (s : State) (ch : Chan) (p : Fin 200), engineOn s ch = 5 ∧ 161 ≤ p.val ∧ 0 < (chanBus s ch).tries ∧ (chanBus s ch).delay.isSome
        = true) ∧
    (∃ (s : State) (ch : Chan), engineOn s ch = 5 ∧ 0 < (chanBus s ch).backoff) ∧
    (∃ (s : State) (ch : Chan), engineOn s ch = 5 ∧ Quiet s 84) :=
  ⟨⟨(chA fun y => {y with queue := [⟨5, qf⟩], tries := 1}), .a, 170, by decide +kernel⟩,
   ⟨(chA fun y => {y with queue := [⟨5, qf⟩], tries := 1, backoff := 1}), .a, by decide +kernel⟩,
   ⟨(busS fun b => {b with telegrams := [(516, [3,4,5])]}), .a, by decide +kernel⟩⟩

theorem test_hypotheses_ReceivedFramesAreCheckedAndCounted_1 :
    (∃ (t : Time) (s : State) (f : BusFrame), ∃ c, (c = Instr.nonVitalFrame t f ∨ c = Instr.multiPartnerDownFrame t f ∨ (c =
        Instr.forwardFrame t f ∧ inSplit s = false)) ∧ engineOn s f.chan = 0) ∧
    (∃ (t : Time) (s : State) (f : BusFrame), ∃ c, (c = Instr.nonVitalFrame t f ∨ c = Instr.multiPartnerDownFrame t f ∨ (c =
        Instr.forwardFrame t f ∧ inSplit s = false)) ∧ engineOn s f.chan ≠ 0 ∧ linkBad s f = true) ∧
    (∃ (t : Time) (s : State) (f : BusFrame), ∃ c, (c = Instr.nonVitalFrame t f ∨ c = Instr.multiPartnerDownFrame t f ∨ (c =
        Instr.forwardFrame t f ∧ inSplit s = false)) ∧ engineOn s f.chan ≠ 0 ∧ linkBad s f = false ∧ f.sched ≠ ownSched s) ∧
    (∃ (t : Time) (s : State) (f : BusFrame), ∃ c, (c = Instr.nonVitalFrame t f ∨ c = Instr.multiPartnerDownFrame t f ∨ (c =
        Instr.forwardFrame t f ∧ inSplit s = false)) ∧ engineOn s f.chan ≠ 0 ∧ linkBad s f = false ∧ f.sched = ownSched s ∧ expects s
        f.chan = true ∧ inWindow f = false) ∧
    (∃ (t : Time) (s : State) (f : BusFrame), ∃ c, (c = Instr.nonVitalFrame t f ∨ c = Instr.multiPartnerDownFrame t f ∨ (c =
        Instr.forwardFrame t f ∧ inSplit s = false)) ∧ engineOn s f.chan ≠ 0 ∧ linkBad s f = false ∧ f.sched = ownSched s ∧ Timely s
        f) ∧
    (∃ (s : State) (f : BusFrame), ∃ e, inSplit s = true ∧ engineOn s f.chan = 5 ∧ linkBad s f = false ∧ f.sched = ownSched s ∧ Timely
        s f ∧ ((cluster? s).map (fun x => x.fwd) = some [e]) ∧ e.inport = f.chan ∧ e.ibcyc = f.bcyc ∧ e.ipos = f.pos) ∧
    (∃ (s : State) (f : BusFrame), engineOn s f.chan ≠ 0 ∧ linkBad s f = false ∧ f.sched ≠ ownSched s ∧ 63 ≤ (port s
        f.chan).foreignRun ∧ Quiet s 86) ∧
    (∃ (s : State) (f : BusFrame), engineOn s f.chan ≠ 0 ∧ linkBad s f = false ∧ f.sched ≠ ownSched s ∧ (port s f.chan).foreignRun <
        63) :=
  ⟨⟨2000, (busS fun b => {b with engine := 0}), fg, (.nonVitalFrame 2000 fg), by decide +kernel⟩,
   ⟨2000, (busS id), {fg with crc := 0}, (.multiPartnerDownFrame 2000 {fg with crc := 0}), by decide +kernel⟩,
   ⟨2000, (busS fun b => {b with foreignRun := 63}), fg2, (.multiPartnerDownFrame 2000 fg2), by decide +kernel⟩,
   ⟨2000, (chA fun y => {y with silent := 8}), fg3, (.forwardFrame 2000 fg3), by decide +kernel⟩,
   ⟨2000, (let s := busS fun b => {b with master := some 5}; {s with station := s.station.map fun d => {d with cluster := {d.cluster with syncin := true}}}), fg, (.nonVitalFrame 2000 fg), by decide +kernel⟩,
   ⟨(inMode (chA fun y => {y with silent := 7}) Mode.split), fg, ⟨.a, 0, 7, 1, 9⟩, by decide +kernel⟩,
   ⟨(busS fun b => {b with foreignRun := 63}), fg2, by decide +kernel⟩,
   ⟨(busS fun b => {b with foreignRun := 62}), fg2, by decide +kernel⟩⟩

theorem test_hypotheses_ReceivedFramesAreCheckedAndCounted_2 :
    (∃ (s : State) (ch : Chan), engineOn s ch = 5 ∧ 8 ≤ (chanBus s ch).silent ∧ Quiet s (80 + chanNo ch)) ∧
    (∃ (s : State) (ch : Chan), engineOn s ch = 5 ∧ (chanBus s ch).silent < 8) ∧
    (∃ s : State, (isMaster s .a = false ∨ ((cluster? s).any fun x => x.syncin) = false)) ∧
    (∃ s : State, isMaster s .a = true ∧ (((cluster? s).any fun x => x.syncin) = true)) ∧
    (∃ (s : State) (ch : Chan), engineOn s ch = 0) ∧
    (∃ (s : State) (ch : Chan), engineOn s ch = 5) ∧
    (∃ (s : State) (ch : Chan), engineOn s ch = 4 ∧ (port s ch).observing = true ∧ (port s ch).matrixOk = true ∧ (port s ch).synced =
        64) ∧
    (∃ (s : State) (ch : Chan), engineOn s ch = 4 ∧ ((port s ch).observing = false ∨ (port s ch).matrixOk = false ∨ (port s ch).synced
        ≠ 64)) :=
  ⟨⟨(chA fun y => {y with silent := 8}), .a, by decide +kernel⟩,
   ⟨(busS fun b => {b with foreignRun := 63}), .a, by decide +kernel⟩,
   ⟨(busS fun b => {b with foreignRun := 63}), by decide +kernel⟩,
   ⟨(let s := busS fun b => {b with master := some 5}; {s with station := s.station.map fun d => {d with cluster := {d.cluster with syncin := true}}}), by decide +kernel⟩,
   ⟨(busS fun b => {b with engine := 0}), .a, by decide +kernel⟩,
   ⟨(busS fun b => {b with foreignRun := 63}), .a, by decide +kernel⟩,
   ⟨(busS fun b => {b with engine := 4, observing := true, matrixOk := true, synced := 64}), .a, by decide +kernel⟩,
   ⟨(busS fun b => {b with engine := 4, observing := true, matrixOk := true, synced := 63}), .a, by decide +kernel⟩⟩

theorem test_hypotheses_VitalTelegramsAreVerifiedByEveryLane :
    (∃ s : State, s.bus.engine = 5 ∧ inSplit s = false) ∧
    (∃ (s : State) (f g : BusFrame), s.bus.engine = 5 ∧ inSplit s = false ∧ f.chan = .a ∧ g.chan = .b ∧ f.ftype = 2 ∧ g.ftype = 2 ∧
        linkBad s f = false ∧ linkBad s g = false ∧ f.sched = ownSched s ∧ g.sched = ownSched s ∧ Timely s f ∧ Timely s g ∧ crossRuns
        s 6 = true ∧ crossRuns s 7 = true ∧ (telegramEntry s f).isSome = true ∧ (telegramEntry s g).isSome = true ∧ f.body ≠ g.body ∧
        Quiet s 85) ∧
    (∃ (s : State) (f g : BusFrame), ∃ k q j, s.bus.engine = 5 ∧ inSplit s = false ∧ f.chan = .a ∧ g.chan = .b ∧ f.ftype = 2 ∧ g.ftype
        = 2 ∧ linkBad s f = false ∧ linkBad s g = false ∧ f.sched = ownSched s ∧ g.sched = ownSched s ∧ Timely s f ∧ Timely s g ∧
        crossRuns s 6 = true ∧ crossRuns s 7 = true ∧ (telegramEntry s f).isSome = true ∧ (telegramEntry s g).isSome = true ∧ f.body =
        g.body ∧ telegramSlot s f = some k ∧ (sess s k).partner.bind (partner? s) = some q ∧ verifyTelegram s q (sess s k) f.body =
        .ok j ∧ testGiven (sess s k) f.body = true ∧ s.modes.mode ≠ .testTrack ∧ Quiet s 93) ∧
    (∃ (s : State) (f g : BusFrame) (l : List Lane), ∃ k q j, s.bus.engine = 5 ∧ inSplit s = false ∧ f.chan = .a ∧ g.chan = .b ∧
        f.ftype = 2 ∧ g.ftype = 2 ∧ linkBad s f = false ∧ linkBad s g = false ∧ f.sched = ownSched s ∧ g.sched = ownSched s ∧ Timely s
        f ∧ Timely s g ∧ crossRuns s 6 = true ∧ crossRuns s 7 = true ∧ (telegramEntry s f).isSome = true ∧ (telegramEntry s g).isSome
        = true ∧ f.body = g.body ∧ telegramSlot s f = some k ∧ (sess s k).partner.bind (partner? s) = some q ∧ verifyTelegram s q
        (sess s k) f.body = .ok j ∧ (testGiven (sess s k) f.body = false ∨ s.modes.mode = .testTrack) ∧ ((voters s).filter (fun x =>
        l.contains x) = [])) ∧
    (∃ (s : State) (f g : BusFrame) (l : List Lane), ∃ k q j, s.bus.engine = 5 ∧ inSplit s = false ∧ f.chan = .a ∧ g.chan = .b ∧
        f.ftype = 2 ∧ g.ftype = 2 ∧ linkBad s f = false ∧ linkBad s g = false ∧ f.sched = ownSched s ∧ g.sched = ownSched s ∧ Timely s
        f ∧ Timely s g ∧ crossRuns s 6 = true ∧ crossRuns s 7 = true ∧ (telegramEntry s f).isSome = true ∧ (telegramEntry s g).isSome
        = true ∧ f.body = g.body ∧ telegramSlot s f = some k ∧ (sess s k).partner.bind (partner? s) = some q ∧ verifyTelegram s q
        (sess s k) f.body = .ok j ∧ (testGiven (sess s k) f.body = false ∨ s.modes.mode = .testTrack) ∧ ((voters s).filter (fun x =>
        l.contains x) ≠ []) ∧ ((voters s).filter (fun x => l.contains x) ≠ voters s) ∧ Quiet s 92) ∧
    (∃ s : State, ∃ k y, s.bus.engine = 5 ∧ inSplit s = false ∧ s.sessions.slots = [(k, y)] ∧ y.state = 1 ∧ y.stamped = true ∧
        y.opensAt = s.bus.matrix + 1) ∧
    (∃ s : State, ∃ k y, s.bus.engine = 5 ∧ inSplit s = false ∧ s.sessions.slots = [(k, y)] ∧ (y.state = 2 ∨ (y.state = 1 ∧ (y.stamped
        = false ∨ y.opensAt ≠ s.bus.matrix + 1)))) ∧
    (∃ s : State, ∃ k y, s.bus.engine = 5 ∧ inSplit s = false ∧ s.sessions.slots = [(k, y)] ∧ y.state = 3) :=
  ⟨⟨vs, by decide +kernel⟩,
   ⟨vs, (ft .a (tel vs)), (ft .b ((tel vs).reverse)), by decide +kernel⟩,
   ⟨vs, (ft .a (telT vs)), (ft .b (telT vs)), 3, pq, 2, by decide +kernel⟩,
   ⟨vs, (ft .a (tel vs)), (ft .b (tel vs)), [], 3, pq, 2, by decide +kernel⟩,
   ⟨vs, (ft .a (tel vs)), (ft .b (tel vs)), [.b], 3, pq, 2, by decide +kernel⟩,
   ⟨(sesF 3 {ses0 with state := 1, stamped := true, opensAt := 1} vs), 3, {ses0 with state := 1, stamped := true, opensAt := 1},
       by decide +kernel⟩,
   ⟨(sesF 3 {ses0 with state := 1, opensAt := 1} vs), 3, {ses0 with state := 1, opensAt := 1}, by decide +kernel⟩,
   ⟨(sesF 3 {ses0 with state := 3, reason := 4} vs), 3, {ses0 with state := 3, reason := 4}, by decide +kernel⟩⟩

theorem test_hypotheses_PartnersAreAdmittedOrRefused_1 :
    (∃ (s : State) (c : Chan) (f : BusFrame) (o : OpenFrame), openForUs s c o = true ∧ Quiet s 94 ∧ Arrives s c 1 f o ∧ sessionSilent
        s = true) ∧
    (∃ (s : State) (c : Chan) (f : BusFrame) (o : OpenFrame), openForUs s c o = true ∧ Quiet s 94 ∧ Arrives s c 1 f o ∧ sessionSilent
        s = false ∧ s.sessions.quiet.contains f.node = false ∧ Quiet s 88 ∧ modeRefuses s = true) ∧
    (∃ (s : State) (c : Chan) (f : BusFrame) (o : OpenFrame), openForUs s c o = true ∧ Quiet s 94 ∧ Arrives s c 1 f o ∧ sessionSilent
        s = false ∧ s.sessions.quiet.contains f.node = false ∧ Quiet s 88 ∧ modeRefuses s = false ∧ partnerOf s o.ptype o.ident = none
        ∧ s.sessions.strangers.length < 32 ∧ (∀ y ∈ s.sessions.strangers, y.node ≠ f.node)) ∧
    (∃ (s : State) (c : Chan) (f : BusFrame) (k q : Nat) (o : OpenFrame) (x : Partner), ∃ pol code, openForUs s c o = true ∧ Quiet s
        94 ∧ Arrives s c 1 f o ∧ sessionSilent s = false ∧ s.sessions.quiet.contains f.node = false ∧ Quiet s 88 ∧ modeRefuses s =
        false ∧ partnerOf s o.ptype o.ident = some (q, x) ∧ slotOfPartner s q = none ∧ (∀ y ∈ s.sessions.promised, y.sess.partner ≠
        some q) ∧ freeSess s = some k ∧ policy? s x.ptype = some pol ∧ negotiate s o pol x = .error code) ∧
    (∃ (s : State) (c : Chan) (f : BusFrame) (k q : Nat) (o : OpenFrame) (x : Partner), ∃ pol opt l, openForUs s c o = true ∧ Quiet s
        94 ∧ Arrives s c 1 f o ∧ sessionSilent s = false ∧ s.sessions.quiet.contains f.node = false ∧ Quiet s 88 ∧ modeRefuses s =
        false ∧ partnerOf s o.ptype o.ident = some (q, x) ∧ slotOfPartner s q = none ∧ (∀ y ∈ s.sessions.promised, y.sess.partner ≠
        some q) ∧ freeSess s = some k ∧ policy? s x.ptype = some pol ∧ negotiate s o pol x = .ok opt ∧ positionsOk s x.ptype f.node =
        true ∧ (l = freeSlices s (if x.ptype = 0 then opt.payload / 16 else 0)) ∧ (l.length = (if x.ptype = 0 then opt.payload / 16
        else 0))) ∧
    (∃ (s : State) (c : Chan) (f : BusFrame) (k q : Nat) (o : OpenFrame) (x : Partner), openForUs s c o = true ∧ Quiet s 94 ∧
        partnerOf s o.ptype o.ident = some (q, x) ∧ inSplit s = false ∧ s.sessions.sentOpen.contains q = true ∧ strangerOf s f.node o
        = none ∧ Arrives s c 2 f o ∧ x.ptype = 1 ∧ slotOfPartner s q = none ∧ freeSess s = some k) ∧
    (∃ (s : State) (c : Chan) (f : BusFrame) (q : Nat) (o : OpenFrame) (x : Partner), openForUs s c o = true ∧ Quiet s 94 ∧ partnerOf
        s o.ptype o.ident = some (q, x) ∧ inSplit s = false ∧ s.sessions.sentOpen.contains q = true ∧ strangerOf s f.node o = none ∧
        Arrives s c 3 f o ∧ o.reason = 7) ∧
    (∃ (s : State) (c : Chan) (f : BusFrame) (q : Nat) (o : OpenFrame) (x : Partner), openForUs s c o = true ∧ Quiet s 94 ∧ partnerOf
        s o.ptype o.ident = some (q, x) ∧ inSplit s = false ∧ s.sessions.sentOpen.contains q = true ∧ strangerOf s f.node o = none ∧
        Arrives s c 3 f o ∧ o.reason ≠ 7) :=
  ⟨⟨(inMode (sS id) Mode.standby), .a, (opn 1 of0), of0, by decide +kernel⟩,
   ⟨(inMode (sS id) Mode.split), .a, (opn 1 of0), of0, by decide +kernel⟩,
   ⟨(sS id), .a, (opn 1 {of0 with ident := 0x12345}), {of0 with ident := 0x12345}, by decide +kernel⟩,
   ⟨(sS id), .a, (opn 1 {of0 with gens := 0}), 0, 2, {of0 with gens := 0}, pA, pol0, (1 : U8), by decide +kernel⟩,
   ⟨(sS id), .a, (opn 1 of0), 0, 2, of0, pA, pol0, op0, (freeSlices (sS id) 1), by decide +kernel⟩,
   ⟨(sS fun y => {y with sentOpen := [4,7]}), .a, (opn 2 of4), 0, 4, of4, (qp ⟨1, 9, 0, 88, false, 0, []⟩), by decide +kernel⟩,
   ⟨(sS fun y => {y with sentOpen := [4,7]}), .a, (opn 3 {of4 with reason := 7}), 4, {of4 with reason := 7}, (qp ⟨1, 9, 0, 88, false,
       0, []⟩), by decide +kernel⟩,
   ⟨(sS fun y => {y with sentOpen := [4,7]}), .a, (opn 3 {of4 with reason := 5}), 4, {of4 with reason := 5}, (qp ⟨1, 9, 0, 88, false,
       0, []⟩), by decide +kernel⟩⟩

theorem test_hypotheses_PartnersAreAdmittedOrRefused_2 :
    (∃ (s : State) (c : Chan) (k : Nat) (p : Fin 200), ∃ g y, engineOn s c = 5 ∧ (chanBus s c).delay.isSome = true ∧ (chanBus s
        c).tries = 0 ∧ nextArbitrating s c = some g ∧ acceptSlot g = some k ∧ ((s.sessions.promised.find? fun z => z.slot == k) = some
        y) ∧ arbitratingFits s c p.val g.body.length = true) ∧
    (∃ (s : State) (q : Nat) (x : Partner), partner? s q = some x ∧ x.ptype = 1 ∧ sessionSilent s = false ∧ s.bus.engine = 5 ∧
        modeRefuses s = false ∧ slotOfPartner s q = none ∧ s.sessions.waiting.contains q = false ∧ ownSession s < partnerAddr x) ∧
    (∃ (s : State) (q : Nat) (x : Partner), partner? s q = some x ∧ partnerAddr x ≤ ownSession s) :=
  ⟨⟨afterOpen, accCh, accY.slot, 170, accF, accY, by decide +kernel⟩,
   ⟨(sS fun y => {y with sentOpen := [4,7]}), 4, (qp ⟨1, 9, 0, 88, false, 0, []⟩), by decide +kernel⟩,
   ⟨(inMode (sS id) Mode.split), 2, pA, by decide +kernel⟩⟩

theorem test_hypotheses_SessionsEndAndStrangersExpire_1 :
    (∃ (s : State) (c : Chan) (f : BusFrame) (k q : Nat) (o : OpenFrame) (x : Partner), openForUs s c o = true ∧ inSplit s = false ∧
        strangerOf s f.node o = none ∧ partnerOf s o.ptype o.ident = some (q, x) ∧ slotOfPartner s q = some k ∧ Arrives s c 4 f o ∧
        (sess s k).state = 3) ∧
    (∃ (s : State) (c : Chan) (f : BusFrame) (k q : Nat) (o : OpenFrame) (x : Partner), openForUs s c o = true ∧ inSplit s = false ∧
        strangerOf s f.node o = none ∧ partnerOf s o.ptype o.ident = some (q, x) ∧ slotOfPartner s q = some k ∧ Arrives s c 4 f o ∧
        (sess s k).state ≠ 3) ∧
    (∃ (t : Time) (s : State) (c : Chan) (f : BusFrame) (o : OpenFrame), ∃ i, i ∈ [Instr.sessionOpen ⟨t, c⟩ f o, .sessionAccept ⟨t, c⟩
        f o, .sessionRefuse ⟨t, c⟩ f o, .sessionClose ⟨t, c⟩ f o, .diagRequest ⟨t, c⟩ f o, .diagReply ⟨t, c⟩ f o] ∧ (f.chan ≠ c ∨
        engineOn s c = 0)) ∧
    (∃ (s : State) (q : Nat) (slot : Fin 512), (sess s slot.val).state = 2 ∧ (sess s slot.val).firstCyc.isSome = true ∧ (sess s
        slot.val).partner = some q ∧ tmoOf s (sess s slot.val) ≤ (sess s slot.val).missed ∧ Quiet s 90) ∧
    (∃ (s : State) (q : Nat) (slot : Fin 512), (sess s slot.val).state = 2 ∧ (sess s slot.val).firstCyc.isSome = true ∧ (sess s
        slot.val).partner = some q ∧ (sess s slot.val).missed < tmoOf s (sess s slot.val)) ∧
    (∃ (s : State) (slot : Fin 512), (sess s slot.val).state ≠ 2) ∧
    (∃ (t : Time) (s : State) (slot : Fin 512) (ch : Fin 8), Serves s t ∧ authorised s ch.val = true ∧ (sess s slot.val).state = 2) ∧
    (∃ (t : Time) (s : State) (slot : Fin 512) (ch : Fin 8), Serves s t ∧ authorised s ch.val = true ∧ (sess s slot.val).state ≠ 2) :=
  ⟨⟨(sesF 3 {ses0 with state := 3} (sS id)), .a, (opn 4 of0), 3, 2, of0, pA, by decide +kernel⟩,
   ⟨(sesF 3 {ses0 with missed := 1000} (sS id)), .a, (opn 4 of0), 3, 2, of0, pA, by decide +kernel⟩,
   ⟨5, (sesF 3 {ses0 with missed := 0} (sS id)), .b, (opn 4 of0), of0, (Instr.sessionClose ⟨5, .b⟩ (opn 4 of0) of0), by decide +kernel⟩,
   ⟨(sesF 3 {ses0 with missed := 1000} (sS id)), 2, 3, by decide +kernel⟩,
   ⟨(sesF 3 {ses0 with missed := 0} (sS id)), 2, 3, by decide +kernel⟩,
   ⟨strS, 4, by decide +kernel⟩,
   ⟨5, (sesF 3 {ses0 with missed := 1000} (sS id)), 3, 0, by decide +kernel⟩,
   ⟨5, strS, 4, 0, by decide +kernel⟩⟩

theorem test_hypotheses_SessionsEndAndStrangersExpire_2 :
    (∃ (t : Time) (s : State) (ch : Fin 8) (v : U8), Serves s t ∧ authorised s ch.val = true ∧ v ≠ 1) ∧
    (∃ (s : State) (c : Chan) (f : BusFrame) (o : OpenFrame), ∃ y, openForUs s c o = true ∧ inSplit s = false ∧ s.sessions.strangers =
        [y] ∧ y.node = f.node ∧ y.ident = o.ident ∧ Arrives s c 5 f o ∧ (policy? s 3).isSome = true ∧ sessionSilent s = false) ∧
    (∃ (s : State) (c : Chan) (f : BusFrame) (o : OpenFrame), ∃ y, openForUs s c o = true ∧ inSplit s = false ∧ s.sessions.strangers =
        [y] ∧ y.node = f.node ∧ y.ident = o.ident ∧ Arrives s c 5 f o ∧ policy? s 3 = none) ∧
    (∃ (s : State) (c : Chan) (f : BusFrame) (o : OpenFrame), ∃ y, openForUs s c o = true ∧ inSplit s = false ∧ s.sessions.strangers =
        [y] ∧ y.node = f.node ∧ y.ident = o.ident ∧ Arrives s c 6 f o) ∧
    (∃ (s : State) (c : Chan) (o : OpenFrame), openForUs s c o = false) :=
  ⟨⟨5, (sesF 3 {ses0 with missed := 1000} (sS id)), 0, 4, by decide +kernel⟩,
   ⟨strS, .a, (opn 5 ofS), ofS, (⟨9, 0x77777777, 3, 5⟩ : Stranger), by decide +kernel⟩,
   ⟨({strS with station := strS.station.map fun d => {d with policies := [(0,some pol0)]}}), .a, (opn 5 ofS), ofS, (⟨9, 0x77777777, 3,
       5⟩ : Stranger), by decide +kernel⟩,
   ⟨strS, .a, (opn 6 ofS), ofS, (⟨9, 0x77777777, 3, 5⟩ : Stranger), by decide +kernel⟩,
   ⟨strS, .a, {ofS with target := 600}, by decide +kernel⟩⟩

theorem test_hypotheses_TransfersCarryReadsAndWrites_1 :
    (∃ (t : Time) (s : State) (q : HostReq) (data : List Byte) (size next blk seg : Nat) (code : U16) (c : ChannelSt), ∃ i, Serves s t
        ∧ (hostBus s q.bus).state = 1 ∧ hostCrosses s q.bus = true ∧ chanSt s q.chan.val = c ∧ c.cut = none ∧ addressed s q.place =
        false ∧ i ∈ [Instr.read t q, .writeExpedited t q data, .writeSegmented t q size, .abortTransfer t q code, .segment t q.place
        q.chan q.tid seg false data, .blockAcknowledge t q.place q.chan q.tid next blk]) ∧
    (∃ (t : Time) (s : State) (q : HostReq) (data : List Byte) (size : Nat) (c : ChannelSt), ∃ i, Serves s t ∧ (hostBus s q.bus).state
        = 1 ∧ hostCrosses s q.bus = true ∧ chanSt s q.chan.val = c ∧ c.cut = none ∧ addressed s q.place = true ∧ unknownForm q = true
        ∧ i ∈ [Instr.read t q, .writeExpedited t q data, .writeSegmented t q size]) ∧
    (∃ (t : Time) (s : State) (q : HostReq) (data : List Byte) (size : Nat) (c : ChannelSt) (x : State), ∃ i, Serves s t ∧ (hostBus s
        q.bus).state = 1 ∧ hostCrosses s q.bus = true ∧ chanSt s q.chan.val = c ∧ c.cut = none ∧ addressed s q.place = true ∧
        unknownForm q = false ∧ x = noteTransfer (frameIn (s.atTime t) q.bus q.chan.val) q ∧ (i = Instr.read t q ∨ (i =
        Instr.writeExpedited t q data ∧ data.length ≤ 56) ∨ i = Instr.writeSegmented t q size) ∧ c.transfer.isSome = true) ∧
    (∃ (t : Time) (s : State) (q : HostReq) (data : List Byte) (c : ChannelSt) (x : State), Serves s t ∧ (hostBus s q.bus).state = 1 ∧
        hostCrosses s q.bus = true ∧ chanSt s q.chan.val = c ∧ c.cut = none ∧ addressed s q.place = true ∧ unknownForm q = false ∧ x =
        noteTransfer (frameIn (s.atTime t) q.bus q.chan.val) q ∧ c.transfer = none ∧ readEntry x q.chan.val q.index q.sub = .ok (x,
        data) ∧ data.length ≤ 56) ∧
    (∃ (t : Time) (s : State) (q : HostReq) (code : U16) (c : ChannelSt) (x : State), Serves s t ∧ (hostBus s q.bus).state = 1 ∧
        hostCrosses s q.bus = true ∧ chanSt s q.chan.val = c ∧ c.cut = none ∧ addressed s q.place = true ∧ unknownForm q = false ∧ x =
        noteTransfer (frameIn (s.atTime t) q.bus q.chan.val) q ∧ c.transfer = none ∧ readEntry x q.chan.val q.index q.sub = .error
        code) ∧
    (∃ (t : Time) (s : State) (q : HostReq) (data : List Byte) (code : U16) (c : ChannelSt) (x : State), Serves s t ∧ (hostBus s
        q.bus).state = 1 ∧ hostCrosses s q.bus = true ∧ chanSt s q.chan.val = c ∧ c.cut = none ∧ addressed s q.place = true ∧
        unknownForm q = false ∧ x = noteTransfer (frameIn (s.atTime t) q.bus q.chan.val) q ∧ c.transfer = none ∧ data.length ≤ 56 ∧
        writeEntry x q.chan.val q.index q.sub data = (x, some code)) ∧
    (∃ (t : Time) (s : State) (q : HostReq) (data : List Byte) (c : ChannelSt) (x : State), Serves s t ∧ (hostBus s q.bus).state = 1 ∧
        hostCrosses s q.bus = true ∧ chanSt s q.chan.val = c ∧ c.cut = none ∧ addressed s q.place = true ∧ unknownForm q = false ∧ x =
        noteTransfer (frameIn (s.atTime t) q.bus q.chan.val) q ∧ c.transfer = none ∧ data.length = 4 ∧ q.index = 0x2510 ∧ q.sub = 1) ∧
    (∃ (t : Time) (s : State) (q : HostReq) (size : Nat) (c : ChannelSt) (x : State), Serves s t ∧ (hostBus s q.bus).state = 1 ∧
        hostCrosses s q.bus = true ∧ chanSt s q.chan.val = c ∧ c.cut = none ∧ addressed s q.place = true ∧ unknownForm q = false ∧ x =
        noteTransfer (frameIn (s.atTime t) q.bus q.chan.val) q ∧ c.transfer = none ∧ openRefusal x q size = none) :=
  ⟨⟨2000000000, (hS id), {rd with place := ⟨.hl1, 4, true, 0⟩}, [], 100, 0, 8, 0, 0, (chanSt (hS id) 0), (Instr.abortTransfer
      2000000000 {rd with place := ⟨.hl1, 4, true, 0⟩} 0), by decide +kernel⟩,
   ⟨2000000000, (hS id), {rd with op := 4}, [], 100, (chanSt (hS id) 0), (Instr.read 2000000000 {rd with op := 4}), by decide +kernel⟩,
   ⟨2000000000, (rS 8), pc1, [], 100, (chanSt (rS 8) 0), (xx (rS 8) pc1), (Instr.read 2000000000 pc1), by decide +kernel⟩,
   ⟨2000000000, (hS id), pc1, [], (chanSt (hS id) 0), (xx (hS id) pc1), by decide +kernel⟩,
   ⟨2000000000, (hS id), no1, 0x0103, (chanSt (hS id) 0), (xx (hS id) no1), by decide +kernel⟩,
   ⟨2000000000, (hS id), no1, [1], 0x0103, (chanSt (hS id) 0), (xx (hS id) no1), by decide +kernel⟩,
   ⟨2000000000, (hS id), (rq0 0x2510 1), [1,2,3,4], (chanSt (hS id) 0), (xx (hS id) (rq0 0x2510 1)), by decide +kernel⟩,
   ⟨2000000000, (hS id), pc1, 57, (chanSt (hS id) 0), (xx (hS id) pc1), by decide +kernel⟩⟩

theorem test_hypotheses_TransfersCarryReadsAndWrites_2 :
    (∃ (t : Time) (s : State) (q : HostReq) (size : Nat) (code : U16) (c : ChannelSt) (x : State), Serves s t ∧ (hostBus s
        q.bus).state = 1 ∧ hostCrosses s q.bus = true ∧ chanSt s q.chan.val = c ∧ c.cut = none ∧ addressed s q.place = true ∧
        unknownForm q = false ∧ x = noteTransfer (frameIn (s.atTime t) q.bus q.chan.val) q ∧ c.transfer = none ∧ openRefusal x q size
        = some code) ∧
    (∃ (t : Time) (s : State) (q : HostReq) (c : ChannelSt) (x : State), Serves s t ∧ (hostBus s q.bus).state = 1 ∧ hostCrosses s
        q.bus = true ∧ chanSt s q.chan.val = c ∧ c.cut = none ∧ addressed s q.place = true ∧ unknownForm q = false ∧ x = noteTransfer
        (frameIn (s.atTime t) q.bus q.chan.val) q ∧ c.transfer = none ∧ 0 < t) ∧
    (∃ (t : Time) (s : State) (q : HostReq) (data got : List Byte) (size next start blk seg : Nat) (c : ChannelSt) (x : State), Serves
        s t ∧ (hostBus s q.bus).state = 1 ∧ hostCrosses s q.bus = true ∧ chanSt s q.chan.val = c ∧ c.cut = none ∧ addressed s q.place
        = true ∧ unknownForm q = false ∧ x = noteTransfer (frameIn (s.atTime t) q.bus q.chan.val) q ∧ c.transfer = some (.receiving
        q.bus q.tid q.index q.sub size got next start blk) ∧ data.length ≤ 60 ∧ seg = next ∧ start ≤ seg ∧ seg + 1 < start + blk ∧
        segmentFits size seg false data = true) ∧
    (∃ (t : Time) (s : State) (q : HostReq) (data got : List Byte) (size next start blk seg : Nat) (c : ChannelSt) (x : State), Serves
        s t ∧ (hostBus s q.bus).state = 1 ∧ hostCrosses s q.bus = true ∧ chanSt s q.chan.val = c ∧ c.cut = none ∧ addressed s q.place
        = true ∧ unknownForm q = false ∧ x = noteTransfer (frameIn (s.atTime t) q.bus q.chan.val) q ∧ c.transfer = some (.receiving
        q.bus q.tid q.index q.sub size got next start blk) ∧ data.length ≤ 60 ∧ start ≤ seg ∧ (segmentFits size seg false data = false
        ∨ start + blk ≤ seg)) ∧
    (∃ (t : Time) (s : State) (q : HostReq) (data got : List Byte) (size next start blk : Nat) (c : ChannelSt) (x : State), Serves s t
        ∧ (hostBus s q.bus).state = 1 ∧ hostCrosses s q.bus = true ∧ chanSt s q.chan.val = c ∧ c.cut = none ∧ addressed s q.place =
        true ∧ unknownForm q = false ∧ x = noteTransfer (frameIn (s.atTime t) q.bus q.chan.val) q ∧ c.transfer = some (.receiving
        q.bus q.tid q.index q.sub size got next start blk) ∧ data.length ≤ 60 ∧ c.frameAt + ms 1000 ≤ t) ∧
    (∃ (t : Time) (s : State) (q : HostReq) (data got : List Byte) (size next start blk : Nat) (c : ChannelSt) (x : State), Serves s t
        ∧ (hostBus s q.bus).state = 1 ∧ hostCrosses s q.bus = true ∧ chanSt s q.chan.val = c ∧ c.cut = none ∧ addressed s q.place =
        true ∧ unknownForm q = false ∧ x = noteTransfer (frameIn (s.atTime t) q.bus q.chan.val) q ∧ c.transfer = some (.receiving
        q.bus q.tid q.index q.sub size got next start blk) ∧ data.length ≤ 60 ∧ t < c.frameAt + ms 1000) ∧
    (∃ (t : Time) (s : State) (q : HostReq) (data got : List Byte) (size next start blk : Nat) (code : U16) (c : ChannelSt) (x :
        State), Serves s t ∧ (hostBus s q.bus).state = 1 ∧ hostCrosses s q.bus = true ∧ chanSt s q.chan.val = c ∧ c.cut = none ∧
        addressed s q.place = true ∧ unknownForm q = false ∧ x = noteTransfer (frameIn (s.atTime t) q.bus q.chan.val) q ∧ c.transfer =
        some (.receiving q.bus q.tid q.index q.sub size got next start blk) ∧ data.length ≤ 60 ∧ code ≠ 0) ∧
    (∃ (t : Time) (s : State) (q : HostReq) (data : List Byte) (next blk resends : Nat) (c : ChannelSt) (x : State), Serves s t ∧
        (hostBus s q.bus).state = 1 ∧ hostCrosses s q.bus = true ∧ chanSt s q.chan.val = c ∧ c.cut = none ∧ addressed s q.place = true
        ∧ unknownForm q = false ∧ x = noteTransfer (frameIn (s.atTime t) q.bus q.chan.val) q ∧ c.transfer = some (.sending q.bus q.tid
        q.index q.sub data next blk resends) ∧ 0 < t) :=
  ⟨⟨2000000000, (hS id), pc1, 521, 0x0203, (chanSt (hS id) 0), (xx (hS id) pc1), by decide +kernel⟩,
   ⟨2000000000, (hS id), pc1, (chanSt (hS id) 0), (xx (hS id) pc1), by decide +kernel⟩,
   ⟨2000000000, (rS 8), pc1, (List.replicate 60 1), [], 100, 0, 0, 8, 0, (chanSt (rS 8) 0), (xx (rS 8) pc1), by decide +kernel⟩,
   ⟨2000000000, (rS 8), pc1, [], [], 100, 0, 0, 8, 0, (chanSt (rS 8) 0), (xx (rS 8) pc1), by decide +kernel⟩,
   ⟨2000000000, (rS 8), pc1, [], [], 100, 0, 0, 8, (chanSt (rS 8) 0), (xx (rS 8) pc1), by decide +kernel⟩,
   ⟨999999999, (rS 8), pc1, [], [], 100, 0, 0, 8, (chanSt (rS 8) 0), (noteTransfer (frameIn ((rS 8).atTime 999999999) .hl1 0) pc1),
       by decide +kernel⟩,
   ⟨999999999, (rS 8), pc1, [], [], 100, 0, 0, 8, 5, (chanSt (rS 8) 0), (noteTransfer (frameIn ((rS 8).atTime 999999999) .hl1 0) pc1),
       by decide +kernel⟩,
   ⟨2000000000, (tS 2), (rq0 0x2000 1), d100, 0, 2, 2, (chanSt (tS 2) 0), (xx (tS 2) (rq0 0x2000 1)), by decide +kernel⟩⟩

theorem test_hypotheses_TransfersCarryReadsAndWrites_3 :
    (∃ (t : Time) (s : State) (q : HostReq) (data : List Byte) (next start blk seg resends : Nat) (c : ChannelSt) (x : State), Serves
        s t ∧ (hostBus s q.bus).state = 1 ∧ hostCrosses s q.bus = true ∧ chanSt s q.chan.val = c ∧ c.cut = none ∧ addressed s q.place
        = true ∧ unknownForm q = false ∧ x = noteTransfer (frameIn (s.atTime t) q.bus q.chan.val) q ∧ c.transfer = some (.sending
        q.bus q.tid q.index q.sub data next blk resends) ∧ start < segments data.length ∧ 1 ≤ seg ∧ seg ≤ 32) ∧
    (∃ (t : Time) (s : State) (q : HostReq) (data : List Byte) (next blk resends : Nat) (c : ChannelSt) (x : State), Serves s t ∧
        (hostBus s q.bus).state = 1 ∧ hostCrosses s q.bus = true ∧ chanSt s q.chan.val = c ∧ c.cut = none ∧ addressed s q.place = true
        ∧ unknownForm q = false ∧ x = noteTransfer (frameIn (s.atTime t) q.bus q.chan.val) q ∧ c.transfer = some (.sending q.bus q.tid
        q.index q.sub data next blk resends) ∧ c.frameAt + ms 100 ≤ t ∧ resends < 3) ∧
    (∃ (t : Time) (s : State) (q : HostReq) (data : List Byte) (next blk resends : Nat) (c : ChannelSt) (x : State), Serves s t ∧
        (hostBus s q.bus).state = 1 ∧ hostCrosses s q.bus = true ∧ chanSt s q.chan.val = c ∧ c.cut = none ∧ addressed s q.place = true
        ∧ unknownForm q = false ∧ x = noteTransfer (frameIn (s.atTime t) q.bus q.chan.val) q ∧ c.transfer = some (.sending q.bus q.tid
        q.index q.sub data next blk resends) ∧ c.frameAt + ms 100 ≤ t ∧ 3 ≤ resends) ∧
    (∃ (t : Time) (s : State) (q : HostReq) (data : List Byte) (next blk resends : Nat) (c : ChannelSt) (x : State), Serves s t ∧
        (hostBus s q.bus).state = 1 ∧ hostCrosses s q.bus = true ∧ chanSt s q.chan.val = c ∧ c.cut = none ∧ addressed s q.place = true
        ∧ unknownForm q = false ∧ x = noteTransfer (frameIn (s.atTime t) q.bus q.chan.val) q ∧ c.transfer = some (.sending q.bus q.tid
        q.index q.sub data next blk resends) ∧ t < c.frameAt + ms 100) :=
  ⟨⟨2000000000, (tS 2), (rq0 0x2000 1), d100, 0, 1, 2, 32, 2, (chanSt (tS 2) 0), (xx (tS 2) (rq0 0x2000 1)), by decide +kernel⟩,
   ⟨2000000000, (tS 2), (rq0 0x2000 1), d100, 0, 2, 2, (chanSt (tS 2) 0), (xx (tS 2) (rq0 0x2000 1)), by decide +kernel⟩,
   ⟨2000000000, (tS 3), (rq0 0x2000 1), d100, 0, 2, 3, (chanSt (tS 3) 0), (xx (tS 3) (rq0 0x2000 1)), by decide +kernel⟩,
   ⟨1999999999, (tS 3), (rq0 0x2000 1), d100, 0, 2, 3, (chanSt (tS 3) 0), (noteTransfer (frameIn ((tS 3).atTime 1999999999) .hl1 0)
       (rq0 0x2000 1)), by decide +kernel⟩⟩

theorem test_hypotheses_EntriesAreWrittenByTheirRights_1 :
    (∃ (t : Time) (s : State) (index sub : Nat) (code : U16), Serves s t ∧ entryAt (s.atTime t) index sub = .error code) ∧
    (∃ (t : Time) (s : State) (index sub : Nat), ∃ e, Serves s t ∧ entryAt (s.atTime t) index sub = .ok e ∧ e.right = .ro) ∧
    (∃ (t : Time) (s : State) (ch : Fin 8) (index sub : Nat), ∃ e, Serves s t ∧ entryAt (s.atTime t) index sub = .ok e ∧ e.right =
        .rwa ∧ authorised s ch.val = false) ∧
    (∃ (t : Time) (s : State) (data : List Byte), Serves s t ∧ data.length = 4) ∧
    (∃ (t : Time) (s : State) (data : List Byte), Serves s t ∧ data.length ≠ 4) ∧
    (∃ (t : Time) (s : State) (index sub : Nat) (data : List Byte), Serves s t ∧ rwsEntry index sub data = none) ∧
    (∃ (t : Time) (s : State) (index sub : Nat) (data : List Byte) (code : U16), ∃ g, Serves s t ∧ rwsEntry index sub data = some (g,
        some code)) ∧
    (∃ (t : Time) (s : State) (ch : Fin 8) (index sub : Nat) (data : List Byte), ∃ g k, Serves s t ∧ rwsEntry index sub data = some
        (g, none) ∧ (groupShadow s g).owner = some k ∧ k ≠ ch.val) :=
  ⟨⟨5, (hS id), 0x0FFF, 1, 0x0103, by decide +kernel⟩,
   ⟨5, (hS id), 0x1000, 1, (entOf (hS id) 0x1000 1), by decide +kernel⟩,
   ⟨5, (hS id), 1, 0x2001, 1, (entOf (hS id) 0x2001 1), by decide +kernel⟩,
   ⟨5, (hS id), [1,2,3,4], by decide +kernel⟩,
   ⟨5, (hS id), [1], by decide +kernel⟩,
   ⟨5, (hS id), 0x0FFF, 1, [1], by decide +kernel⟩,
   ⟨5, (hS id), 0x1100, 1, [], 0x0201, (1 : Nat), by decide +kernel⟩,
   ⟨5, (grpS 1 {owner := some 1, status := 1}), 0, 0x1100, 1, [0xe8, 3], (1 : Nat), (1 : Nat), by decide +kernel⟩⟩

theorem test_hypotheses_EntriesAreWrittenByTheirRights_2 :
    (∃ (t : Time) (s : State) (ch : Fin 8) (index sub : Nat) (data : List Byte), ∃ g, Serves s t ∧ rwsEntry index sub data = some (g,
        none) ∧ ((groupShadow s g).owner = none ∨ (groupShadow s g).owner = some ch.val) ∧ (groupShadow s g).status = 2) ∧
    (∃ (t : Time) (s : State) (ch : Fin 8) (index sub : Nat) (data : List Byte), ∃ g, Serves s t ∧ rwsEntry index sub data = some (g,
        none) ∧ ((groupShadow s g).owner = none ∨ (groupShadow s g).owner = some ch.val) ∧ (groupShadow s g).status ≠ 2 ∧ g ≠ 31) :=
  ⟨⟨5, (grpS 1 {owner := some 0, status := 2}), 0, 0x1100, 1, [0xe8, 3], (1 : Nat), by decide +kernel⟩,
   ⟨5, (hS id), 0, 0x1100, 1, [0xe8, 3], (1 : Nat), by decide +kernel⟩⟩

theorem test_hypotheses_AuthenticationFollowsTheChallenge_1 :
    (∃ (t : Time) (s : State), Serves s t) ∧
    (∃ (t : Time) (s : State), Serves s t ∧ lockedOut (s.atTime t) = true) ∧
    (∃ (t : Time) (s : State) (ch : Fin 8) (slot : Fin 4) (key mac x data : List Byte) (from_ : Time), Serves s t ∧ lockedOut
        (s.atTime t) = false ∧ mac.length = 32 ∧ data = u8 slot.val :: mac ∧ keyOf s slot.val = some key ∧ (chanSt s ch.val).challenge
        = some (x, from_) ∧ t < from_ + sec 60 ∧ mac = hmac256 key (authMessage s ch.val slot.val x)) ∧
    (∃ (t : Time) (s : State) (ch : Fin 8) (slot : Fin 4) (key mac x data : List Byte) (from_ : Time), Serves s t ∧ lockedOut
        (s.atTime t) = false ∧ mac.length = 32 ∧ data = u8 slot.val :: mac ∧ keyOf s slot.val = some key ∧ (chanSt s ch.val).challenge
        = some (x, from_) ∧ (from_ + sec 60 ≤ t ∨ mac ≠ hmac256 key (authMessage s ch.val slot.val x)) ∧ (recentRefusals (s.atTime
        t)).length < 4) ∧
    (∃ (t : Time) (s : State) (ch : Fin 8) (slot : Fin 4) (key mac x data : List Byte) (from_ : Time), Serves s t ∧ lockedOut
        (s.atTime t) = false ∧ mac.length = 32 ∧ data = u8 slot.val :: mac ∧ keyOf s slot.val = some key ∧ (chanSt s ch.val).challenge
        = some (x, from_) ∧ mac ≠ hmac256 key (authMessage s ch.val slot.val x) ∧ 4 ≤ (recentRefusals (s.atTime t)).length ∧ Quiet s
        110) ∧
    (∃ (t : Time) (s : State) (slot : Fin 4) (mac data : List Byte), Serves s t ∧ lockedOut (s.atTime t) = false ∧ mac.length = 32 ∧
        data = u8 slot.val :: mac ∧ keyOf s slot.val = none ∧ (recentRefusals (s.atTime t)).length < 4) ∧
    (∃ (t : Time) (s : State) (ch : Fin 8), Serves s t ∧ (chanSt s ch.val).activity + sec 1800 ≤ t) ∧
    (∃ (t : Time) (s : State) (ch : Fin 8), Serves s t ∧ t < (chanSt s ch.val).activity + sec 1800) :=
  ⟨⟨60000000004, (hS fun h => {h with lockout := some 5}), by decide +kernel⟩,
   ⟨60000000004, (hS fun h => {h with lockout := some 5}), by decide +kernel⟩,
   ⟨61899999999, (aS 0), 0, 2, k32, mac0, chal, (u8 2 :: mac0), 1900000000, by decide +kernel⟩,
   ⟨61900000000, (aS 3), 0, 2, k32, mac0, chal, (u8 2 :: mac0), 1900000000, by decide +kernel⟩,
   ⟨2000000000, (aS 4), 0, 2, k32, k32, chal, (u8 2 :: k32), 1900000000, by decide +kernel⟩,
   ⟨2000000000, (aS 3), 1, k32, (u8 1 :: k32), by decide +kernel⟩,
   ⟨1800000000000, (hS id), 0, by decide +kernel⟩,
   ⟨60000000004, (hS fun h => {h with lockout := some 5}), 0, by decide +kernel⟩⟩

theorem test_hypotheses_AuthenticationFollowsTheChallenge_2 :
    (∃ (t : Time) (s : State), Serves s t ∧ lockedOut (s.atTime t) = false) ∧
    (∃ (t : Time) (s : State) (ch : Fin 8) (key : List Byte), Serves s t ∧ key.length = 32 ∧ s.modes.mode = .stop ∧ s24 s = true ∧
        allZero key = false ∧ (authorised s ch.val = true ∨ (∀ k, k < 4 → keyOf s k = none))) ∧
    (∃ (t : Time) (s : State) (ch : Fin 8) (key : List Byte), Serves s t ∧ key.length = 32 ∧ s.modes.mode = .stop ∧ s24 s = true ∧
        authorised s ch.val = true) ∧
    (∃ (t : Time) (s : State) (ch : Fin 8) (key : List Byte), Serves s t ∧ key.length = 32 ∧ s.modes.mode = .stop ∧ s24 s = true ∧
        authorised s ch.val = false) ∧
    (∃ (t : Time) (s : State) (key : List Byte), Serves s t ∧ key.length = 32 ∧ (s.modes.mode ≠ .stop ∨ s24 s = false)) :=
  ⟨⟨2000000000, (aS 3), by decide +kernel⟩,
   ⟨5, stopS24, 1, k32, by decide +kernel⟩,
   ⟨5, stopS24, 0, k32, by decide +kernel⟩,
   ⟨5, stopS24, 1, k32, by decide +kernel⟩,
   ⟨60000000004, (hS fun h => {h with lockout := some 5}), k32, by decide +kernel⟩⟩

theorem test_hypotheses_StagedGroupsApplyAtTheirCommit_1 :
    (∃ (t : Time) (s : State) (g : U8), Serves s t ∧ kindEnabled s 4 = true ∧ s.host.events.length < 256 ∧ (g = 0 ∨ 63 < g.toNat)) ∧
    (∃ (t : Time) (s : State) (ch : Fin 8) (g : U8) (code : U16), Serves s t ∧ kindEnabled s 4 = true ∧ s.host.events.length < 256 ∧ 0
        < g.toNat ∧ g.toNat ≤ 63 ∧ ((if groupDefined g.toNat = false then some 0x0501 else if (groupShadow s g.toNat).status ≠ 1 then
        some 0x0503 else if (groupShadow s g.toNat).owner ≠ some ch.val then some 0x0504 else if authorised s ch.val = false then some
        0x0340 else if g = 1 ∧ linkFieldsOk s = false then some 0x0502 else none) = some code)) ∧
    (∃ (t : Time) (s : State) (ch : Fin 8) (n : Nat) (data : List Byte), ∃ x, Serves s t ∧ kindEnabled s 4 = true ∧
        s.host.events.length < 256 ∧ groupShadow s 40 = x ∧ x.status = 1 ∧ x.owner = some ch.val ∧ authorised s ch.val = true ∧
        x.shadow = [(0x2400 + n, 6, data)]) ∧
    (∃ (t : Time) (s : State) (ch : Fin 8) (data : List Byte), ∃ x, Serves s t ∧ kindEnabled s 4 = true ∧ s.host.events.length < 256 ∧
        groupShadow s 1 = x ∧ x.status = 1 ∧ x.owner = some ch.val ∧ authorised s ch.val = true ∧ x.shadow = [(0x1100, 1, data)] ∧
        linkFieldsOk s = true) ∧
    (∃ (t : Time) (s : State) (ch : Fin 8), ∃ x, Serves s t ∧ kindEnabled s 4 = true ∧ s.host.events.length < 256 ∧ groupShadow s 31 =
        x ∧ x.status = 1 ∧ x.owner = some ch.val ∧ authorised s ch.val = true ∧ forceRefusal s = none) ∧
    (∃ (t : Time) (s : State) (ch : Fin 8) (code : U16), ∃ x, Serves s t ∧ kindEnabled s 4 = true ∧ s.host.events.length < 256 ∧
        groupShadow s 31 = x ∧ x.status = 1 ∧ x.owner = some ch.val ∧ authorised s ch.val = true ∧ forceRefusal s = some code) ∧
    (∃ (t : Time) (s : State) (ch : Fin 8) (data : List Byte), Serves s t ∧ kindEnabled s 4 = true ∧ s.host.events.length < 256 ∧
        ((groupShadow s 31).owner = none ∨ (groupShadow s 31).owner = some ch.val) ∧ (groupShadow s 31).status ≠ 2 ∧ data.length = 20
        ∧ (data.headD 0 = 1 ∨ data.headD 0 = 2) ∧ forceWriteCode s data = none) ∧
    (∃ (t : Time) (s : State) (ch : Fin 8) (data : List Byte) (code : U16), Serves s t ∧ kindEnabled s 4 = true ∧ s.host.events.length
        < 256 ∧ ((groupShadow s 31).owner = none ∨ (groupShadow s 31).owner = some ch.val) ∧ (groupShadow s 31).status ≠ 2 ∧
        data.length = 20 ∧ (data.headD 0 = 1 ∨ data.headD 0 = 2) ∧ forceWriteCode s data = some code) :=
  ⟨⟨5, (hS id), 0, by decide +kernel⟩,
   ⟨5, (hS id), 0, 2, 0x501, by decide +kernel⟩,
   ⟨5, (grpS 40 x40), 0, 5, [4,1], x40, by decide +kernel⟩,
   ⟨5, (grpS 1 x1), 0, [0xe8, 3], x1, by decide +kernel⟩,
   ⟨5, (grpS 31 x31), 0, x31, by decide +kernel⟩,
   ⟨5, (grpS 31 x31b), 0, 0x533, x31b, by decide +kernel⟩,
   ⟨5, (hS id), 0, fq, by decide +kernel⟩,
   ⟨5, (cS 1 0 2), 0, (([1, 0, 0, 0] : List Byte) ++ leBytes 8 77 ++ List.replicate 8 0), 0x441, by decide +kernel⟩⟩

theorem test_hypotheses_StagedGroupsApplyAtTheirCommit_2 :
    (∃ (t : Time) (s : State) (data : List Byte), Serves s t ∧ kindEnabled s 4 = true ∧ s.host.events.length < 256 ∧ data.length ≠ 20) ∧
    (∃ (t : Time) (s : State) (g : U8), Serves s t ∧ kindEnabled s 4 = true ∧ s.host.events.length < 256 ∧ 0 < g.toNat ∧ g.toNat ≤ 63
        ∧ (groupShadow s g.toNat).status ≠ 2) ∧
    (∃ (t : Time) (s : State) (g : U8), Serves s t ∧ kindEnabled s 4 = true ∧ s.host.events.length < 256 ∧ (groupShadow s
        g.toNat).status = 2 ∧ 0 < g.toNat ∧ g.toNat ≤ 63) ∧
    (∃ (t : Time) (s : State) (ch : Fin 8) (k : Fin 64), Serves s t ∧ kindEnabled s 4 = true ∧ s.host.events.length < 256 ∧
        (groupShadow s k.val).owner = some ch.val ∧ (chanSt s ch.val).activity + sec 1800 ≤ t) ∧
    (∃ (t : Time) (s : State) (ch : Fin 8) (k : Fin 64), Serves s t ∧ kindEnabled s 4 = true ∧ s.host.events.length < 256 ∧
        (groupShadow s k.val).owner = some ch.val ∧ t < (chanSt s ch.val).activity + sec 1800) :=
  ⟨⟨5, (grpS 40 x40), [4,1], by decide +kernel⟩,
   ⟨5, (grpS 40 x40), 40, by decide +kernel⟩,
   ⟨5, (grpS 1 {x1 with status := 2}), 1, by decide +kernel⟩,
   ⟨1800000000000, (grpS 1 x1), 0, 1, by decide +kernel⟩,
   ⟨5, (grpS 40 x40), 0, 40, by decide +kernel⟩⟩

theorem test_hypotheses_EventsAndRestartsOfTheSteward :
    (∃ (t : Time) (s : State) (e : Event) (rest : List Event), Serves s t ∧ s.host.events = e :: rest ∧ s.host.dropDue = 0) ∧
    (∃ s : State, s.host.events = []) ∧
    (∃ (s : State) (b : HostBus) (n : Fin 5), (hostBus s b).state ≠ 0 ∧ (hostBus s b).state ≠ 4 ∧ (hostBus s b).state ≠ n.val ∧ n.val
        = 3 ∧ Quiet s (107 + busNo b)) ∧
    (∃ (s : State) (b : HostBus) (n : Fin 5), (hostBus s b).state ≠ 0 ∧ (hostBus s b).state ≠ 4 ∧ (hostBus s b).state ≠ n.val ∧ n.val
        = 2 ∧ Quiet s (107 + busNo b)) ∧
    (∃ (s : State) (b : HostBus) (n : Fin 5), (hostBus s b).state ≠ 0 ∧ (hostBus s b).state ≠ 4 ∧ (hostBus s b).state ≠ n.val ∧ n.val
        = 1) ∧
    (∃ (s : State) (b : HostBus) (n : Fin 5), ((hostBus s b).state = n.val ∨ n.val = 0 ∨ n.val = 4)) ∧
    (∃ s : State, s.host.serving = true) ∧
    (∃ s : State, s.host.serving = false) :=
  ⟨⟨5, (hS fun h => {h with events := [⟨4,0,[1]⟩]}), ⟨4,0,[1]⟩, [], by decide +kernel⟩,
   ⟨State.reset, by decide +kernel⟩,
   ⟨(hS fun h => {h with events := [⟨4,0,[1]⟩]}), .hl1, 3, by decide +kernel⟩,
   ⟨(hS id), .hl1, 2, by decide +kernel⟩,
   ⟨(let s := hS id; {s with host := {s.host with hl1 := {s.host.hl1 with state := 2}}}), .hl1, 1, by decide +kernel⟩,
   ⟨(hS id), .hl1, 1, by decide +kernel⟩,
   ⟨(hS fun h => {h with events := [⟨4,0,[1]⟩]}), by decide +kernel⟩,
   ⟨State.reset, by decide +kernel⟩⟩

theorem test_hypotheses_ChangeActionsFollowTheirStates :
    (∃ (t : Time) (s : State) (ch : Fin 8), ∃ a c, Serves s t ∧ (groupShadow s 30).status = 1 ∧ (groupShadow s 30).owner = some ch.val
        ∧ authorised s ch.val = true ∧ (a, c) ∈ [(1, Instr.changePrepare t ch), (2, Instr.changeArm t ch), (3, Instr.changeRollback t
        ch), (4, Instr.changeCommit t ch), (5, Instr.changeCancel t ch)] ∧ stagedAction s ≠ a) ∧
    (∃ (t : Time) (s : State) (ch : Fin 8), ∃ a c, Serves s t ∧ (groupShadow s 30).status = 1 ∧ (groupShadow s 30).owner = some ch.val
        ∧ authorised s ch.val = true ∧ (a, c) ∈ [(1, Instr.changePrepare t ch), (2, Instr.changeArm t ch), (3, Instr.changeRollback t
        ch), (4, Instr.changeCommit t ch), (5, Instr.changeCancel t ch)] ∧ stagedAction s = a ∧ actionAllowed s a = false) ∧
    (∃ (t : Time) (s : State) (ch : Fin 8), ∃ a c, Serves s t ∧ (groupShadow s 30).status = 1 ∧ (groupShadow s 30).owner = some ch.val
        ∧ authorised s ch.val = true ∧ (a, c) ∈ [(1, Instr.changePrepare t ch), (2, Instr.changeArm t ch), (3, Instr.changeRollback t
        ch), (4, Instr.changeCommit t ch), (5, Instr.changeCancel t ch)] ∧ stagedAction s = a ∧ actionAllowed s a = true ∧
        expectedProgid s a ≠ some (stagedField s 30 0x3800 5 0)) ∧
    (∃ (t : Time) (s : State) (ch : Fin 8), Serves s t ∧ (groupShadow s 30).status = 1 ∧ (groupShadow s 30).owner = some ch.val ∧
        authorised s ch.val = true ∧ groupRefusal (s.atTime t) 30 = none ∧ stagedAction s = 1) ∧
    (∃ (t : Time) (s : State) (ch : Fin 8), Serves s t ∧ (groupShadow s 30).status = 1 ∧ (groupShadow s 30).owner = some ch.val ∧
        authorised s ch.val = true ∧ groupRefusal (s.atTime t) 30 = none ∧ stagedAction s = 2) ∧
    (∃ (t : Time) (s : State) (ch : Fin 8), Serves s t ∧ (groupShadow s 30).status = 1 ∧ (groupShadow s 30).owner = some ch.val ∧
        authorised s ch.val = true ∧ groupRefusal (s.atTime t) 30 = none ∧ stagedAction s = 3) ∧
    (∃ (t : Time) (s : State) (ch : Fin 8), Serves s t ∧ (groupShadow s 30).status = 1 ∧ (groupShadow s 30).owner = some ch.val ∧
        authorised s ch.val = true ∧ groupRefusal (s.atTime t) 30 = none ∧ stagedAction s = 4) ∧
    (∃ (t : Time) (s : State) (ch : Fin 8), Serves s t ∧ (groupShadow s 30).status = 1 ∧ (groupShadow s 30).owner = some ch.val ∧
        authorised s ch.val = true ∧ groupRefusal (s.atTime t) 30 = none ∧ stagedAction s = 5) :=
  ⟨⟨5, (cS 3 3 9), 0, 2, (Instr.changeArm 5 0), by decide +kernel⟩,
   ⟨5, (cS 2 2 2), 0, 2, (Instr.changeArm 5 0), by decide +kernel⟩,
   ⟨5, (cS 2 3 9), 0, 2, (Instr.changeArm 5 0), by decide +kernel⟩,
   ⟨5, (prS 0), 0, by decide +kernel⟩,
   ⟨5, (cS 2 3 2), 0, by decide +kernel⟩,
   ⟨5, (cS 3 5 3), 0, by decide +kernel⟩,
   ⟨5, (cS 4 5 1), 0, by decide +kernel⟩,
   ⟨5, (cS 5 3 2), 0, by decide +kernel⟩⟩

theorem test_hypotheses_ProgramsSwitchAtTheirCycle_1 :
    (∃ s : State, s.change.stateC = 1 ∧ loadingResult s (stagedImages s) = 0) ∧
    (∃ s : State, s.change.stateC = 1 ∧ loadingResult s (stagedImages s) ≠ 0) ∧
    (∃ (s : State) (l : List Lane) (images : List Byte × List Byte), ∃ code ref, s.change.stateC = 2 ∧ stagedImages s = some images ∧
        checkingResult s images l = (code, ref) ∧ code ≠ 0) ∧
    (∃ (s : State) (images : List Byte × List Byte), s.change.stateC = 2 ∧ stagedImages s = some images) ∧
    (∃ s : State, s.change.stateC = 2 ∧ stagedImages s = none) ∧
    (∃ (t : Time) (s : State), (s.change.stateC = 1 ∨ s.change.stateC = 2) ∧ s.change.since + sec 60 ≤ t) ∧
    (∃ (t : Time) (s : State), (s.change.stateC = 1 ∨ s.change.stateC = 2) ∧ t < s.change.since + sec 60) ∧
    (∃ s : State, s.change.stateC ≠ 1 ∧ s.change.stateC ≠ 2) :=
  ⟨⟨(prS 1), by decide +kernel⟩,
   ⟨(cS 1 1 2), by decide +kernel⟩,
   ⟨(prS 2), [], ((stagedImages (prS 2)).getD ([],[])), ((checkingResult (prS 2) ((stagedImages (prS 2)).getD ([],[])) []).1),
       ((checkingResult (prS 2) ((stagedImages (prS 2)).getD ([],[])) []).2), by decide +kernel⟩,
   ⟨(prS 2), ((stagedImages (prS 2)).getD ([],[])), by decide +kernel⟩,
   ⟨(cS 1 2 2), by decide +kernel⟩,
   ⟨60000000005, (cS 1 1 2), by decide +kernel⟩,
   ⟨5, (prS 2), by decide +kernel⟩,
   ⟨(cS 1 4 2 true), by decide +kernel⟩⟩

theorem test_hypotheses_ProgramsSwitchAtTheirCycle_2 :
    (∃ (s : State) (old new : ProgPair), s.program.pair = some old ∧ s.change.stateC = 4 ∧ s.cyc.number = s.change.kSwitch ∧
        s.cyc.running = true ∧ s.lanes.a.complete = false ∧ s.lanes.b.complete = false ∧ s.cyc.voted = false ∧ s.change.isRoll = false
        ∧ s.change.prepared = some new) ∧
    (∃ (s : State) (old new : ProgPair), s.program.pair = some old ∧ s.change.stateC = 4 ∧ s.cyc.number = s.change.kSwitch ∧
        s.cyc.running = true ∧ s.lanes.a.complete = false ∧ s.lanes.b.complete = false ∧ s.cyc.voted = false ∧ s.change.isRoll = true
        ∧ s.change.retained = some new) ∧
    (∃ (s : State) (old : ProgPair), s.program.pair = some old ∧ s.change.stateC = 4 ∧ s.cyc.number ≠ s.change.kSwitch) ∧
    (∃ (s : State) (x y : List Byte), s.change.stateC = 6 ∧ s.update.otherBank = [x, y] ∧ x ≠ [] ∧ y ≠ []) ∧
    (∃ s : State, s.change.stateC ≠ 6) :=
  ⟨⟨(let s := cS 1 4 2; {s with cyc := {s.cyc with voted := false}}), (pp 1), (pp 2), by decide +kernel⟩,
   ⟨(let s := cS 1 4 2 true; {s with cyc := {s.cyc with voted := false}}), (pp 1), (pp 3), by decide +kernel⟩,
   ⟨(let s := cS 1 4 2; {s with change := {s.change with kSwitch := 8}}), (pp 1), by decide +kernel⟩,
   ⟨(let s := cS 1 6 2; {s with update := {s.update with otherBank := [[1],[2]]}}), [1], [2], by decide +kernel⟩,
   ⟨(cS 1 4 2 true), by decide +kernel⟩⟩

theorem test_hypotheses_StilesBoundEveryAccess_1 :
    (∃ (s : State) (ln : Lane) (x : StileSt) (lat : Option Nat), ∃ k, stile s ln = x ∧ x.laneReset = false ∧ x.reading = none ∧
        x.out.wait = none ∧ x.svcReset = false ∧ lat = some k ∧ k ≤ 20000) ∧
    (∃ (s : State) (ln : Lane) (x : StileSt) (lat : Option Nat), stile s ln = x ∧ x.laneReset = false ∧ x.reading = none ∧ x.out.wait
        = none ∧ x.svcReset = false ∧ (∀ k, lat = some k → 20000 < k)) ∧
    (∃ (s : State) (ln : Lane) (x : StileSt), stile s ln = x ∧ x.laneReset = false ∧ x.reading = none ∧ x.out.wait = none ∧ x.svcReset
        = true ∧ runsCycles s ln = true ∧ (s.lanes.get ln).complete = false) ∧
    (∃ (s : State) (ln : Lane) (x : StileSt), stile s ln = x ∧ (x.laneReset = true ∨ x.reading.isSome = true ∨ x.out.wait.isSome =
        true)) ∧
    (∃ (t : Time) (s : State) (ln : Lane) (x : StileSt) (addr : U32), ∃ t0, stile s ln = x ∧ x.reading = some (addr, t0) ∧ t0 + 20000
        ≤ t ∧ Quiet s (96 + laneNo ln)) ∧
    (∃ (t : Time) (s : State) (ln : Lane) (x : StileSt) (addr : U32), ∃ t0, stile s ln = x ∧ x.reading = some (addr, t0) ∧ t < t0 +
        20000) ∧
    (∃ (s : State) (ln : Lane) (x : StileSt), stile s ln = x ∧ 0 < x.expired) ∧
    (∃ (s : State) (ln : Lane) (x : StileSt), stile s ln = x ∧ x.expired = 0) :=
  ⟨⟨(stl id), .b, St0, (some 20000), 20000, by decide +kernel⟩,
   ⟨(stl id), .b, St0, (some 20001), by decide +kernel⟩,
   ⟨stlR, .b, StR, by decide +kernel⟩,
   ⟨(stlW true), .b, (StW true), by decide +kernel⟩,
   ⟨100000, s1x, .b, x1x, 5, (9 : Nat), by decide +kernel⟩,
   ⟨15, s1x, .b, x1x, 5, (9 : Nat), by decide +kernel⟩,
   ⟨s1x, .b, x1x, by decide +kernel⟩,
   ⟨(stl id), .b, St0, by decide +kernel⟩⟩

theorem test_hypotheses_StilesBoundEveryAccess_2 :
    (∃ (s : State) (ln : Lane) (x : StileSt), stile s ln = x ∧ x.state = 0 ∧ x.serviceRds.length < 4 ∧ ((x.serviceRds.head?.all fun r
        => r.answer.isNone) = true)) ∧
    (∃ (s : State) (ln : Lane) (x : StileSt), stile s ln = x ∧ x.state = 0 ∧ x.serviceRds.length < 4 ∧ ((x.serviceRds.head?.all fun r
        => r.answer.isNone) = true) ∧ x.serviceRds ≠ []) ∧
    (∃ (s : State) (ln : Lane) (x : StileSt), stile s ln = x ∧ x.state = 0 ∧ x.serviceRds.length < 4 ∧ ((x.serviceRds.head?.all fun r
        => r.answer.isNone) = true) ∧ x.serviceRds = []) ∧
    (∃ (s : State) (ln : Lane) (x : StileSt), stile s ln = x ∧ (x.state ≠ 0 ∨ 4 ≤ x.serviceRds.length)) ∧
    (∃ (t : Time) (s : State) (ln : Lane) (x : StileSt) (ch : Fin 8), ∃ r rest, stile s ln = x ∧ x.serviceRds = r :: rest ∧ r.chan =
        ch.val ∧ r.since + 20000 ≤ t) ∧
    (∃ (t : Time) (s : State) (ln : Lane) (x : StileSt) (ch : Fin 8), ∃ r rest, stile s ln = x ∧ x.serviceRds = r :: rest ∧ r.chan =
        ch.val ∧ t < r.since + 20000) ∧
    (∃ (s : State) (ln : Lane) (x : StileSt) (data : List Byte) (tag : U16), stile s ln = x ∧ portOpen x .outward = true ∧ data.length
        ≤ 64 ∧ x.svcReset = false ∧ x.out.queue.length < 32 ∧ tag = x.out.expect) ∧
    (∃ (s : State) (ln : Lane) (x : StileSt) (data : List Byte), stile s ln = x ∧ portOpen x .outward = true ∧ data.length ≤ 64 ∧
        x.svcReset = true) :=
  ⟨⟨(stl id), .b, St0, by decide +kernel⟩,
   ⟨s1x, .b, x1x, by decide +kernel⟩,
   ⟨(stl id), .b, St0, by decide +kernel⟩,
   ⟨(stl fun y => {y with serviceRds := [rd6, rd6, rd6, rd6]}), .b, {St0 with serviceRds := [rd6, rd6, rd6, rd6]}, by decide +kernel⟩,
   ⟨100000, s1x, .b, x1x, 0, rd6, ([] : List NRead), by decide +kernel⟩,
   ⟨15, s1x, .b, x1x, 0, rd6, ([] : List NRead), by decide +kernel⟩,
   ⟨(stl id), .b, St0, [1], 0, by decide +kernel⟩,
   ⟨stlR, .b, StR, [], by decide +kernel⟩⟩

theorem test_hypotheses_StilesBoundEveryAccess_3 :
    (∃ (t : Time) (s : State) (ln : Lane) (x : StileSt), ∃ w, stile s ln = x ∧ x.out.wait = some w ∧ w.since + 20000 ≤ t ∧ x.svcReset
        = true ∧ Quiet s (99 + laneNo ln)) ∧
    (∃ (t : Time) (s : State) (ln : Lane) (x : StileSt), ∃ w, stile s ln = x ∧ x.out.wait = some w ∧ w.since + 20000 ≤ t ∧ x.svcReset
        = false ∧ x.out.queue.length ≤ 32 ∧ w.arrived = x.out.expect) ∧
    (∃ (s : State) (ln : Lane) (x : StileSt), stile s ln = x ∧ x.out.wait = none ∧ x.out.queue = []) ∧
    (∃ (t : Time) (s : State) (ln : Lane) (x : StileSt) (tag : U16), stile s ln = x ∧ x.svcReset = false ∧ x.inw.wait = none ∧
        x.laneReset = false ∧ x.inw.queue.length < 32 ∧ tag ≠ x.inw.expect ∧ AllVoting s ∧ Raisable s t 107) ∧
    (∃ (s : State) (ln : Lane) (x : StileSt), stile s ln = x ∧ x.svcReset = false ∧ x.inw.wait = none ∧ x.laneReset = true ∧ Quiet s
        (99 + laneNo ln)) ∧
    (∃ (s : State) (ln : Lane) (x : StileSt) (own : U16), stile s ln = x ∧ x.svcReset = false ∧ x.inw.wait = none ∧ x.laneReset =
        false ∧ own = x.inw.expect ∧ x.inw.queue.length < 32) ∧
    (∃ (s : State) (ln : Lane) (x : StileSt) (closes : U32) (own : U16), stile s ln = x ∧ x.svcReset = false ∧ x.inw.wait = none ∧
        x.laneReset = false ∧ own = x.inw.expect ∧ (s.cyc.running = false ∨ closes ≠ u32 (s.cyc.begun % 2 ^ 32))) ∧
    (∃ (s : State) (ln : Lane) (x : StileSt) (closes : U32) (own : U16), stile s ln = x ∧ x.svcReset = false ∧ x.inw.wait = none ∧
        x.laneReset = false ∧ own = x.inw.expect ∧ s.cyc.running = true ∧ closes = u32 (s.cyc.begun % 2 ^ 32)) :=
  ⟨⟨100000, (stlW true), .b, (StW true), w9, by decide +kernel⟩,
   ⟨100000, (stlW false), .b, (StW false), w9, by decide +kernel⟩,
   ⟨(stl id), .b, St0, by decide +kernel⟩,
   ⟨100000, (stl id), .b, St0, 4, by decide +kernel⟩,
   ⟨stlL, .b, StL, by decide +kernel⟩,
   ⟨(stl id), .b, St0, 0, by decide +kernel⟩,
   ⟨(stl id), .b, St0, 5, 0, by decide +kernel⟩,
   ⟨(stl id), .b, St0, 0, 0, by decide +kernel⟩⟩

theorem test_hypotheses_StilesBoundEveryAccess_4 :
    (∃ (s : State) (ln : Lane) (x : StileSt) (own : U16), stile s ln = x ∧ x.state = 0 ∧ x.reading = none ∧ x.out.wait = none ∧
        x.out.queue.length < 32 ∧ own = x.out.expect) ∧
    (∃ (s : State) (ln : Lane) (x : StileSt) (own : U16) (dir : Dir), stile s ln = x ∧ messagesPass x (opposite dir) = true ∧ (x.side
        (opposite dir)).wait = none ∧ own = (x.side (opposite dir)).expect ∧ Quiet s (99 + laneNo ln)) ∧
    (∃ (s : State) (ln : Lane) (x : StileSt), stile s ln = x ∧ x.state ≠ 0) ∧
    (∃ (s : State) (ln : Lane) (x : StileSt) (dir : Dir), stile s ln = x ∧ senderReset x dir = true ∧ (x.side dir).queue = [] ∧
        (x.side dir).wait = none) ∧
    (∃ (s : State) (ln : Lane) (x : StileSt) (dir : Dir), stile s ln = x ∧ senderReset x dir = true ∧ (x.side dir).queue = [] ∧
        (x.side dir).wait = none ∧ dir = .inward) ∧
    (∃ (s : State) (ln : Lane) (x : StileSt) (own : U16) (side : Side) (dir : Dir), stile s ln = x ∧ x.inReset side = false ∧ dir =
        towards side ∧ own = (x.side (opposite dir)).expect ∧ (x.side (opposite dir)).wait = none ∧ (x.side dir).wait = none ∧ Quiet s
        106 ∧ Quiet s (99 + laneNo ln)) ∧
    (∃ (s : State) (ln : Lane) (x : StileSt) (side : Side), stile s ln = x ∧ x.inReset side = true) ∧
    (∃ (s : State) (ln : Lane) (x : StileSt) (own : U16) (side : Side) (dir : Dir), stile s ln = x ∧ x.inReset side = true ∧
        (x.svcReset && x.laneReset) = false ∧ dir = opposite (towards side) ∧ own = (x.side dir).expect ∧ (x.side dir).wait = none) :=
  ⟨⟨(stl id), .b, St0, 0, by decide +kernel⟩,
   ⟨(stl id), .b, St0, 0, Dir.outward, by decide +kernel⟩,
   ⟨stlR, .b, StR, by decide +kernel⟩,
   ⟨stlR, .b, StR, Dir.inward, by decide +kernel⟩,
   ⟨stlR, .b, StR, Dir.inward, by decide +kernel⟩,
   ⟨(stl id), .b, St0, 0, Side.service, Dir.outward, by decide +kernel⟩,
   ⟨stlR, .b, StR, Side.service, by decide +kernel⟩,
   ⟨stlR, .b, StR, 0, Side.service, Dir.inward, by decide +kernel⟩⟩

theorem test_hypotheses_StilesBoundEveryAccess_5 :
    (∃ (s : State) (ln : Lane) (x : StileSt) (side : Side), stile s ln = x ∧ x.inReset side = true ∧ (x.svcReset && x.laneReset) =
        true) ∧
    (∃ (s : State) (ln : Lane) (x : StileSt) (side : Side), stile s ln = x ∧ x.inReset side = false) ∧
    (∃ (t : Time) (s : State) (ln : Lane) (x : StileSt), stile s ln = x ∧ s.cyc.running = true ∧ runsCycles s ln = true ∧ (s.lanes.get
        ln).complete = false ∧ (s.cyc.begun + ms 2 ≤ t ∨ x.svcReset = true) ∧ Quiet s 102 ∧ (s.lanes.get ln).markQueue = false) ∧
    (∃ (t : Time) (s : State) (ln : Lane) (x : StileSt), stile s ln = x ∧ s.cyc.running = true ∧ runsCycles s ln = true ∧ (s.lanes.get
        ln).complete = false ∧ (s.cyc.begun + ms 2 ≤ t ∨ x.svcReset = true) ∧ Quiet s 102 ∧ (s.lanes.get ln).markBus = false) ∧
    (∃ (s : State) (ln : Lane) (x : StileSt), stile s ln = x ∧ (s.cyc.running = false ∨ (s.lanes.get ln).markQueue = true)) :=
  ⟨⟨(stl fun y => {y with svcReset := true, laneReset := true}), .b, {St0 with svcReset := true, laneReset := true}, Side.service,
      by decide +kernel⟩,
   ⟨(stl id), .b, St0, Side.service, by decide +kernel⟩,
   ⟨100000, stlR, .b, StR, by decide +kernel⟩,
   ⟨100000, stlR, .b, StR, by decide +kernel⟩,
   ⟨(let s := stl id; {s with lanes := s.lanes.map fun x => {x with markQueue := true}}), .b, St0, by decide +kernel⟩⟩

theorem test_hypotheses_CrossingsWaitForTheirAcknowledge_1 :
    (∃ (s : State) (c : Fin 16) (x : CrossSt) (d : Dir) (y : CrossWay), crossing s c.val = x ∧ crossWay s c.val d = y ∧ x.state = 0 ∧
        y.waiting = none ∧ crossKind c.val = 1) ∧
    (∃ (s : State) (c : Fin 16) (x : CrossSt) (d : Dir) (y : CrossWay), crossing s c.val = x ∧ crossWay s c.val d = y ∧ x.state = 0 ∧
        y.waiting = none ∧ crossKind c.val = 2) ∧
    (∃ (s : State) (c : Fin 16) (x : CrossSt) (d : Dir) (y : CrossWay), crossing s c.val = x ∧ crossWay s c.val d = y ∧ x.state = 0 ∧
        y.waiting = none ∧ crossKind c.val = 3) ∧
    (∃ (s : State) (c : Fin 16) (x : CrossSt) (d : Dir) (y : CrossWay), crossing s c.val = x ∧ crossWay s c.val d = y ∧ x.state = 0 ∧
        y.waiting = none) ∧
    (∃ (t0 : Time) (s : State) (c : Fin 16) (x : CrossSt) (d : Dir) (y : CrossWay), crossing s c.val = x ∧ crossWay s c.val d = y ∧
        x.state = 0 ∧ y.waiting = some t0 ∧ crossKind c.val = 1 ∧ Quiet s 105) ∧
    (∃ (t0 : Time) (s : State) (c : Fin 16) (x : CrossSt) (d : Dir) (y : CrossWay), crossing s c.val = x ∧ crossWay s c.val d = y ∧
        x.state = 0 ∧ y.waiting = some t0 ∧ crossKind c.val = 2) ∧
    (∃ (t0 : Time) (s : State) (c : Fin 16) (x : CrossSt) (d : Dir) (y : CrossWay), crossing s c.val = x ∧ crossWay s c.val d = y ∧
        x.state = 0 ∧ y.waiting = some t0 ∧ crossKind c.val = 3) ∧
    (∃ (t0 : Time) (s : State) (c : Fin 16) (x : CrossSt) (d : Dir) (y : CrossWay), crossing s c.val = x ∧ crossWay s c.val d = y ∧
        x.state = 0 ∧ y.waiting = some t0 ∧ crossKind c.val = 1) :=
  ⟨⟨(cr 1 (cx 0 (fun w => w))), 1, (cx 0 (fun w => w)), Dir.outward, (wx (fun w => w)), by decide +kernel⟩,
   ⟨(cr 0 (cx 0 (fun w => w))), 0, (cx 0 (fun w => w)), Dir.outward, (wx (fun w => w)), by decide +kernel⟩,
   ⟨(cr 5 (cx 0 (fun w => w))), 5, (cx 0 (fun w => w)), Dir.outward, (wx (fun w => w)), by decide +kernel⟩,
   ⟨(cr 0 (cx 0 (fun w => w))), 0, (cx 0 (fun w => w)), Dir.outward, (wx (fun w => w)), by decide +kernel⟩,
   ⟨9, (cr 1 (cx 0 (fun w => {w with waiting := some 9}))), 1, (cx 0 (fun w => {w with waiting := some 9})), Dir.outward, (wx (fun w
       => {w with waiting := some 9})), by decide +kernel⟩,
   ⟨9, (cr 3 (cx 0 (fun w => {w with waiting := some 9}))), 3, (cx 0 (fun w => {w with waiting := some 9})), Dir.outward, (wx (fun w
       => {w with waiting := some 9})), by decide +kernel⟩,
   ⟨9, (cr 2 (cx 0 (fun w => {w with waiting := some 9, gathered := 2, delta := 5}))), 2, (cx 0 (fun w =>
       {w with waiting := some 9, gathered := 2, delta := 5})), Dir.outward, (wx (fun w =>
       {w with waiting := some 9, gathered := 2, delta := 5})), by decide +kernel⟩,
   ⟨9, (cr 1 (cx 0 (fun w => {w with waiting := some 9}))), 1, (cx 0 (fun w => {w with waiting := some 9})), Dir.outward, (wx (fun w
       => {w with waiting := some 9})), by decide +kernel⟩⟩

theorem test_hypotheses_CrossingsWaitForTheirAcknowledge_2 :
    (∃ (t0 : Time) (s : State) (c : Fin 16) (x : CrossSt) (d : Dir) (y : CrossWay), crossing s c.val = x ∧ crossWay s c.val d = y ∧
        x.state = 0 ∧ y.waiting = some t0 ∧ crossKind c.val = 2 ∧ y.current = y.holding) ∧
    (∃ (t0 : Time) (s : State) (c : Fin 16) (x : CrossSt) (d : Dir) (y : CrossWay), crossing s c.val = x ∧ crossWay s c.val d = y ∧
        x.state = 0 ∧ y.waiting = some t0 ∧ crossKind c.val = 2 ∧ y.current ≠ y.holding) ∧
    (∃ (t0 : Time) (s : State) (c : Fin 16) (x : CrossSt) (d : Dir) (y : CrossWay), crossing s c.val = x ∧ crossWay s c.val d = y ∧
        x.state = 0 ∧ y.waiting = some t0 ∧ crossKind c.val = 3 ∧ y.overflow = false ∧ y.gathered = 0) ∧
    (∃ (t0 : Time) (s : State) (c : Fin 16) (x : CrossSt) (d : Dir) (y : CrossWay), crossing s c.val = x ∧ crossWay s c.val d = y ∧
        x.state = 0 ∧ y.waiting = some t0 ∧ crossKind c.val = 3 ∧ y.overflow = false ∧ y.gathered ≠ 0) ∧
    (∃ (t0 : Time) (s : State) (c : Fin 16) (x : CrossSt) (d : Dir) (y : CrossWay), crossing s c.val = x ∧ crossWay s c.val d = y ∧
        x.state = 0 ∧ y.waiting = some t0 ∧ crossKind c.val = 3 ∧ y.overflow = true ∧ Quiet s 105) ∧
    (∃ (t : Time) (s : State) (c : Fin 16) (x : CrossSt) (d : Dir) (y : CrossWay), crossing s c.val = x ∧ crossWay s c.val d = y ∧
        (x.state ≠ 0 ∨ crossOverdue (s.atTime t) x = false)) ∧
    (∃ (t : Time) (s : State) (c : Fin 16) (x : CrossSt) (d : Dir) (y : CrossWay), crossing s c.val = x ∧ crossWay s c.val d = y ∧
        x.state = 0 ∧ crossOverdue (s.atTime t) x = true ∧ (c.val = 0 ∨ c.val = 1 ∨ c.val = 14) ∧ On s ∧ Raisable s t 103) ∧
    (∃ (t : Time) (s : State) (c : Fin 16) (x : CrossSt) (d : Dir) (y : CrossWay), crossing s c.val = x ∧ crossWay s c.val d = y ∧
        x.state = 0 ∧ crossOverdue (s.atTime t) x = true ∧ (c.val = 2 ∨ (6 ≤ c.val ∧ c.val ≠ 14)) ∧ Quiet s 104) :=
  ⟨⟨9, (cr 3 (cx 0 (fun w => {w with waiting := some 9}))), 3, (cx 0 (fun w => {w with waiting := some 9})), Dir.outward, (wx (fun w
      => {w with waiting := some 9})), by decide +kernel⟩,
   ⟨9, (cr 0 (cx 0 (fun w => {w with waiting := some 9, current := [2]}))), 0, (cx 0 (fun w =>
       {w with waiting := some 9, current := [2]})), Dir.outward, (wx (fun w => {w with waiting := some 9, current := [2]})),
       by decide +kernel⟩,
   ⟨9, (cr 5 (cx 0 (fun w => {w with waiting := some 9}))), 5, (cx 0 (fun w => {w with waiting := some 9})), Dir.outward, (wx (fun w
       => {w with waiting := some 9})), by decide +kernel⟩,
   ⟨9, (cr 2 (cx 0 (fun w => {w with waiting := some 9, gathered := 2, delta := 5}))), 2, (cx 0 (fun w =>
       {w with waiting := some 9, gathered := 2, delta := 5})), Dir.outward, (wx (fun w =>
       {w with waiting := some 9, gathered := 2, delta := 5})), by decide +kernel⟩,
   ⟨9, (cr 2 (cx 0 (fun w => {w with waiting := some 9, overflow := true, delta := 65535}))), 2, (cx 0 (fun w =>
       {w with waiting := some 9, overflow := true, delta := 65535})), Dir.outward, (wx (fun w =>
       {w with waiting := some 9, overflow := true, delta := 65535})), by decide +kernel⟩,
   ⟨5000, (cr 0 (cx 0 (fun w => w))), 0, (cx 0 (fun w => w)), Dir.outward, (wx (fun w => w)), by decide +kernel⟩,
   ⟨5000, (cr 1 (cx 0 (fun w => {w with waiting := some 9}))), 1, (cx 0 (fun w => {w with waiting := some 9})), Dir.outward, (wx (fun
       w => {w with waiting := some 9})), by decide +kernel⟩,
   ⟨5000, (cr 2 (cx 0 (fun w => {w with waiting := some 9, gathered := 2, delta := 5}))), 2, (cx 0 (fun w =>
       {w with waiting := some 9, gathered := 2, delta := 5})), Dir.outward, (wx (fun w =>
       {w with waiting := some 9, gathered := 2, delta := 5})), by decide +kernel⟩⟩

theorem test_hypotheses_CrossingsWaitForTheirAcknowledge_3 :
    (∃ (t : Time) (s : State) (c : Fin 16) (x : CrossSt) (d : Dir) (y : CrossWay), crossing s c.val = x ∧ crossWay s c.val d = y ∧
        x.state = 0 ∧ crossOverdue (s.atTime t) x = true ∧ 3 ≤ c.val ∧ c.val ≤ 5) ∧
    (∃ (s : State) (c : Fin 16) (x : CrossSt) (d : Dir) (y : CrossWay) (ran : Time), crossing s c.val = x ∧ crossWay s c.val d = y ∧
        x.state = 1 ∧ us 10 ≤ ran ∧ d ∈ crossDirs c.val) ∧
    (∃ (s : State) (c : Fin 16) (x : CrossSt) (d : Dir) (y : CrossWay), crossing s c.val = x ∧ crossWay s c.val d = y ∧ x.state = 1 ∧
        crossKind c.val = 2) ∧
    (∃ (s : State) (c : Fin 16) (x : CrossSt) (d : Dir) (y : CrossWay) (ran : Time), crossing s c.val = x ∧ crossWay s c.val d = y ∧
        (x.state ≠ 1 ∨ ran < us 10)) ∧
    (∃ (s : State) (c : Fin 16) (x : CrossSt) (d : Dir) (y : CrossWay), crossing s c.val = x ∧ crossWay s c.val d = y) ∧
    (∃ (s : State) (c : Fin 16) (x : CrossSt) (d : Dir) (y : CrossWay), crossing s c.val = x ∧ crossWay s c.val d = y ∧ x.state = 2 ∧
        crossKind c.val = 2) ∧
    (∃ (s : State) (c : Fin 16) (x : CrossSt) (d : Dir) (y : CrossWay), crossing s c.val = x ∧ crossWay s c.val d = y ∧ x.state = 2 ∧
        crossKind c.val = 3 ∧ y.delta + y.gathered ≠ 0) ∧
    (∃ (s : State) (c : Fin 16) (x : CrossSt) (d : Dir) (y : CrossWay), crossing s c.val = x ∧ crossWay s c.val d = y ∧ x.state = 2) :=
  ⟨⟨5000, (cr 3 (cx 0 (fun w => {w with waiting := some 9}))), 3, (cx 0 (fun w => {w with waiting := some 9})), Dir.outward, (wx (fun
      w => {w with waiting := some 9})), by decide +kernel⟩,
   ⟨(cr 0 (cx 1 (fun w => {w with waiting := some 9}))), 0, (cx 1 (fun w => {w with waiting := some 9})), Dir.outward, (wx (fun w =>
       {w with waiting := some 9})), 10000, by decide +kernel⟩,
   ⟨(cr 0 (cx 1 (fun w => {w with waiting := some 9}))), 0, (cx 1 (fun w => {w with waiting := some 9})), Dir.outward, (wx (fun w =>
       {w with waiting := some 9})), by decide +kernel⟩,
   ⟨(cr 0 (cx 0 (fun w => w))), 0, (cx 0 (fun w => w)), Dir.outward, (wx (fun w => w)), 10000, by decide +kernel⟩,
   ⟨(cr 0 (cx 0 (fun w => w))), 0, (cx 0 (fun w => w)), Dir.outward, (wx (fun w => w)), by decide +kernel⟩,
   ⟨(cr 0 (cx 2 (fun w => w))), 0, (cx 2 (fun w => w)), Dir.outward, (wx (fun w => w)), by decide +kernel⟩,
   ⟨(cr 2 (cx 2 (fun w => {w with gathered := 2, delta := 65535}))), 2, (cx 2 (fun w => {w with gathered := 2, delta := 65535})),
       Dir.outward, (wx (fun w => {w with gathered := 2, delta := 65535})), by decide +kernel⟩,
   ⟨(cr 0 (cx 2 (fun w => w))), 0, (cx 2 (fun w => w)), Dir.outward, (wx (fun w => w)), by decide +kernel⟩⟩

theorem test_hypotheses_CrossingsWaitForTheirAcknowledge_4 :
    ∃ (s : State) (c : Fin 16) (x : CrossSt) (d : Dir) (y : CrossWay), crossing s c.val = x ∧ crossWay s c.val d = y ∧ x.state ≠ 2 :=
  ⟨(cr 0 (cx 0 (fun w => w))), 0, (cx 0 (fun w => w)), Dir.outward, (wx (fun w => w)), by decide +kernel⟩

theorem test_hypotheses_TwinFramesKeepTheLinkAndTheMirror_1 :
    (∃ (s : State) (x : TwinHead) (h : Hello), twinUp s = true ∧ crossRuns s 9 = true ∧ twinValid x 1 (helloBody h) = true) ∧
    (∃ (s : State) (x : TwinHead) (r : HealthReport), twinUp s = true ∧ crossRuns s 9 = true ∧ twinValid x 3 (reportBody r) = true) ∧
    (∃ (s : State) (x : TwinHead) (cyc : U32), twinUp s = true ∧ crossRuns s 9 = true ∧ twinValid x 4 (noticeBody 3 cyc) = true) ∧
    (∃ (s : State) (x : TwinHead) (cyc : U32), twinUp s = true ∧ crossRuns s 9 = true ∧ twinValid x 4 (noticeBody 1 cyc) = true) ∧
    (∃ (s : State) (x : TwinHead) (cyc : U32), twinUp s = true ∧ crossRuns s 9 = true ∧ twinValid x 4 (noticeBody 2 cyc) = true) ∧
    (∃ (s : State) (x : TwinHead) (h : Hello), twinUp s = true ∧ crossRuns s 9 = true ∧ twinValid x 1 (helloBody h) = false) ∧
    (∃ (s : State) (x : TwinHead) (r : HealthReport), twinUp s = true ∧ crossRuns s 9 = true ∧ twinValid x 3 (reportBody r) = false) ∧
    (∃ (s : State) (x : TwinHead) (cyc : U32), twinUp s = true ∧ crossRuns s 9 = true ∧ twinValid x 4 (noticeBody 3 cyc) = false) :=
  ⟨⟨(twA), (thx 1 (helloBody he)), he, by decide +kernel⟩,
   ⟨(twA), (thx 3 (reportBody hr)), hr, by decide +kernel⟩,
   ⟨(twA), (thx 4 (noticeBody 3 5)), 5, by decide +kernel⟩,
   ⟨(twB), (thx 4 (noticeBody 1 5)), 5, by decide +kernel⟩,
   ⟨(twB), (thx 4 (noticeBody 2 5)), 5, by decide +kernel⟩,
   ⟨(twA), (thx 3 (reportBody hr)), he, by decide +kernel⟩,
   ⟨(twA), (thx 2 (blockBody 5 0 true mb)), hr, by decide +kernel⟩,
   ⟨(twA), (thx 3 (reportBody hr)), 5, by decide +kernel⟩⟩

theorem test_hypotheses_TwinFramesKeepTheLinkAndTheMirror_2 :
    (∃ (s : State) (x : TwinHead) (cyc : U32), twinUp s = true ∧ crossRuns s 9 = true ∧ twinValid x 4 (noticeBody 1 cyc) = false) ∧
    (∃ (s : State) (x : TwinHead) (cyc : U32), twinUp s = true ∧ crossRuns s 9 = true ∧ twinValid x 4 (noticeBody 2 cyc) = false) ∧
    (∃ (s : State) (x : TwinHead) (seq : U32) (idx : Nat) (last : Bool) (data : List Byte), twinUp s = true ∧ crossRuns s 9 = true ∧
        (1024 < data.length ∨ twinValid x 2 (blockBody seq idx last data) = false)) ∧
    (∃ (s : State) (x : TwinHead) (seq : U32) (idx : Nat) (last : Bool) (data : List Byte) (m : Mirror), twinUp s = true ∧ crossRuns s
        9 = true ∧ data.length ≤ 1024 ∧ twinValid x 2 (blockBody seq idx last data) = true ∧ idx = 0 ∧ last = true ∧ s.twin.blockNext
        = 0 ∧ decodeSnapshot data = some m) ∧
    (∃ (s : State) (x : TwinHead) (seq : U32) (idx : Nat) (last : Bool) (data : List Byte), twinUp s = true ∧ crossRuns s 9 = true ∧
        data.length ≤ 1024 ∧ twinValid x 2 (blockBody seq idx last data) = true ∧ idx = 0 ∧ last = true ∧ s.twin.blockNext = 0 ∧
        decodeSnapshot data = none) ∧
    (∃ (s : State) (x : TwinHead) (seq : U32) (idx : Nat) (last : Bool) (data : List Byte), twinUp s = true ∧ crossRuns s 9 = true ∧
        data.length ≤ 1024 ∧ twinValid x 2 (blockBody seq idx last data) = true ∧ 0 < s.twin.blockNext ∧ idx = s.twin.blockNext ∧ seq
        = s.twin.blocksSeq ∧ last = false) ∧
    (∃ (s : State) (x : TwinHead) (seq : U32) (idx : Nat) (last : Bool) (data : List Byte), twinUp s = true ∧ crossRuns s 9 = true ∧
        data.length ≤ 1024 ∧ twinValid x 2 (blockBody seq idx last data) = true ∧ 0 < s.twin.blockNext ∧ idx ≠ 0 ∧ (idx ≠
        s.twin.blockNext ∨ seq ≠ s.twin.blocksSeq)) ∧
    (∃ (s : State) (x : TwinHead) (seq : U32) (idx : Nat) (last : Bool) (data : List Byte), twinUp s = true ∧ crossRuns s 9 = true ∧
        data.length ≤ 1024 ∧ twinValid x 2 (blockBody seq idx last data) = true ∧ s.twin.blockNext = 0 ∧ idx ≠ 0) :=
  ⟨⟨(twA), (thx 3 (reportBody hr)), 5, by decide +kernel⟩,
   ⟨(twA), (thx 3 (reportBody hr)), 5, by decide +kernel⟩,
   ⟨(twA), (thx 3 (reportBody hr)), 5, 0, true, mb, by decide +kernel⟩,
   ⟨(twA), (thx 2 (blockBody 5 0 true mb)), 5, 0, true, mb, mf, by decide +kernel⟩,
   ⟨(twA), (thx 2 (blockBody 5 0 true [1])), 5, 0, true, [1], by decide +kernel⟩,
   ⟨(twB), (thx 2 (blockBody 5 2 false [1])), 5, 2, false, [1], by decide +kernel⟩,
   ⟨(let s := twB; {s with cyc := {s.cyc with number := 5}}), (thx 2 (blockBody 6 2 false [1])), 6, 2, false, [1], by decide +kernel⟩,
   ⟨(twA fun x => {x with paired := true}), (thx 2 (blockBody 6 2 false [1])), 6, 2, false, [1], by decide +kernel⟩⟩

theorem test_hypotheses_TwinFramesKeepTheLinkAndTheMirror_3 :
    (∃ s : State, (twinUp s = false ∨ crossRuns s 9 = false)) ∧
    (∃ s : State, s.modes.mode ≠ .off) ∧
    (∃ s : State, s.modes.mode = .off) ∧
    (∃ (t : Time) (s : State), ∃ at', s.twin.heardAt = some at' ∧ s.twin.link = true ∧ at' + ms 1 ≤ t ∧ s.twin.paired = false) ∧
    (∃ (t : Time) (s : State), ∃ at', s.twin.heardAt = some at' ∧ s.twin.link = true ∧ at' + ms 1 ≤ t ∧ s.twin.paired = true ∧
        s.twin.role = .active ∧ Quiet s 121) ∧
    (∃ (t : Time) (s : State), ∃ at', s.twin.heardAt = some at' ∧ s.twin.link = true ∧ t < at' + ms 1) ∧
    (∃ (t : Time) (s : State), ∃ n, s.twin.giving = some n ∧ s.twin.role = .standby ∧ ((s.twin.takenAt.any fun y => decide (y + us 200
        ≤ t)) = true ∨ 3 ≤ cyclesSince n s.cyc.number)) ∧
    (∃ (t : Time) (s : State), ∃ n, s.twin.giving = some n ∧ s.twin.role = .standby ∧ ((s.twin.takenAt.all fun y => decide (t < y + us
        200)) = true) ∧ cyclesSince n s.cyc.number < 3) :=
  ⟨⟨State.reset, by decide +kernel⟩,
   ⟨(twA), by decide +kernel⟩,
   ⟨(inMode (twA) .off), by decide +kernel⟩,
   ⟨2000000, (twA), 5, by decide +kernel⟩,
   ⟨2000000, (twA fun x => {x with paired := true}), 5, by decide +kernel⟩,
   ⟨1000004, (twA), 5, by decide +kernel⟩,
   ⟨2000000, (twB), 3, by decide +kernel⟩,
   ⟨200004, (let s := twB; {s with cyc := {s.cyc with number := 5}}), 3, by decide +kernel⟩⟩

theorem test_hypotheses_TwinFramesKeepTheLinkAndTheMirror_4 :
    ∃ s : State, (s.twin.giving = none ∨ s.twin.role ≠ .standby) :=
  ⟨(twA), by decide +kernel⟩

theorem test_hypotheses_ControlPassesToOneModule_1 :
    (∃ (t : Time) (s : State), s.modes.mode = .watch ∧ s.twin.role = .unresolved ∧ preferenceFits s = true ∧ s.twin.preference ≠ 0 ∧
        peerHeard (s.atTime t) = false ∧ s.bus.engine = 5 ∧ (silentSince s + (ms 64 + if s.twin.preference = 2 then sec 10 else 0) ≤
        t)) ∧
    (∃ s : State, (s.twin.role ≠ .unresolved ∨ matrixObserved s = false)) ∧
    (∃ (t : Time) (s : State), s.modes.mode = .standby ∧ s.twin.role = .standby ∧ 2 ≤ s.twin.silentRun ∧ activeSilent (s.atTime t) =
        true ∧ snapshotFresh s = true) ∧
    (∃ (t : Time) (s : State), s.modes.mode = .standby ∧ s.twin.role = .standby ∧ 2 ≤ s.twin.silentRun ∧ activeSilent (s.atTime t) =
        true ∧ snapshotFresh s = false ∧ Quiet s 121) ∧
    (∃ s : State, s.twin.silentRun < 2) ∧
    (∃ (t : Time) (s : State) (m : Mirror), (s.twin.mirror = some m ∨ (s.twin.mirror = none ∧ s.twin.newest = some m)) ∧
        s.twin.dueTakeover = true ∧ s.modes.mode = .standby ∧ s.twin.role = .standby ∧ s.cyc.voted = true ∧ cycleEnd s ≤ t ∧ Quiet s
        123 ∧ (m.final = true ∨ (slotList s = [] ∧ groupsRest s = true))) ∧
    (∃ (t : Time) (s : State), (s.twin.dueTakeover = false ∨ s.cyc.voted = false ∨ t < cycleEnd s)) ∧
    (∃ (t : Time) (s : State) (ch : Fin 8) (v : U8), Serves s t ∧ authorised s ch.val = true ∧ v ≠ 1) :=
  ⟨⟨200000000000, (let s := inMode (tS0 fun x => {x with role := .unresolved, preference := 1, peerPos := 1}) .watch; {s with bus := {s.bus with engine := 5}}), by decide +kernel⟩,
   ⟨(inMode (tS0 fun x =>
       {x with role := .standby, silentRun := 2, newest := some {mf with cycle := 6, final := false}, dueTakeover := true}) .standby),
       by decide +kernel⟩,
   ⟨200000000000, (inMode (tS0 fun x =>
       {x with role := .standby, silentRun := 2, newest := some {mf with cycle := 6, final := false}, dueTakeover := true}) .standby),
       by decide +kernel⟩,
   ⟨200000000000, (inMode (tS0 fun x =>
       {x with role := .standby, silentRun := 2, newest := some {mf with cycle := 2}, handover := some 5}) .standby),
       by decide +kernel⟩,
   ⟨(let s := inMode (tS0 fun x => {x with role := .unresolved, preference := 1, peerPos := 1}) .watch; {s with bus := {s.bus with engine := 5}}), by decide +kernel⟩,
   ⟨200000000000, (inMode (tS0 fun x =>
       {x with role := .standby, silentRun := 2, newest := some {mf with cycle := 6, final := false}, dueTakeover := true}) .standby),
       {mf with cycle := 6, final := false}, by decide +kernel⟩,
   ⟨200000000000, (let s := inMode (tS0 fun x => {x with role := .unresolved, preference := 1, peerPos := 1}) .watch; {s with bus := {s.bus with engine := 5}}), by decide +kernel⟩,
   ⟨200000000000, (inMode (tS0 fun x =>
       {x with role := .standby, silentRun := 2, newest := some {mf with cycle := 6, final := false}, dueTakeover := true}) .standby),
       0, 3, by decide +kernel⟩⟩

theorem test_hypotheses_ControlPassesToOneModule_2 :
    (∃ (t : Time) (s : State) (ch : Fin 8), Serves s t ∧ authorised s ch.val = true ∧ s.twin.role ≠ .active) ∧
    (∃ (t : Time) (s : State) (ch : Fin 8), Serves s t ∧ authorised s ch.val = true ∧ s.twin.role = .active ∧ standbyHealthy s =
        false) ∧
    (∃ (t : Time) (s : State) (ch : Fin 8), Serves s t ∧ authorised s ch.val = true ∧ s.twin.role = .active ∧ standbyHealthy s = true
        ∧ s.twin.handover.isSome = true) ∧
    (∃ (t : Time) (s : State) (ch : Fin 8), Serves s t ∧ authorised s ch.val = true ∧ s.twin.role = .active ∧ standbyHealthy s = true
        ∧ s.twin.handover = none) ∧
    (∃ (t : Time) (s : State) (x : Time), s.twin.handover = some x ∧ x + sec 60 ≤ t) ∧
    (∃ s : State, s.twin.handover = none) :=
  ⟨⟨200000000000, (let s := inMode (tS0 fun x => {x with role := .unresolved, preference := 1, peerPos := 1}) .watch; {s with bus := {s.bus with engine := 5}}), 0, by decide +kernel⟩,
   ⟨200000000000, ((tS0 fun x => {x with role := .active})), 0, by decide +kernel⟩,
   ⟨200000000000, ((tS0 fun x => {x with role := .active, peerHealth := some hr, handover := some 5})), 0, by decide +kernel⟩,
   ⟨200000000000, ((tS0 fun x => {x with role := .active, peerHealth := some hr})), 0, by decide +kernel⟩,
   ⟨200000000000, (inMode (tS0 fun x =>
       {x with role := .standby, silentRun := 2, newest := some {mf with cycle := 6}, handover := some 5}) .standby), 5,
       by decide +kernel⟩,
   ⟨(let s := inMode (tS0 fun x => {x with role := .unresolved, preference := 1, peerPos := 1}) .watch; {s with bus := {s.bus with engine := 5}}), by decide +kernel⟩⟩

theorem test_hypotheses_UpdateActionsFollowTheirStates_1 :
    (∃ (t : Time) (s : State) (ch : Fin 8), Serves s t ∧ authorised s ch.val = true ∧ s21 s = true) ∧
    (∃ (t : Time) (s : State) (ch : Fin 8) (data : List Byte), Serves s t ∧ authorised s ch.val = true ∧ s21 s = true ∧ data ≠ [] ∧
        data.length ≤ 512) ∧
    (∃ (t : Time) (s : State) (ch : Fin 8), Serves s t ∧ authorised s ch.val = true ∧ s21 s = false ∧ (s.update.state = 3 ∨
        s.update.state = 5 ∨ s.update.state = 6 ∨ s.update.state = 7)) ∧
    (∃ (t : Time) (s : State) (ch : Fin 8) (n : Nat), Serves s t ∧ authorised s ch.val = true ∧ s21 s = false ∧ s.update.state ≠ 3 ∧
        s.update.state ≠ 5 ∧ s.update.state ≠ 6 ∧ s.update.state ≠ 7 ∧ 134217728 < n) ∧
    (∃ (t : Time) (s : State) (ch : Fin 8) (n : Nat), Serves s t ∧ authorised s ch.val = true ∧ s21 s = false ∧ s.update.state ≠ 3 ∧
        s.update.state ≠ 5 ∧ s.update.state ≠ 6 ∧ s.update.state ≠ 7 ∧ n ≤ 134217728) ∧
    (∃ (t : Time) (s : State) (ch : Fin 8) (n : Nat) (pcrc : U32) (data : List Byte), Serves s t ∧ authorised s ch.val = true ∧ s21 s
        = false ∧ data ≠ [] ∧ data.length ≤ 512 ∧ crc32c data = pcrc.toNat ∧ n < piecesTotal s ∧ data.length = pieceLength s n ∧
        tget [] s.update.pieces n = [] ∧ s.update.state ≠ 1) ∧
    (∃ (t : Time) (s : State) (ch : Fin 8) (pcrc : U32) (data : List Byte), Serves s t ∧ authorised s ch.val = true ∧ s21 s = false ∧
        data ≠ [] ∧ data.length ≤ 512 ∧ crc32c data ≠ pcrc.toNat) ∧
    (∃ (t : Time) (s : State) (ch : Fin 8) (n : Nat) (pcrc : U32) (data : List Byte), Serves s t ∧ authorised s ch.val = true ∧ s21 s
        = false ∧ data ≠ [] ∧ data.length ≤ 512 ∧ crc32c data = pcrc.toNat ∧ (piecesTotal s ≤ n ∨ data.length ≠
        pieceLength s n)) :=
  ⟨⟨5, ({(uS fun u => {u with state := 1, pkglen := 4, pieces := [(0,pd)]}) with modes := {live.modes with sealStart := 0x100000}}),
      0, by decide +kernel⟩,
   ⟨5, ({(uS fun u => {u with state := 1, pkglen := 4, pieces := [(0,pd)]}) with modes := {live.modes with sealStart := 0x100000}}),
       0, pd, by decide +kernel⟩,
   ⟨5, (inMode (uS fun u => {u with state := 5, pkglen := 4}) .stop), 0, by decide +kernel⟩,
   ⟨5, (uS fun u => {u with state := 1, pkglen := 4, pieces := [(0,pd)]}), 0, 900000000, by decide +kernel⟩,
   ⟨5, (uS id), 0, 100, by decide +kernel⟩,
   ⟨5, (uS fun u => {u with state := 2, pkglen := 4}), 0, 0, pc, pd, by decide +kernel⟩,
   ⟨5, (uS fun u => {u with state := 1}), 0, 0, pd, by decide +kernel⟩,
   ⟨5, (uS fun u => {u with state := 1, pkglen := 4, pieces := [(0,pd)]}), 0, 900000000, pc, pd, by decide +kernel⟩⟩

theorem test_hypotheses_UpdateActionsFollowTheirStates_2 :
    (∃ (t : Time) (s : State) (ch : Fin 8) (n : Nat) (pcrc : U32) (data : List Byte), Serves s t ∧ authorised s ch.val = true ∧ s21 s
        = false ∧ data ≠ [] ∧ data.length ≤ 512 ∧ crc32c data = pcrc.toNat ∧ n < piecesTotal s ∧ data.length =
        pieceLength s n ∧ tget [] s.update.pieces n ≠ []) ∧
    (∃ (t : Time) (s : State) (ch : Fin 8) (n : Nat) (pcrc : U32) (data : List Byte), Serves s t ∧ authorised s ch.val = true ∧ s21 s
        = false ∧ data ≠ [] ∧ data.length ≤ 512 ∧ s.update.state = 1 ∧ crc32c data = pcrc.toNat ∧ n < piecesTotal s ∧ data.length =
        pieceLength s n ∧ tget [] s.update.pieces n = []) ∧
    (∃ (t : Time) (s : State) (ch : Fin 8) (pkgid : U64), ∃ a c, Serves s t ∧ authorised s ch.val = true ∧ (a, c) ∈ [(1, Instr.verify
        t ch pkgid), (2, .arm t ch pkgid), (3, .activate t ch pkgid), (4, .confirm t ch pkgid), (5, .cancel t ch pkgid), (6, .rollBack
        t ch pkgid)] ∧ pkgid ≠ s.update.pkgid) ∧
    (∃ (t : Time) (s : State) (ch : Fin 8) (pkgid : U64), ∃ a c, Serves s t ∧ authorised s ch.val = true ∧ (a, c) ∈ [(1, Instr.verify
        t ch pkgid), (2, .arm t ch pkgid), (3, .activate t ch pkgid), (4, .confirm t ch pkgid), (5, .cancel t ch pkgid), (6, .rollBack
        t ch pkgid)] ∧ pkgid = s.update.pkgid ∧ actionState s a = false) ∧
    (∃ (t : Time) (s : State) (ch : Fin 8) (pkgid : U64), ∃ a c, Serves s t ∧ authorised s ch.val = true ∧ (a, c) ∈ [(1, Instr.verify
        t ch pkgid), (2, .arm t ch pkgid), (3, .activate t ch pkgid), (4, .confirm t ch pkgid), (5, .cancel t ch pkgid), (6, .rollBack
        t ch pkgid)] ∧ pkgid = s.update.pkgid ∧ actionState s a = true ∧ s21 s = true) ∧
    (∃ (t : Time) (s : State) (ch : Fin 8) (pkgid : U64) (code : U16), ∃ a c, Serves s t ∧ authorised s ch.val = true ∧ (a, c) ∈ [(1,
        Instr.verify t ch pkgid), (2, .arm t ch pkgid), (3, .activate t ch pkgid), (4, .confirm t ch pkgid), (5, .cancel t ch pkgid),
        (6, .rollBack t ch pkgid)] ∧ pkgid = s.update.pkgid ∧ updateRefusal (s.atTime t) a = some code) ∧
    (∃ (t : Time) (s : State) (ch : Fin 8) (pkgid : U64), Serves s t ∧ authorised s ch.val = true ∧ pkgid = s.update.pkgid ∧
        updateRefusal (s.atTime t) 1 = none) ∧
    (∃ (t : Time) (s : State) (ch : Fin 8) (pkgid : U64), Serves s t ∧ authorised s ch.val = true ∧ pkgid = s.update.pkgid ∧
        updateRefusal (s.atTime t) 2 = none) :=
  ⟨⟨5, ({(uS fun u => {u with state := 1, pkglen := 4, pieces := [(0,pd)]}) with modes := {live.modes with sealNow := 0x100000}}), 0,
      0, pc, pd, by decide +kernel⟩,
   ⟨5, (uS fun u => {u with state := 1, pkglen := 4}), 0, 0, pc, pd, by decide +kernel⟩,
   ⟨5, (uS fun u => {u with state := 1, pkglen := 4, pieces := [(0,pd)]}), 0, 4, (5 : Nat), (Instr.cancel 5 0 4), by decide +kernel⟩,
   ⟨5, (uS fun u => {u with state := 1}), 0, 0, (1 : Nat), (Instr.verify 5 0 0), by decide +kernel⟩,
   ⟨5, ({(uS fun u => {u with state := 1, pkglen := 4, pieces := [(0,pd)]}) with modes := {live.modes with sealStart := 0x100000}}),
       0, 0, (5 : Nat), (Instr.cancel 5 0 0), by decide +kernel⟩,
   ⟨5, (inMode (uS fun u => {u with state := 5, pkglen := 4}) .run), 0, 0, 0x482, (3 : Nat), (Instr.activate 5 0 0), by decide +kernel⟩,
   ⟨5, (uS fun u => {u with state := 2, pkglen := 4}), 0, 0, by decide +kernel⟩,
   ⟨5, (uS fun u => {u with state := 4, pkglen := 4}), 0, 0, by decide +kernel⟩⟩

theorem test_hypotheses_UpdateActionsFollowTheirStates_3 :
    (∃ (t : Time) (s : State) (ch : Fin 8) (pkgid : U64), Serves s t ∧ authorised s ch.val = true ∧ pkgid = s.update.pkgid ∧
        updateRefusal (s.atTime t) 3 = none) ∧
    (∃ (t : Time) (s : State) (ch : Fin 8) (pkgid : U64), Serves s t ∧ authorised s ch.val = true ∧ pkgid = s.update.pkgid ∧
        updateRefusal (s.atTime t) 4 = none) ∧
    (∃ (t : Time) (s : State) (ch : Fin 8) (pkgid : U64), Serves s t ∧ authorised s ch.val = true ∧ pkgid = s.update.pkgid ∧
        updateRefusal (s.atTime t) 5 = none) ∧
    (∃ (t : Time) (s : State) (ch : Fin 8) (pkgid : U64), Serves s t ∧ authorised s ch.val = true ∧ pkgid = s.update.pkgid ∧
        updateRefusal (s.atTime t) 6 = none) :=
  ⟨⟨5, (inMode (uS fun u => {u with state := 5, pkglen := 4}) .stop), 0, 0, by decide +kernel⟩,
   ⟨5, (inMode (uS fun u => {u with state := 7, goodStart := true, pkglen := 4}) .stop), 0, 0, by decide +kernel⟩,
   ⟨5, (inMode (uS fun u => {u with state := 5, pkglen := 4}) .stop), 0, 0, by decide +kernel⟩,
   ⟨5, (inMode (uS fun u => {u with state := 7, goodStart := true, pkglen := 4}) .stop), 0, 0, by decide +kernel⟩⟩

theorem test_hypotheses_UpdatePhasesEnd_1 :
    (∃ (s : State) (r k : Nat), s.update.state = 3 ∧ s21 s = false ∧ verifyPackage (stagedPackage s) s.update.pkgid s.update.pkglen
        s.update.ownerKey s.update.images = (r, k) ∧ Quiet s 116) ∧
    (∃ (t : Time) (s : State), ∃ c, s.update.state = 3 ∧ Quiet s 116 ∧ ((c = Instr.verificationComplete t ∧ s21 s = true) ∨ (c =
        Instr.updateLowSupply t ∧ lowSupply (s.atTime t) = true))) ∧
    (∃ s : State, s.update.state ≠ 3) ∧
    (∃ (t : Time) (s : State), s.update.state = 6 ∧ lowSupply (s.atTime t) = true) ∧
    (∃ (t : Time) (s : State), lowSupply (s.atTime t) = false) ∧
    (∃ (t : Time) (s : State) (x : Time), s.update.paused = true ∧ s.modes.vinOkFrom = some x ∧ x + sec 10 ≤ t) ∧
    (∃ (t : Time) (s : State) (x : Time), s.update.paused = true ∧ s.modes.vinOkFrom = some x ∧ t < x + sec 10) ∧
    (∃ (t : Time) (s : State), s.update.state = 7 ∧ s.update.goodStart = true ∧ s.update.due = none ∧ s.update.limit * 3600 ≤
        probationSeconds (s.atTime t) ∧ standsStill s = true ∧ s.change.stateC = 0) :=
  ⟨⟨(uS fun u => {u with state := 3}), (verifyPackage [] 0 0 none []).1, (verifyPackage [] 0 0 none []).2, by decide +kernel⟩,
   ⟨50000000000, ({(uS fun u => {u with state := 3}) with modes := {live.modes with sealNow := 0x100000, vinLowFrom := some 5}}),
       (Instr.updateLowSupply 50000000000), by decide +kernel⟩,
   ⟨((uS fun u => {u with state := 7, goodStart := true, limit := 0, plan := []})), by decide +kernel⟩,
   ⟨50000000000,
       ({(uS fun u => {u with state := 6, paused := true}) with modes := {live.modes with sealNow := 0x100000, vinLowFrom := some 5, vinOkFrom := some 7}}),
       by decide +kernel⟩,
   ⟨50000000000, (uS fun u => {u with state := 3}), by decide +kernel⟩,
   ⟨50000000000,
       ({(uS fun u => {u with state := 6, paused := true}) with modes := {live.modes with sealNow := 0x100000, vinLowFrom := some 5, vinOkFrom := some 7}}),
       7, by decide +kernel⟩,
   ⟨10000000006, (let s := uS fun u => {u with state := 6, paused := true}; {s with modes := {s.modes with vinOkFrom := some 7}}), 7, by decide +kernel⟩,
   ⟨50000000000, (inMode (uS fun u => {u with state := 7, goodStart := true, limit := 0, plan := []}) .stop), by decide +kernel⟩⟩

theorem test_hypotheses_UpdatePhasesEnd_2 :
    (∃ (t : Time) (s : State), s.update.state = 7 ∧ s.update.goodStart = true ∧ s.update.due = none ∧ s.update.limit * 3600 ≤
        probationSeconds (s.atTime t) ∧ standsStill s = false ∧ Quiet s 117) ∧
    (∃ (t : Time) (s : State), s.update.state = 7 ∧ s.update.goodStart = true ∧ probationSeconds (s.atTime t) < s.update.limit * 3600) ∧
    (∃ s : State, s.update.state = 7 ∧ s.update.goodStart = true) ∧
    (∃ s : State, (s.update.state ≠ 7 ∨ s.update.goodStart = false)) :=
  ⟨⟨50000000000, ((uS fun u => {u with state := 7, goodStart := true, limit := 0, plan := []})), by decide +kernel⟩,
   ⟨50000000000, (inMode (uS fun u => {u with state := 7, goodStart := true, limit := 1, plan := []}) .stop), by decide +kernel⟩,
   ⟨((uS fun u => {u with state := 7, goodStart := true, limit := 0, plan := []})), by decide +kernel⟩,
   ⟨(uS fun u => {u with state := 3}), by decide +kernel⟩⟩

theorem test_hypotheses_AgeingIsMeasuredAndCounted_1 :
    (∃ (s : State) (ln : Lane), (lanePowered s ln = false ∨ crossRuns s 2 = false)) ∧
    (∃ (s : State) (ln : Lane) (temp : Int) (mv : Nat), (lanePowered s ln = true ∧ crossRuns s 2 = true) ∧ inCalibration temp mv =
        false) ∧
    (∃ (s : State) (ln : Lane) (temp : Int) (mv : Nat), (lanePowered s ln = true ∧ crossRuns s 2 = true) ∧ inCalibration temp mv =
        true) ∧
    (∃ (t : Time) (s : State) (ch : Fin 8) (v : U8), Serves s t ∧ authorised s ch.val = true ∧ v.toNat < 24) ∧
    (∃ (t : Time) (s : State) (ch : Fin 8) (v : U8), Serves s t ∧ authorised s ch.val = true ∧ 24 ≤ v.toNat) ∧
    (∃ (t : Time) (s : State), Serves s t) ∧
    (∃ (t : Time) (s : State) (v : U8), Serves s t ∧ v ≠ 1) ∧
    (∃ s : State, s.modes.mode ≠ .off) :=
  ⟨⟨({(gS fun a => {a with traceOn := true, kinds := 0xFF}) with modes := {live.modes with domains := []}}), .b, by decide +kernel⟩,
   ⟨(gS fun a => {a with traceOn := true, kinds := 0xFF, ops := [1,2,3], fifo := List.replicate 16384 ⟨0,0,0,0,0,0⟩, portFree := 600}), .b, 500, (2*Config.vnom+1), by decide +kernel, by simp only [inCalibration, Bool.and_eq_false_iff, decide_eq_false_iff_not]; omega⟩,
   ⟨(gS id), .b, 500, Config.vnom, by decide +kernel, by simp only [inCalibration, Bool.and_eq_true, decide_eq_true_eq]; omega⟩,
   ⟨500, (gS fun a =>
       {a with traceOn := true, kinds := 0xFF, ops := [1,2,3], fifo := List.replicate 16384 ⟨0,0,0,0,0,0⟩, portFree := 600}), 0, 2,
       by decide +kernel⟩,
   ⟨500, (gS id), 0, 25, by decide +kernel⟩,
   ⟨500, (gS fun a =>
       {a with traceOn := true, kinds := 0xFF, ops := [1,2,3], fifo := List.replicate 16384 ⟨0,0,0,0,0,0⟩, portFree := 600}),
       by decide +kernel⟩,
   ⟨500, (gS fun a =>
       {a with traceOn := true, kinds := 0xFF, ops := [1,2,3], fifo := List.replicate 16384 ⟨0,0,0,0,0,0⟩, portFree := 600}), 2,
       by decide +kernel⟩,
   ⟨(gS fun a =>
       {a with traceOn := true, kinds := 0xFF, ops := [1,2,3], fifo := List.replicate 16384 ⟨0,0,0,0,0,0⟩, portFree := 600}),
       by decide +kernel⟩⟩

theorem test_hypotheses_AgeingIsMeasuredAndCounted_2 :
    (∃ s : State, s.modes.mode = .off) ∧
    (∃ (s : State) (kind : Fin 16) (o : Option Lane), kind.val < 8 ∧ traceTaken s kind.val o = false) ∧
    (∃ (t : Time) (s : State) (kind : Fin 16) (o : Option Lane), kind.val < 8 ∧ traceTaken s kind.val o = true ∧ kind.val ≠ 0 ∧
        s.age.fifo = [] ∧ s.age.portFree ≤ t ∧ s.age.dropNew = 0) ∧
    (∃ (t : Time) (s : State) (kind : Fin 16) (o : Option Lane), kind.val < 8 ∧ traceTaken s kind.val o = true ∧ 16384 ≤
        s.age.fifo.length ∧ t < s.age.portFree) :=
  ⟨⟨(inMode (gS fun a => {a with traceOn := true, kinds := 0xFF}) .off), by decide +kernel⟩,
   ⟨({(gS fun a => {a with traceOn := true, kinds := 0xFF}) with modes := {live.modes with domains := []}}), 3, (some .b),
       by decide +kernel⟩,
   ⟨500, (inMode (gS fun a => {a with traceOn := true, kinds := 0xFF}) .off), 3, (some .b), by decide +kernel⟩,
   ⟨500, (gS fun a =>
       {a with traceOn := true, kinds := 0xFF, ops := [1,2,3], fifo := List.replicate 16384 ⟨0,0,0,0,0,0⟩, portFree := 600}), 3, none,
       by decide +kernel⟩⟩

/-! ## The words, the queue, the idle block -/

/-- The table gives no row any bits: no word spells a command, and the queue stays as it is. -/
theorem test_no_word_spells_a_command : decodeTableWord 16 0x1234 = none ∧
    (State.reset.withFetchWord 16 0x1234).pending = State.reset.pending := by decide

/-- Log entry 1: the empty queue idles. -/
theorem test_empty_queue_idles : step State.reset = .next State.reset := by rfl

/-! ## Ill-formed commands, one for each check of `Instr.wf` -/

def frame0 : BusFrame := ⟨0, .a, false, 0, 0, 0, 0, 0, 0, 0, [], 0, true, 0⟩
def open0 : OpenFrame := ⟨0, 0, 0, 0, 0, 0, 0, 0, 0, 0, 0, 0, [0xFFFF, 0xFFFF, 0xFFFF, 0xFFFF], 0, 0, 0⟩
def sample0 : FieldSample := ⟨true, [0], List.replicate 8 0, List.replicate 4 0, List.replicate 4 0, 0, 0, 0, 0, false⟩
def boundary0 : BoundaryRec := ⟨0, 0, 0, 0, 0, 0, 0⟩

theorem test_wf_frames : (Instr.coldstartFrame 0 frame0).wf = true ∧
    [{ frame0 with ftype := 16 }, { frame0 with node := 1024 }, { frame0 with pos := 256 }, { frame0 with bcyc := 64 },
     { frame0 with body := List.replicate 65536 0 }].all (fun f => !(Instr.coldstartFrame 0 f).wf) = true ∧
    (Instr.coldstartFrame 0 { frame0 with pos := 255 }).wf = true ∧
    (Instr.syncFrame ⟨0, .a⟩ none (some { frame0 with pos := 256 })).wf = false := by decide +kernel
theorem test_wf_opening : (Instr.sessionOpen ⟨0, .a⟩ frame0 open0).wf = true ∧
    (Instr.sessionOpen ⟨0, .a⟩ { frame0 with node := 1024 } open0).wf = false ∧
    [{ open0 with target := 1024 }, { open0 with ptype := 256 }, { open0 with slices := [0] }].all
      (fun o => !(Instr.sessionOpen ⟨0, .a⟩ frame0 o).wf && !(Instr.diagReply ⟨0, .a⟩ frame0 o).wf) = true := by decide +kernel
theorem test_wf_samples : (Instr.upFrameSend 0 sample0).wf = true ∧
    [{ sample0 with edges := [] }, { sample0 with ai := [] }, { sample0 with ai2 := [] },
     { sample0 with ai := [0, 0, 0, 4096] }, { sample0 with ai2 := [4096, 0, 0, 0] }, { sample0 with vf := 65536 },
     { sample0 with iout := 65536 }].all (fun x => !(Instr.upFrameSend 0 x).wf) = true := by decide +kernel
theorem test_wf_records : (Instr.boundaryReq 0 0 boundary0).wf = true ∧
    [{ boundary0 with relem := 16384 }, { boundary0 with rroute := 8192 }, { boundary0 with cstate := 16 },
     { boundary0 with rcode := 256 }, { boundary0 with sroute := 8192 }, { boundary0 with selem := 16384 }].all
      (fun b => !(Instr.boundaryReq 0 0 b).wf) = true := by decide +kernel
theorem test_wf_starts : (Instr.powerOn 0 65535 env0).wf = true ∧ (Instr.powerOn 0 65536 env0).wf = false ∧
    (Instr.cycleStart 0 ⟨0, []⟩ { env0 with bist := [] }).wf = false := by decide +kernel
def place0 : HostPlace := ⟨.hl1, 4, false, 0⟩
def request0 : HostReq := ⟨place0, 0, 0, 2, 0, 0⟩
def twin0 : TwinHead := ⟨1, 16, 0, 0⟩
theorem test_wf_requests : (Instr.writeExpedited 0 request0 []).wf = true ∧
    [{ request0 with op := 256 }, { request0 with op := 1 }, { request0 with index := 65536 }, { request0 with sub := 256 },
     { request0 with place := { place0 with func := 5 } }].all (fun q => !(Instr.writeExpedited 0 q []).wf) = true ∧
    (Instr.writeExpedited 0 { request0 with op := 9 } []).wf = true ∧
    (Instr.writeExpedited 0 request0 (List.replicate 57 0)).wf = false := by decide +kernel
theorem test_wf_segments : (Instr.segment 0 { place0 with func := 5 } 0 0 0 false []).wf = true ∧
    (Instr.segment 0 place0 0 0 0 false []).wf = false ∧
    (Instr.segment 0 { place0 with func := 5 } 0 0 0 false (List.replicate 61 0)).wf = false := by decide +kernel
theorem test_wf_twin : [twin0, { twin0 with typ := 7 }].all (fun h => (Instr.twinHello ⟨0, h⟩ he).wf) = true ∧
    [{ twin0 with typ := 2 }, { twin0 with typ := 256 }, { twin0 with len := 65536 }].all
      (fun h => !(Instr.twinHello ⟨0, h⟩ he).wf) = true := by decide +kernel
theorem test_wf_rest : (Instr.retirementMismatch 0 .l ⟨0, .branch true 0, .branch false 0⟩).wf = false ∧
    (Instr.upFrameReceive 0 .a { upFrame live .a with cnt := [] }).wf = false ∧
    (Instr.postedWrite 0 .a .outward 0 (List.replicate 65 0) 0).wf = false ∧
    (Instr.traceRecord 0 8 none 0 0).wf = false := by decide +kernel
/-- Log entry 4: an ill-formed command runs like any other. -/
theorem test_ill_formed_runs : ∃ s', exec (.traceRecord 0 8 none 0 0) live = .next s' := ⟨_, rfl⟩

/-! ## The manual's worked examples -/

/-- Chapter 16, worked example: M at 9.00 % and at 15 % added delay (tenths of a percent). -/
theorem test_margin_of_the_example : projectedMargin 2610 5500 900 = 550 ∧ projectedMargin 2610 5500 1500 = 525 := by decide

/-- Table 02-10 and chapter 2: A and B conflict, so the point holds; A and L agree without B; three proposals G = 3. -/
theorem test_votes_of_the_example :
    votedMove (fun ln => match ln with | .a => .rev | .b => .normal | .l => .rev) [.a, .b, .l] = .hold ∧
    votedMove (fun _ => .rev) [.a, .l] = .rev ∧ permission [3, 3] = 3 ∧ permission [3, 3, 3] = 3 := by decide

/-- The aspect table of profile 2 of Central: 22h stands before 24h; a code below P is kept, a code above P is clipped. -/
def profile2 : Profile := { pr0 with aspect := [[0x00], [0x10], [0x21, 0x22, 0x24], [0x30, 0x33]] }
theorem test_aspects_of_the_example : lowestCode profile2 [0x24, 0x22] = 0x22 ∧ clip profile2 3 0x24 = 0x24 ∧
    clip profile2 2 0x33 = 0x21 ∧ clip profile2 3 0x99 = 0x00 := by decide

/-- Table 06-10: the limit of the envelope at j = 1 to 4 (f0 2500, DECT 600 ms, FMARG 500, FSTOP 200, C = 8 ms). -/
def group1204 : GroupRec := { gr0 with fstop := 200, fmarg := 500, dect := 600 }
theorem test_envelope_of_the_example :
    [1, 2, 3, 4].map (fun j => envelopeLimit { live with cyc := { live.cyc with c := 8 } } group1204 { f0 := 2500000, j := j })
      = [2966, 2933, 2900, 2866] := by decide +kernel

/-- Chapter 9, worked example: R263 chooses generation 2, 32 bytes, period 1, Fold, (SC0, SC2) and profile 2. -/
def central : State := { live with station := some { stn with
  header := { hdr0 with segment := 5, posA := 2, posB := some 3 }
  policies := [(0, some ⟨0, [4, 3, 2, 1], [3, 2, 1], [3, 2, 1], [1, 2], [(0, 2), (2, 0)]⟩)]
  scs := [(2, some ⟨0, 32, 0x741B8CD7, 0xFFFFFFFF, 0xFFFFFFFF, true, true, 0⟩)] } }
def controller37 : Partner := ⟨0, 37, 0x0005, 0x00A31C52, false, 0, [2, 0]⟩
theorem test_negotiation_of_the_example :
    (match negotiate central { open0 with gens := 3, pls := 3, opts := 3, pers := 7, profs := 5, codes := 5 }
        ⟨0, [4, 3, 2, 1], [3, 2, 1], [3, 2, 1], [1, 2], [(0, 2), (2, 0)]⟩ controller37 with
     | .ok o => decide (o = { gen := 2, payload := 32, option := 2, period := 1, pa := 0, pb := 2, profile := 2 })
     | .error _ => false) = true ∧
    commandRange 0 32 = 12 ∧ reportRange 32 = 14 := by decide +kernel
/-- The same example: ADDR downstream and upstream. -/
theorem test_addresses_of_the_example :
    addrDown central controller37 = 0xF1421C52 ∧ addrUp central controller37 = 0x1C52F142 := by decide +kernel

/-- Table 08-14, step 1 and 2: rank 0 listens 129 ms from 1.0 ms, and becomes time master when its readback is clean. -/
theorem test_coldstart_of_the_example :
    let s := { live with bus := { live.bus with engine := 1, rank := some 0, listenFrom := 1000000 } }
    (match execListenEnd ⟨128999999, .a⟩ (some 0) (some 0) s, execListenEnd ⟨129000000, .a⟩ (some 0) (some 0) s with
     | .next x, .next y => decide (x.bus.engine = 1 ∧ y.bus.engine = 5)
     | _, _ => false) = true := by decide +kernel

/-- Table 16-1: the months that are left for Mill B, at n = 0.383 and at the bound's 0.410. -/
theorem test_life_of_the_example : monthsTo 17520 900 383000000000000000 = 67 ∧ monthsTo 17520 900 410000000000000000 = 59 := by
  decide +kernel
/-- Points of a power law with n = 1/2 give it back, to nine places. -/
theorem test_fit_of_a_power_law : fitSlope ((List.range 30).map fun k => ((k + 5) * (k + 5), (k : Int) + 5)) / 10 ^ 9 = 500000000 - 1 ∨
    fitSlope ((List.range 30).map fun k => ((k + 5) * (k + 5), (k : Int) + 5)) / 10 ^ 9 = 500000000 := by decide +kernel

/-- R435: the first point after a powered day, and no second one on the same day. -/
theorem test_one_point_a_day : dayPassed {} 25 = true ∧ dayPassed { history := [(24, 0)] } 25 = false ∧
    (match exec (.historyPoint 500) { live with age := { live.age with counters := [90000] } } with
     | .next x => decide ((x.age.lanes.get .l).history = [(25, 0)])
     | _ => false) = true := by decide +kernel

/-! ## Check values of the codes that the manual names by their parameters -/

def digits : List Byte := [0x31, 0x32, 0x33, 0x34, 0x35, 0x36, 0x37, 0x38, 0x39]
/-- CRC-32C (ECHK), the bus CRC-32 and the Book's CRC-16 over the usual nine digits. -/
theorem test_crc_check_values : crc32c digits = 0xE3069283 ∧
    crc 32 0x04C11DB7 0xFFFFFFFF true true 0xFFFFFFFF digits = 0xCBF43926 ∧
    crc 16 0x1021 0xFFFF false false 0 digits = 0x29B1 := by decide +kernel
/-- CRC-64 of R58 over the nine digits. -/
theorem test_crc64_check_value :
    crc 64 0x42F0E1EBA9EA3693 0xFFFFFFFFFFFFFFFF false false 0xFFFFFFFFFFFFFFFF digits = 0x62EC59E3F1A4F00A := by decide +kernel
/-- SHA-256 of "abc" (FIPS 180-4). -/
theorem test_sha256_abc : beNat (sha256 [0x61, 0x62, 0x63])
    = 0xBA7816BF8F01CFEA414140DE5DAE2223B00361A396177A9CB410FF61F20015AD := by decide +kernel
/-- HMAC-SHA-256, the second case of RFC 4231. -/
theorem test_hmac_jefe : beNat (hmac256 [0x4A, 0x65, 0x66, 0x65]
    [0x77, 0x68, 0x61, 0x74, 0x20, 0x64, 0x6F, 0x20, 0x79, 0x61, 0x20, 0x77, 0x61, 0x6E, 0x74, 0x20, 0x66, 0x6F, 0x72, 0x20,
     0x6E, 0x6F, 0x74, 0x68, 0x69, 0x6E, 0x67, 0x3F])
    = 0x5BDCC146BF60754E6A042426089575C75A003F089D2739839DEC58B964EC3843 := by decide +kernel
/-- The first Ed25519 case of RFC 8032 (empty message), and the same signature with one bit turned. -/
theorem test_ed25519_case1 :
    ed25519Verify (beBytes 32 0xD75A980182B10AB7D54BFED3C964073A0EE172F3DAA62325AF021A68F707511A) []
      (beBytes 64
          0xE5564300C360AC729086E2CC806E828A84877F1EB8E5D974D873E065224901555FB8821590A33BACC61E39701CF9B46BD25BF5F0595BBE24655141438E7A100B)
      = true ∧
    ed25519Verify (beBytes 32 0xD75A980182B10AB7D54BFED3C964073A0EE172F3DAA62325AF021A68F707511A) []
      (beBytes 64
          0xE5564300C360AC729086E2CC806E828A84877F1EB8E5D974D873E065224901555FB8821590A33BACC61E39701CF9B46BD25BF5F0595BBE24655141438E7A100A)
      = false := by decide +kernel

end Sys2Proof.Tests
end

section
/-!
PROOFS. The votes of R51 and R53 to R55: what the median, the agreement of two lanes and the hold of contested points give, for
whatever the lanes propose.
-/

namespace Sys2Proof.Machine

/-! ### Two of three lanes -/

/-- Two of the three lanes meet a test exactly when one of the three pairs does. -/
theorem two_le_lanes_iff (p : Lane → Bool) :
    2 ≤ (allLanes.filter p).length ↔ (p .a ∧ p .b) ∨ (p .a ∧ p .l) ∨ (p .b ∧ p .l) := by
  simp only [allLanes, List.filter_cons, List.filter_nil]
  generalize p .a = a, p .b = b, p .l = l
  revert a b l
  decide

/-! ### The agreed value (R53 to R55) -/

section Agreed
variable {α : Type} [DecidableEq α]

theorem agreed_two (x y d : α) : agreed [x, y] d = if x = y then x else d := rfl

theorem agreed_allLanes (f : Lane → α) (d : α) :
    agreed (allLanes.map f) d = if f .a = f .b ∨ f .a = f .l then f .a else if f .b = f .l then f .b else d := rfl

/-- Three lanes that differ from each other agree on nothing. -/
theorem agreed_allLanes_of_pairwise_ne {f : Lane → α} (d : α) (hab : f .a ≠ f .b) (hal : f .a ≠ f .l) (hbl : f .b ≠ f .l) :
    agreed (allLanes.map f) d = d := by
  simp [agreed_allLanes, hab, hal, hbl]

/-- The value that two of three lanes propose is agreed: any two pairs of lanes have a lane in common, so no other value can be. -/
theorem agreed_allLanes_of_two_propose {f : Lane → α} {v : α} (d : α) (h : 2 ≤ (allLanes.filter fun k => f k = v).length) :
    agreed (allLanes.map f) d = v := by
  rw [two_le_lanes_iff] at h
  simp only [decide_eq_true_eq] at h
  rw [agreed_allLanes]
  obtain ⟨ha, hb⟩ | ⟨ha, hl⟩ | ⟨hb, hl⟩ := h
  · rw [if_pos (.inl (ha.trans hb.symm)), ha]
  · rw [if_pos (.inr (ha.trans hl.symm)), ha]
  · by_cases ha : f .a = v
    · rw [if_pos (.inr (ha.trans hl.symm)), ha]
    · rw [if_neg (by simp [hb, hl, ha]), if_pos (hb.trans hl.symm), hb]

/-- The three lanes give their agreed value or the fall-back: a value other than the fall-back has two proposers. -/
theorem two_propose_of_agreed_allLanes {f : Lane → α} {d v : α} (h : agreed (allLanes.map f) d = v) (hv : v ≠ d) :
    2 ≤ (allLanes.filter fun k => f k = v).length := by
  rw [two_le_lanes_iff]
  simp only [decide_eq_true_eq]
  rw [agreed_allLanes] at h
  split at h
  next hab =>
    obtain hab | hal := hab
    · exact .inl ⟨h, hab ▸ h⟩
    · exact .inr (.inl ⟨h, hal ▸ h⟩)
  next =>
    split at h
    next hbl => exact .inr (.inr ⟨h, hbl ▸ h⟩)
    next => exact absurd h.symm hv

/-- R54: without a value that two lanes propose, the previous one stays. -/
theorem agreed_allLanes_of_no_two {f : Lane → α} (d : α) (h : ∀ v, (allLanes.filter fun k => f k = v).length < 2) :
    agreed (allLanes.map f) d = d := by
  by_contra hd
  exact absurd (two_propose_of_agreed_allLanes rfl hd) (Nat.not_le.mpr (h _))

end Agreed

/-- R55: a release is voted by three lanes exactly when two of them propose it. -/
theorem release_allLanes_iff (c : Lane → Bool) :
    agreed (allLanes.map c) false = true ↔ 2 ≤ (allLanes.filter fun k => c k).length := by
  have hc : (allLanes.filter fun k => c k) = allLanes.filter fun k => c k = true := by simp
  rw [hc]
  exact ⟨fun h => two_propose_of_agreed_allLanes h (by decide), agreed_allLanes_of_two_propose false⟩

/-- R55: a release is voted by two lanes exactly when both propose it. -/
theorem release_two_iff : ∀ x y : Bool, agreed [x, y] false = true ↔ x = true ∧ y = true := by
  decide

/-! ### The permission (R51) -/

theorem permission_allLanes (g : Lane → Nat) :
    permission (allLanes.map g) = max (min (g .a) (g .b)) (min (max (g .a) (g .b)) (g .l)) := rfl

/-- The median is one of the three classes. -/
theorem permission_mem (g : Lane → Nat) : permission (allLanes.map g) ∈ allLanes.map g := by
  have h : permission (allLanes.map g) = g .a ∨ permission (allLanes.map g) = g .b ∨ permission (allLanes.map g) = g .l := by
    rw [permission_allLanes]; omega
  simpa [allLanes] using h

/-- Two lanes propose the permission or less: one lane alone cannot raise it. -/
theorem two_propose_le_permission (g : Lane → Nat) :
    2 ≤ (allLanes.filter fun k => g k ≤ permission (allLanes.map g)).length := by
  rw [two_le_lanes_iff]
  simp only [decide_eq_true_eq]
  rw [permission_allLanes]
  omega

/-- Two lanes propose the permission or more: one lane alone cannot lower it. -/
theorem two_propose_ge_permission (g : Lane → Nat) :
    2 ≤ (allLanes.filter fun k => permission (allLanes.map g) ≤ g k).length := by
  rw [two_le_lanes_iff]
  simp only [decide_eq_true_eq]
  rw [permission_allLanes]
  omega

/-! ### The movement (R53) -/

theorem conflict_iff (m : Lane → Move) (l : List Lane) :
    conflict m l = true ↔ .a ∈ l ∧ .b ∈ l ∧ m .a ≠ .hold ∧ m .b ≠ .hold ∧ m .a ≠ m .b := by
  simp [conflict, and_assoc]

/-- A movement contested by the Mills is Hold; any other is the agreed one, else Hold. -/
theorem votedMove_eq (m : Lane → Move) (l : List Lane) :
    votedMove m l = if conflict m l then .hold else agreed (l.map m) .hold := by
  simp only [votedMove, conflict_iff, List.contains_iff_mem]

/-- Two lanes with one movement contest nothing: a conflict needs two lanes in the vote whose movements differ. -/
theorem conflict_two_of_eq {m : Lane → Move} {x y : Lane} (h : m x = m y) : conflict m [x, y] = false := by
  rw [Bool.eq_false_iff, Ne, conflict_iff]
  rintro ⟨ha, hb, -, -, hab⟩
  have same : ∀ k ∈ [x, y], m k = m x := by simp [h]
  exact hab ((same _ ha).trans (same _ hb).symm)

theorem votedMove_of_conflict {m : Lane → Move} {l : List Lane} (h : conflict m l = true) : votedMove m l = .hold := by
  rw [votedMove_eq, if_pos h]

/-- Where the lanes agree on nothing, the movement is Hold, contested or not. -/
theorem votedMove_of_agreed_hold {m : Lane → Move} {l : List Lane} (h : agreed (l.map m) .hold = .hold) :
    votedMove m l = .hold := by
  rw [votedMove_eq, h, ite_self]

theorem votedMove_of_not_conflict {m : Lane → Move} {l : List Lane} (h : conflict m l = false) :
    votedMove m l = agreed (l.map m) .hold := by
  rw [votedMove_eq, h, if_neg Bool.false_ne_true]

/-- Two lanes with one movement: it is voted. -/
theorem votedMove_two_of_eq {m : Lane → Move} {x y : Lane} (h : m x = m y) : votedMove m [x, y] = m x := by
  rw [votedMove_of_not_conflict (conflict_two_of_eq h)]
  exact if_pos h

/-- Two lanes with two movements: Hold. -/
theorem votedMove_two_of_ne {m : Lane → Move} {x y : Lane} (h : m x ≠ m y) : votedMove m [x, y] = .hold :=
  votedMove_of_agreed_hold (if_neg h)

/-- Where the Mills do not contest it, the movement that two of three lanes propose is voted. -/
theorem votedMove_allLanes_of_two_propose {m : Lane → Move} {v : Move} (h : m .a = .hold ∨ m .b = .hold ∨ m .a = m .b)
    (hv : 2 ≤ (allLanes.filter fun k => m k = v).length) : votedMove m allLanes = v := by
  have hc : conflict m allLanes = false := by
    rw [Bool.eq_false_iff, Ne, conflict_iff]
    tauto
  rw [votedMove_of_not_conflict hc]
  exact agreed_allLanes_of_two_propose .hold hv

/-- Settles O27: the parts are the rules of the permission, the movement, the route state and the release above. -/
theorem permissionMovementStateAndClaimVotes : Obligations.PermissionMovementStateAndClaimVotes := by
  intro g m l r was c x y
  refine ⟨permission_mem g, two_propose_le_permission g, two_propose_ge_permission g, rfl, ?contested, ?uncontested, ?allDiffer,
    ?twoSame, ?twoDiffer, ?routeAgreed, ?routeKept, ?routeTwo, ?release, ?releaseTwo⟩
  case contested => exact fun ha hb hna hnb hab => votedMove_of_conflict ((conflict_iff m l).mpr ⟨ha, hb, hna, hnb, hab⟩)
  case uncontested => exact fun h _ hv => votedMove_allLanes_of_two_propose h hv
  case allDiffer => exact fun hab hal hbl => votedMove_of_agreed_hold (agreed_allLanes_of_pairwise_ne .hold hab hal hbl)
  case twoSame => exact fun _ h => votedMove_two_of_eq h
  case twoDiffer => exact fun _ h => votedMove_two_of_ne h
  case routeAgreed => exact fun _ hv => agreed_allLanes_of_two_propose was hv
  case routeKept => exact agreed_allLanes_of_no_two was
  case routeTwo => exact fun _ => agreed_two (r x) (r y) was
  case release => exact release_allLanes_iff c
  case releaseTwo => exact fun _ => release_two_iff (c x) (c y)

end Sys2Proof.Machine
end

section
/-!
PROOFS. Entering Safe State (R115): what the flush of the command queue leaves in the ring and in the reservations, and that the rest
of the entry leaves the cycle as the flush left it.
-/

namespace Sys2Proof.Machine

/-! ### What a result leaves in the ring (R136, R137) -/

/-- A result takes its place at the end of the ring and uses one reservation. -/
@[simp] theorem writeResult_cyc (s : State) (x : ResultRec) :
    (writeResult s x).cyc = { s.cyc with
      ring := s.cyc.ring ++ [x], writeSeq := s.cyc.writeSeq + 1, reserved := s.cyc.reserved - 1 } := by
  simp [writeResult]

/-- Of the state, a result record holds the number of the cycle only. -/
theorem resultOf_congr {s s' : State} (h : s'.cyc.number = s.cyc.number) (c : Command) (code : U8) (ref : U32) :
    resultOf s' c code ref = resultOf s c code ref := by
  simp only [resultOf, h]

/-- Results for a list of commands stand in the ring in the order of the list, all with the number of the one cycle. -/
theorem foldl_results_ring (code : U8) (ref : U32) (l : List Command) (s : State) :
    (l.foldl (fun st c => writeResult (noteResult st c code ref) (resultOf st c code ref)) s).cyc.ring =
      s.cyc.ring ++ l.map fun c => resultOf s c code ref := by
  induction l generalizing s with
  | nil => simp
  | cons c l ih =>
    have number : ∀ d, resultOf (writeResult (noteResult s c code ref) (resultOf s c code ref)) d code ref =
        resultOf s d code ref := fun d => resultOf_congr (by simp) d code ref
    simp [ih, number]

/-! ### The flush of the queue (R115) -/

/-- Nothing waits after the flush: not in the queue, not of the present cycle, not of the earlier ones. -/
theorem flushCommands_waiting (s : State) :
    (flushCommands s).cyc.cmdq = [] ∧ (flushCommands s).cyc.taken = [] ∧ (flushCommands s).cyc.live = [] :=
  ⟨rfl, rfl, rfl⟩

/-- The flush answers 15h to each command that has no answer: those of the queue, then those taken in the present cycle. -/
theorem flushCommands_ring (s : State) :
    (flushCommands s).cyc.ring =
      s.cyc.ring ++ ((s.cyc.cmdq ++ s.cyc.taken).filter fun c => !c.answered).map fun c => resultOf s c 0x15 none32 :=
  foldl_results_ring 0x15 none32 _ s

/-- The flush returns what every command held, answered or not. -/
theorem flushCommands_reserved (s : State) :
    (flushCommands s).cyc.reserved =
      s.cyc.reserved - ((s.cyc.cmdq ++ s.cyc.taken ++ s.cyc.live).map Command.reserved).sum := by
  rw [List.sum_eq_foldl, List.foldl_map]
  rfl

/-! ### The entry (R344) -/

/-- What the entry into Safe State does to the cycle is to stop it and to flush the queue: the change of mode, the aborted attempts,
the cancelled change and the notice to the twin leave it alone. -/
theorem enterSafeState_cyc {s : State} (h : On s) (src : U8) :
    (enterSafeState s src).cyc =
      (flushCommands { stopKillLines s src with cyc := { s.cyc with running := false } }).cyc := by
  obtain ⟨hoff, hshut, hsafe⟩ := h
  unfold enterSafeState
  split
  case h_1 hm => exact absurd hm hoff
  case h_2 hm => exact absurd hm hshut
  case h_3 hm => exact absurd hm hsafe
  case h_4 => dsimp only; split <;> simp

/-- Settles O9: the cycle after the entry is the flushed one. That each 15h stands in the ring at once, with the number of the cycle of
the entry and not in an Issue phase, and that the queue's commands come before those taken, is the model's reading of R115 (log 13,
DEDUCED). -/
theorem safeStateAnswersTheQueue : Obligations.SafeStateAnswersTheQueue := by
  intro s src h
  rw [enterSafeState_cyc h src]
  obtain ⟨cmdq, taken, live⟩ := flushCommands_waiting { stopKillLines s src with cyc := { s.cyc with running := false } }
  exact ⟨cmdq, taken, live, flushCommands_ring _, flushCommands_reserved _⟩

end Sys2Proof.Machine
end

section
/-!
PROOFS. The single exit of every command: whatever its operands, a command is one function applied at one Belfry time.
-/

namespace Sys2Proof.Machine

/-- No arm of the dispatch ends in a fault or a refusal: each is one application of `at_`, which answers a next state with the queue of
waiting commands it found. -/
theorem exec_next (c : Instr) (s : State) : ∃ s', exec c s = .next s' ∧ s'.pending = s.pending := by
  cases c <;> exact ⟨_, rfl, rfl⟩

theorem step_of_pending_nil {s : State} (h : s.pending = []) : step s = .next s := by
  rw [step, h]

theorem step_of_pending_cons {s : State} {c : Instr} {rest : List Instr} (h : s.pending = c :: rest) :
    step s = exec c (s.withQueue rest) := by
  rw [step, h]
  rfl

/-- A step answers a next state, whose queue is the rest of the queue. -/
theorem step_next (s : State) : ∃ s', step s = .next s' ∧ s'.pending = s.pending.tail := by
  cases h : s.pending with
  | nil => exact ⟨s, step_of_pending_nil h, h⟩
  | cons c rest =>
    rw [step_of_pending_cons h]
    exact exec_next c (s.withQueue rest)

/-- Settles O1. -/
theorem stepRunsTheFrontCommand : Obligations.StepRunsTheFrontCommand :=
  fun _ _ _ => ⟨step_of_pending_cons rfl, step_of_pending_nil rfl⟩

/-- Settles O2: each value stands in the reset state as the definition writes it. -/
theorem resetIsDarkAndEmpty : Obligations.ResetIsDarkAndEmpty := by
  refine ⟨rfl, rfl, rfl, ⟨rfl, rfl⟩, rfl, rfl, rfl, rfl, rfl, rfl, rfl, rfl, ?killStopped⟩
  case killStopped => exact fun _ => ⟨rfl, rfl⟩

/-- Settles O3: the commands by their single exit, the step by the queue it takes its command from. -/
theorem commandsAndStepsAlwaysGoOn : Obligations.CommandsAndStepsAlwaysGoOn :=
  ⟨exec_next, step_next⟩

end Sys2Proof.Machine
end

section
/-!
PROOFS. What the two invariants read of a state: the mode, the kill lines, the sequencer of the cycles, and the installed images. For each
operation of the model one law says that it leaves the four alone, or, where it may enter Safe State, that it keeps both invariants.
-/

namespace Sys2Proof.Machine

/-- What the two invariants read. -/
structure Core where
  mode : Mode
  killR : Rails 1
  running : Bool
  images : Table (List Byte)

/-- The core of a state. -/
def core (s : State) : Core := ⟨s.modes.mode, s.constable.killR, s.cyc.running, s.update.images⟩

/-- A core in Off, Safe State or Shutdown has its kill lines stopped and runs no cycle. -/
def Core.Dark (c : Core) : Prop :=
  c.mode = .off ∨ c.mode = .safeState ∨ c.mode = .shutdown → c.killR.on = false ∧ c.running = false

theorem core_dark_iff (s : State) : (core s).Dark ↔ KillStopped s := Iff.rfl

/-- From the one core to the other the darkness of the stopped modes is kept, and, with `b`, the images are the same. -/
structure Keeps (b : Bool) (c d : Core) : Prop where
  images : b = true → d.images = c.images
  dark : c.Dark → d.Dark

@[simp] theorem Keeps.refl (b : Bool) (c : Core) : Keeps b c c := ⟨fun _ => rfl, id⟩

theorem Keeps.trans {b : Bool} {c d e : Core} (h : Keeps b c d) (h' : Keeps b d e) : Keeps b c e :=
  ⟨fun hb => (h'.images hb).trans (h.images hb), fun hc => h'.dark (h.dark hc)⟩

@[simp] theorem keeps_ite {b : Bool} {c d e : Core} {p : Prop} [Decidable p] :
    Keeps b c (if p then d else e) ↔ (p → Keeps b c d) ∧ (¬p → Keeps b c e) := by
  split <;> simp [*]

@[simp] theorem core_ite (p : Prop) [Decidable p] (s s' : State) :
    core (if p then s else s') = if p then core s else core s' := apply_ite core p s s'

/-- An update that writes none of the four leaves the core alone. -/
@[simp] theorem core_update {s : State} {n st ok lc lr pr ch ln vo cy co po fi bu se ho sti mo con tw up ag out dr}
    (hm : mo.mode = s.modes.mode) (hk : con.killR = s.constable.killR) (hr : cy.running = s.cyc.running)
    (hi : up.images = s.update.images) :
    core ⟨s.pending, n, st, ok, lc, lr, pr, ch, ln, vo, cy, co, po, fi, bu, se, ho, sti, mo, con, tw, up, ag, out, dr⟩ = core s := by
  simp [core, hm, hk, hr, hi]

/-- A fold of an operation that leaves the core alone leaves it alone. -/
@[simp] theorem foldl_core {α : Type} (f : State → α → State) (h : ∀ s x, core (f s x) = core s) (l : List α) (s : State) :
    core (l.foldl f s) = core s := by
  induction l generalizing s with
  | nil => rfl
  | cons x l ih => rw [List.foldl_cons, ih, h]

/-- A fold of an operation that keeps the invariants keeps them. -/
@[simp] theorem foldl_keeps {α : Type} {b : Bool} {c : Core} (f : State → α → State)
    (h : ∀ s x, Keeps b c (core s) → Keeps b c (core (f s x))) (l : List α) {s : State} (hs : Keeps b c (core s)) :
    Keeps b c (core (l.foldl f s)) := by
  induction l generalizing s with
  | nil => exact hs
  | cons x l ih => exact ih (h s x hs)

/-- A host write keeps the invariants when it is accepted. -/
def WKeeps (b : Bool) (c : Core) (w : Write) : Prop := ∀ s, w = .ok s → Keeps b c (core s)

@[simp] theorem wkeeps_ok {b : Bool} {c : Core} {s : State} : WKeeps b c (.ok s) ↔ Keeps b c (core s) :=
  ⟨fun h => h s rfl, fun h _ hs => Except.ok.inj hs ▸ h⟩
@[simp] theorem wkeeps_error {b : Bool} {c : Core} {code : U16} : WKeeps b c (.error code) := by
  intro s h; simp at h
@[simp] theorem wkeeps_refuseUnless {b : Bool} {c : Core} {p : Bool} {code : U16} {w : Write} :
    WKeeps b c (refuseUnless p code w) ↔ (p = true → WKeeps b c w) := by
  cases p <;> simp [refuseUnless]
@[simp] theorem wkeeps_needAuth {b : Bool} {c : Core} {s : State} {ch : Nat} {f : State → Write} :
    WKeeps b c (needAuth s ch f) ↔ (authorised s ch = true → WKeeps b c (f s)) := by
  unfold needAuth; split <;> simp [*]
@[simp] theorem wkeeps_ite {b : Bool} {c : Core} {p : Prop} [Decidable p] {w w' : Write} :
    WKeeps b c (if p then w else w') ↔ (p → WKeeps b c w) ∧ (¬p → WKeeps b c w') := by
  split <;> simp [*]

/-- What a command answers keeps the invariants. -/
def OKeeps (b : Bool) (s : State) (o : Host.Outcome State Fault Refusal) : Prop :=
  ∀ s', o = .next s' → Keeps b (core s) (core s')


/-- Not one of the stopped modes. -/
def Mode.Live (m : Mode) : Prop := m ≠ .off ∧ m ≠ .safeState ∧ m ≠ .shutdown

@[simp] theorem Mode.live_iff (m : Mode) : m.Live ↔ m ≠ .off ∧ m ≠ .safeState ∧ m ≠ .shutdown := Iff.rfl

/-- In a live mode the kill lines and the cycles are free to run. -/
@[simp] theorem Keeps.live {b : Bool} {c d : Core} (h : Keeps b c d) {m : Mode} (hm : m.Live) {k : Rails 1} {r : Bool} :
    Keeps b c ⟨m, k, r, d.images⟩ :=
  ⟨h.images, fun _ hd => by obtain ⟨h1, h2, h3⟩ := hm; tauto⟩

/-- A sequencer that stops keeps both invariants. -/
@[simp] theorem Keeps.halted {b : Bool} {c d : Core} (h : Keeps b c d) : Keeps b c ⟨d.mode, d.killR, false, d.images⟩ :=
  ⟨h.images, fun hc hm => ⟨(h.dark hc hm).1, rfl⟩⟩

/-! ### Machine/Ops.lean -/

@[simp] theorem modLane_core (s : State) (ln : Lane) (f : LaneSt → LaneSt) : core (modLane s ln f) = core s := by
  unfold modLane; (repeat' split) <;> simp
@[simp] theorem modElem_core (s : State) (e : Nat) (f : ElemSt → ElemSt) : core (modElem s e f) = core s := by
  unfold modElem; (repeat' split) <;> simp
@[simp] theorem modGroup_core (s : State) (g : Nat) (f : GroupSt → GroupSt) : core (modGroup s g f) = core s := by
  unfold modGroup; (repeat' split) <;> simp
@[simp] theorem modRoute_core (s : State) (r : Nat) (f : RouteSt → RouteSt) : core (modRoute s r f) = core s := by
  unfold modRoute; (repeat' split) <;> simp
@[simp] theorem modSlot_core (s : State) (k : Nat) (f : Slot → Slot) : core (modSlot s k f) = core s := by
  unfold modSlot; (repeat' split) <;> simp
@[simp] theorem modSess_core (s : State) (k : Nat) (f : Sess → Sess) : core (modSess s k f) = core s := by
  unfold modSess; (repeat' split) <;> simp
@[simp] theorem modSource_core (s : State) (n : Nat) (f : SourceSt → SourceSt) : core (modSource s n f) = core s := by
  unfold modSource; (repeat' split) <;> simp
@[simp] theorem modChan_core (s : State) (c : Nat) (f : ChannelSt → ChannelSt) : core (modChan s c f) = core s := by
  unfold modChan; (repeat' split) <;> simp
@[simp] theorem putSetting_core (s : State) (index sub v : Nat) : core (putSetting s index sub v) = core s := by
  unfold putSetting; (repeat' split) <;> simp
@[simp] theorem draw_core (s : State) : core (draw s) = core s := by
  unfold draw; (repeat' split) <;> simp
@[simp] theorem emit_core (s : State) (o : Output) : core (emit s o) = core s := by
  unfold emit; (repeat' split) <;> simp
@[simp] theorem countUp_core (s : State) (sub n : Nat) : core (countUp s sub n) = core s := by
  unfold countUp; (repeat' split) <;> simp
@[simp] theorem queueEvent_core (s : State) (kind : Nat) (bytes : List Byte) : core (queueEvent s kind bytes) = core s := by
  unfold queueEvent; (repeat' split) <;> simp
@[simp] theorem bookPush_core (s : State) (x : BookRec) : core (bookPush s x) = core s := by
  unfold bookPush; (repeat' split) <;> simp
@[simp] theorem bookRaise_core (s : State) (x : BookRec) : core (bookRaise s x) = core s := by
  unfold bookRaise; (repeat' split) <;> simp
@[simp] theorem bookEvent_core (s : State) (code : Nat) (p1 p2 p3 : U32) : core (bookEvent s code p1 p2 p3) = core s := by
  unfold bookEvent; (repeat' split) <;> simp
@[simp] theorem noteTick_core (s : State) (cls : Nat) : core (noteTick s cls) = core s := by
  unfold noteTick; (repeat' split) <;> simp
@[simp] theorem recordRaise_core (s : State) (n : Nat) (forced : Bool) (p1 p2 p3 : U32) :
    core (recordRaise s n forced p1 p2 p3) = core s := by
  unfold recordRaise; (repeat' split) <;> simp
/-- Stopped kill lines keep both invariants. -/
@[simp] theorem stopKillLines_keeps {i : Bool} {c : Core} {s : State} (src : U8) (h : Keeps i c (core s)) :
    Keeps i c (core (stopKillLines s src)) := by
  unfold stopKillLines
  split
  · exact ⟨h.images, fun hc hm => ⟨rfl, (h.dark hc hm).2⟩⟩
  · exact h
/-- And after the stop they do not run. -/
theorem stopKillLines_kill (s : State) (src : U8) : (core (stopKillLines s src)).killR.on = false := by
  unfold stopKillLines
  split
  · rfl
  · next hk => exact (Bool.not_eq_true _).mp hk
@[simp] theorem raiseNotice_core (s : State) (n : Nat) (p1 p2 p3 : U32) : core (raiseNotice s n p1 p2 p3) = core s := by
  unfold raiseNotice; (repeat' split) <;> simp
@[simp] theorem pushEvent_core (s : State) (kind : Nat) (bytes : List Byte) : core (pushEvent s kind bytes) = core s := by
  unfold pushEvent; (repeat' split) <;> simp
@[simp] theorem lapseRequest_core (s : State) : core (lapseRequest s) = core s := by
  unfold lapseRequest; (repeat' split) <;> simp
@[simp] theorem writeResult_core (s : State) (x : ResultRec) : core (writeResult s x) = core s := by
  unfold writeResult; (repeat' split) <;> simp
@[simp] theorem noteResult_core (s : State) (c : Command) (code : U8) (ref : U32) : core (noteResult s c code ref) = core s := by
  unfold noteResult; (repeat' split) <;> simp
@[simp] theorem flushCommands_core (s : State) : core (flushCommands s) = core s := by
  unfold flushCommands; (repeat' split) <;> simp [*, ↓core_update]
@[simp] theorem endForce_core (s : State) (n : Nat) : core (endForce s n) = core s := by
  unfold endForce; (repeat' split) <;> simp
@[simp] theorem carryWindows_core (s : State) (was : Bool) : core (carryWindows s was) = core s := by
  unfold carryWindows; (repeat' split) <;> simp
@[simp] theorem setMode_core (s : State) (m : Mode) (cause : U32) :
    core (setMode s m cause) = ⟨m, (core s).killR, (core s).running, (core s).images⟩ := by
  have forcesEnded (l : List (Nat × SourceSt)) (st : State) : core (l.foldl (fun st e => endForce st e.1) st) = core st :=
    foldl_core _ (fun st e => endForce_core st e.1) l st
  unfold setMode
  split
  · next hm => rw [← hm]; rfl
  · dsimp only
    split
    · rw [forcesEnded, bookEvent_core]; rfl
    · rw [bookEvent_core]; rfl
@[simp] theorem cancelArmed_core (s : State) : core (cancelArmed s) = core s := by
  unfold cancelArmed; (repeat' split) <;> simp
@[simp] theorem failAttempt_core (s : State) (ln : Lane) (result : U8) : core (failAttempt s ln result) = core s := by
  unfold failAttempt; (repeat' split) <;> simp
@[simp] theorem abortAttempts_core (s : State) : core (abortAttempts s) = core s := by
  unfold abortAttempts; (repeat' split) <;> simp
@[simp] theorem recordGiveUp_core (s : State) (cause : Nat) (snap : U32) : core (recordGiveUp s cause snap) = core s := by
  unfold recordGiveUp; (repeat' split) <;> simp
@[simp] theorem sendTwin_core (s : State) (typ : Nat) (body : List Byte) : core (sendTwin s typ body) = core s := by
  unfold sendTwin; (repeat' split) <;> simp
@[simp] theorem twinNotice_core (s : State) (code : Nat) : core (twinNotice s code) = core s := by
  unfold twinNotice; (repeat' split) <;> simp
/-- Entry into Safe State keeps both invariants: it stops the kill lines and the sequencer before the mode changes. -/
@[simp] theorem enterSafeState_keeps {i : Bool} {c : Core} {s : State} (src : U8) (h : Keeps i c (core s)) :
    Keeps i c (core (enterSafeState s src)) := by
  have hs := stopKillLines_keeps src h
  have dark : Keeps i c ⟨.safeState, (core (stopKillLines s src)).killR, false, (core (stopKillLines s src)).images⟩ :=
    ⟨hs.images, fun _ _ => ⟨stopKillLines_kill s src, rfl⟩⟩
  have halted : core { stopKillLines s src with cyc := { (stopKillLines s src).cyc with running := false } } =
      ⟨(core (stopKillLines s src)).mode, (core (stopKillLines s src)).killR, false, (core (stopKillLines s src)).images⟩ := rfl
  unfold enterSafeState
  split
  case h_4 =>
    dsimp only
    split <;> simpa only [twinNotice_core, recordGiveUp_core, countUp_core, setMode_core, lapseRequest_core, abortAttempts_core,
      cancelArmed_core, flushCommands_core, halted] using dark
  all_goals exact hs
@[simp] theorem startLimit_core (s : State) : core (startLimit s) = core s := by
  unfold startLimit; (repeat' split) <;> simp
@[simp] theorem modDomain_core (s : State) (d : Nat) (f : DomainSt → DomainSt) : core (modDomain s d f) = core s := by
  unfold modDomain; (repeat' split) <;> simp
@[simp] theorem clampLane_core (s : State) (ln : Lane) : core (clampLane s ln) = core s := by
  unfold clampLane; (repeat' split) <;> simp
@[simp] theorem excludeLane_keeps {i : Bool} {c₀ : Core} {s : State} (ln : Lane) (src : Nat) (h : Keeps i c₀ (core s)) :
    Keeps i c₀ (core (excludeLane s ln src)) := by
  unfold excludeLane; (repeat' split) <;> simp [h]
@[simp] theorem classEffect_keeps {i : Bool} {c₀ : Core} {s : State} (n cls : Nat) (p1 : U32) (h : Keeps i c₀ (core s)) :
    Keeps i c₀ (core (classEffect s n cls p1)) := by
  unfold classEffect; (repeat' split) <;> simp [h]
@[simp] theorem raiseWith_keeps {i : Bool} {c₀ : Core} {s : State} (n : Nat) (forced : Bool) (p1 p2 p3 : U32)
    (h : Keeps i c₀ (core s)) :
    Keeps i c₀ (core (raiseWith s n forced p1 p2 p3)) := by
  unfold raiseWith; (repeat' split) <;> simp [h]
@[simp] theorem raise_keeps {i : Bool} {c₀ : Core} {s : State} (n : Nat) (p1 p2 p3 : U32) (h : Keeps i c₀ (core s)) :
    Keeps i c₀ (core (raise s n p1 p2 p3)) := by
  unfold raise; (repeat' split) <;> simp [h]
@[simp] theorem withdraw_core (s : State) (n : Nat) : core (withdraw s n) = core s := by
  unfold withdraw; (repeat' split) <;> simp
@[simp] theorem acknowledge_core (s : State) (n : Nat) : core (acknowledge s n) = core s := by
  unfold acknowledge; (repeat' split) <;> simp
@[simp] theorem settle_core (before after : State) : core (settle before after) = core after := by
  unfold settle; (repeat' split) <;> simp
@[simp] theorem State.atTime_core (s : State) (t : Time) : core (State.atTime s t) = core s := by
  unfold State.atTime; (repeat' split) <;> simp
@[simp] theorem State.withQueue_core (s : State) (l : List Instr) : core (s.withQueue l) = core s := rfl

/-! ### Machine/Operands.lean -/

@[simp] theorem detectElem_core (s : State) (e : Nat) (x : Element) : core (detectElem s e x) = core s := by
  unfold detectElem; (repeat' split) <;> simp
@[simp] theorem detectAll_core (s : State) : core (detectAll s) = core s := by
  unfold detectAll
  split
  · rfl
  · exact foldl_core _ (fun st o => by split <;> simp) _ _
@[simp] theorem latchAll_core (s : State) : core (latchAll s) = core s := by
  unfold latchAll
  split
  · rfl
  · exact foldl_core _ (fun st o => by split <;> simp) _ _

/-! ### Machine/Access.lean -/

@[simp] theorem touch_core (s : State) (ch : Nat) : core (touch s ch) = core s := by
  unfold touch; (repeat' split) <;> simp
@[simp] theorem noteAbort_core (s : State) (ch : Nat) (code : U16) : core (noteAbort s ch code) = core s := by
  unfold noteAbort; (repeat' split) <;> simp
@[simp] theorem afterWrite_keeps {i : Bool} {c : Core} {s : State} (ch : Nat) {w : Write} (h : Keeps i c (core s))
    (hw : WKeeps i c w) : Keeps i c (core (afterWrite s ch w)) := by
  unfold afterWrite
  split
  · simpa using hw
  · simpa using h
@[simp] theorem attempt_keeps {i : Bool} {c : Core} {s : State} {w : Write} (h : Keeps i c (core s)) (hw : WKeeps i c w) :
    Keeps i c (core (attempt s w).1) := by
  unfold attempt
  split
  · simpa using hw
  · simpa using h
@[simp] theorem afterAttempt_core (ch : Nat) (a : Attempt) : core (afterAttempt ch a) = core a.1 := by
  unfold afterAttempt; split <;> simp
@[simp] theorem hostWrite_keeps {i : Bool} {c : Core} {s : State} (ch : Nat) {f : State → Write} (h : Keeps i c (core s))
    (hf : WKeeps i c (f s)) : Keeps i c (core (hostWrite s ch f)) := by
  unfold hostWrite; split <;> simp [h, hf]

/-! ### Machine/Constable.lean -/

@[simp] theorem raiseLane_keeps {i : Bool} {c₀ : Core} {s : State} (ln : Lane) (k : Nat) (p3 : U32) (h : Keeps i c₀ (core s)) :
    Keeps i c₀ (core (raiseLane s ln k p3)) := by
  unfold raiseLane; (repeat' split) <;> simp [h]
@[simp] theorem modStage_core (s : State) (ln : Lane) (k : Nat) (f : StageSt → StageSt) : core (modStage s ln k f) = core s := by
  unfold modStage; (repeat' split) <;> simp
@[simp] theorem escalate_keeps {i : Bool} {c₀ : Core} {s : State} (n : Nat) (h : Keeps i c₀ (core s)) :
    Keeps i c₀ (core (escalate s n)) := by
  unfold escalate; (repeat' split) <;> simp [h]
@[simp] theorem sealWhileStopped_core (s : State) (switches : BitVec 24) : core (sealWhileStopped s switches) = core s := by
  unfold sealWhileStopped; (repeat' split) <;> simp
@[simp] theorem sweepDone_core (s : State) : core (sweepDone s) = core s := by
  unfold sweepDone; (repeat' split) <;> simp
@[simp] theorem silentChecker_keeps {i : Bool} {c₀ : Core} {s : State} (n : Nat) (h : Keeps i c₀ (core s)) :
    Keeps i c₀ (core (silentChecker s n)) := by
  unfold silentChecker; (repeat' split) <;> simp [h]
@[simp] theorem noteProof_core (s : State) : core (noteProof s) = core s := by
  unfold noteProof; (repeat' split) <;> simp
@[simp] theorem writeSweep_keeps {i : Bool} {c₀ : Core} {s : State} (value : U8) (h : Keeps i c₀ (core s)) :
    WKeeps i c₀ (writeSweep s value) := by
  unfold writeSweep; (repeat' split) <;> simp [h]
@[simp] theorem forceOn_keeps {i : Bool} {c₀ : Core} {s : State} (n : Nat) (v : U8) (h : Keeps i c₀ (core s)) :
    Keeps i c₀ (core (forceOn s n v)) := by
  unfold forceOn; (repeat' split) <;> simp [h]
@[simp] theorem writeForce_keeps {i : Bool} {c₀ : Core} {s : State} (n : Nat) (v : U8) (h : Keeps i c₀ (core s)) :
    WKeeps i c₀ (writeForce s n v) := by
  unfold writeForce; (repeat' split) <;> simp [h]
@[simp] theorem raiseHealth_keeps {i : Bool} {c₀ : Core} {s : State} (n : Nat) (p1 p2 p3 : U32) (h : Keeps i c₀ (core s)) :
    Keeps i c₀ (core (raiseHealth s n p1 p2 p3)) := by
  unfold raiseHealth; (repeat' split) <;> simp [h]
@[simp] theorem wearSlot_keeps {i : Bool} {c₀ : Core} {s : State} (slot : Nat) (h : Keeps i c₀ (core s)) :
    Keeps i c₀ (core (wearSlot s slot)) := by
  unfold wearSlot; (repeat' split) <;> simp [h]
@[simp] theorem pushBook_core (s : State) (x : BookRec) : core (pushBook s x) = core s := by
  unfold pushBook; (repeat' split) <;> simp
@[simp] theorem bookStore_keeps {i : Bool} {c₀ : Core} {s : State} (x : BookRec) (h : Keeps i c₀ (core s)) :
    Keeps i c₀ (core (bookStore s x)) := by
  unfold bookStore; dsimp only; (repeat' split) <;> simp_all
@[simp] theorem bookRepeat_keeps {i : Bool} {c₀ : Core} {s : State} (newest : BookRec) (at' : Time) (h : Keeps i c₀ (core s)) :
    Keeps i c₀ (core (bookRepeat s newest at')) := by
  unfold bookRepeat; dsimp only; (repeat' split) <;> simp_all
@[simp] theorem reportLost_keeps {i : Bool} {c₀ : Core} {s : State} (h : Keeps i c₀ (core s)) :
    Keeps i c₀ (core (reportLost s)) := by
  unfold reportLost; (repeat' split) <;> simp [h]
@[simp] theorem noteRaiseSeq_core (s : State) (x : BookRec) (q : U32) : core (noteRaiseSeq s x q) = core s := by
  unfold noteRaiseSeq; (repeat' split) <;> simp
@[simp] theorem writeFront_keeps {i : Bool} {c : Core} (differing : Nat) {s : State} (h : Keeps i c (core s)) :
    Keeps i c (core (writeFront differing s)) := by
  unfold writeFront
  split
  · exact h
  next y rest _ =>
    dsimp only
    split
    · exact h
    · refine reportLost_keeps ?_
      cases (s.constable.circ.getLast?).filter (sameEvent (withRaiseSeq s y)) <;> simp [h]
@[simp] theorem drainBook_keeps {i : Bool} {c : Core} (n : Nat) {s : State} (h : Keeps i c (core s)) :
    Keeps i c (core (drainBook n s)) := by
  induction n generalizing s with
  | zero => exact h
  | succ n ih =>
    unfold drainBook
    split
    · exact h
    · exact ih (writeFront_keeps 0 h)
@[simp] theorem tearNewest_core (s : State) : core (tearNewest s) = core s := by
  unfold tearNewest; (repeat' split) <;> simp
@[simp] theorem writeClear_keeps {i : Bool} {c₀ : Core} {s : State} (ch : Nat) (value : U32) (h : Keeps i c₀ (core s)) :
    WKeeps i c₀ (writeClear s ch value) := by
  unfold writeClear; (repeat' split) <;> simp [h]
@[simp] theorem bookScan_keeps {i : Bool} {c₀ : Core} {s : State} (h : Keeps i c₀ (core s)) :
    Keeps i c₀ (core (bookScan s)) := by
  unfold bookScan; (repeat' split) <;> simp [h]

/-! ### Machine/Field.lean -/

@[simp] theorem modBar_core (s : State) (ln : Lane) (f : BarrierSt → BarrierSt) : core (modBar s ln f) = core s := by
  unfold modBar; (repeat' split) <;> simp
@[simp] theorem modField_core (s : State) (f : FieldSt → FieldSt) : core (modField s f) = core s := by
  unfold modField; (repeat' split) <;> simp
@[simp] theorem lanternOff_core (s : State) (cause : U8) : core (lanternOff s cause) = core s := by
  unfold lanternOff; (repeat' split) <;> simp
@[simp] theorem gateEval_core (s : State) : core (gateEval s) = core s := by
  unfold gateEval; (repeat' split) <;> simp
@[simp] theorem receiveDown_core (s : State) (ln : Lane) (f : DownFrame) : core (receiveDown s ln f) = core s := by
  unfold receiveDown; (repeat' split) <;> simp
@[simp] theorem noteEdges_core (s : State) : core (noteEdges s) = core s := by
  unfold noteEdges; (repeat' split) <;> simp
@[simp] theorem raiseFieldSide_keeps {i : Bool} {c₀ : Core} {s : State} (p1 : U32) (h : Keeps i c₀ (core s)) :
    Keeps i c₀ (core (raiseFieldSide s p1)) := by
  unfold raiseFieldSide; (repeat' split) <;> simp [h]
@[simp] theorem watchVf_keeps {i : Bool} {c₀ : Core} {s : State} (vf : Nat) (h : Keeps i c₀ (core s)) :
    Keeps i c₀ (core (watchVf s vf)) := by
  unfold watchVf; (repeat' split) <;> simp [h]
@[simp] theorem raiseBarrier_keeps {i : Bool} {c₀ : Core} {s : State} (ln : Lane) (up : Bool) (h : Keeps i c₀ (core s)) :
    Keeps i c₀ (core (raiseBarrier s ln up)) := by
  unfold raiseBarrier; (repeat' split) <;> simp [h]
@[simp] theorem withdrawBarrier_core (s : State) (ln : Lane) : core (withdrawBarrier s ln) = core s := by
  unfold withdrawBarrier; (repeat' split) <;> simp
@[simp] theorem writePairReset_keeps {i : Bool} {c₀ : Core} {s : State} (mask : U32) (h : Keeps i c₀ (core s)) :
    WKeeps i c₀ (writePairReset s mask) := by
  unfold writePairReset; (repeat' split) <;> simp [h]
@[simp] theorem latchOutput_core (s : State) (d : Nat) : core (latchOutput s d) = core s := by
  unfold latchOutput; (repeat' split) <;> simp
@[simp] theorem outputFault_keeps {i : Bool} {c₀ : Core} {s : State} (d : Nat) (reason : U32) (h : Keeps i c₀ (core s)) :
    Keeps i c₀ (core (outputFault s d reason)) := by
  unfold outputFault; (repeat' split) <;> simp [h]
@[simp] theorem endStuckOn_core (s : State) : core (endStuckOn s) = core s := by
  unfold endStuckOn; (repeat' split) <;> simp
@[simp] theorem writeOutputReset_keeps {i : Bool} {c₀ : Core} {s : State} (mask : U32) (h : Keeps i c₀ (core s)) :
    WKeeps i c₀ (writeOutputReset s mask) := by
  unfold writeOutputReset; (repeat' split) <;> simp [h]
@[simp] theorem noteVf_keeps {i : Bool} {c₀ : Core} {s : State} (vf : Nat) (h : Keeps i c₀ (core s)) :
    Keeps i c₀ (core (noteVf s vf)) := by
  unfold noteVf; (repeat' split) <;> simp [h]
@[simp] theorem countKey_core (s : State) (k : KeyOperation) : core (countKey s k) = core s := by
  unfold countKey; (repeat' split) <;> simp

/-! ### Machine/Commons.lean -/

@[simp] theorem modCmd_core (s : State) (c : Command) (f : Command → Command) : core (modCmd s c f) = core s := by
  unfold modCmd; (repeat' split) <;> simp
@[simp] theorem answer_core (s : State) (c : Command) (code : U8) (ref : U32) (final : Bool) :
    core (answer s c code ref final) = core s := by
  unfold answer; (repeat' split) <;> simp
@[simp] theorem endSilently_core (s : State) (c : Command) : core (endSilently s c) = core s := by
  unfold endSilently; (repeat' split) <;> simp
@[simp] theorem answerAll_core (s : State) (op target : Nat) (code : U8) : core (answerAll s op target code) = core s := by
  unfold answerAll; (repeat' split) <;> simp
@[simp] theorem noteClaims_core (before after : State) : core (noteClaims before after) = core after := by
  unfold noteClaims; (repeat' split) <;> simp
@[simp] theorem detectBoundaries_core (s : State) : core (detectBoundaries s) = core s := by
  unfold detectBoundaries; (repeat' split) <;> simp
@[simp] theorem settleClaims_core (before after : State) : core (settleClaims before after) = core after := by
  unfold settleClaims; (repeat' split) <;> simp
@[simp] theorem sendRecord_core (s : State) (x : Route) (msg : Nat) (b : BoundaryRec) : core (sendRecord s x msg b) = core s := by
  unfold sendRecord; (repeat' split) <;> simp
@[simp] theorem setRouteState_core (s : State) (r n : Nat) : core (setRouteState s r n) = core s := by
  unfold setRouteState; (repeat' split) <;> simp
@[simp] theorem answerSet_core (s : State) (r : Nat) (y : Slot) (code : U8) (ref : U32) (final : Bool) :
    core (answerSet s r y code ref final) = core s := by
  unfold answerSet; (repeat' split) <;> simp
@[simp] theorem toIdle_core (s : State) (r k : Nat) : core (toIdle s r k) = core s := by
  unfold toIdle; dsimp only; (repeat' split) <;> simp
@[simp] theorem dropClaims_core (s : State) (r k : Nat) (l : List Nat) : core (dropClaims s r k l) = core s := by
  unfold dropClaims; (repeat' split) <;> simp
@[simp] theorem dropBoundary_core (s : State) (r k : Nat) (x : Route) : core (dropBoundary s r k x) = core s := by
  unfold dropBoundary; (repeat' split) <;> simp
@[simp] theorem releaseElems_core (s : State) (r k : Nat) (x : Route) (l : List Nat) : core (releaseElems s r k x l) = core s := by
  unfold releaseElems; (repeat' split) <;> simp
@[simp] theorem idleWhenEmpty_core (s : State) (r k : Nat) : core (idleWhenEmpty s r k) = core s := by
  unfold idleWhenEmpty; (repeat' split) <;> simp
@[simp] theorem markSeen_core (s : State) (x : Route) (k : Nat) : core (markSeen s x k) = core s := by
  unfold markSeen; (repeat' split) <;> simp
@[simp] theorem dropOverlap_core (s : State) (r k : Nat) (x : Route) : core (dropOverlap s r k x) = core s := by
  unfold dropOverlap; (repeat' split) <;> simp
@[simp] theorem overlapWith_core (s : State) (r k : Nat) (x : Route) (l : List Nat) : core (overlapWith s r k x l) = core s := by
  unfold overlapWith; (repeat' split) <;> simp
@[simp] theorem releaseByTrain_core (s : State) (r k : Nat) (x : Route) : core (releaseByTrain s r k x) = core s := by
  unfold releaseByTrain; (repeat' split) <;> simp
@[simp] theorem releaseAll_core (s : State) (r k : Nat) (x : Route) : core (releaseAll s r k x) = core s := by
  unfold releaseAll; (repeat' split) <;> simp
@[simp] theorem abandonRequest_core (s : State) (r k : Nat) (x : Route) (cancel : Bool) :
    core (abandonRequest s r k x cancel) = core s := by
  unfold abandonRequest; (repeat' split) <;> simp
@[simp] theorem takeSlot_core (s : State) (r k : Nat) (x : Route) (y : Slot) : core (takeSlot s r k x y) = core s := by
  unfold takeSlot; (repeat' split) <;> simp
@[simp] theorem noteRefusal_keeps {i : Bool} {c₀ : Core} {s : State} (r : Nat) (code : U8) (hseq : U32) (h : Keeps i c₀ (core s)) :
    Keeps i c₀ (core (noteRefusal s r code hseq)) := by
  unfold noteRefusal; (repeat' split) <;> simp [h]
@[simp] theorem serveSet_keeps {i : Bool} {c₀ : Core} {s : State} (c : Command) (h : Keeps i c₀ (core s)) :
    Keeps i c₀ (core (serveSet s c)) := by
  unfold serveSet; (repeat' split) <;> simp [h]
@[simp] theorem serveReq_keeps {i : Bool} {c₀ : Core} {s : State} (q : RxRecord) (h : Keeps i c₀ (core s)) :
    Keeps i c₀ (core (serveReq s q)) := by
  unfold serveReq; dsimp only; (repeat' split) <;> simp [h]
@[simp] theorem failProving_keeps {i : Bool} {c₀ : Core} {s : State} (r k : Nat) (e : Nat) (h : Keeps i c₀ (core s)) :
    Keeps i c₀ (core (failProving s r k e)) := by
  unfold failProving; (repeat' split) <;> simp [h]
@[simp] theorem cancelNow_core (s : State) (r k : Nat) : core (cancelNow s r k) = core s := by
  unfold cancelNow; (repeat' split) <;> simp
@[simp] theorem lockApproach_core (s : State) (r k : Nat) (x : Route) (pend : Bool) :
    core (lockApproach s r k x pend) = core s := by
  unfold lockApproach; (repeat' split) <;> simp
@[simp] theorem cancelInState_core (s : State) (c : Command) (k : Nat) (x : Route) : core (cancelInState s c k x) = core s := by
  unfold cancelInState; dsimp only; (repeat' split) <;> simp
@[simp] theorem serveCancel_core (s : State) (c : Command) : core (serveCancel s c) = core s := by
  unfold serveCancel; (repeat' split) <;> simp
@[simp] theorem armEmergency_core (s : State) (c : Command) (k : Nat) : core (armEmergency s c k) = core s := by
  unfold armEmergency; (repeat' split) <;> simp
@[simp] theorem confirmEmergency_core (s : State) (c : Command) (k : Nat) (x : Route) :
    core (confirmEmergency s c k x) = core s := by
  unfold confirmEmergency; (repeat' split) <;> simp
@[simp] theorem serveEmergency_core (s : State) (c : Command) : core (serveEmergency s c) = core s := by
  unfold serveEmergency; (repeat' split) <;> simp
@[simp] theorem serveGrant_core (s : State) (q : RxRecord) : core (serveGrant s q) = core s := by
  unfold serveGrant; (repeat' split) <;> simp
@[simp] theorem noteAbandoned_keeps {i : Bool} {c₀ : Core} {s : State} (r : Nat) (token : U8) (p3 : Nat) (h : Keeps i c₀ (core s)) :
    Keeps i c₀ (core (noteAbandoned s r token p3)) := by
  unfold noteAbandoned; (repeat' split) <;> simp [h]
@[simp] theorem serveRefuse_keeps {i : Bool} {c₀ : Core} {s : State} (q : RxRecord) (h : Keeps i c₀ (core s)) :
    Keeps i c₀ (core (serveRefuse s q)) := by
  unfold serveRefuse; (repeat' split) <;> simp [h]
@[simp] theorem serveState_core (s : State) (q : RxRecord) : core (serveState s q) = core s := by
  unfold serveState; dsimp only; (repeat' split) <;> simp
@[simp] theorem serveNbrCancel_core (s : State) (q : RxRecord) : core (serveNbrCancel s q) = core s := by
  unfold serveNbrCancel; (repeat' split) <;> simp
@[simp] theorem serveNbrRelease_core (s : State) (q : RxRecord) : core (serveNbrRelease s q) = core s := by
  unfold serveNbrRelease; (repeat' split) <;> simp
@[simp] theorem serveRecord_keeps {i : Bool} {c₀ : Core} {s : State} (q : RxRecord) (h : Keeps i c₀ (core s)) :
    Keeps i c₀ (core (serveRecord s q)) := by
  unfold serveRecord; (repeat' split) <;> simp [h]
@[simp] theorem voteRequested_keeps {i : Bool} {c₀ : Core} {s : State} (r k : Nat) (x : Route) (h : Keeps i c₀ (core s)) :
    Keeps i c₀ (core (voteRequested s r k x)) := by
  unfold voteRequested; (repeat' split) <;> simp [h]
@[simp] theorem voteProving_keeps {i : Bool} {c₀ : Core} {s : State} (r k : Nat) (x : Route) (h : Keeps i c₀ (core s)) :
    Keeps i c₀ (core (voteProving s r k x)) := by
  unfold voteProving; (repeat' split) <;> simp [h]
@[simp] theorem enterByTrain_core (s : State) (r k : Nat) (x : Route) : core (enterByTrain s r k x) = core s := by
  unfold enterByTrain; (repeat' split) <;> simp
@[simp] theorem enterCleared_core (s : State) (r k : Nat) : core (enterCleared s r k) = core s := by
  unfold enterCleared; (repeat' split) <;> simp
@[simp] theorem voteLocked_core (s : State) (r k : Nat) (x : Route) (state : Nat) : core (voteLocked s r k x state) = core s := by
  unfold voteLocked; (repeat' split) <;> simp
@[simp] theorem voteReleasing_core (s : State) (r k : Nat) (x : Route) : core (voteReleasing s r k x) = core s := by
  unfold voteReleasing; (repeat' split) <;> simp
@[simp] theorem voteRoute_keeps {i : Bool} {c₀ : Core} {s : State} (r : Nat) (h : Keeps i c₀ (core s)) :
    Keeps i c₀ (core (voteRoute s r)) := by
  unfold voteRoute; (repeat' split) <;> simp [h]
@[simp] theorem voteOverlap_core (s : State) (r k : Nat) (x : Route) (expired : Bool) :
    core (voteOverlap s r k x expired) = core s := by
  unfold voteOverlap; (repeat' split) <;> simp
@[simp] theorem tickSlots_core (s : State) : core (tickSlots s) = core s := by
  unfold tickSlots; (repeat' split) <;> simp

/-! ### Machine/Points.lean -/

@[simp] theorem tickGroup_core (s : State) (g : Nat) (r : GroupRec) : core (tickGroup s g r) = core s := by
  unfold tickGroup; (repeat' split) <;> simp
@[simp] theorem startGroups_core (s : State) : core (startGroups s) = core s := by
  unfold startGroups; (repeat' split) <;> simp
@[simp] theorem countFailed_core (s : State) : core (countFailed s) = core s := by
  unfold countFailed; (repeat' split) <;> simp
@[simp] theorem answerMoves_core (s : State) (e : Nat) : core (answerMoves s e) = core s := by
  unfold answerMoves; (repeat' split) <;> simp
@[simp] theorem dropWaiting_core (s : State) (e : Nat) (code : U8) : core (dropWaiting s e code) = core s := by
  unfold dropWaiting; (repeat' split) <;> simp
@[simp] theorem endStop_core (s : State) (e : Nat) (locked : Bool) : core (endStop s e locked) = core s := by
  unfold endStop; (repeat' split) <;> simp
@[simp] theorem lockOut_keeps {i : Bool} {c₀ : Core} {s : State} (g : Nat) (e : Nat) (reason : U8) (h : Keeps i c₀ (core s)) :
    Keeps i c₀ (core (lockOut s g e reason)) := by
  unfold lockOut; (repeat' split) <;> simp [h]
@[simp] theorem torqueOff_core (s : State) (g : Nat) (lock : Bool) (reason : U8) : core (torqueOff s g lock reason) = core s := by
  unfold torqueOff; (repeat' split) <;> simp
@[simp] theorem stopCycle_core (s : State) (g : Nat) (r : GroupRec) : core (stopCycle s g r) = core s := by
  unfold stopCycle; (repeat' split) <;> simp
@[simp] theorem startStop_core (s : State) (e : Nat) (x : Element) (reason : U8) : core (startStop s e x reason) = core s := by
  unfold startStop; (repeat' split) <;> simp
@[simp] theorem beginThrow_core (s : State) (e : Nat) (x : Element) (dir : Nat) : core (beginThrow s e x dir) = core s := by
  unfold beginThrow; (repeat' split) <;> simp
@[simp] theorem overtakeWaiting_core (s : State) (e : Nat) : core (overtakeWaiting s e) = core s := by
  unfold overtakeWaiting; (repeat' split) <;> simp
@[simp] theorem voteElement_core (s : State) (e : Nat) (x : Element) (m : Move) : core (voteElement s e x m) = core s := by
  unfold voteElement; (repeat' split) <;> simp
@[simp] theorem tickThrows_core (s : State) : core (tickThrows s) = core s := by
  unfold tickThrows; (repeat' split) <;> simp
@[simp] theorem remoteLocked_keeps {i : Bool} {c₀ : Core} {s : State} (e : Nat) (x : Element) (why : U32)
    (h : Keeps i c₀ (core s)) :
    Keeps i c₀ (core (remoteLocked s e x why)) := by
  unfold remoteLocked; (repeat' split) <;> simp [h]
@[simp] theorem voteReport_keeps {i : Bool} {c₀ : Core} {s : State} (e : Nat) (x : Element) (h : Keeps i c₀ (core s)) :
    Keeps i c₀ (core (voteReport s e x)) := by
  unfold voteReport; dsimp only; (repeat' split) <;> simp [h]
@[simp] theorem markAbove_core (s : State) (e : Nat) (x : Element) (on : Bool) : core (markAbove s e x on) = core s := by
  unfold markAbove; (repeat' split) <;> simp
@[simp] theorem judgeSignal_keeps {i : Bool} {c₀ : Core} {s : State} (e : Nat) (x : Element) (h : Keeps i c₀ (core s)) :
    Keeps i c₀ (core (judgeSignal s e x)) := by
  unfold judgeSignal; (repeat' split) <;> simp [h]
@[simp] theorem voteReports_keeps {i : Bool} {c : Core} {s : State} (h : Keeps i c (core s)) :
    Keeps i c (core (voteReports s)) :=
  foldl_keeps _ (fun st o hst => by simp [hst]) _ h
@[simp] theorem voteReset_core (s : State) (g : Nat) (r : GroupRec) : core (voteReset s g r) = core s := by
  unfold voteReset; (repeat' split) <;> simp
@[simp] theorem servePointMove_core (s : State) (c : Command) (x : Element) : core (servePointMove s c x) = core s := by
  unfold servePointMove; (repeat' split) <;> simp
@[simp] theorem servePointStop_core (s : State) (c : Command) : core (servePointStop s c) = core s := by
  unfold servePointStop; (repeat' split) <;> simp
@[simp] theorem serveBlock_core (s : State) (c : Command) : core (serveBlock s c) = core s := by
  unfold serveBlock; (repeat' split) <;> simp
@[simp] theorem serveSectionReset_core (s : State) (c : Command) (x : Element) : core (serveSectionReset s c x) = core s := by
  unfold serveSectionReset; (repeat' split) <;> simp
@[simp] theorem serveElement_core (s : State) (c : Command) : core (serveElement s c) = core s := by
  unfold serveElement; dsimp only; (repeat' split) <;> simp
@[simp] theorem voteSectionReset_core (s : State) (e : Nat) (x : Element) : core (voteSectionReset s e x) = core s := by
  unfold voteSectionReset; (repeat' split) <;> simp
@[simp] theorem onElement_keeps {i : Bool} {c : Core} {s : State} (e : Nat) {f : Element → State} (h : Keeps i c (core s))
    (hf : ∀ x, Keeps i c (core (f x))) : Keeps i c (core (onElement s e f)) := by
  unfold onElement; split <;> simp [h, hf]
@[simp] theorem torqueOffNow_keeps {i : Bool} {c₀ : Core} {s : State} (g : Nat) (r : GroupRec) (h : Keeps i c₀ (core s)) :
    Keeps i c₀ (core (torqueOffNow s g r)) := by
  unfold torqueOffNow; (repeat' split) <;> simp [h]
@[simp] theorem writeGroupReset_keeps {i : Bool} {c₀ : Core} {s : State} (g : Nat) (value : U8) (h : Keeps i c₀ (core s)) :
    WKeeps i c₀ (writeGroupReset s g value) := by
  unfold writeGroupReset; (repeat' split) <;> simp [h]
@[simp] theorem onRoute_keeps {i : Bool} {c : Core} {s : State} (r : Nat) {f : Nat → Route → State} (h : Keeps i c (core s))
    (hf : ∀ k x, Keeps i c (core (f k x))) : Keeps i c (core (onRoute s r f)) := by
  unfold onRoute; split <;> simp [h, hf]

/-! ### Machine/Program.lean -/

@[simp] theorem retireStores_core (s : State) (ln : Lane) : core (retireStores s ln) = core s := by
  unfold retireStores; (repeat' split) <;> simp
@[simp] theorem countDiscarded_core (s : State) (v : Variant) (run : ProgramRun) : core (countDiscarded s v run) = core s := by
  unfold countDiscarded; (repeat' split) <;> simp
@[simp] theorem intakeVars_core (s : State) (ln : Lane) (held : List Byte) : core (intakeVars s ln held) = core s := by
  unfold intakeVars; (repeat' split) <;> simp
@[simp] theorem logicVars_core (s : State) (ln : Lane) (held : List Byte) : core (logicVars s ln held) = core s := by
  unfold logicVars; (repeat' split) <;> simp
@[simp] theorem runProgram_core (s : State) (ln : Lane) (run : ProgramRun) : core (runProgram s ln run) = core s := by
  unfold runProgram; (repeat' split) <;> simp
@[simp] theorem dropVitalForces_core (s : State) : core (dropVitalForces s) = core s := by
  unfold dropVitalForces; (repeat' split) <;> simp
@[simp] theorem applyForce_core (s : State) (q : ForceReq) : core (applyForce s q) = core s := by
  unfold applyForce; (repeat' split) <;> simp
@[simp] theorem applyForces_core (s : State) : core (applyForces s) = core s := by
  unfold applyForces; (repeat' split) <;> simp
@[simp] theorem rekeyForces_core (s : State) (old new : Variant) : core (rekeyForces s old new) = core s := by
  unfold rekeyForces; (repeat' split) <;> simp
@[simp] theorem switchVars_core (s : State) (old new : ProgPair) : core (switchVars s old new) = core s := by
  unfold switchVars; (repeat' split) <;> simp
@[simp] theorem digestAfterSwitch_core (s : State) (new : ProgPair) : core (digestAfterSwitch s new) = core s := by
  unfold digestAfterSwitch; (repeat' split) <;> simp
@[simp] theorem switchProgram_core (s : State) (old new : ProgPair) (micros : Nat) :
    core (switchProgram s old new micros) = core s := by
  unfold switchProgram; (repeat' split) <;> simp

/-! ### Machine/Host.lean -/

@[simp] theorem modHostBus_core (s : State) (b : HostBus) (f : HostBusSt → HostBusSt) : core (modHostBus s b f) = core s := by
  unfold modHostBus; (repeat' split) <;> simp
@[simp] theorem sendHost_core (s : State) (b : HostBus) (func chan : Nat) (tid : U8) (bytes : List Byte) :
    core (sendHost s b func chan tid bytes) = core s := by
  unfold sendHost; (repeat' split) <;> simp
@[simp] theorem reply_core (s : State) (b : HostBus) (chan : Nat) (tid : U8) (op index sub size : Nat) (data : List Byte) :
    core (reply s b chan tid op index sub size data) = core s := by
  unfold reply; (repeat' split) <;> simp
@[simp] theorem sendAbort_core (s : State) (b : HostBus) (chan : Nat) (tid : U8) (index sub : Nat) (code : U16) :
    core (sendAbort s b chan tid index sub code) = core s := by
  unfold sendAbort; (repeat' split) <;> simp
@[simp] theorem sendBlockAck_core (s : State) (b : HostBus) (chan : Nat) (tid : U8) (next blk : Nat) :
    core (sendBlockAck s b chan tid next blk) = core s := by
  unfold sendBlockAck; (repeat' split) <;> simp
@[simp] theorem endAuth_core (s : State) (ch : Nat) : core (endAuth s ch) = core s := by
  unfold endAuth; (repeat' split) <;> simp
@[simp] theorem newChallenge_core (s : State) (ch : Nat) : core (newChallenge s ch).1 = core s := by
  unfold newChallenge; (repeat' split) <;> simp
@[simp] theorem refuseResponse_keeps {i : Bool} {c₀ : Core} {s : State} (ch slot : Nat) (code : U16) (h : Keeps i c₀ (core s)) :
    Keeps i c₀ (core (refuseResponse s ch slot code).1) := by
  unfold refuseResponse; (repeat' split) <;> simp [h]
@[simp] theorem writeResponse_keeps {i : Bool} {c₀ : Core} {s : State} (ch : Nat) (data : List Byte) (h : Keeps i c₀ (core s)) :
    Keeps i c₀ (core (writeResponse s ch data).1) := by
  unfold writeResponse; dsimp only; (repeat' split) <;> simp [h]
@[simp] theorem writeDeauthorise_keeps {i : Bool} {c₀ : Core} {s : State} (mask : U8) (h : Keeps i c₀ (core s)) :
    WKeeps i c₀ (writeDeauthorise s mask) := by
  unfold writeDeauthorise; (repeat' split) <;> simp [h]
@[simp] theorem writeKey_keeps {i : Bool} {c₀ : Core} {s : State} (ch slot : Nat) (data : List Byte) (h : Keeps i c₀ (core s)) :
    WKeeps i c₀ (writeKey s ch slot data) := by
  unfold writeKey; (repeat' split) <;> simp [h]
@[simp] theorem modShadow_core (s : State) (g : Nat) (f : GroupShadow → GroupShadow) : core (modShadow s g f) = core s := by
  unfold modShadow; (repeat' split) <;> simp
@[simp] theorem writeShadow_keeps {i : Bool} {c₀ : Core} {s : State} (ch index sub : Nat) (data : List Byte)
    (h : Keeps i c₀ (core s)) :
    WKeeps i c₀ (writeShadow s ch index sub data) := by
  unfold writeShadow; (repeat' split) <;> simp [h]
@[simp] theorem freeGroup_core (s : State) (g status : Nat) : core (freeGroup s g status) = core s := by
  unfold freeGroup; (repeat' split) <;> simp
@[simp] theorem writeGroupAbort_keeps {i : Bool} {c₀ : Core} {s : State} (g : Nat) (h : Keeps i c₀ (core s)) :
    WKeeps i c₀ (writeGroupAbort s g) := by
  unfold writeGroupAbort; (repeat' split) <;> simp [h]
@[simp] theorem groupEvent_core (s : State) (g outcome : Nat) (code : U16) : core (groupEvent s g outcome code) = core s := by
  unfold groupEvent; (repeat' split) <;> simp
@[simp] theorem commitRefused_core (s : State) (g : Nat) (code : U16) : core (commitRefused s g code).1 = core s := by
  unfold commitRefused; (repeat' split) <;> simp
@[simp] theorem commitDone_core (s : State) (g : Nat) : core (commitDone s g) = core s := by
  unfold commitDone; (repeat' split) <;> simp
@[simp] theorem applyFields_core (s : State) (g : Nat) : core (applyFields s g) = core s := by
  unfold applyFields; (repeat' split) <;> simp
@[simp] theorem applyWindows_core (s : State) : core (applyWindows s) = core s := by
  unfold applyWindows; (repeat' split) <;> simp

/-! ### Machine/Change.lean -/

@[simp] theorem changeEvent_core (s : State) (result : U8) (state : Nat) (ref : U32) :
    core (changeEvent s result state ref) = core s := by
  unfold changeEvent; (repeat' split) <;> simp
@[simp] theorem refuseChange_core (s : State) (result : U8) (ref : U32) : core (refuseChange s result ref) = core s := by
  unfold refuseChange; (repeat' split) <;> simp
@[simp] theorem makeReady_core (s : State) (images : List Byte × List Byte) : core (makeReady s images) = core s := by
  unfold makeReady; (repeat' split) <;> simp
@[simp] theorem endLoading_core (s : State) : core (endLoading s) = core s := by
  unfold endLoading; (repeat' split) <;> simp
@[simp] theorem endChecking_core (differing : List Lane) (s : State) : core (endChecking differing s) = core s := by
  unfold endChecking; (repeat' split) <;> simp
@[simp] theorem doPrepare_core (s : State) : core (doPrepare s) = core s := by
  unfold doPrepare; (repeat' split) <;> simp
@[simp] theorem doArm_core (s : State) (roll : Bool) : core (doArm s roll) = core s := by
  unfold doArm; (repeat' split) <;> simp
@[simp] theorem doCommit_core (s : State) : core (doCommit s) = core s := by
  unfold doCommit; (repeat' split) <;> simp
@[simp] theorem doCancel_core (s : State) : core (doCancel s) = core s := by
  unfold doCancel; (repeat' split) <;> simp
@[simp] theorem doAction_core (s : State) (action : Nat) : core (doAction s action) = core s := by
  unfold doAction; (repeat' split) <;> simp
@[simp] theorem applyGroup_core (s : State) (g : Nat) : core (applyGroup s g) = core s := by
  unfold applyGroup; (repeat' split) <;> simp
@[simp] theorem writeCommit_core (s : State) (ch g : Nat) : core (writeCommit s ch g).1 = core s := by
  unfold writeCommit; dsimp only; (repeat' split) <;> simp
@[simp] theorem commitAction_core (s : State) (ch action : Nat) : core (commitAction s ch action).1 = core s := by
  unfold commitAction; (repeat' split) <;> simp
@[simp] theorem applyForceGroup_core (s : State) : core (applyForceGroup s) = core s := by
  unfold applyForceGroup; (repeat' split) <;> simp
@[simp] theorem dropForces_core (s : State) : core (dropForces s) = core s := by
  unfold dropForces; (repeat' split) <;> simp
@[simp] theorem writeImageRecord_core (s : State) : core (writeImageRecord s) = core s := by
  unfold writeImageRecord; dsimp only; (repeat' split) <;> simp
@[simp] theorem applyImageRecord_core (s : State) : core (applyImageRecord s) = core s := by
  unfold applyImageRecord; (repeat' split) <;> simp
@[simp] theorem setUpdateState_core (s : State) (n : Nat) : core (setUpdateState s n) = core s := by
  unfold setUpdateState; (repeat' split) <;> simp
@[simp] theorem switchBank_keeps {c : Core} {s : State} (h : Keeps false c (core s)) : Keeps false c (core (switchBank s)) :=
  ⟨fun hb => (nomatch hb), h.dark⟩
@[simp] theorem reportDropped_core (s : State) : core (reportDropped s) = core s := by
  unfold reportDropped; (repeat' split) <;> simp
@[simp] theorem holdStewardWindows_core (s : State) (until' : Time) : core (holdStewardWindows s until') = core s := by
  unfold holdStewardWindows; (repeat' split) <;> simp
@[simp] theorem restartUntil_core (s : State) (back : Time) : core (restartUntil s back) = core s := by
  unfold restartUntil; (repeat' split) <;> simp
@[simp] theorem restartSteward_core (s : State) : core (restartSteward s) = core s := by
  unfold restartSteward; (repeat' split) <;> simp

/-! ### Machine/Bus.lean -/

@[simp] theorem modPort_core (s : State) (c : Chan) (f : PortSt → PortSt) : core (modPort s c f) = core s := by
  unfold modPort; (repeat' split) <;> simp
@[simp] theorem setEngine_core (s : State) (c : Chan) (n : Nat) : core (setEngine s c n) = core s := by
  unfold setEngine; (repeat' split) <;> simp
@[simp] theorem setMaster_core (s : State) (c : Chan) (n : Nat) : core (setMaster s c n) = core s := by
  unfold setMaster; (repeat' split) <;> simp
@[simp] theorem modBus_core (s : State) (c : Chan) (f : ChanSt → ChanSt) : core (modBus s c f) = core s := by
  unfold modBus; (repeat' split) <;> simp
@[simp] theorem noteBusy_core (s : State) (c : Chan) (p len : Nat) : core (noteBusy s c p len) = core s := by
  unfold noteBusy; (repeat' split) <;> simp
@[simp] theorem notePeer_core (s : State) : core (notePeer s) = core s := by
  unfold notePeer; (repeat' split) <;> simp
@[simp] theorem receive_core (s : State) (f : BusFrame) (timed : Bool) : core (receive s f timed).1 = core s := by
  unfold receive; dsimp only; (repeat' split) <;> simp
@[simp] theorem hear_core (s : State) (f : BusFrame) (timed : Bool) : core (hear s f timed).1 = core s := by
  unfold hear; (repeat' split) <;> simp
@[simp] theorem sendBus_core (s : State) (c : Chan) (b p : Nat) (f : BusFrame) : core (sendBus s c b p f) = core s := by
  unfold sendBus; (repeat' split) <;> simp
@[simp] theorem queueOn_core (s : State) (c : Chan) (f : BusFrame) : core (queueOn s c f) = core s := by
  unfold queueOn; (repeat' split) <;> simp
@[simp] theorem queueFrame_core (s : State) (f : BusFrame) : core (queueFrame s f) = core s := by
  unfold queueFrame; (repeat' split) <;> simp
@[simp] theorem stretchCycle_core (s : State) (off : Int) : core (stretchCycle s off) = core s := by
  unfold stretchCycle; (repeat' split) <;> simp
@[simp] theorem admitTime_core (s : State) : core (admitTime s) = core s := by
  unfold admitTime; (repeat' split) <;> simp
@[simp] theorem enterListen_core (s : State) (c : Chan) : core (enterListen s c) = core s := by
  unfold enterListen; (repeat' split) <;> simp
@[simp] theorem relisten_core (s : State) (c : Chan) : core (relisten s c) = core s := by
  unfold relisten; (repeat' split) <;> simp
@[simp] theorem enterIntegrate_core (s : State) (c : Chan) : core (enterIntegrate s c) = core s := by
  unfold enterIntegrate; (repeat' split) <;> simp
@[simp] theorem enterMute_keeps {i : Bool} {c₀ : Core} {s : State} (c : Chan) (why other : Nat) (h : Keeps i c₀ (core s)) :
    Keeps i c₀ (core (enterMute s c why other)) := by
  unfold enterMute; (repeat' split) <;> simp [h]
@[simp] theorem delayTooLong_keeps {i : Bool} {c₀ : Core} {s : State} (c : Chan) (h : Keeps i c₀ (core s)) :
    Keeps i c₀ (core (delayTooLong s c)) := by
  unfold delayTooLong; (repeat' split) <;> simp [h]
@[simp] theorem masterDelay_keeps {i : Bool} {c₀ : Core} {s : State} (c : Chan) (readback : Option Nat) (h : Keeps i c₀ (core s)) :
    Keeps i c₀ (core (masterDelay s c readback)) := by
  unfold masterDelay; (repeat' split) <;> simp [h]
@[simp] theorem becomeMaster_keeps {i : Bool} {c₀ : Core} {s : State} (c : Chan) (read : Chan → Option Nat)
    (h : Keeps i c₀ (core s)) :
    Keeps i c₀ (core (becomeMaster s c read)) := by
  unfold becomeMaster; dsimp only; (repeat' split) <;> simp_all
@[simp] theorem sendColdstart_core (s : State) (c : Chan) : core (sendColdstart s c) = core s := by
  unfold sendColdstart; (repeat' split) <;> simp
@[simp] theorem coldstart_keeps {i : Bool} {c₀ : Core} {s : State} (c : Chan) (read : Chan → Option Nat) (h : Keeps i c₀ (core s)) :
    Keeps i c₀ (core (coldstart s c read)) := by
  unfold coldstart; (repeat' split) <;> simp [h]
@[simp] theorem hearMaster_keeps {i : Bool} {c₀ : Core} {s : State} (f : BusFrame) (h : Keeps i c₀ (core s)) :
    Keeps i c₀ (core (hearMaster s f)) := by
  unfold hearMaster; dsimp only; (repeat' split) <;> simp [h]
@[simp] theorem tickBasic_core (s : State) (c : Chan) : core (tickBasic s c) = core s := by
  unfold tickBasic; (repeat' split) <;> simp
@[simp] theorem hearSync_keeps {i : Bool} {c : Core} {s : State} (f : BusFrame) (h : Keeps i c (core s)) :
    Keeps i c (core (hearSync s f).1) := by
  have hr := receive_core s f true
  unfold hearSync
  (repeat' split) <;> simp_all
@[simp] theorem noteDeviation_core (s : State) (c : Chan) (d : Int) : core (noteDeviation s c d) = core s := by
  unfold noteDeviation; (repeat' split) <;> simp
@[simp] theorem applyDeviation_keeps {i : Bool} {c₀ : Core} {s : State} (c : Chan) (l : List BusFrame) (h : Keeps i c₀ (core s)) :
    Keeps i c₀ (core (applyDeviation s c l)) := by
  unfold applyDeviation; (repeat' split) <;> simp [h]
@[simp] theorem noteMissed_core (s : State) (c : Chan) : core (noteMissed s c) = core s := by
  unfold noteMissed; (repeat' split) <;> simp
@[simp] theorem lackSync_core (s : State) (c : Chan) : core (lackSync s c) = core s := by
  unfold lackSync; (repeat' split) <;> simp
@[simp] theorem missSync_core (s : State) (c : Chan) : core (missSync s c) = core s := by
  unfold missSync; (repeat' split) <;> simp
@[simp] theorem masterSync_core (s : State) (c : Chan) : core (masterSync s c) = core s := by
  unfold masterSync; (repeat' split) <;> simp
@[simp] theorem takeDeviation_keeps {i : Bool} {c₀ : Core} {s : State} (c : Chan) (l : List BusFrame) (h : Keeps i c₀ (core s)) :
    Keeps i c₀ (core (takeDeviation s c l)) := by
  unfold takeDeviation; (repeat' split) <;> simp [h]
@[simp] theorem takeSync_keeps {i : Bool} {c₀ : Core} {s : State} (c : Chan) (l : List BusFrame) (h : Keeps i c₀ (core s)) :
    Keeps i c₀ (core (takeSync s c l)) := by
  unfold takeSync; (repeat' split) <;> simp [h]
@[simp] theorem askDelay_core (s : State) (c : Chan) : core (askDelay s c) = core s := by
  unfold askDelay; (repeat' split) <;> simp
@[simp] theorem measure_keeps {i : Bool} {c₀ : Core} {s : State} (c : Chan) (d : Nat) (h : Keeps i c₀ (core s)) :
    Keeps i c₀ (core (measure s c d)) := by
  unfold measure; (repeat' split) <;> simp [h]
@[simp] theorem takeOffset_core (s : State) (c : Chan) (tpass tsend d : Nat) : core (takeOffset s c tpass tsend d) = core s := by
  unfold takeOffset; (repeat' split) <;> simp
@[simp] theorem steerTo_core (s : State) : core (steerTo s) = core s := by
  unfold steerTo; (repeat' split) <;> simp
@[simp] theorem notePair_core (s : State) (b : Nat) (ok : Bool) : core (notePair s b ok) = core s := by
  unfold notePair; (repeat' split) <;> simp
@[simp] theorem dropSent_core (s : State) (c : Chan) (f : BusFrame) : core (dropSent s c f) = core s := by
  unfold dropSent; (repeat' split) <;> simp
@[simp] theorem sendExclusive_core (s : State) (c : Chan) (b p : Nat) (ok : Bool) : core (sendExclusive s c b p ok) = core s := by
  unfold sendExclusive; dsimp only; (repeat' split) <;> simp
@[simp] theorem notePeak_core (s : State) : core (notePeak s) = core s := by
  unfold notePeak; (repeat' split) <;> simp
@[simp] theorem dropPromise_core (s : State) (k : Nat) : core (dropPromise s k) = core s := by
  unfold dropPromise; (repeat' split) <;> simp
@[simp] theorem stampAccept_core (s : State) (b p : Nat) (f : BusFrame) (ok : Bool) : core (stampAccept s b p f ok).1 = core s := by
  unfold stampAccept; (repeat' split) <;> simp
@[simp] theorem sentClean_keeps {i : Bool} {c₀ : Core} {s : State} (c : Chan) (f : BusFrame) (trip : Nat)
    (h : Keeps i c₀ (core s)) :
    Keeps i c₀ (core (sentClean s c f trip)) := by
  unfold sentClean; (repeat' split) <;> simp [h]
@[simp] theorem dropFrame_core (s : State) (c : Chan) (f : BusFrame) : core (dropFrame s c f) = core s := by
  unfold dropFrame; (repeat' split) <;> simp
@[simp] theorem sendArbitrating_keeps {i : Bool} {c₀ : Core} {s : State} (c : Chan) (b p : Nat) (f : BusFrame)
    (readback : Option Nat) (h : Keeps i c₀ (core s)) :
    Keeps i c₀ (core (sendArbitrating s c b p f readback)) := by
  unfold sendArbitrating; (repeat' split) <;> simp [h]
@[simp] theorem arbitrate_keeps {i : Bool} {c₀ : Core} {s : State} (c : Chan) (b p : Nat) (readback : Option Nat)
    (h : Keeps i c₀ (core s)) :
    Keeps i c₀ (core (arbitrate s c b p readback)) := by
  unfold arbitrate; dsimp only; (repeat' split) <;> simp [h]
@[simp] theorem forwardOut_core (s : State) (c : Chan) (b p : Nat) : core (forwardOut s c b p) = core s := by
  unfold forwardOut
  dsimp only
  split
  · rfl
  · exact foldl_core _ (fun st k => by split <;> simp [↓core_update]) _ _
@[simp] theorem takeOffered_core (s : State) (offered : List (List Byte)) : core (takeOffered s offered) = core s := by
  unfold takeOffered; (repeat' split) <;> simp
@[simp] theorem sendSync_keeps {i : Bool} {c₀ : Core} {s : State} (c : Chan) (b : Nat) (readback : Option Nat)
    (h : Keeps i c₀ (core s)) :
    Keeps i c₀ (core (sendSync s c b readback)) := by
  unfold sendSync; (repeat' split) <;> simp [h]

/-! ### Machine/Health.lean -/

@[simp] theorem setHealth_core (s : State) (ln : Lane) (h : HealthSt) : core (setHealth s ln h) = core s := by
  unfold setHealth; (repeat' split) <;> simp
@[simp] theorem judgeLife_keeps {i : Bool} {c₀ : Core} {s : State} (h : Keeps i c₀ (core s)) :
    Keeps i c₀ (core (judgeLife s)) := by
  unfold judgeLife; dsimp only; (repeat' split) <;> simp [h]
@[simp] theorem countOperation_keeps {i : Bool} {c₀ : Core} {s : State} (d : Nat) (h : Keeps i c₀ (core s)) :
    Keeps i c₀ (core (countOperation s d)) := by
  unfold countOperation; (repeat' split) <;> simp [h]
@[simp] theorem writeCountReset_keeps {i : Bool} {c₀ : Core} {s : State} (ch : Nat) (value : U8) (h : Keeps i c₀ (core s)) :
    WKeeps i c₀ (writeCountReset s ch value) := by
  unfold writeCountReset; (repeat' split) <;> simp [h]
@[simp] theorem writeCapture_keeps {i : Bool} {c₀ : Core} {s : State} (value : U8) (h : Keeps i c₀ (core s)) :
    WKeeps i c₀ (writeCapture s value) := by
  unfold writeCapture; (repeat' split) <;> simp [h]
@[simp] theorem tickPowered_core (s : State) : core (tickPowered s) = core s := by
  unfold tickPowered; (repeat' split) <;> simp
@[simp] theorem traceDrain_core (s : State) : core (traceDrain s) = core s := by
  unfold traceDrain; (repeat' split) <;> simp
@[simp] theorem tracePut_core (s : State) (kind lane : Nat) (p1 : U32) (p2 : BitVec 24) :
    core (tracePut s kind lane p1 p2) = core s := by
  unfold tracePut; (repeat' split) <;> simp
@[simp] theorem setTrace_core (s : State) (on : Bool) : core (setTrace s on) = core s := by
  unfold setTrace; (repeat' split) <;> simp
@[simp] theorem traceSync_core (s : State) : core (traceSync s) = core s := by
  unfold traceSync; (repeat' split) <;> simp
@[simp] theorem traceLost_core (s : State) : core (traceLost s) = core s := by
  unfold traceLost; (repeat' split) <;> simp

/-! ### Machine/Vote.lean -/

@[simp] theorem serveOne_keeps {i : Bool} {c : Core} {s : State} (q : Request) (h : Keeps i c (core s)) :
    Keeps i c (core (serveOne s q)) := by
  unfold serveOne
  (repeat' split) <;> simp [h]
@[simp] theorem takeReports_core (s : State) (q : Nat) (y : Sess) (payload : List Byte) :
    core (takeReports s q y payload) = core s := by
  unfold takeReports; (repeat' split) <;> simp
@[simp] theorem applyMail_core (s : State) : core (applyMail s) = core s := by
  unfold applyMail; (repeat' split) <;> simp
@[simp] theorem prepareVote_keeps {i : Bool} {c₀ : Core} {s0 : State} (h : Keeps i c₀ (core s0)) :
    Keeps i c₀ (core (prepareVote s0)) := by
  unfold prepareVote; (repeat' split) <;> simp [h]
@[simp] theorem voteSlot_keeps {i : Bool} {c₀ : Core} (expired : List Nat) {s : State} (k : Nat) (h : Keeps i c₀ (core s)) :
    Keeps i c₀ (core (voteSlot expired s k)) := by
  unfold voteSlot; dsimp only; (repeat' split) <;> simp [h]
@[simp] theorem genericOutcome_keeps {i : Bool} {c : Core} (expired : List Nat) {s : State} (h : Keeps i c (core s)) :
    Keeps i c (core (genericOutcome expired s)) := by
  have requestsServed := foldl_keeps serveOne (fun _ q hst => serveOne_keeps q hst) (requests s) h
  unfold genericOutcome
  refine foldl_keeps _ (fun st o hst => by simp [hst]) _ ?_
  refine foldl_keeps _ (fun st k hst => voteSlot_keeps expired k hst) _ ?_
  exact foldl_keeps _ (fun st q hst => by simp [hst]) _ requestsServed
@[simp] theorem voteSignal_core (post : State) (lanes : List Lane) (s : State) (e : Nat) (x : Element) :
    core (voteSignal post lanes s e x) = core s := by
  unfold voteSignal; (repeat' split) <;> simp
@[simp] theorem judgeStreaks_core (s post : State) (lanes : List Lane) : core (judgeStreaks s post lanes) = core s := rfl
@[simp] theorem judgeLanes_core (s pre post : State) (lanes : List Lane) : core (judgeLanes s pre post lanes) = core s := by
  unfold judgeLanes; split <;> simp
@[simp] theorem withdrawResults_core (pre s : State) (r : Nat) (own : Bool) : core (withdrawResults pre s r own) = core s := by
  unfold withdrawResults; (repeat' split) <;> simp
@[simp] theorem giveResults_core (s : State) (r : Nat) (code : U8) (ref : U32) : core (giveResults s r code ref) = core s := by
  unfold giveResults; (repeat' split) <;> simp
@[simp] theorem replaceResults_core (pre s : State) (r voted : Nat) (lanes : List Lane) (base : Nat) :
    core (replaceResults pre s r voted lanes base) = core s := by
  unfold replaceResults; (repeat' split) <;> simp
@[simp] theorem unqueue_core (pre : State) (drop : Nat → Bool) (s : State) (r : Nat) : core (unqueue pre drop s r) = core s := by
  unfold unqueue; (repeat' split) <;> simp
@[simp] theorem refuseUngranted_core (pre : State) (lanes : List Lane) (s : State) (r : Nat) :
    core (refuseUngranted pre lanes s r) = core s := by
  unfold refuseUngranted; (repeat' split) <;> simp
@[simp] theorem writeThird_core (pre s : State) (r voted : Nat) : core (writeThird pre s r voted) = core s := by
  unfold writeThird; (repeat' split) <;> simp
@[simp] theorem keepRoute_core (pre : State) (lanes : List Lane) (s : State) (r voted : Nat) :
    core (keepRoute pre lanes s r voted) = core s := by
  unfold keepRoute; dsimp only; (repeat' split) <;> simp
@[simp] theorem voteRouteStates_core (pre : State) (lanes : List Lane) (s : State) :
    core (voteRouteStates pre lanes s) = core s := by
  unfold voteRouteStates; (repeat' split) <;> simp
@[simp] theorem voteClaim_core (pre : State) (lanes : List Lane) (s : State) (r e : Nat) :
    core (voteClaim pre lanes s r e) = core s := by
  unfold voteClaim; (repeat' split) <;> simp
@[simp] theorem voteClaims_core (pre : State) (lanes : List Lane) (s : State) : core (voteClaims pre lanes s) = core s := by
  unfold voteClaims; (repeat' split) <;> simp
@[simp] theorem voteMovements_core (post : State) (lanes : List Lane) (s : State) : core (voteMovements post lanes s) = core s := by
  unfold voteMovements; (repeat' split) <;> simp
@[simp] theorem voteGroups_core (s : State) : core (voteGroups s) = core s := by
  unfold voteGroups; (repeat' split) <;> simp
@[simp] theorem voteResets_core (s : State) : core (voteResets s) = core s := by
  unfold voteResets; (repeat' split) <;> simp
@[simp] theorem writeOutcome_core (s : State) (ln : Lane) : core (writeOutcome s ln) = core s := by
  unfold writeOutcome; (repeat' split) <;> simp
@[simp] theorem loadReg_core (s : State) (ln : Lane) : core (loadReg s ln) = core s := by
  unfold loadReg; (repeat' split) <;> simp
@[simp] theorem refreshCopies_core (s : State) : core (refreshCopies s) = core s := by
  unfold refreshCopies; (repeat' split) <;> simp
@[simp] theorem writeAll_core (s : State) : core (writeAll s) = core s := by
  unfold writeAll; (repeat' split) <;> simp
@[simp] theorem judgeShadows_core (s pre post : State) (lanes : List Lane) (dig : U64) :
    core (judgeShadows s pre post lanes dig) = core s := rfl
@[simp] theorem countCycle_core (s : State) : core (countCycle s) = core s := by
  unfold countCycle; (repeat' split) <;> simp
@[simp] theorem voteOutcome_keeps {i : Bool} {c₀ : Core} {pre : State} (lanes : List Lane) (expired : List Nat)
    (h : Keeps i c₀ (core pre)) :
    Keeps i c₀ (core (voteOutcome pre lanes expired)) := by
  unfold voteOutcome; (repeat' split) <;> simp [h]
@[simp] theorem overrun_keeps {i : Bool} {c : Core} {s : State} (lanes : List Lane) (h : Keeps i c (core s)) :
    Keeps i c (core (overrun s lanes)) :=
  enterSafeState_keeps 9 (raise_keeps 9 _ _ _ h.halted)
@[simp] theorem watchOutcome_keeps {i : Bool} {c : Core} {s : State} (h : Keeps i c (core s)) :
    Keeps i c (core (watchOutcome s)) := by
  have requestsServed := foldl_keeps serveOne (fun _ q hst => serveOne_keeps q hst) (requests s) h
  unfold watchOutcome
  simp [↓core_update, requestsServed]
@[simp] theorem voteWatch_keeps {i : Bool} {c₀ : Core} {s : State} (h : Keeps i c₀ (core s)) :
    Keeps i c₀ (core (voteWatch s)) := by
  unfold voteWatch; dsimp only; (repeat' split) <;> simp [h]
@[simp] theorem voteLanes_keeps {i : Bool} {c : Core} {s : State} (lanes : List Lane) (h : Keeps i c (core s)) :
    Keeps i c (core (voteLanes s lanes)) := by
  have missesCounted : Keeps i c (core (allLanes.foldl (fun st ln => if inVote st ln then modLane st ln countMiss else st) s)) :=
    foldl_keeps _ (fun st ln hst => by simp [hst]) _ h
  unfold voteLanes
  dsimp only
  split
  · simpa using missesCounted
  · refine voteOutcome_keeps lanes _ ?_
    simp only [↓core_update]
    exact prepareVote_keeps missesCounted
@[simp] theorem dropItems_core (gone : List Nat) (s : State) : core (dropItems gone s) = core s := by
  unfold dropItems; (repeat' split) <;> simp
@[simp] theorem laneView_core (s : State) (ln : Lane) : core (laneView s ln) = core s := by
  unfold laneView; (repeat' split) <;> simp
@[simp] theorem agreeAbsent_core (s : State) : core (agreeAbsent s) = core s := by
  unfold agreeAbsent; (repeat' split) <;> simp
@[simp] theorem corrupt_core (s : State) (ln : Lane) (x : Scrub) : core (corrupt s ln x) = core s := by
  unfold corrupt; (repeat' split) <;> simp
@[simp] theorem checkCopy_keeps {i : Bool} {c₀ : Core} {s : State} (ln : Lane) (h : Keeps i c₀ (core s)) :
    Keeps i c₀ (core (checkCopy s ln)) := by
  unfold checkCopy; (repeat' split) <;> simp [h]
@[simp] theorem noteScrub_keeps {i : Bool} {c₀ : Core} {s : State} (ln : Lane) (x : Scrub) (h : Keeps i c₀ (core s)) :
    Keeps i c₀ (core (noteScrub s ln x)) := by
  unfold noteScrub; (repeat' split) <;> simp [h]
@[simp] theorem endIntake_core (s : State) : core (endIntake s) = core s := by
  unfold endIntake; (repeat' split) <;> simp
@[simp] theorem noteMargin_keeps {i : Bool} {c₀ : Core} {s : State} (ln : Lane) (h : Keeps i c₀ (core s)) :
    Keeps i c₀ (core (noteMargin s ln)) := by
  unfold noteMargin; (repeat' split) <;> simp [h]

/-! ### Machine/Stile.lean -/

@[simp] theorem modStile_core (s : State) (ln : Lane) (f : StileSt → StileSt) : core (modStile s ln f) = core s := by
  unfold modStile; (repeat' split) <;> simp
@[simp] theorem enterP_keeps {i : Bool} {c₀ : Core} {s : State} (ln : Lane) (dir : Dir) (b : PBody) (arrived : U16)
    (h : Keeps i c₀ (core s)) :
    Keeps i c₀ (core (enterP s ln dir b arrived)) := by
  unfold enterP; (repeat' split) <;> simp [h]
@[simp] theorem admitWaiting_keeps {i : Bool} {c₀ : Core} {s : State} (ln : Lane) (dir : Dir) (h : Keeps i c₀ (core s)) :
    Keeps i c₀ (core (admitWaiting s ln dir)) := by
  unfold admitWaiting; dsimp only; (repeat' split) <;> simp [h]
@[simp] theorem settleP_keeps {i : Bool} {c₀ : Core} {s : State} (ln : Lane) (dir : Dir) (h : Keeps i c₀ (core s)) :
    Keeps i c₀ (core (settleP s ln dir)) := by
  unfold settleP; dsimp only; (repeat' split) <;> simp [h]
@[simp] theorem postedFailed_keeps {i : Bool} {c₀ : Core} {s : State} (ln : Lane) (dir : Dir) (tag : U16) (reason : U8)
    (addr : U32) (h : Keeps i c₀ (core s)) :
    Keeps i c₀ (core (postedFailed s ln dir tag reason addr)) := by
  unfold postedFailed; (repeat' split) <;> simp [h]
@[simp] theorem postP_keeps {i : Bool} {c₀ : Core} {s : State} (ln : Lane) (dir : Dir) (b : PBody) (arrived : U16)
    (h : Keeps i c₀ (core s)) :
    Keeps i c₀ (core (postP s ln dir b arrived)) := by
  unfold postP; (repeat' split) <;> simp [h]
@[simp] theorem arriveMsg_keeps {i : Bool} {c₀ : Core} {s : State} (ln : Lane) (dir : Dir) (m : StileMsg) (arrived : U16)
    (h : Keeps i c₀ (core s)) :
    Keeps i c₀ (core (arriveMsg s ln dir m arrived)) := by
  unfold arriveMsg; (repeat' split) <;> simp [h]
@[simp] theorem noteAbsent_core (s : State) (ln : Lane) (addr : U32) : core (noteAbsent s ln addr) = core s := by
  unfold noteAbsent; (repeat' split) <;> simp
@[simp] theorem deliverReads_core (s : State) (ln : Lane) : core (deliverReads s ln) = core s := by
  unfold deliverReads; (repeat' split) <;> simp
@[simp] theorem abortOpen_core (s : State) (ch : Nat) (code : U16) : core (abortOpen s ch code) = core s := by
  unfold abortOpen; (repeat' split) <;> simp
@[simp] theorem cutStationReads_core (s : State) : core (cutStationReads s) = core s :=
  foldl_core _ (fun st c => by (repeat' split) <;> simp) _ _
@[simp] theorem holdMarker_core (s : State) (ln : Lane) (origin : MarkerOrigin) : core (holdMarker s ln origin) = core s := by
  unfold holdMarker; (repeat' split) <;> simp
@[simp] theorem emptyOrigin_core (s : State) (origin : MarkerOrigin) : core (emptyOrigin s origin) = core s := by
  unfold emptyOrigin; (repeat' split) <;> simp
@[simp] theorem resetReads_core (s : State) (ln : Lane) (side : Side) : core (resetReads s ln side) = core s := by
  unfold resetReads; dsimp only; (repeat' split) <;> simp
@[simp] theorem resetStile_keeps {i : Bool} {c : Core} {s : State} (ln : Lane) (side : Side) (arrived : U16)
    (h : Keeps i c (core s)) : Keeps i c (core (resetStile s ln side arrived)) := by
  have settled := settleP_keeps ln (towards side) h
  unfold resetStile
  dsimp only
  generalize hs1 : (if receiverReset _ _ = true then _ else _) = s1
  have told : Keeps i c (core s1) := by rw [← hs1]; split <;> simp [settled]
  split
  · exact h
  · split <;> simp [told]
@[simp] theorem modCross_core (s : State) (c : Nat) (f : CrossSt → CrossSt) : core (modCross s c f) = core s := by
  unfold modCross; (repeat' split) <;> simp
@[simp] theorem modWay_core (s : State) (c : Nat) (dir : Dir) (f : CrossWay → CrossWay) : core (modWay s c dir f) = core s := by
  unfold modWay; (repeat' split) <;> simp
@[simp] theorem crossError_keeps {i : Bool} {c₀ : Core} {s : State} (c : Nat) (what : U32) (h : Keeps i c₀ (core s)) :
    Keeps i c₀ (core (crossError s c what)) := by
  unfold crossError; (repeat' split) <;> simp [h]
@[simp] theorem startCross_core (s : State) (c : Nat) (dir : Dir) (f : CrossWay → CrossWay) :
    core (startCross s c dir f) = core s := by
  unfold startCross; (repeat' split) <;> simp
@[simp] theorem startDelta_core (s : State) (c : Nat) (dir : Dir) (n : Nat) : core (startDelta s c dir n) = core s := by
  unfold startDelta; (repeat' split) <;> simp
@[simp] theorem startSnapshot_core (s : State) (c : Nat) (dir : Dir) : core (startSnapshot s c dir) = core s := by
  unfold startSnapshot; (repeat' split) <;> simp
@[simp] theorem acknowledgeCross_keeps {i : Bool} {c₀ : Core} {s : State} (c : Nat) (dir : Dir) (h : Keeps i c₀ (core s)) :
    Keeps i c₀ (core (acknowledgeCross s c dir)) := by
  unfold acknowledgeCross; (repeat' split) <;> simp [h]
@[simp] theorem crossSource_keeps {i : Bool} {c₀ : Core} {s : State} (c : Nat) (h : Keeps i c₀ (core s)) :
    Keeps i c₀ (core (crossSource s c)) := by
  unfold crossSource; (repeat' split) <;> simp [h]
@[simp] theorem resyncWay_core (c : Nat) (s : State) (dir : Dir) : core (resyncWay c s dir) = core s := by
  unfold resyncWay; (repeat' split) <;> simp
@[simp] theorem resetCross_core (s : State) (c : Nat) (dir : Dir) (receiver : Bool) :
    core (resetCross s c dir receiver) = core s := by
  unfold resetCross; (repeat' split) <;> simp
@[simp] theorem crossAfter_core (s : State) (c : Nat) (dir : Dir) (receiver : Bool) :
    core (crossAfter s c dir receiver) = core s := by
  unfold crossAfter; (repeat' split) <;> simp

/-! ### Machine/Sessions.lean -/

@[simp] theorem sendOpenFrame_core (s : State) (c : Chan) (op : Nat) (o : OpenFrame) : core (sendOpenFrame s c op o) = core s := by
  unfold sendOpenFrame; (repeat' split) <;> simp
@[simp] theorem sendReason_core (s : State) (c : Chan) (op node : Nat) (reason : U8) (sessField : U16) :
    core (sendReason s c op node reason sessField) = core s := by
  unfold sendReason; (repeat' split) <;> simp
@[simp] theorem hearOpening_core (s : State) (c : Chan) (op : Nat) (f : BusFrame) (o : OpenFrame) :
    core (hearOpening s c op f o).1 = core s := by
  unfold hearOpening; (repeat' split) <;> simp
@[simp] theorem noteStranger_keeps {i : Bool} {c₀ : Core} {s : State} (node : Nat) (ident : U32) (reason : U8)
    (h : Keeps i c₀ (core s)) :
    Keeps i c₀ (core (noteStranger s node ident reason)) := by
  unfold noteStranger; (repeat' split) <;> simp [h]
@[simp] theorem strangerFrame_keeps {i : Bool} {c₀ : Core} {s : State} (node : Nat) (o : OpenFrame) (h : Keeps i c₀ (core s)) :
    Keeps i c₀ (core (strangerFrame s node o)) := by
  unfold strangerFrame; (repeat' split) <;> simp [h]
@[simp] theorem refreshStranger_keeps {i : Bool} {c₀ : Core} {s : State} (node : Nat) (o : OpenFrame) (h : Keeps i c₀ (core s)) :
    Keeps i c₀ (core (refreshStranger s node o)) := by
  unfold refreshStranger; (repeat' split) <;> simp [h]
@[simp] theorem refuseOpen_keeps {i : Bool} {c₀ : Core} {s : State} (c : Chan) (node : Nat) (o : OpenFrame) (reason : U8)
    (h : Keeps i c₀ (core s)) :
    Keeps i c₀ (core (refuseOpen s c node o reason)) := by
  unfold refuseOpen; (repeat' split) <;> simp [h]
@[simp] theorem promise_core (s : State) (c : Chan) (k : Nat) (node : Nat) (o : OpenFrame) (y : Sess) :
    core (promise s c k node o y) = core s := by
  unfold promise; (repeat' split) <;> simp
@[simp] theorem takeBack_core (s : State) (k : Nat) : core (takeBack s k) = core s := by
  unfold takeBack; (repeat' split) <;> simp
@[simp] theorem admitTo_keeps {i : Bool} {c₀ : Core} {s : State} (c : Chan) (node : Nat) (o : OpenFrame) (q : Nat)
    (x : Partner) (k : Nat) (h : Keeps i c₀ (core s)) :
    Keeps i c₀ (core (admitTo s c node o q x k)) := by
  unfold admitTo; (repeat' split) <;> simp [h]
@[simp] theorem admitPartner_keeps {i : Bool} {c₀ : Core} {s : State} (c : Chan) (node : Nat) (o : OpenFrame) (q : Nat)
    (x : Partner) (h : Keeps i c₀ (core s)) :
    Keeps i c₀ (core (admitPartner s c node o q x)) := by
  unfold admitPartner; (repeat' split) <;> simp [h]
@[simp] theorem noteClosing_core (s : State) (k : Nat) (reason : U8) : core (noteClosing s k reason) = core s := by
  unfold noteClosing; (repeat' split) <;> simp
@[simp] theorem openAgain_keeps {i : Bool} {c₀ : Core} {s : State} (c : Chan) (node : Nat) (o : OpenFrame) (k : Nat)
    (h : Keeps i c₀ (core s)) :
    Keeps i c₀ (core (openAgain s c node o k)) := by
  unfold openAgain; (repeat' split) <;> simp [h]
@[simp] theorem openPromised_keeps {i : Bool} {c₀ : Core} {s : State} (c : Chan) (node : Nat) (o : OpenFrame) (q : Nat)
    (x : Partner) (p : Promise) (h : Keeps i c₀ (core s)) :
    Keeps i c₀ (core (openPromised s c node o q x p)) := by
  unfold openPromised; (repeat' split) <;> simp [h]
@[simp] theorem noteNode_core (s : State) (c : Chan) (node : Nat) (o : OpenFrame) (accept : Bool) :
    core (noteNode s c node o accept) = core s := by
  unfold noteNode; (repeat' split) <;> simp
@[simp] theorem openAnswered_core (s : State) (q : Nat) : core (openAnswered s q) = core s := by
  unfold openAnswered; (repeat' split) <;> simp
@[simp] theorem waitBoundary_core (s : State) (q : Nat) : core (waitBoundary s q) = core s := by
  unfold waitBoundary; (repeat' split) <;> simp
@[simp] theorem writeClose_keeps {i : Bool} {c₀ : Core} {s : State} (k : Nat) (value : U8) (h : Keeps i c₀ (core s)) :
    WKeeps i c₀ (writeClose s k value) := by
  unfold writeClose; (repeat' split) <;> simp [h]
@[simp] theorem forgetReports_core (s : State) (q : Nat) : core (forgetReports s q) = core s := by
  unfold forgetReports; (repeat' split) <;> simp
@[simp] theorem closeSession_keeps {i : Bool} {c₀ : Core} {s : State} (k : Nat) (reason : U8) (h : Keeps i c₀ (core s)) :
    Keeps i c₀ (core (closeSession s k reason)) := by
  unfold closeSession; (repeat' split) <;> simp [h]
@[simp] theorem sendCloses_core (s : State) : core (sendCloses s) = core s := by
  unfold sendCloses; (repeat' split) <;> simp
@[simp] theorem openInSnapshot_keeps {i : Bool} {c₀ : Core} (dissent : List (Nat × Lane)) {s : State} (k : Nat)
    (h : Keeps i c₀ (core s)) :
    Keeps i c₀ (core (openInSnapshot dissent s k)) := by
  unfold openInSnapshot; dsimp only; (repeat' split) <;> simp [h]
@[simp] theorem noteUnit_core (s : State) (u k n : Nat) (wrong : Bool) : core (noteUnit s u k n wrong) = core s := by
  unfold noteUnit; (repeat' split) <;> simp
@[simp] theorem takeCopy_core (s : State) (c : Chan) (f : Option BusFrame) : core (takeCopy s c f).1 = core s := by
  unfold takeCopy
  split
  · rfl
  · next x =>
    have hr := receive_core s x true
    (repeat' split) <;> simp_all
@[simp] theorem combineCopies_keeps {i : Bool} {c₀ : Core} {s : State} (ours : Bool) (a b : Option BusFrame)
    (h : Keeps i c₀ (core s)) :
    Keeps i c₀ (core (combineCopies s ours a b).1) := by
  unfold combineCopies; (repeat' split) <;> simp [h]
@[simp] theorem rejectTelegram_core (s : State) (k : Nat) : core (rejectTelegram s k) = core s := by
  unfold rejectTelegram; (repeat' split) <;> simp
@[simp] theorem noteVerdicts_core (s : State) (verdict : Lane → Bool) : core (noteVerdicts s verdict) = core s := by
  unfold noteVerdicts; (repeat' split) <;> simp
@[simp] theorem acceptTelegram_core (s : State) (k j : Nat) (payload : List Byte) :
    core (acceptTelegram s k j payload) = core s := by
  unfold acceptTelegram; (repeat' split) <;> simp
@[simp] theorem noteReceiveUnits_core (s : State) (k : Nat) (v : Verified) (contrary : Bool) :
    core (noteReceiveUnits s k v contrary) = core s := by
  unfold noteReceiveUnits; (repeat' split) <;> simp
@[simp] theorem judgeTelegram_keeps {i : Bool} {c₀ : Core} {s : State} (k : Nat) (body : List Byte) (wrong : List Lane)
    (h : Keeps i c₀ (core s)) :
    Keeps i c₀ (core (judgeTelegram s k body wrong)) := by
  unfold judgeTelegram; dsimp only; (repeat' split) <;> simp [h]
@[simp] theorem boundaryEngine_core (s : State) (c : Chan) : core (boundaryEngine s c) = core s := by
  unfold boundaryEngine; (repeat' split) <;> simp
@[simp] theorem noteRate_core (s : State) : core (noteRate s) = core s := by
  unfold noteRate; (repeat' split) <;> simp
@[simp] theorem boundarySess_core (s : State) (k : Nat) (y : Sess) : core (boundarySess s k y) = core s := by
  unfold boundarySess; (repeat' split) <;> simp
@[simp] theorem boundarySessions_core (s : State) : core (boundarySessions s) = core s := by
  unfold boundarySessions; (repeat' split) <;> simp
@[simp] theorem takeMail_core (s : State) (m : RxTelegram) : core (takeMail s m) = core s := by
  unfold takeMail; (repeat' split) <;> simp
@[simp] theorem countMissed_core (s : State) (k : Nat) : core (countMissed s k) = core s := by
  unfold countMissed; dsimp only; (repeat' split) <;> simp
@[simp] theorem takeEvent_keeps {i : Bool} {c₀ : Core} (dissent : List (Nat × Lane)) {s : State} (e : SessEvent)
    (h : Keeps i c₀ (core s)) :
    Keeps i c₀ (core (takeEvent dissent s e)) := by
  unfold takeEvent; (repeat' split) <;> simp [h]
@[simp] theorem takeSessions_keeps {i : Bool} {c : Core} (dissent : List (Nat × Lane)) {s : State} (h : Keeps i c (core s)) :
    Keeps i c (core (takeSessions dissent s)) := by
  unfold takeSessions
  refine foldl_keeps _ (fun st x hst => by simpa using hst) _ ?_
  refine foldl_keeps _ (fun st m hst => by simpa using hst) _ ?_
  dsimp only
  simp only [↓core_update]
  refine foldl_keeps _ (fun st x hst => by simp [hst]) _ ?_
  exact foldl_keeps _ (fun st e hst => takeEvent_keeps dissent e hst) _ h
@[simp] theorem buildSession_keeps {i : Bool} {c₀ : Core} (withheld : List (Nat × Nat)) {s : State} (k : Nat)
    (h : Keeps i c₀ (core s)) :
    Keeps i c₀ (core (buildSession withheld s k)) := by
  unfold buildSession; dsimp only; (repeat' split) <;> simp [h]
@[simp] theorem buildTelegrams_keeps {i : Bool} {c₀ : Core} (withheld : List (Nat × Nat)) {s : State} (h : Keeps i c₀ (core s)) :
    Keeps i c₀ (core (buildTelegrams withheld s)) := by
  unfold buildTelegrams; dsimp only; (repeat' split) <;> simp_all

/-! ### Machine/Twin.lean -/

@[simp] theorem raiseMirror_keeps {i : Bool} {c₀ : Core} {s : State} (why : Nat) (h : Keeps i c₀ (core s)) :
    Keeps i c₀ (core (raiseMirror s why)) := by
  unfold raiseMirror; (repeat' split) <;> simp [h]
@[simp] theorem twinFrameIn_core (s : State) : core (twinFrameIn s) = core s := by
  unfold twinFrameIn; (repeat' split) <;> simp
@[simp] theorem twinDiscard_core (s : State) : core (twinDiscard s) = core s := by
  unfold twinDiscard; (repeat' split) <;> simp
@[simp] theorem twinReceive_keeps {i : Bool} {c : Core} {s : State} (x : TwinHead) (typ : Nat) (body : List Byte)
    {f : State → State} (h : Keeps i c (core s)) (hf : Keeps i c (core (f (twinFrameIn s)))) :
    Keeps i c (core (twinReceive s x typ body f)) := by
  unfold twinReceive
  simp [h, hf]
@[simp] theorem sendHello_core (s : State) : core (sendHello s) = core s := by
  unfold sendHello; (repeat' split) <;> simp
@[simp] theorem refusePairing_keeps {i : Bool} {c₀ : Core} {s : State} (reason : Nat) (h : Keeps i c₀ (core s)) :
    Keeps i c₀ (core (refusePairing s reason)) := by
  unfold refusePairing; (repeat' split) <;> simp [h]
@[simp] theorem becomeRole_core (s : State) (r : Role) (paired : Bool) : core (becomeRole s r paired) = core s := by
  unfold becomeRole; (repeat' split) <;> simp
@[simp] theorem resolveHeard_keeps {i : Bool} {c : Core} {s : State} (hello : Hello) (h : Keeps i c (core s)) :
    Keeps i c (core (resolveHeard s hello)) := by
  unfold resolveHeard
  simp [h]
@[simp] theorem refuseUnknown_keeps {i : Bool} {c₀ : Core} {s : State} (h : Keeps i c₀ (core s)) :
    Keeps i c₀ (core (refuseUnknown s)) := by
  unfold refuseUnknown; (repeat' split) <;> simp [h]
@[simp] theorem resolveRole_keeps {i : Bool} {c : Core} {s : State} (h : Keeps i c (core s)) :
    Keeps i c (core (resolveRole s)) := by
  unfold resolveRole
  (repeat' split) <;> simp [h]
@[simp] theorem sendSnapshot_core (s : State) : core (sendSnapshot s) = core s := by
  unfold sendSnapshot; (repeat' split) <;> simp
@[simp] theorem dropBlocks_core (s : State) : core (dropBlocks s) = core s := by
  unfold dropBlocks; (repeat' split) <;> simp
@[simp] theorem strayBlock_core (s : State) (seq : U32) : core (strayBlock s seq) = core s := by
  unfold strayBlock; (repeat' split) <;> simp
@[simp] theorem snapshotArrived_core (s : State) (l : List Byte) : core (snapshotArrived s l) = core s := by
  unfold snapshotArrived; (repeat' split) <;> simp
@[simp] theorem applySlot_core (old : State) (s : State) (e : List Byte) : core (applySlot old s e) = core s := by
  unfold applySlot; (repeat' split) <;> simp
@[simp] theorem applySlots_core (s : State) (m : Mirror) : core (applySlots s m) = core s := by
  unfold applySlots; (repeat' split) <;> simp
@[simp] theorem applySess_core (old : State) (m : Mirror) (s : State) (e : List Byte) : core (applySess old m s e) = core s := by
  unfold applySess; (repeat' split) <;> simp
@[simp] theorem absentSess_core (s : State) (m : Mirror) (k : Nat) (y : Sess) : core (absentSess s m k y) = core s := by
  unfold absentSess; (repeat' split) <;> simp
@[simp] theorem applySessions_core (s : State) (m : Mirror) : core (applySessions s m) = core s := by
  unfold applySessions; (repeat' split) <;> simp
@[simp] theorem applyElem_core (m : Mirror) (s : State) (e : Nat) (x : Element) : core (applyElem m s e x) = core s := by
  unfold applyElem; (repeat' split) <;> simp
@[simp] theorem applyMirror_core (s : State) (m : Mirror) : core (applyMirror s m) = core s := by
  unfold applyMirror; (repeat' split) <;> simp
@[simp] theorem armByMirror_core (s : State) (roll : Bool) (k : U32) : core (armByMirror s roll k) = core s := by
  unfold armByMirror; (repeat' split) <;> simp
@[simp] theorem followArm_core (s : State) (m : Mirror) : core (followArm s m) = core s := by
  unfold followArm; (repeat' split) <;> simp
@[simp] theorem followSwitch_keeps {i : Bool} {c₀ : Core} {s : State} (m : Mirror) (h : Keeps i c₀ (core s)) :
    Keeps i c₀ (core (followSwitch s m)) := by
  unfold followSwitch; (repeat' split) <;> simp [h]
@[simp] theorem unsynchronised_core (s : State) : core (unsynchronised s) = core s := by
  unfold unsynchronised; (repeat' split) <;> simp
@[simp] theorem synchronise_core (s : State) : core (synchronise s) = core s := by
  unfold synchronise; (repeat' split) <;> simp
@[simp] theorem applyNewest_keeps {i : Bool} {c₀ : Core} {s : State} (h : Keeps i c₀ (core s)) :
    Keeps i c₀ (core (applyNewest s)) := by
  unfold applyNewest; dsimp only; (repeat' split) <;> simp [h]
@[simp] theorem countHealthy_core (s : State) : core (countHealthy s) = core s := by
  unfold countHealthy; (repeat' split) <;> simp
@[simp] theorem sendHealth_core (s : State) : core (sendHealth s) = core s := by
  unfold sendHealth; (repeat' split) <;> simp
@[simp] theorem giveUp_core (s : State) : core (giveUp s) = core s := by
  unfold giveUp; (repeat' split) <;> simp [*, ↓core_update]
@[simp] theorem enterStandby_keeps {i : Bool} {c₀ : Core} {s : State} (h : Keeps i c₀ (core s)) :
    Keeps i c₀ (core (enterStandby s)) := by
  unfold enterStandby; (repeat' split) <;> simp [*, ↓core_update]
@[simp] theorem takeNotice_keeps {i : Bool} {c₀ : Core} {s : State} (x : TwinHead) (code : Nat) (cycle : U32)
    (h : Keeps i c₀ (core s)) :
    Keeps i c₀ (core (takeNotice s x code cycle)) := by
  unfold takeNotice; (repeat' split) <;> simp [h]
@[simp] theorem triggerTakeover_keeps {i : Bool} {c₀ : Core} {s : State} (h : Keeps i c₀ (core s)) :
    Keeps i c₀ (core (triggerTakeover s)) := by
  unfold triggerTakeover; (repeat' split) <;> simp [h]
@[simp] theorem standbyTriggers_keeps {i : Bool} {c₀ : Core} {s : State} (h : Keeps i c₀ (core s)) :
    Keeps i c₀ (core (standbyTriggers s)) := by
  unfold standbyTriggers; (repeat' split) <;> simp [h]
@[simp] theorem cautiousRoute_core (s : State) (p : Nat × Slot) : core (cautiousRoute s p) = core s := by
  unfold cautiousRoute; dsimp only; (repeat' split) <;> simp
@[simp] theorem cautiousGroup_keeps {i : Bool} {c₀ : Core} {s : State} (p : Nat × GroupRec) (h : Keeps i c₀ (core s)) :
    Keeps i c₀ (core (cautiousGroup s p)) := by
  unfold cautiousGroup; (repeat' split) <;> simp [h]
@[simp] theorem cautiousChanges_keeps {i : Bool} {c : Core} {s : State} (h : Keeps i c (core s)) :
    Keeps i c (core (cautiousChanges s)) :=
  foldl_keeps _ (fun st g hst => cautiousGroup_keeps g hst) _ (by simpa using h)
@[simp] theorem lapseArms_core (s : State) : core (lapseArms s) = core s := by
  unfold lapseArms; (repeat' split) <;> simp
@[simp] theorem advanceSess_core (m : Mirror) (n : U32) (s : State) : core (advanceSess m n s) = core s := by
  unfold advanceSess; (repeat' split) <;> simp
/-- A takeover leads to Run, Degraded or Stop. -/
theorem takeoverMode_live (s : State) (m : Mirror) : (takeoverMode s m).Live := by
  unfold takeoverMode
  (repeat' split) <;> simp
@[simp] theorem becomeActive_keeps {i : Bool} {c : Core} (m : Mirror) (n : U32) {s : State} (h : Keeps i c (core s)) :
    Keeps i c (core (becomeActive m n s)) := by
  unfold becomeActive
  dsimp only
  generalize hs3 : (if m.final = true then _ else _) = s3
  have taken : Keeps i c (core s3) := by
    rw [← hs3]
    split
    · rw [core_update rfl rfl rfl rfl]; simp [h]
    · refine cautiousChanges_keeps ?_
      rw [core_update rfl rfl rfl rfl]; simp [h]
  split
  · exact taken
  · refine raise_keeps _ _ _ _ ?_
    rw [setMode_core]
    exact taken.live (takeoverMode_live s3 m)
@[simp] theorem takeOver_keeps {i : Bool} {c₀ : Core} (n : U32) {s : State} (h : Keeps i c₀ (core s)) :
    Keeps i c₀ (core (takeOver n s)) := by
  unfold takeOver; (repeat' split) <;> simp [h]
@[simp] theorem sendTakenNow_core (s : State) : core (sendTakenNow s) = core s := by
  unfold sendTakenNow; (repeat' split) <;> simp
@[simp] theorem standbyVote_keeps {i : Bool} {c₀ : Core} {s : State} (h : Keeps i c₀ (core s)) :
    Keeps i c₀ (core (standbyVote s)) := by
  unfold standbyVote; (repeat' split) <;> simp [h]
@[simp] theorem twinVote_keeps {i : Bool} {c₀ : Core} {s : State} (h : Keeps i c₀ (core s)) :
    Keeps i c₀ (core (twinVote s)) := by
  unfold twinVote; (repeat' split) <;> simp [h]
@[simp] theorem writeHandover_keeps {i : Bool} {c₀ : Core} {s : State} (value : U8) (h : Keeps i c₀ (core s)) :
    WKeeps i c₀ (writeHandover s value) := by
  unfold writeHandover; (repeat' split) <;> simp [h]

/-! ### Machine/Update.lean -/

@[simp] theorem writeBegin_keeps {i : Bool} {c₀ : Core} {s : State} (pkgid : U64) (pkglen : Nat) (h : Keeps i c₀ (core s)) :
    WKeeps i c₀ (writeBegin s pkgid pkglen) := by
  unfold writeBegin; (repeat' split) <;> simp [h]
@[simp] theorem writePiece_keeps {i : Bool} {c₀ : Core} {s : State} (pnum : Nat) (pcrc : U32) (data : List Byte)
    (h : Keeps i c₀ (core s)) :
    WKeeps i c₀ (writePiece s pnum pcrc data) := by
  unfold writePiece; (repeat' split) <;> simp [h]
@[simp] theorem endDue_core (s : State) : core (endDue s) = core s := by
  unfold endDue; (repeat' split) <;> simp
@[simp] theorem startReverse_core (s : State) (cause : Nat) : core (startReverse s cause) = core s := by
  unfold startReverse; (repeat' split) <;> simp
@[simp] theorem doUpdate_core (s : State) (action : Nat) : core (doUpdate s action) = core s := by
  unfold doUpdate; (repeat' split) <;> simp
@[simp] theorem writeAction_keeps {i : Bool} {c₀ : Core} {s : State} (action : Nat) (pkgid : U64) (h : Keeps i c₀ (core s)) :
    WKeeps i c₀ (writeAction s action pkgid) := by
  unfold writeAction; (repeat' split) <;> simp [h]
@[simp] theorem endVerification_keeps {i : Bool} {c₀ : Core} {s : State} (result kind : Nat) (h : Keeps i c₀ (core s)) :
    Keeps i c₀ (core (endVerification s result kind)) := by
  unfold endVerification; (repeat' split) <;> simp [h]
@[simp] theorem runDueRollback_core (s : State) : core (runDueRollback s) = core s := by
  unfold runDueRollback; (repeat' split) <;> simp
@[simp] theorem saveProbation_core (s : State) : core (saveProbation s) = core s := by
  unfold saveProbation; (repeat' split) <;> simp
@[simp] theorem writeOwnerKey_keeps {i : Bool} {c₀ : Core} {s : State} (ch : Nat) (data : List Byte) (h : Keeps i c₀ (core s)) :
    WKeeps i c₀ (writeOwnerKey s ch data) := by
  unfold writeOwnerKey; (repeat' split) <;> simp [h]

/-! ### Machine/Modes.lean -/

@[simp] theorem modModes_core (s : State) (f : ModesSt → ModesSt) (h : (f s.modes).mode = s.modes.mode) :
    core (modModes s f) = core s := by
  simp [modModes, h]
@[simp] theorem domainWell_core (s : State) (d : Nat) : core (domainWell s d) = core s := by
  unfold domainWell; (repeat' split) <;> simp
@[simp] theorem domainUp_core (s : State) (d : Nat) : core (domainUp s d) = core s := by
  unfold domainUp; (repeat' split) <;> simp
@[simp] theorem domainOff_core (s : State) (d : Nat) : core (domainOff s d) = core s := by
  unfold domainOff; (repeat' split) <;> simp
@[simp] theorem noteVin_core (s : State) (vin : Nat) : core (noteVin s vin) = core s := by
  unfold noteVin; (repeat' split) <;> simp
@[simp] theorem cancelIfLeft_core (s : State) : core (cancelIfLeft s) = core s := by
  unfold cancelIfLeft; (repeat' split) <;> simp
@[simp] theorem recordBist_core (s : State) (env : StartEnv) (kind : Nat) : core (recordBist s env kind) = core s := by
  unfold recordBist; (repeat' split) <;> simp
@[simp] theorem laneBlockFailed_keeps {i : Bool} {c₀ : Core} {s : State} (ln : Lane) (block : Nat) (item : U32)
    (h : Keeps i c₀ (core s)) :
    Keeps i c₀ (core (laneBlockFailed s ln block item)) := by
  unfold laneBlockFailed; (repeat' split) <;> simp [h]
@[simp] theorem bistFailure_keeps {i : Bool} {c₀ : Core} {s : State} (b : Nat) (item : U32) (h : Keeps i c₀ (core s)) :
    Keeps i c₀ (core (bistFailure s b item)) := by
  unfold bistFailure; (repeat' split) <;> simp [h]
@[simp] theorem startBist_keeps {i : Bool} {c : Core} (env : StartEnv) {s : State} (h : Keeps i c (core s)) :
    Keeps i c (core (startBist env s)) :=
  foldl_keeps _ (fun st b hst => by simp [hst]) _ (by simpa using h)
@[simp] theorem dropChange_core (s : State) : core (dropChange s) = core s := by
  unfold dropChange; (repeat' split) <;> simp
@[simp] theorem freshParts_core (s : State) : core (freshParts s) = ⟨(core s).mode, (core s).killR, false, (core s).images⟩ := rfl
@[simp] theorem freshCounters_core (s : State) : core (freshCounters s) = core s := by
  unfold freshCounters; (repeat' split) <;> simp
@[simp] theorem dropPlain_core (s : State) : core (dropPlain s) = core s := by
  unfold dropPlain; (repeat' split) <;> simp
@[simp] theorem measureHoldup_keeps {i : Bool} {c₀ : Core} {s : State} (c kind : Nat) (h : Keeps i c₀ (core s)) :
    Keeps i c₀ (core (measureHoldup s c kind)) := by
  unfold measureHoldup; (repeat' split) <;> simp [h]
@[simp] theorem readSeal_core (s : State) (switches : BitVec 24) : core (readSeal s switches) = core s := by
  unfold readSeal; (repeat' split) <;> simp
@[simp] theorem decideStart_core (s : State) (env : StartEnv) (why : Option Nat) : core (decideStart s env why) = core s := by
  unfold decideStart; (repeat' split) <;> simp
@[simp] theorem resumeJournal_keeps {i : Bool} {c₀ : Core} (env : StartEnv) {s : State} (h : Keeps i c₀ (core s)) :
    Keeps i c₀ (core (resumeJournal env s)) := by
  unfold resumeJournal; (repeat' split) <;> simp [h]
@[simp] theorem judgeProbation_core (s : State) : core (judgeProbation s) = core s := by
  unfold judgeProbation; dsimp only; (repeat' split) <;> simp
@[simp] theorem defaultSettings_core (s : State) : core (defaultSettings s) = core s := by
  unfold defaultSettings; (repeat' split) <;> simp
@[simp] theorem checkSettings_core (s : State) : core (checkSettings s) = core s := by
  unfold checkSettings
  (repeat' split) <;> simp [modModes, ↓core_update]
@[simp] theorem dropHistory_keeps {i : Bool} {c₀ : Core} {s : State} (ln : Lane) (h : Keeps i c₀ (core s)) :
    Keeps i c₀ (core (dropHistory s ln)) := by
  unfold dropHistory; (repeat' split) <;> simp [h]
@[simp] theorem cutVerification_keeps {i : Bool} {c₀ : Core} {s : State} (h : Keeps i c₀ (core s)) :
    Keeps i c₀ (core (cutVerification s)) := by
  unfold cutVerification; (repeat' split) <;> simp [h]
@[simp] theorem startBus_keeps {i : Bool} {c₀ : Core} {s : State} (b : HostBus) (heard : Bool) (h : Keeps i c₀ (core s)) :
    Keeps i c₀ (core (startBus s b heard)) := by
  unfold startBus; (repeat' split) <;> simp [h]
@[simp] theorem bootSteward_keeps {i : Bool} {c : Core} {s : State} (env : StartEnv) (h : Keeps i c (core s)) :
    Keeps i c (core (bootSteward s env)) := by
  unfold bootSteward
  dsimp only
  refine startBus_keeps _ _ (startBus_keeps _ _ ?_)
  rw [core_update rfl rfl rfl rfl, restartUntil_core, core_update rfl rfl rfl rfl]
  exact h
/-- Powering the parts releases the kill lines, in a mode that may have them running. -/
theorem powerParts_keeps {i : Bool} {c : Core} {s : State} (hm : (core s).mode.Live) (h : Keeps i c (core s)) :
    Keeps i c (core (powerParts s)) := by
  have domainsUp : core ((([5, 6, 7] : List Nat) ++ (lanesUp s).map fun ln => laneNo ln + 1).foldl domainUp
      (if switchOn s 23 then domainOff s 3 else s)) = core s := by
    simp
  unfold powerParts
  dsimp only
  generalize List.foldl domainUp _ _ = s1 at domainsUp
  have powered : Keeps i c ⟨(core s).mode, .bit true, (core s).running, (core s).images⟩ := h.live hm
  rw [← domainsUp] at powered
  exact powered
@[simp] theorem applyStation_core (s : State) (r : Nat × Nat) : core (applyStation s r) = core s := by
  unfold applyStation; dsimp only; (repeat' split) <;> simp
@[simp] theorem recordLoad_core (s : State) (code ref : Nat) : core (recordLoad s code ref) = core s := by
  unfold recordLoad; (repeat' split) <;> simp
@[simp] theorem applyProgram_core (s : State) (code : Nat) (l : List (Lane × Nat)) : core (applyProgram s code l) = core s := by
  unfold applyProgram; (repeat' split) <;> simp
@[simp] theorem excludeCheck_keeps {i : Bool} {c₀ : Core} {s : State} (ln : Lane) (ref : U32) (h : Keeps i c₀ (core s)) :
    Keeps i c₀ (core (excludeCheck s ln ref)) := by
  unfold excludeCheck; (repeat' split) <;> simp [h]
@[simp] theorem excludeBad_keeps {i : Bool} {c₀ : Core} {s : State} (ln : Lane) (h : Keeps i c₀ (core s)) :
    Keeps i c₀ (core (excludeBad s ln)) := by
  unfold excludeBad; (repeat' split) <;> simp [h]
@[simp] theorem loadProgram_keeps {i : Bool} {c₀ : Core} {s : State} (lanes : List Lane) (h : Keeps i c₀ (core s)) :
    Keeps i c₀ (core (loadProgram s lanes)) := by
  unfold loadProgram; dsimp only; (repeat' split) <;> simp_all
@[simp] theorem loadMajority_keeps {i : Bool} {c : Core} {s : State} (lanes bad : List Lane) (h : Keeps i c (core s)) :
    Keeps i c (core (loadMajority s lanes bad)) := by
  unfold loadMajority
  dsimp only
  split
  · refine loadProgram_keeps _ (foldl_keeps _ (fun st ln hst => excludeBad_keeps ln hst) _ ?_)
    simp [h]
  · simp [h]
@[simp] theorem restoreLimit_core (s : State) : core (restoreLimit s) = core s := by
  unfold restoreLimit; (repeat' split) <;> simp
@[simp] theorem beginCycles_core (s : State) : core (beginCycles s) = ⟨(core s).mode, (core s).killR, true, (core s).images⟩ := rfl
@[simp] theorem startCopy_core (source : Lane) (s : State) (ln : Lane) : core (startCopy source s ln) = core s := by
  unfold startCopy; (repeat' split) <;> simp
@[simp] theorem enterSplit_keeps {i : Bool} {c₀ : Core} {s : State} (h : Keeps i c₀ (core s)) :
    Keeps i c₀ (core (enterSplit s)) := by
  unfold enterSplit; (repeat' split) <;> simp [h]
/-- The first cycles begin in Watch, or still in Start when the lanes have joined without Watch. -/
theorem enterWatch_keeps {i : Bool} {c : Core} {s : State} (hm : (core s).mode = .start) (h : Keeps i c (core s)) :
    Keeps i c (core (enterWatch s)) := by
  unfold enterWatch
  dsimp only
  (repeat' split) <;> simp [h, hm, h.live]
@[simp] theorem runStart_keeps {i : Bool} {c : Core} (env : StartEnv) {s : State} (h : Keeps i c (core s)) :
    Keeps i c (core (runStart env s)) := by
  have tested : Keeps i c (core (if s.modes.startKind = 1 then startBist env s else s)) := by simp [h]
  unfold runStart
  dsimp only
  generalize (if s.modes.startKind = 1 then startBist env s else s) = s1 at tested
  split
  · exact tested
  next hm1 =>
    have started : core (modModes s1 fun x => { x with step := 5 }) = core s1 := by simp
    have powered := powerParts_keeps (s := modModes s1 fun x => { x with step := 5 })
      (by rw [started]; simp [core, not_not.mp hm1]) (started ▸ tested)
    generalize powerParts (modModes s1 fun x => { x with step := 5 }) = s2 at powered
    have loaded : Keeps i c (core (loadMajority (modModes s2 fun x => { x with step := 6 }) (lanesUp s2) env.badCopy)) := by
      simp [powered]
    generalize loadMajority _ _ _ = s3 at loaded
    have grouped : Keeps i c (core (startGroups (if allPassed s3 then restoreLimit s3 else s3))) := by simp [loaded]
    generalize startGroups _ = s4 at grouped
    split
    · exact grouped
    next hm4 =>
      have noted : core { s4 with twin := { s4.twin with wsnap := worstSnapshot s4 } } = core s4 := by simp
      split
      · exact enterSplit_keeps (noted ▸ grouped)
      · exact enterWatch_keeps (by rw [noted]; exact not_not.mp hm4) (noted ▸ grouped)
@[simp] theorem startFromTwo_keeps {i : Bool} {c : Core} (why : Option Nat) (env : StartEnv) {s : State} (h : Keeps i c (core s)) :
    Keeps i c (core (startFromTwo why env s)) := by
  have resumed : Keeps i c (core { s with update := { s.update with restart := false } }) := by simpa using h
  unfold startFromTwo
  dsimp only
  generalize { s with update := { s.update with restart := false } } = s0 at resumed
  have decided : Keeps i c (core (judgeProbation (resumeJournal env (cutVerification (decideStart (domainUp s0 4) env why))))) := by
    simp [resumed]
  generalize judgeProbation _ = s2 at decided
  have checked : Keeps i c (core (checkSettings (dropChange s2))) := by simp [decided]
  have booted : Keeps i c (core (bootSteward (env.lostHistory.dedup.foldl dropHistory (checkSettings (dropChange s2))) env)) :=
    bootSteward_keeps env (foldl_keeps _ (fun st ln hst => dropHistory_keeps ln hst) _ checked)
  simp [booted]
@[simp] theorem beginStart_keeps {i : Bool} {c : Core} (why : Option Nat) (env : StartEnv) {s : State} (h : Keeps i c (core s)) :
    Keeps i c (core (beginStart why env s)) := by
  have started : Keeps i c (core (setMode s .start 0xFF)) := by simp [h]
  unfold beginStart
  dsimp only
  generalize setMode s .start 0xFF = s1 at started
  have fresh : Keeps i c (core (dropPlain (freshCounters (freshParts s1)))) := by simp [started]
  generalize dropPlain _ = s2 at fresh
  have scanned : Keeps i c (core (bookScan (domainUp (modModes s2 fun x => { x with
      startAt := s.now, step := 1, startMs := 0, pfwReleased := true, vinLowest := x.vin, splitRun := false
      retention := retentionRead s1 env }) 0))) := by simp [fresh]
  simp [scanned]
@[simp] theorem coldStart_core (s : State) : core (coldStart s) = ⟨(core s).mode, (core s).killR, false, (core s).images⟩ := rfl
@[simp] theorem markGood_core (s : State) : core (markGood s) = core s := by
  unfold markGood; (repeat' split) <;> simp
@[simp] theorem countLate_core (s : State) : core (countLate s) = core s := by
  unfold countLate; (repeat' split) <;> simp
@[simp] theorem reachStop_keeps {i : Bool} {c₀ : Core} {s : State} (h : Keeps i c₀ (core s)) :
    Keeps i c₀ (core (reachStop s)) := by
  unfold reachStop; (repeat' split) <;> simp [h]
@[simp] theorem leaveWatch_keeps {i : Bool} {c₀ : Core} {s : State} (h : Keeps i c₀ (core s)) :
    Keeps i c₀ (core (leaveWatch s)) := by
  unfold leaveWatch; (repeat' split) <;> simp [h]
/-- Entry into Shutdown stops the kill lines and the sequencer before the mode changes. -/
@[simp] theorem enterShutdown_keeps {i : Bool} {c : Core} (found : StartEnv) {s : State} (h : Keeps i c (core s)) :
    Keeps i c (core (enterShutdown found s)) := by
  have dark : Keeps i c ⟨.shutdown, (core (stopKillLines s 0xFF)).killR, false, (core (stopKillLines s 0xFF)).images⟩ :=
    ⟨(stopKillLines_keeps 0xFF h).images, fun _ _ => ⟨stopKillLines_kill s 0xFF, rfl⟩⟩
  have halted : core (flushCommands { stopKillLines s 0xFF with cyc := { s.cyc with running := false } }) =
      ⟨(core (stopKillLines s 0xFF)).mode, (core (stopKillLines s 0xFF)).killR, false, (core (stopKillLines s 0xFF)).images⟩ := by
    rw [flushCommands_core]; rfl
  unfold enterShutdown
  dsimp only
  generalize flushCommands _ = s1 at halted
  have entered : core (abortAttempts (cancelArmed (setMode s1 .shutdown 0xFF))) =
      ⟨.shutdown, (core (stopKillLines s 0xFF)).killR, false, (core (stopKillLines s 0xFF)).images⟩ := by
    rw [abortAttempts_core, cancelArmed_core, setMode_core, halted]
  rw [← entered] at dark
  generalize abortAttempts _ = s2 at dark
  have closed (l : List (Nat × Sess)) : Keeps i c (core (l.foldl (fun st e => closeSession st e.1 0x0B) s2)) :=
    foldl_keeps _ (fun st e hst => closeSession_keeps e.1 0x0B hst) l dark
  generalize hs3 : sendCloses _ = s3
  have sent : Keeps i c (core s3) := by rw [← hs3, sendCloses_core]; exact closed _
  have given : Keeps i c (core (if s3.twin.role = .active then twinNotice (recordGiveUp s3 0 none32) 1 else s3)) := by
    split <;> simp [sent]
  generalize (if s3.twin.role = .active then twinNotice (recordGiveUp s3 0 none32) 1 else s3) = s4 at given
  simp [given]
@[simp] theorem applyRequest_keeps {i : Bool} {c : Core} (env : StartEnv) {s : State} (v : Nat) (h : Keeps i c (core s)) :
    Keeps i c (core (applyRequest env s v)) := by
  have live : (requestedMode s v).Live := by
    unfold requestedMode; (repeat' split) <;> simp
  have moved : Keeps i c (core (setMode s (requestedMode s v) 0xFF)) := by rw [setMode_core]; exact h.live live
  unfold applyRequest
  dsimp only
  generalize setMode s (requestedMode s v) 0xFF = s1 at moved
  split
  · exact enterShutdown_keeps env h
  · split
    · exact beginStart_keeps none env h
    · simp [moved]
@[simp] theorem writeMode_keeps {i : Bool} {c₀ : Core} (env : StartEnv) {s : State} (v : Nat) (h : Keeps i c₀ (core s)) :
    WKeeps i c₀ (writeMode env s v) := by
  unfold writeMode; (repeat' split) <;> simp [h]
@[simp] theorem takeRequest_keeps {i : Bool} {c₀ : Core} (env : StartEnv) {s : State} (h : Keeps i c₀ (core s)) :
    Keeps i c₀ (core (takeRequest env s)) := by
  unfold takeRequest; (repeat' split) <;> simp [h]
@[simp] theorem resetByKey_keeps {i : Bool} {c₀ : Core} (env : StartEnv) {s : State} (h : Keeps i c₀ (core s)) :
    Keeps i c₀ (core (resetByKey env s)) := by
  unfold resetByKey; (repeat' split) <;> simp [h]
@[simp] theorem partsOff_core (s : State) : core (partsOff s) = ⟨(core s).mode, (core s).killR, false, (core s).images⟩ := rfl
@[simp] theorem losePointer_core (s : State) : core (losePointer s) = core s := by
  unfold losePointer; (repeat' split) <;> simp
@[simp] theorem countFail_core (s : State) : core (countFail s) = core s := by
  unfold countFail; (repeat' split) <;> simp
@[simp] theorem resetPd4Crossing_core (s : State) (c : Nat) : core (resetPd4Crossing s c) = core s := by
  unfold resetPd4Crossing; (repeat' split) <;> simp
@[simp] theorem loseQueue_core (s : State) : core (loseQueue s) = core s := by
  unfold loseQueue; (repeat' split) <;> simp
@[simp] theorem restartPd4_keeps {i : Bool} {c₀ : Core} {s : State} (h : Keeps i c₀ (core s)) :
    Keeps i c₀ (core (restartPd4 s)) := by
  unfold restartPd4; dsimp only; (repeat' split) <;> simp_all
@[simp] theorem domainFault_keeps {i : Bool} {c : Core} {s : State} (d mv : Nat) (h : Keeps i c (core s)) :
    Keeps i c (core (domainFault s d mv)) := by
  have faulty : Keeps i c (core (modDomain s d fun x => { x with state := 4, mv := mv, faults := x.faults + 1 })) := by
    simpa using h
  unfold domainFault
  generalize modDomain s d _ = s1 at faulty
  (repeat' split) <;> simp [faulty]
@[simp] theorem restartAfterUpdate_keeps {i : Bool} {c : Core} (env : StartEnv) {s : State} (h : Keeps i c (core s)) :
    Keeps i c (core (restartAfterUpdate env s)) := by
  have stopped := (stopKillLines_keeps 0xFF h).halted
  have halted : Keeps i c (core (flushCommands { stopKillLines s 0xFF with cyc := { s.cyc with running := false } })) := by
    rw [flushCommands_core]; exact stopped
  unfold restartAfterUpdate
  dsimp only
  generalize flushCommands _ = s1 at halted
  have started : Keeps i c (core (setMode s1 .start 0xFF)) := by simp [halted]
  generalize setMode s1 .start 0xFF = s2 at started
  have fresh : Keeps i c (core (dropPlain (freshCounters (freshParts s2)))) := by simp [started]
  generalize dropPlain _ = s3 at fresh
  simp [fresh]
/-- Replaced images are the only part of the core that an update writes. -/
@[simp] theorem replaceImages_keeps {c : Core} {s : State} (images : Table (List Byte)) (h : Keeps false c (core s)) :
    Keeps false c (core (replaceImages s images)) := by
  have cut : Keeps false c (core (if tget [] images 1 = tget [] s.update.images 1 then s else cutStationReads s)) := by simp [h]
  exact ⟨fun hb => (nomatch hb), cut.dark⟩
@[simp] theorem restartDue_keeps {i : Bool} {c₀ : Core} (env : StartEnv) {s : State} (h : Keeps i c₀ (core s)) :
    Keeps i c₀ (core (restartDue env s)) := by
  unfold restartDue; (repeat' split) <;> simp [h]
@[simp] theorem takeRestart_keeps {i : Bool} {c₀ : Core} (env : StartEnv) {s : State} (h : Keeps i c₀ (core s)) :
    Keeps i c₀ (core (takeRestart env s)) := by
  unfold takeRestart; (repeat' split) <;> simp [h]
@[simp] theorem joinLane_keeps {i : Bool} {c₀ : Core} {s : State} (ln : Lane) (h : Keeps i c₀ (core s)) :
    Keeps i c₀ (core (joinLane s ln)) := by
  unfold joinLane; dsimp only; (repeat' split) <;> simp [h]
@[simp] theorem writeReadmit_keeps {i : Bool} {c₀ : Core} {s : State} (value : U8) (h : Keeps i c₀ (core s)) :
    WKeeps i c₀ (writeReadmit s value) := by
  unfold writeReadmit; (repeat' split) <;> simp [h]
@[simp] theorem joinDueLanes_keeps {i : Bool} {c : Core} {s : State} (h : Keeps i c (core s)) :
    Keeps i c (core (joinDueLanes s)) :=
  foldl_keeps _ (fun st ln hst => by simp [hst]) _ h

/-! ### Machine/Cycle.lean -/

@[simp] theorem carryTaken_core (s : State) : core (carryTaken s) = core s := by
  unfold carryTaken; (repeat' split) <;> simp
@[simp] theorem openCycle_core (s : State) : core (openCycle s) = core s := by
  unfold openCycle; (repeat' split) <;> simp
@[simp] theorem noteRestrictive_keeps {i : Bool} {c₀ : Core} {s : State} (h : Keeps i c₀ (core s)) :
    Keeps i c₀ (core (noteRestrictive s)) := by
  unfold noteRestrictive; (repeat' split) <;> simp [h]
@[simp] theorem judgeBarrier_keeps {i : Bool} {c₀ : Core} (f : Option UpFrame) {s : State} (ln : Lane) (h : Keeps i c₀ (core s)) :
    Keeps i c₀ (core (judgeBarrier f s ln)) := by
  unfold judgeBarrier; (repeat' split) <;> simp [h]
@[simp] theorem takeField_keeps {i : Bool} {c : Core} {s : State} (h : Keeps i c (core s)) :
    Keeps i c (core (takeField s)) := by
  unfold takeField
  exact foldl_keeps _ (fun st ln hst => judgeBarrier_keeps _ ln hst) _ (by simp [h])
@[simp] theorem takeCommands_core (s : State) : core (takeCommands s) = core s := by
  unfold takeCommands; (repeat' split) <;> simp
@[simp] theorem retakeTag_keeps {i : Bool} {c₀ : Core} {s : State} (switches : BitVec 24) (h : Keeps i c₀ (core s)) :
    Keeps i c₀ (core (retakeTag s switches)) := by
  unfold retakeTag; (repeat' split) <;> simp [h]
@[simp] theorem checkSeal_keeps {i : Bool} {c₀ : Core} (switches : BitVec 24) {s : State} (h : Keeps i c₀ (core s)) :
    Keeps i c₀ (core (checkSeal switches s)) := by
  unfold checkSeal; (repeat' split) <;> simp [h]
@[simp] theorem runByLanes_keeps {i : Bool} {c₀ : Core} {s : State} (h : Keeps i c₀ (core s)) :
    Keeps i c₀ (core (runByLanes s)) := by
  unfold runByLanes; (repeat' split) <;> simp [h]
@[simp] theorem whileRunning_keeps {i : Bool} {c : Core} {f : State → State} {s : State} (h : Keeps i c (core s))
    (hf : s.cyc.running = true → Keeps i c (core (f s))) : Keeps i c (core (whileRunning f s)) := by
  unfold whileRunning; split <;> simp_all
@[simp] theorem voteOrOverrun_keeps {i : Bool} {c₀ : Core} {s : State} (h : Keeps i c₀ (core s)) :
    Keeps i c₀ (core (voteOrOverrun s)) := by
  unfold voteOrOverrun; (repeat' split) <;> simp [h]
@[simp] theorem voteByMode_keeps {i : Bool} {c₀ : Core} {s : State} (h : Keeps i c₀ (core s)) :
    Keeps i c₀ (core (voteByMode s)) := by
  unfold voteByMode; (repeat' split) <;> simp [h]
@[simp] theorem noteShown_core (s : State) : core (noteShown s) = core s := by
  unfold noteShown; (repeat' split) <;> simp
@[simp] theorem stampGroup_core (s : State) (p : Nat × GroupRec) : core (stampGroup s p) = core s := by
  unfold stampGroup; (repeat' split) <;> simp
@[simp] theorem issueOutputs_keeps {i : Bool} {c₀ : Core} {s : State} (h : Keeps i c₀ (core s)) :
    Keeps i c₀ (core (issueOutputs s)) := by
  unfold issueOutputs; dsimp only; (repeat' split) <;> simp_all
@[simp] theorem loadFrames_core (s : State) : core (loadFrames s) = core s := by
  unfold loadFrames; (repeat' split) <;> simp
@[simp] theorem issueResults_core (s : State) : core (issueResults s) = core s := by
  unfold issueResults; (repeat' split) <;> simp
@[simp] theorem noteSignal_core (sent : List Nat) (s : State) (e : Nat × Element) : core (noteSignal sent s e) = core s := by
  unfold noteSignal; (repeat' split) <;> simp
@[simp] theorem writeCommand_core (s : State) (ch opcode : Nat) (param : U32) (c : CmdArgs) :
    core (writeCommand s ch opcode param c).1 = core s := by
  unfold writeCommand; (repeat' split) <;> simp
@[simp] theorem writeReadSeq_keeps {i : Bool} {c₀ : Core} {s : State} (value : U32) (h : Keeps i c₀ (core s)) :
    WKeeps i c₀ (writeReadSeq s value) := by
  unfold writeReadSeq; (repeat' split) <;> simp [h]

/-! ### Machine/Entries.lean -/

@[simp] theorem readEntry_core {s s' : State} {ch index sub : Nat} {l : List Byte} (h : readEntry s ch index sub = .ok (s', l)) :
    core s' = core s := by
  unfold readEntry at h
  (repeat' split at h) <;> simp at h <;> obtain ⟨rfl, -⟩ := h <;> simp [newChallenge]

/-! ### Machine/Dictionary.lean -/

@[simp] theorem exactly_keeps {i : Bool} {c : Core} {s : State} (data : List Byte) (n : Nat) {k : Nat → Attempt}
    (h : Keeps i c (core s)) (hk : ∀ v, Keeps i c (core (k v).1)) : Keeps i c (core (exactly s data n k).1) := by
  unfold exactly; split <;> simp [h, hk]
@[simp] theorem ranged_keeps {i : Bool} {c : Core} {s : State} (data : List Byte) (n : Nat) (ok : Nat → Bool) {f : Nat → State}
    (h : Keeps i c (core s)) (hf : ∀ v, Keeps i c (core (f v))) : Keeps i c (core (ranged s data n ok f).1) :=
  exactly_keeps data n h fun v => by split <;> simp [h, hf]
@[simp] theorem sized_keeps {i : Bool} {c : Core} {s : State} (data : List Byte) (lo hi : Nat) {k : Attempt}
    (h : Keeps i c (core s)) (hk : Keeps i c (core k.1)) : Keeps i c (core (sized s data lo hi k).1) := by
  unfold sized; (repeat' split) <;> simp [h, hk]
@[simp] theorem drawEnv_core (s : State) : core (drawEnv s) = core s := by
  unfold drawEnv; (repeat' split) <;> simp
@[simp] theorem writeRecord_core (s : State) (ch : Nat) (data : List Byte) : core (writeRecord s ch data).1 = core s := by
  unfold writeRecord; (repeat' split) <;> simp
@[simp] theorem writeEvents_keeps {i : Bool} {c₀ : Core} {s : State} (sub : Nat) (data : List Byte) (h : Keeps i c₀ (core s)) :
    Keeps i c₀ (core (writeEvents s sub data).1) := by
  unfold writeEvents; (repeat' split) <;> simp [h]
@[simp] theorem writeTrace_keeps {i : Bool} {c₀ : Core} {s : State} (sub : Nat) (data : List Byte) (h : Keeps i c₀ (core s)) :
    Keeps i c₀ (core (writeTrace s sub data).1) := by
  unfold writeTrace; (repeat' split) <;> simp [h]
@[simp] theorem writeSelect_keeps {i : Bool} {c₀ : Core} {s : State} (sub : Nat) (data : List Byte) (h : Keeps i c₀ (core s)) :
    Keeps i c₀ (core (writeSelect s sub data).1) := by
  unfold writeSelect; (repeat' split) <;> simp [h]
@[simp] theorem writeRating_keeps {i : Bool} {c₀ : Core} {s : State} (sub : Nat) (data : List Byte) (h : Keeps i c₀ (core s)) :
    Keeps i c₀ (core (writeRating s sub data).1) := by
  unfold writeRating; (repeat' split) <;> simp [h]
@[simp] theorem writeTwin_keeps {i : Bool} {c : Core} {s : State} (sub : Nat) (data : List Byte) (h : Keeps i c (core s)) :
    Keeps i c (core (writeTwin s sub data).1) := by
  unfold writeTwin
  split
  · exact ranged_keeps data 1 _ h fun v => by simpa using h
  · exact exactly_keeps data 1 h fun v => attempt_keeps h (writeHandover_keeps _ h)
@[simp] theorem writeUpdate_keeps {i : Bool} {c : Core} {s : State} (index sub : Nat) (data : List Byte) (h : Keeps i c (core s)) :
    Keeps i c (core (writeUpdate s index sub data).1) := by
  unfold writeUpdate
  (repeat' split)
  · exact sized_keeps data 9 520 h (attempt_keeps h (writePiece_keeps _ _ _ h))
  · exact sized_keeps data 16 16 h (attempt_keeps h (writeBegin_keeps _ _ h))
  · exact sized_keeps data 12 12 h (attempt_keeps h (writeAction_keeps _ _ h))
/-- Of two attempts, whichever is made. -/
theorem attempt_ite_keeps {i : Bool} {c : Core} {p : Prop} [Decidable p] {a a' : Attempt} (h : Keeps i c (core a.1))
    (h' : Keeps i c (core a'.1)) : Keeps i c (core (if p then a else a').1) := by
  split <;> assumption
@[simp] theorem writeControl_keeps {i : Bool} {c : Core} {s : State} (ch index sub : Nat) (data : List Byte)
    (h : Keeps i c (core s)) : Keeps i c (core (writeControl s ch index sub data).1) := by
  unfold writeControl
  refine attempt_ite_keeps (exactly_keeps data 1 h fun v => ?_) <| attempt_ite_keeps (writeResponse_keeps ch data h) <|
    exactly_keeps data 1 h fun v => attempt_keeps h (writeDeauthorise_keeps (u8 v) h)
  exact attempt_ite_keeps (by simpa using h) (attempt_keeps h (writeGroupAbort_keeps v h))
/-- A plain write goes to the entry's own rule. -/
@[simp] theorem entryWrite_keeps {i : Bool} {c : Core} {s : State} (ch index sub : Nat) (data : List Byte)
    (h : Keeps i c (core s)) : Keeps i c (core (entryWrite s ch index sub data).1) := by
  have byte {w : U8 → Write} (hw : ∀ v, WKeeps i c (w v)) :
      Keeps i c (core (exactly s data 1 fun v => attempt s (w (u8 v))).1) :=
    exactly_keeps data 1 h fun v => attempt_keeps h (hw (u8 v))
  have word {w : U32 → Write} (hw : ∀ v, WKeeps i c (w v)) :
      Keeps i c (core (exactly s data 4 fun v => attempt s (w (u32 v))).1) :=
    exactly_keeps data 4 h fun v => attempt_keeps h (hw (u32 v))
  unfold entryWrite
  dsimp only
  refine attempt_ite_keeps (writeEvents_keeps sub data h) <| attempt_ite_keeps (byte fun v => writeClose_keeps _ v h) <|
    attempt_ite_keeps (writeTwin_keeps sub data h) <|
    attempt_ite_keeps (exactly_keeps data 1 h fun v => attempt_keeps h (writeMode_keeps _ v (by simpa using h))) <|
    attempt_ite_keeps (writeControl_keeps ch index sub data h) <| attempt_ite_keeps (byte fun v => writeReadmit_keeps v h) <|
    attempt_ite_keeps (word fun v => writePairReset_keeps v h) <| attempt_ite_keeps (word fun v => writeOutputReset_keeps v h) <|
    attempt_ite_keeps (byte fun v => writeGroupReset_keeps _ v h) <| attempt_ite_keeps (byte fun v => writeForce_keeps _ v h) <|
    attempt_ite_keeps (byte fun v => writeSweep_keeps v h) <| attempt_ite_keeps (word fun v => writeClear_keeps ch v h) <|
    attempt_ite_keeps (writeSelect_keeps sub data h) <| attempt_ite_keeps (ranged_keeps data 1 _ h fun v => by simpa using h) <|
    attempt_ite_keeps (writeUpdate_keeps index sub data h) <|
    attempt_ite_keeps (attempt_keeps h (writeOwnerKey_keeps ch data h)) <| attempt_ite_keeps (writeRating_keeps sub data h) <|
    attempt_ite_keeps (byte fun v => writeCountReset_keeps ch v h) <| attempt_ite_keeps (byte fun v => writeCapture_keeps v h) <|
    attempt_ite_keeps (writeTrace_keeps sub data h) <| attempt_ite_keeps (attempt_keeps h (writeKey_keeps ch _ data h)) <|
    attempt_ite_keeps ?record (word fun v => writeReadSeq_keeps v h)
  case record => simpa using h
@[simp] theorem writeEntry_keeps {i : Bool} {c₀ : Core} {s : State} (ch index sub : Nat) (data : List Byte)
    (h : Keeps i c₀ (core s)) :
    Keeps i c₀ (core (writeEntry s ch index sub data).1) := by
  unfold writeEntry; (repeat' split) <;> simp [h]
@[simp] theorem hearFrame_core (s : State) (b : HostBus) : core (hearFrame s b) = core s := by
  unfold hearFrame; (repeat' split) <;> simp
@[simp] theorem frameIn_core (s : State) (b : HostBus) (ch : Nat) : core (frameIn s b ch) = core s := by
  unfold frameIn; (repeat' split) <;> simp
@[simp] theorem refuse_core (s : State) (q : HostReq) (code : U16) : core (refuse s q code) = core s := by
  unfold refuse; (repeat' split) <;> simp
@[simp] theorem noteTransfer_core (s : State) (q : HostReq) : core (noteTransfer s q) = core s := by
  unfold noteTransfer; (repeat' split) <;> simp
@[simp] theorem setTransfer_core (s : State) (ch : Nat) (x : Option Transfer) : core (setTransfer s ch x) = core s := by
  unfold setTransfer; (repeat' split) <;> simp
@[simp] theorem request_keeps {i : Bool} {c : Core} {s : State} (q : HostReq) {f : State → State} (h : Keeps i c (core s))
    (hf : Keeps i c (core (f (noteTransfer s q)))) : Keeps i c (core (request s q f)) := by
  unfold request
  simp [h, hf]
@[simp] theorem answerRead_core (s : State) (q : HostReq) (data : List Byte) : core (answerRead s q data) = core s := by
  unfold answerRead; (repeat' split) <;> simp
@[simp] theorem answerWrite_core (q : HostReq) (size : Nat) (a : Attempt) : core (answerWrite q size a) = core a.1 := by
  unfold answerWrite; split <;> simp
@[simp] theorem grantFrom_core (s : State) (b : HostBus) (ch : Nat) (tid : U8) (index sub size : Nat) (data : List Byte)
    (next : Nat) : core (grantFrom s b ch tid index sub size data next) = core s := by
  unfold grantFrom; (repeat' split) <;> simp
@[simp] theorem abortTransferOf_core (s : State) (q : HostReq) (code : U16) : core (abortTransferOf s q code) = core s := by
  unfold abortTransferOf; (repeat' split) <;> simp
@[simp] theorem finishWrite_keeps {i : Bool} {c : Core} {s : State} (q : HostReq) (data : List Byte) (h : Keeps i c (core s)) :
    Keeps i c (core (finishWrite s q data)) := by
  unfold finishWrite
  simp [h]
@[simp] theorem strayFrame_core (s : State) (b : HostBus) (ch : Fin 8) (tid : U8) : core (strayFrame s b ch tid) = core s := by
  unfold strayFrame; (repeat' split) <;> simp
@[simp] theorem takeSegment_keeps {i : Bool} {c₀ : Core} {s : State} (q : HostReq) (size : Nat) (got : List Byte)
    (next start blk seg : Nat) (last : Bool) (data : List Byte) (h : Keeps i c₀ (core s)) :
    Keeps i c₀ (core (takeSegment s q size got next start blk seg last data)) := by
  unfold takeSegment; (repeat' split) <;> simp [h]
@[simp] theorem sendSegment_core (b : HostBus) (ch : Nat) (tid : U8) (data : List Byte) (s : State) (k : Nat) :
    core (sendSegment b ch tid data s k) = core s := by
  unfold sendSegment; (repeat' split) <;> simp
@[simp] theorem sendBlock_core (s : State) (ch : Nat) (b : HostBus) (tid : U8) (index sub : Nat) (data : List Byte)
    (next blk resends : Nat) : core (sendBlock s ch b tid index sub data next blk resends) = core s := by
  unfold sendBlock; (repeat' split) <;> simp

end Sys2Proof.Machine
end

section
/-!
PROOFS. The two invariants of every step (R344, R355, R356, R373; R424, R425, R156): one law for each command, by the laws of the
operations it applies, then both obligations from the dispatch.
-/

namespace Sys2Proof.Machine

/-- A command keeps the invariants when its effect does: the Belfry's time and the push of a changed device state leave the core alone. -/
theorem okeeps_at {i : Bool} {s : State} {t : Time} {f : State → State} (h : Keeps i (core s) (core (f (s.atTime t)))) :
    OKeeps i s (at_ t s f) := by
  intro s' hs'
  obtain rfl := Host.Outcome.next.inj hs'
  simpa using h
theorem okeeps_writeAt {i : Bool} {s : State} {t : Time} {ch : Nat} {f : State → Write}
    (h : WKeeps i (core s) (f (s.atTime t))) : OKeeps i s (writeAt t s ch f) :=
  okeeps_at (hostWrite_keeps ch (by simp) h)
theorem okeeps_attemptAt {i : Bool} {s : State} {t : Time} {ch : Nat} {f : State → Attempt}
    (h : Keeps i (core s) (core (f (s.atTime t)).1)) : OKeeps i s (attemptAt t s ch f) :=
  okeeps_at (by split <;> simp [h])
theorem okeeps_afterVote {i : Bool} {s : State} {t : Time} {f : State → State} (h : Keeps i (core s) (core (f (s.atTime t)))) :
    OKeeps i s (afterVote t s f) :=
  okeeps_at (by split <;> simp [h])
theorem okeeps_atVote {i : Bool} {s : State} {t : Time} {f : State → State} (h : Keeps i (core s) (core (f (s.atTime t)))) :
    OKeeps i s (atVote t s f) :=
  okeeps_afterVote (by simpa using h)
theorem okeeps_onFrame {i : Bool} {s : State} {t : Time} {p : HostPlace} {ch : Nat} {f : State → State}
    (h : Keeps i (core s) (core (f (frameIn (s.atTime t) p.bus ch)))) : OKeeps i s (onFrame t s p ch f) :=
  okeeps_at (by (repeat' split) <;> simp [h])
theorem okeeps_openingAt {i : Bool} {p : PortTime} {op : Nat} {f : BusFrame} {o : OpenFrame} {s : State} {act : State → State}
    (h : ∀ s1, core s1 = core s → Keeps i (core s) (core (act s1))) : OKeeps i s (openingAt p op f o s act) := by
  refine okeeps_at ?_
  have heard := hearOpening_core (s.atTime p.t) p.chan op f o
  split <;> simp_all
/-- The kill lines do not run. -/
def Core.KillOff (c : Core) : Prop := c.killR.on = false
@[simp] theorem core_killOff_mk {m : Mode} {k : Rails 1} {r : Bool} {l : Table (List Byte)} :
    Core.KillOff ⟨m, k, r, l⟩ ↔ k.on = false := Iff.rfl
@[simp] theorem core_killOff_ite {p : Prop} [Decidable p] {c d : Core} :
    Core.KillOff (if p then c else d) ↔ (p → c.KillOff) ∧ (¬p → d.KillOff) := by
  split <;> simp [*]
theorem enterSafeState_killOff (s : State) (src : U8) : (core (enterSafeState s src)).KillOff := by
  have stopped := stopKillLines_kill s src
  have halted : core { stopKillLines s src with cyc := { (stopKillLines s src).cyc with running := false } } =
      ⟨(core (stopKillLines s src)).mode, (core (stopKillLines s src)).killR, false, (core (stopKillLines s src)).images⟩ := rfl
  unfold enterSafeState
  split
  case h_4 =>
    dsimp only
    split <;> simpa only [twinNotice_core, recordGiveUp_core, countUp_core, setMode_core, lapseRequest_core, abortAttempts_core,
      cancelArmed_core, flushCommands_core, halted, core_killOff_mk] using stopped
  all_goals exact stopped
/-- No raise starts the kill lines: nor does the effect of its class. -/
theorem excludeLane_killOff {s : State} (ln : Lane) (src : Nat) (h : (core s).KillOff) : (core (excludeLane s ln src)).KillOff := by
  unfold excludeLane
  (repeat' split) <;> simp [h, enterSafeState_killOff]
theorem classEffect_killOff {s : State} (n cls : Nat) (p1 : U32) (h : (core s).KillOff) :
    (core (classEffect s n cls p1)).KillOff := by
  unfold classEffect
  (repeat' split) <;> simp [h, enterSafeState_killOff, excludeLane_killOff]
theorem raiseWith_killOff {s : State} (n : Nat) (forced : Bool) (p1 p2 p3 : U32) (h : (core s).KillOff) :
    (core (raiseWith s n forced p1 p2 p3)).KillOff := by
  unfold raiseWith
  dsimp only
  (repeat' split)
  · exact h
  · simpa using h
  · exact classEffect_killOff _ _ _ (by simpa using h)
theorem raise_killOff {s : State} (n : Nat) (p1 p2 p3 : U32) (h : (core s).KillOff) : (core (raise s n p1 p2 p3)).KillOff := by
  unfold raise
  split
  · simpa using h
  · exact raiseWith_killOff _ _ _ _ _ h
theorem raiseHealth_killOff {s : State} (n : Nat) (p1 p2 p3 : U32) (h : (core s).KillOff) :
    (core (raiseHealth s n p1 p2 p3)).KillOff := by
  unfold raiseHealth
  split <;> simp [raise_killOff, h]
theorem wearSlot_killOff {s : State} (slot : Nat) (h : (core s).KillOff) : (core (wearSlot s slot)).KillOff := by
  unfold wearSlot
  dsimp only
  split
  · exact raiseHealth_killOff _ _ _ _ (by simpa using h)
  · simpa using h
theorem wearSlots_killOff (l : List Nat) {s : State} (h : (core s).KillOff) : (core (l.foldl wearSlot s)).KillOff := by
  induction l generalizing s with
  | nil => exact h
  | cons x l ih => exact ih (wearSlot_killOff x h)
theorem bookStore_killOff {s : State} (x : BookRec) (h : (core s).KillOff) : (core (bookStore s x)).KillOff := by
  unfold bookStore
  dsimp only
  rw [pushBook_core]
  exact wearSlots_killOff _ (by simpa using h)
theorem bookRepeat_killOff {s : State} (newest : BookRec) (t : Time) (h : (core s).KillOff) :
    (core (bookRepeat s newest t)).KillOff := by
  unfold bookRepeat
  dsimp only
  split
  · simpa using h
  · exact wearSlots_killOff _ (by simpa using h)
theorem reportLost_killOff {s : State} (h : (core s).KillOff) : (core (reportLost s)).KillOff := by
  unfold reportLost
  split <;> simp [raise_killOff, h]
/-- Nor does writing out the Book. -/
theorem writeFront_killOff {s : State} (differing : Nat) (h : (core s).KillOff) : (core (writeFront differing s)).KillOff := by
  unfold writeFront
  split
  · exact h
  next y rest _ =>
    dsimp only
    split
    · exact h
    · refine reportLost_killOff ?_
      cases (s.constable.circ.getLast?).filter (sameEvent (withRaiseSeq s y)) <;>
        simp [raise_killOff, bookStore_killOff, bookRepeat_killOff, h]
theorem drainBook_killOff (n : Nat) {s : State} (h : (core s).KillOff) : (core (drainBook n s)).KillOff := by
  induction n generalizing s with
  | zero => exact h
  | succ n ih =>
    unfold drainBook
    split
    · exact h
    · exact ih (writeFront_killOff 0 h)

/-! ### Machine/Constable.lean -/

@[simp] theorem execIllegalDualRailCode_keeps {i : Bool} (t : Time) (ln : Lane) (x : RailPair) (s : State) :
    OKeeps i s (execIllegalDualRailCode t ln x s) := by
  refine okeeps_at ?_
  (repeat' split) <;> simp
@[simp] theorem execHandshakeStall_keeps {i : Bool} (t : Time) (ln : Lane) (x : StageStall) (s : State) :
    OKeeps i s (execHandshakeStall t ln x s) := by
  refine okeeps_at ?_
  (repeat' split) <;> simp
@[simp] theorem execRetirementMismatch_keeps {i : Bool} (t : Time) (mill : Lane) (x : RetiredPair) (s : State) :
    OKeeps i s (execRetirementMismatch t mill x s) := by
  refine okeeps_at ?_
  (repeat' split) <;> simp
@[simp] theorem execLoomSliceMismatch_keeps {i : Bool} (t : Time) (x : SlicePair) (s : State) :
    OKeeps i s (execLoomSliceMismatch t x s) := by
  refine okeeps_at ?_
  (repeat' split) <;> simp
@[simp] theorem execFaultAcknowledge_keeps {i : Bool} (t : Time) (src : Fin 128) (who : Acknowledger) (s : State) :
    OKeeps i s (execFaultAcknowledge t src who s) := by
  refine okeeps_at ?_
  (repeat' split) <;> simp
@[simp] theorem execReactionWindowExpiry_keeps {i : Bool} (t : Time) (src : Fin 128) (s : State) :
    OKeeps i s (execReactionWindowExpiry t src s) := by
  refine okeeps_at ?_
  (repeat' split) <;> simp
@[simp] theorem execConstableRegisterMismatch_keeps {i : Bool} (t : Time) (reg x y : U32) (s : State) :
    OKeeps i s (execConstableRegisterMismatch t reg x y s) := by
  refine okeeps_at (raise_keeps 12 reg x y ?_)
  rw [core_update rfl rfl rfl rfl]
  exact stopKillLines_keeps 12 (by simp)
@[simp] theorem execConstableSealSample_keeps {i : Bool} (t : Time) (switches : BitVec 24) (s : State) :
    OKeeps i s (execConstableSealSample t switches s) := by
  refine okeeps_at ?_
  (repeat' split) <;> simp
@[simp] theorem execSealChangedWhileStopped_keeps {i : Bool} (t : Time) (switches : BitVec 24) (s : State) :
    OKeeps i s (execSealChangedWhileStopped t switches s) := by
  refine okeeps_at ?_
  (repeat' split) <;> simp
@[simp] theorem execCheckerProof_keeps {i : Bool} (t : Time) (reported : Bool) (s : State) :
    OKeeps i s (execCheckerProof t reported s) := by
  refine okeeps_at ?_
  (repeat' split) <;> simp
@[simp] theorem execSweepRequest_keeps {i : Bool} (t : Time) (ch : Fin 8) (value : U8) (s : State) :
    OKeeps i s (execSweepRequest t ch value s) := by
  refine okeeps_writeAt ?_
  (repeat' split) <;> simp
@[simp] theorem execProofSweepOverdue_keeps {i : Bool} (t : Time) (s : State) :
    OKeeps i s (execProofSweepOverdue t s) := by
  refine okeeps_at ?_
  dsimp only; (repeat' split) <;> simp
@[simp] theorem execForce_keeps {i : Bool} (t : Time) (ch : Fin 8) (src : Fin 128) (value : U8) (s : State) :
    OKeeps i s (execForce t ch src value s) := by
  refine okeeps_writeAt ?_
  (repeat' split) <;> simp
@[simp] theorem execBookWrite_keeps {i : Bool} (t : Time) (differing : Nat) (s : State) :
    OKeeps i s (execBookWrite t differing s) := by
  refine okeeps_at ?_
  (repeat' split) <;> simp
@[simp] theorem execBookClear_keeps {i : Bool} (t : Time) (ch : Fin 8) (value : U32) (s : State) :
    OKeeps i s (execBookClear t ch value s) := by
  refine okeeps_writeAt ?_
  (repeat' split) <;> simp

/-! ### Machine/Field.lean -/

@[simp] theorem execDownFrameSend_keeps {i : Bool} (t : Time) (ln : Lane) (s : State) :
    OKeeps i s (execDownFrameSend t ln s) := by
  refine okeeps_at ?_
  (repeat' split) <;> simp
@[simp] theorem execGatehouseEvaluation_keeps {i : Bool} (t : Time) (ln : Lane) (f : Option DownFrame) (s : State) :
    OKeeps i s (execGatehouseEvaluation t ln f s) := by
  refine okeeps_at ?_
  (repeat' split) <;> simp
@[simp] theorem execFieldConfigApply_keeps {i : Bool} (t : Time) (s : State) :
    OKeeps i s (execFieldConfigApply t s) := by
  refine okeeps_at ?_
  (repeat' split) <;> simp
@[simp] theorem execFieldConfigTimeout_keeps {i : Bool} (t : Time) (s : State) :
    OKeeps i s (execFieldConfigTimeout t s) := by
  refine okeeps_at ?_
  (repeat' split) <;> simp
@[simp] theorem execFieldSideReset_keeps {i : Bool} (t : Time) (s : State) :
    OKeeps i s (execFieldSideReset t s) := by
  refine okeeps_at ?_
  (repeat' split) <;> simp
@[simp] theorem execUpFrameSend_keeps {i : Bool} (t : Time) (x : FieldSample) (s : State) :
    OKeeps i s (execUpFrameSend t x s) := by
  refine okeeps_at ?_
  (repeat' split) <;> simp
@[simp] theorem execUpFrameReceive_keeps {i : Bool} (t : Time) (ln : Lane) (f : UpFrame) (s : State) :
    OKeeps i s (execUpFrameReceive t ln f s) := by
  refine okeeps_at ?_
  dsimp only; (repeat' split) <;> simp
@[simp] theorem execBarrierChannelStale_keeps {i : Bool} (t : Time) (ln : Lane) (dir : Dir) (s : State) :
    OKeeps i s (execBarrierChannelStale t ln dir s) := by
  refine okeeps_at ?_
  dsimp only; (repeat' split) <;> simp
@[simp] theorem execKillLineDead_keeps {i : Bool} (t : Time) (line : Fin 2) (s : State) :
    OKeeps i s (execKillLineDead t line s) := by
  refine okeeps_at ?_
  (repeat' split) <;> simp
@[simp] theorem execPairDiscrepancyLatch_keeps {i : Bool} (t : Time) (k : Fin 24) (s : State) :
    OKeeps i s (execPairDiscrepancyLatch t k s) := by
  refine okeeps_at ?_
  (repeat' split) <;> simp
@[simp] theorem execPairResetRequest_keeps {i : Bool} (t : Time) (ch : Fin 8) (mask : U32) (s : State) :
    OKeeps i s (execPairResetRequest t ch mask s) := by
  refine okeeps_writeAt ?_
  (repeat' split) <;> simp
@[simp] theorem execPairReset_keeps {i : Bool} (t : Time) (k : Fin 24) (s : State) :
    OKeeps i s (execPairReset t k s) := by
  refine okeeps_at ?_
  (repeat' split) <;> simp
@[simp] theorem execOutputTotalTrip_keeps {i : Bool} (t : Time) (s : State) :
    OKeeps i s (execOutputTotalTrip t s) := by
  refine okeeps_at ?_
  (repeat' split) <;> simp
@[simp] theorem execOutputTestPulse_keeps {i : Bool} (t : Time) (d : Fin 24) (high1 high2 : Bool) (s : State) :
    OKeeps i s (execOutputTestPulse t d high1 high2 s) := by
  refine okeeps_at ?_
  (repeat' split) <;> simp
@[simp] theorem execOutputReadbackFault_keeps {i : Bool} (t : Time) (d : Fin 24) (high : Bool) (s : State) :
    OKeeps i s (execOutputReadbackFault t d high s) := by
  refine okeeps_at ?_
  (repeat' split) <;> simp
@[simp] theorem execOutputCurrentLimitFault_keeps {i : Bool} (t : Time) (d : Fin 24) (s : State) :
    OKeeps i s (execOutputCurrentLimitFault t d s) := by
  refine okeeps_at ?_
  (repeat' split) <;> simp
@[simp] theorem execOutputFeedbackFault_keeps {i : Bool} (t : Time) (d : Fin 24) (level : Bool) (s : State) :
    OKeeps i s (execOutputFeedbackFault t d level s) := by
  refine okeeps_at ?_
  (repeat' split) <;> simp
@[simp] theorem execOutputResetRequest_keeps {i : Bool} (t : Time) (ch : Fin 8) (mask : U32) (s : State) :
    OKeeps i s (execOutputResetRequest t ch mask s) := by
  refine okeeps_writeAt ?_
  (repeat' split) <;> simp
@[simp] theorem execOutputReset_keeps {i : Bool} (t : Time) (d : Fin 24) (s : State) :
    OKeeps i s (execOutputReset t d s) := by
  refine okeeps_at ?_
  (repeat' split) <;> simp
@[simp] theorem execAiConverterMismatch_keeps {j : Bool} (t : Time) (i : Fin 4) (s : State) :
    OKeeps j s (execAiConverterMismatch t i s) := by
  refine okeeps_at ?_
  (repeat' split) <;> simp
@[simp] theorem execFieldLow_keeps {i : Bool} (t : Time) (vf : Nat) (s : State) :
    OKeeps i s (execFieldLow t vf s) := by
  refine okeeps_at ?_
  (repeat' split) <;> simp
@[simp] theorem execFieldLost_keeps {i : Bool} (t : Time) (vf : Nat) (s : State) :
    OKeeps i s (execFieldLost t vf s) := by
  refine okeeps_at ?_
  dsimp only; (repeat' split) <;> simp
@[simp] theorem execFieldReturn_keeps {i : Bool} (t : Time) (vf : Nat) (s : State) :
    OKeeps i s (execFieldReturn t vf s) := by
  refine okeeps_at ?_
  (repeat' split) <;> simp
@[simp] theorem execResetKeyStuck_keeps {i : Bool} (t : Time) (levels : BitVec 2) (s : State) :
    OKeeps i s (execResetKeyStuck t levels s) := by
  refine okeeps_at ?_
  (repeat' split) <;> simp
@[simp] theorem execResetKeyStuckClear_keeps {i : Bool} (t : Time) (s : State) :
    OKeeps i s (execResetKeyStuckClear t s) := by
  refine okeeps_at ?_
  (repeat' split) <;> simp

/-! ### Machine/Points.lean -/

@[simp] theorem execPullInCheck_keeps {i : Bool} (t : Time) (g : Fin 4) (s : State) :
    OKeeps i s (execPullInCheck t g s) := by
  refine okeeps_afterVote ?_
  (repeat' split) <;> simp
@[simp] theorem execTorqueOffConfirmation_keeps {i : Bool} (t : Time) (g : Fin 4) (s : State) :
    OKeeps i s (execTorqueOffConfirmation t g s) := by
  refine okeeps_afterVote ?_
  (repeat' split) <;> simp
@[simp] theorem execThrowSupervisionExpiry_keeps {i : Bool} (t : Time) (e : Nat) (s : State) :
    OKeeps i s (execThrowSupervisionExpiry t e s) := by
  refine okeeps_atVote (onElement_keeps e (by simp) fun x => ?_)
  split
  · simp
  · exact foldl_keeps _ (fun st p hst => by simp [hst]) _ (by simp)
@[simp] theorem execThrowComplete_keeps {i : Bool} (t : Time) (e : Nat) (s : State) : OKeeps i s (execThrowComplete t e s) := by
  refine okeeps_afterVote (onElement_keeps e (by simp) fun x => ?_)
  dsimp only
  (repeat' split) <;> simp
@[simp] theorem execObstructionCurrentExpiry_keeps {i : Bool} (t : Time) (g : Fin 4) (s : State) :
    OKeeps i s (execObstructionCurrentExpiry t g s) := by
  refine okeeps_afterVote ?_
  (repeat' split) <;> simp
@[simp] theorem execSafeStopWindowExpiry_keeps {i : Bool} (t : Time) (g : Fin 4) (s : State) :
    OKeeps i s (execSafeStopWindowExpiry t g s) := by
  refine okeeps_afterVote ?_
  (repeat' split) <;> simp
@[simp] theorem execImmediateTorqueOff_keeps {i : Bool} (t : Time) (s : State) : OKeeps i s (execImmediateTorqueOff t s) := by
  refine okeeps_at ?_
  split
  · exact foldl_keeps _ (fun st p hst => by simp [hst]) _ (by simp)
  · simp
@[simp] theorem execRemoteSafeStopTimeout_keeps {i : Bool} (t : Time) (e : Nat) (s : State) :
    OKeeps i s (execRemoteSafeStopTimeout t e s) := by
  refine okeeps_at ?_
  (repeat' split) <;> simp
@[simp] theorem execSectionResetTimeout_keeps {i : Bool} (t : Time) (e : Nat) (s : State) :
    OKeeps i s (execSectionResetTimeout t e s) := by
  refine okeeps_afterVote ?_
  (repeat' split) <;> simp
@[simp] theorem execDriveGroupReset_keeps {i : Bool} (t : Time) (ch : Fin 8) (g : Fin 4) (value : U8) (s : State) :
    OKeeps i s (execDriveGroupReset t ch g value s) := by
  refine okeeps_writeAt ?_
  (repeat' split) <;> simp
@[simp] theorem execApproachTimerExpiry_keeps {i : Bool} (t : Time) (r : Nat) (s : State) :
    OKeeps i s (execApproachTimerExpiry t r s) := by
  refine okeeps_atVote ?_
  (repeat' split) <;> simp
@[simp] theorem execOverlapTimerExpiry_keeps {i : Bool} (t : Time) (r : Nat) (s : State) :
    OKeeps i s (execOverlapTimerExpiry t r s) := by
  refine okeeps_atVote ?_
  (repeat' split) <;> simp
@[simp] theorem execEmergencyTimerExpiry_keeps {i : Bool} (t : Time) (r : Nat) (s : State) :
    OKeeps i s (execEmergencyTimerExpiry t r s) := by
  refine okeeps_atVote (onRoute_keeps r (by simp) fun k x => ?_)
  dsimp only
  split
  · refine raise_keeps _ _ _ _ ?_
    split <;> simp
  · simp
@[simp] theorem execEmergencyArmLapse_keeps {i : Bool} (t : Time) (r : Nat) (s : State) :
    OKeeps i s (execEmergencyArmLapse t r s) := by
  refine okeeps_afterVote ?_
  (repeat' split) <;> simp
@[simp] theorem execCrossZoneTimeout_keeps {i : Bool} (t : Time) (r : Nat)
    (s : State) : OKeeps i s (execCrossZoneTimeout t r s) := by
  refine okeeps_atVote (onRoute_keeps r (by simp) fun k x => ?_)
  dsimp only
  split <;> simp
@[simp] theorem execReleaseStall_keeps {i : Bool} (t : Time) (r : Nat) (s : State) :
    OKeeps i s (execReleaseStall t r s) := by
  refine okeeps_at ?_
  (repeat' split) <;> simp
@[simp] theorem execProvingTimeout_keeps {i : Bool} (t : Time) (r : Nat) (e : Nat) (s : State) :
    OKeeps i s (execProvingTimeout t r e s) := by
  refine okeeps_atVote ?_
  (repeat' split) <;> simp

/-! ### Machine/Host.lean -/

@[simp] theorem execHostBusStateChange_keeps {i : Bool} (t : Time) (bus : HostBus) (state : Fin 5) (errors : Nat) (s : State) :
    OKeeps i s (execHostBusStateChange t bus state errors s) := by
  refine okeeps_at ?_
  (repeat' split) <;> simp
@[simp] theorem execChallenge_keeps {i : Bool} (t : Time) (ch : Fin 8) (s : State) :
    OKeeps i s (execChallenge t ch s) := by
  refine okeeps_at ?_
  (repeat' split) <;> simp
@[simp] theorem execResponse_keeps {i : Bool} (t : Time) (ch : Fin 8) (data : List Byte) (s : State) :
    OKeeps i s (execResponse t ch data s) := by
  refine okeeps_attemptAt ?_
  (repeat' split) <;> simp
@[simp] theorem execDeauthorise_keeps {i : Bool} (t : Time) (ch : Fin 8) (mask : U8) (s : State) :
    OKeeps i s (execDeauthorise t ch mask s) := by
  refine okeeps_writeAt ?_
  (repeat' split) <;> simp
@[simp] theorem execAuthorisationTimeout_keeps {i : Bool} (t : Time) (ch : Fin 8) (s : State) :
    OKeeps i s (execAuthorisationTimeout t ch s) := by
  refine okeeps_at ?_
  (repeat' split) <;> simp
@[simp] theorem execAuthenticationLockoutEnd_keeps {i : Bool} (t : Time) (s : State) :
    OKeeps i s (execAuthenticationLockoutEnd t s) := by
  refine okeeps_at ?_
  (repeat' split) <;> simp
@[simp] theorem execKey_keeps {i : Bool} (t : Time) (ch : Fin 8) (slot : Fin 4) (data : List Byte) (s : State) :
    OKeeps i s (execKey t ch slot data s) := by
  refine okeeps_writeAt ?_
  (repeat' split) <;> simp
@[simp] theorem execGroupAbort_keeps {i : Bool} (t : Time) (ch : Fin 8) (g : U8) (s : State) :
    OKeeps i s (execGroupAbort t ch g s) := by
  refine okeeps_writeAt ?_
  (repeat' split) <;> simp
@[simp] theorem execGroupOwnerTimeout_keeps {i : Bool} (t : Time) (g : Fin 64) (s : State) :
    OKeeps i s (execGroupOwnerTimeout t g s) := by
  refine okeeps_at ?_
  (repeat' split) <;> simp

/-! ### Machine/Change.lean -/

@[simp] theorem execChangePreparationComplete_keeps {i : Bool} (t : Time) (differing : List Lane) (s : State) :
    OKeeps i s (execChangePreparationComplete t differing s) := by
  refine okeeps_at ?_
  (repeat' split) <;> simp
@[simp] theorem execChangePreparationTimeout_keeps {i : Bool} (t : Time) (s : State) :
    OKeeps i s (execChangePreparationTimeout t s) := by
  refine okeeps_at ?_
  (repeat' split) <;> simp
@[simp] theorem execGroupCommit_keeps {i : Bool} (t : Time) (ch : Fin 8) (g : U8) (s : State) :
    OKeeps i s (execGroupCommit t ch g s) := by
  refine okeeps_attemptAt ?_
  (repeat' split) <;> simp
@[simp] theorem execChangePrepare_keeps {i : Bool} (t : Time) (ch : Fin 8) (s : State) :
    OKeeps i s (execChangePrepare t ch s) := by
  refine okeeps_attemptAt ?_
  (repeat' split) <;> simp
@[simp] theorem execChangeArm_keeps {i : Bool} (t : Time) (ch : Fin 8) (s : State) :
    OKeeps i s (execChangeArm t ch s) := by
  refine okeeps_attemptAt ?_
  (repeat' split) <;> simp
@[simp] theorem execChangeRollback_keeps {i : Bool} (t : Time) (ch : Fin 8) (s : State) :
    OKeeps i s (execChangeRollback t ch s) := by
  refine okeeps_attemptAt ?_
  (repeat' split) <;> simp
@[simp] theorem execChangeCommit_keeps {i : Bool} (t : Time) (ch : Fin 8) (s : State) :
    OKeeps i s (execChangeCommit t ch s) := by
  refine okeeps_attemptAt ?_
  (repeat' split) <;> simp
@[simp] theorem execChangeCancel_keeps {i : Bool} (t : Time) (ch : Fin 8) (s : State) :
    OKeeps i s (execChangeCancel t ch s) := by
  refine okeeps_attemptAt ?_
  (repeat' split) <;> simp
@[simp] theorem execForceRequest_keeps {i : Bool} (t : Time) (ch : Fin 8) (data : List Byte) (s : State) :
    OKeeps i s (execForceRequest t ch data s) := by
  refine okeeps_writeAt ?_
  (repeat' split) <;> simp
@[simp] theorem execForceCommit_keeps {i : Bool} (t : Time) (ch : Fin 8) (s : State) :
    OKeeps i s (execForceCommit t ch s) := by
  refine okeeps_attemptAt ?_
  (repeat' split) <;> simp
@[simp] theorem execInstalledRecordWritten_keeps (t : Time) (s : State) :
    OKeeps false s (execInstalledRecordWritten t s) := by
  refine okeeps_at ?_
  dsimp only; (repeat' split) <;> simp
@[simp] theorem execEventPush_keeps {i : Bool} (t : Time) (s : State) :
    OKeeps i s (execEventPush t s) := by
  refine okeeps_at ?_
  (repeat' split) <;> simp
@[simp] theorem execStewardRestart_keeps {i : Bool} (t : Time) (s : State) :
    OKeeps i s (execStewardRestart t s) := by
  refine okeeps_at ?_
  (repeat' split) <;> simp

/-! ### Machine/Bus.lean -/

@[simp] theorem execListenEnd_keeps {i : Bool} (p : PortTime) (readA readB : Option Nat) (s : State) :
    OKeeps i s (execListenEnd p readA readB s) := by
  refine okeeps_at ?_
  (repeat' split) <;> simp
@[simp] theorem execColdstartRetry_keeps {i : Bool} (p : PortTime) (readA readB : Option Nat) (s : State) :
    OKeeps i s (execColdstartRetry p readA readB s) := by
  refine okeeps_at ?_
  (repeat' split) <;> simp
@[simp] theorem execColdstartFrame_keeps {i : Bool} (t : Time) (f : BusFrame)
    (s : State) : OKeeps i s (execColdstartFrame t f s) := by
  have heard := hear_core (s.atTime t) f true
  refine okeeps_at ?_
  (repeat' split) <;> simp_all
@[simp] theorem execSyncFrame_keeps {i : Bool} (p : PortTime) (fa fb : Option BusFrame) (s : State) :
    OKeeps i s (execSyncFrame p fa fb s) := by
  have heard (l : List BusFrame) (a : State × List BusFrame) (ha : Keeps i (core s) (core a.1)) :
      Keeps i (core s) (core (l.foldl (fun (a : State × List BusFrame) f =>
        let r := hearSync a.1 f
        (r.1, a.2 ++ r.2)) a).1) := by
    induction l generalizing a with
    | nil => exact ha
    | cons f l ih => exact ih _ (hearSync_keeps f ha)
  refine okeeps_at ?_
  dsimp only
  split
  · simp
  · exact takeSync_keeps _ _ (heard _ _ (by simp))
@[simp] theorem execDelayRequest_keeps {i : Bool} (t : Time) (f : BusFrame) (tpass : Time) (s : State) :
    OKeeps i s (execDelayRequest t f tpass s) := by
  have heard := hear_core (s.atTime t) f false
  refine okeeps_at ?_
  (repeat' split) <;> simp_all
@[simp] theorem execDelayResponse_keeps {i : Bool} (t : Time) (chan : Chan) (f : BusFrame) (s : State) :
    OKeeps i s (execDelayResponse t chan f s) := by
  have heard := hear_core (s.atTime t) f true
  refine okeeps_at ?_
  (repeat' split) <;> simp_all
@[simp] theorem execDelayRequestRetry_keeps {i : Bool} (t : Time) (chan : Chan) (s : State) :
    OKeeps i s (execDelayRequestRetry t chan s) := by
  refine okeeps_at ?_
  (repeat' split) <;> simp
@[simp] theorem execNoSyncTimeout_keeps {i : Bool} (p : PortTime) (s : State) :
    OKeeps i s (execNoSyncTimeout p s) := by
  refine okeeps_at ?_
  (repeat' split) <;> simp
@[simp] theorem execSyncTakeover_keeps {i : Bool} (p : PortTime) (s : State) :
    OKeeps i s (execSyncTakeover p s) := by
  refine okeeps_at ?_
  (repeat' split) <;> simp
@[simp] theorem execPassiveRejoin_keeps {i : Bool} (p : PortTime) (s : State) :
    OKeeps i s (execPassiveRejoin p s) := by
  refine okeeps_at ?_
  (repeat' split) <;> simp
@[simp] theorem execGuardianSuppression_keeps {i : Bool} (t : Time) (chan : Chan) (bcyc : Fin 64) (pos : Fin 200) (s : State) :
    OKeeps i s (execGuardianSuppression t chan bcyc pos s) := by
  refine okeeps_at ?_
  (repeat' split) <;> simp
@[simp] theorem execForeignScheduleDetected_keeps {i : Bool} (t : Time) (f : BusFrame) (s : State) :
    OKeeps i s (execForeignScheduleDetected t f s) := by
  refine okeeps_at ?_
  (repeat' split) <;> simp
@[simp] theorem execChannelDown_keeps {i : Bool} (t : Time) (chan : Chan) (s : State) :
    OKeeps i s (execChannelDown t chan s) := by
  refine okeeps_at ?_
  (repeat' split) <;> simp
@[simp] theorem execSyncInPulse_keeps {i : Bool} (t : Time) (s : State) :
    OKeeps i s (execSyncInPulse t s) := by
  refine okeeps_at ?_
  dsimp only; (repeat' split) <;> simp
@[simp] theorem execTransmitPosition_keeps {i : Bool} (t : Time) (chan : Chan) (bcyc : Fin 64) (pos : Fin 200) (x : Sending)
    (s : State) :
    OKeeps i s (execTransmitPosition t chan bcyc pos x s) := by
  refine okeeps_at ?_
  (repeat' split) <;> simp
@[simp] theorem execArbitrationRetry_keeps {i : Bool} (t : Time) (chan : Chan) (bcyc : Fin 64) (pos : Fin 200)
    (readback : Option Nat) (s : State) :
    OKeeps i s (execArbitrationRetry t chan bcyc pos readback s) := by
  refine okeeps_at ?_
  dsimp only; (repeat' split) <;> simp
@[simp] theorem execForwardFrame_keeps {i : Bool} (t : Time) (f : BusFrame) (s : State) : OKeeps i s (execForwardFrame t f s) := by
  have heard := hear_core (s.atTime t) f true
  refine okeeps_at ?_
  dsimp only
  (repeat' split) <;> simp_all
@[simp] theorem execNonVitalFrame_keeps {i : Bool} (t : Time) (f : BusFrame) (s : State) :
    OKeeps i s (execNonVitalFrame t f s) := by
  refine okeeps_at ?_
  (repeat' split) <;> simp
@[simp] theorem execMultiPartnerDownFrame_keeps {i : Bool} (t : Time) (f : BusFrame) (s : State) :
    OKeeps i s (execMultiPartnerDownFrame t f s) := by
  refine okeeps_at ?_
  (repeat' split) <;> simp
@[simp] theorem execTwoActiveDetected_keeps {i : Bool} (t : Time) (bcyc : Fin 64) (pos : Fin 200) (s : State) :
    OKeeps i s (execTwoActiveDetected t bcyc pos s) := by
  refine okeeps_at ?_
  (repeat' split) <;> simp

/-! ### Machine/Health.lean -/

@[simp] theorem execRingMeasurement_keeps {i : Bool} (t : Time) (ln : Lane) (temp : Int) (mv : Nat) (periods : List Nat)
    (s : State) :
    OKeeps i s (execRingMeasurement t ln temp mv periods s) := by
  refine okeeps_at ?_
  dsimp only; (repeat' split) <;> simp_all
@[simp] theorem execHistoryPoint_keeps {i : Bool} (t : Time) (s : State) :
    OKeeps i s (execHistoryPoint t s) := by
  refine okeeps_at ?_
  (repeat' split) <;> simp
@[simp] theorem execCountReset_keeps {i : Bool} (t : Time) (ch : Fin 8) (value : U8) (s : State) :
    OKeeps i s (execCountReset t ch value s) := by
  refine okeeps_writeAt ?_
  (repeat' split) <;> simp
@[simp] theorem execCapture_keeps {i : Bool} (t : Time) (ch : Fin 8) (value : U8) (s : State) :
    OKeeps i s (execCapture t ch value s) := by
  refine okeeps_writeAt ?_
  (repeat' split) <;> simp
@[simp] theorem execCounterSave_keeps {i : Bool} (t : Time) (s : State) :
    OKeeps i s (execCounterSave t s) := by
  refine okeeps_at ?_
  (repeat' split) <;> simp
@[simp] theorem execTraceRecord_keeps {i : Bool} (t : Time) (kind : Fin 16) (ln : Option Lane) (p1 : U32) (p2 : BitVec 24)
    (s : State) :
    OKeeps i s (execTraceRecord t kind ln p1 p2 s) := by
  refine okeeps_at ?_
  (repeat' split) <;> simp

/-! ### Machine/Vote.lean -/

@[simp] theorem execDisagreementExclusion_keeps {i : Bool} (t : Time) (ln : Lane) (s : State) :
    OKeeps i s (execDisagreementExclusion t ln s) := by
  refine okeeps_at ?_
  dsimp only; (repeat' split) <;> simp
@[simp] theorem execGenericSplit_keeps {i : Bool} (t : Time) (s : State) :
    OKeeps i s (execGenericSplit t s) := by
  refine okeeps_at ?_
  (repeat' split) <;> simp
@[simp] theorem execProgramSplit_keeps {i : Bool} (t : Time) (s : State) :
    OKeeps i s (execProgramSplit t s) := by
  refine okeeps_at ?_
  (repeat' split) <;> simp
@[simp] theorem execProgramSplitComparisonEnd_keeps {i : Bool} (t : Time) (ended : Bool) (s : State) :
    OKeeps i s (execProgramSplitComparisonEnd t ended s) := by
  refine okeeps_at ?_
  dsimp only
  split
  · simp
  · split
    · simp
    · generalize hs1 : modSource (s.atTime t) 57 _ = s1
      have noted : core s1 = core s := by rw [← hs1]; simp
      simp [noted]
@[simp] theorem execCycleMissExclusion_keeps {i : Bool} (t : Time) (ln : Lane) (s : State) :
    OKeeps i s (execCycleMissExclusion t ln s) := by
  refine okeeps_at ?_
  (repeat' split) <;> simp
@[simp] theorem execProgramSwitch_keeps {i : Bool} (t : Time) (micros : Nat) (s : State) :
    OKeeps i s (execProgramSwitch t micros s) := by
  refine okeeps_at ?_
  (repeat' split) <;> simp
@[simp] theorem execSnapshotComplete_keeps {i : Bool} (t : Time) (ln : Lane) (x : LaneIntake) (scrub : Scrub) (s : State) :
    OKeeps i s (execSnapshotComplete t ln x scrub s) := by
  refine okeeps_at ?_
  dsimp only; (repeat' split) <;> simp
@[simp] theorem execProposalDelivery_keeps {i : Bool} (t : Time) (ln : Lane) (p : Proposal) (s : State) :
    OKeeps i s (execProposalDelivery t ln p s) := by
  refine okeeps_at ?_
  dsimp only; (repeat' split) <;> simp

/-! ### Machine/Stile.lean -/

@[simp] theorem execPostedWrite_keeps {i : Bool} (t : Time) (ln : Lane) (dir : Dir) (addr : U32) (data : List Byte)
    (tag : U16) (s : State) :
    OKeeps i s (execPostedWrite t ln dir addr data tag s) := by
  refine okeeps_at ?_
  (repeat' split) <;> simp
@[simp] theorem execPostedCreditTimeout_keeps {i : Bool} (t : Time) (ln : Lane) (_addr : U32) (s : State) :
    OKeeps i s (execPostedCreditTimeout t ln _addr s) := by
  refine okeeps_at ?_
  dsimp only; (repeat' split) <;> simp
@[simp] theorem execPostedWriteError_keeps {i : Bool} (t : Time) (m : MsgHead) (dir : Dir) (tag : U16) (reason : Fin 6)
    (s : State) :
    OKeeps i s (execPostedWriteError t m dir tag reason s) := by
  refine okeeps_at ?_
  (repeat' split) <;> simp
@[simp] theorem execTelegramArrived_keeps {i : Bool} (t : Time) (m : MsgHead) (mailbox : MailboxRef) (s : State) :
    OKeeps i s (execTelegramArrived t m mailbox s) := by
  refine okeeps_at ?_
  (repeat' split) <;> simp
@[simp] theorem execSessionEvent_keeps {i : Bool} (t : Time) (m : MsgHead) (slot : Fin 512) (s : State) :
    OKeeps i s (execSessionEvent t m slot s) := by
  refine okeeps_at ?_
  (repeat' split) <;> simp
@[simp] theorem execMirrorSnapshotComplete_keeps {i : Bool} (t : Time) (m : MsgHead) (s : State) :
    OKeeps i s (execMirrorSnapshotComplete t m s) := by
  refine okeeps_at ?_
  (repeat' split) <;> simp
@[simp] theorem execStileRead_keeps {i : Bool} (t : Time) (ln : Lane) (addr : U32) (latency : Option Nat) (s : State) :
    OKeeps i s (execStileRead t ln addr latency s) := by
  refine okeeps_at ?_
  (repeat' split) <;> simp
@[simp] theorem execStileReadTimeout_keeps {i : Bool} (t : Time) (ln : Lane) (s : State) :
    OKeeps i s (execStileReadTimeout t ln s) := by
  refine okeeps_at ?_
  (repeat' split) <;> simp
@[simp] theorem execLateCompletion_keeps {i : Bool} (t : Time) (ln : Lane) (s : State) :
    OKeeps i s (execLateCompletion t ln s) := by
  refine okeeps_at ?_
  (repeat' split) <;> simp
@[simp] theorem execServiceRead_keeps {i : Bool} (t : Time) (ln : Lane) (addr : U32) (ch : Fin 8) (answered : Bool) (s : State) :
    OKeeps i s (execServiceRead t ln addr ch answered s) := by
  refine okeeps_at ?_
  (repeat' split) <;> simp
@[simp] theorem execServiceReadTimeout_keeps {i : Bool} (t : Time) (ln : Lane) (s : State) :
    OKeeps i s (execServiceReadTimeout t ln s) := by
  refine okeeps_at ?_
  (repeat' split) <;> simp
@[simp] theorem execIntakeMarker_keeps {i : Bool} (t : Time) (m : MsgHead) (origin : MarkerOrigin) (closes : U32) (s : State) :
    OKeeps i s (execIntakeMarker t m origin closes s) := by
  refine okeeps_at ?_
  (repeat' split) <;> simp
@[simp] theorem execIntakeMarkerTimeout_keeps {i : Bool} (t : Time) (ln : Lane) (origin : MarkerOrigin) (s : State) :
    OKeeps i s (execIntakeMarkerTimeout t ln origin s) := by
  refine okeeps_at ?_
  dsimp only; (repeat' split) <;> simp
@[simp] theorem execFarSideResetBegins_keeps {i : Bool} (t : Time) (m : MsgHead) (side : Side) (s : State) :
    OKeeps i s (execFarSideResetBegins t m side s) := by
  refine okeeps_at ?_
  (repeat' split) <;> simp
@[simp] theorem execFarSideResetEnds_keeps {i : Bool} (t : Time) (m : MsgHead) (side : Side) (s : State) :
    OKeeps i s (execFarSideResetEnds t m side s) := by
  refine okeeps_at ?_
  (repeat' split) <;> simp
@[simp] theorem execCrossingTransfer_keeps {i : Bool} (t : Time) (c : Fin 16) (x : CrossMove) (s : State) :
    OKeeps i s (execCrossingTransfer t c x s) := by
  refine okeeps_at ?_
  (repeat' split) <;> simp
@[simp] theorem execCrossingAckTimeout_keeps {i : Bool} (t : Time) (c : Fin 16) (s : State) :
    OKeeps i s (execCrossingAckTimeout t c s) := by
  refine okeeps_at ?_
  (repeat' split) <;> simp
@[simp] theorem execCrossingResume_keeps {i : Bool} (t : Time) (c : CrossClock) (s : State) :
    OKeeps i s (execCrossingResume t c s) := by
  refine okeeps_at ?_
  (repeat' split) <;> simp
@[simp] theorem execCrossingReset_keeps {i : Bool} (t : Time) (c : Fin 16) (x : CrossEdge) (s : State) :
    OKeeps i s (execCrossingReset t c x s) := by
  refine okeeps_at ?_
  (repeat' split) <;> simp

/-! ### Machine/Sessions.lean -/

@[simp] theorem execStrangerRecordExpiry_keeps {i : Bool} (t : Time) (node : Nat) (s : State) :
    OKeeps i s (execStrangerRecordExpiry t node s) := by
  refine okeeps_at ?_
  (repeat' split) <;> simp
@[simp] theorem execDiagRequest_keeps {i : Bool} (p : PortTime) (f : BusFrame) (o : OpenFrame) (s : State) :
    OKeeps i s (execDiagRequest p f o s) := by
  refine okeeps_openingAt fun s1 hs1 => ?_
  dsimp only; (repeat' split) <;> simp [hs1]
@[simp] theorem execDiagReply_keeps {i : Bool} (p : PortTime) (f : BusFrame) (o : OpenFrame) (s : State) :
    OKeeps i s (execDiagReply p f o s) := by
  refine okeeps_openingAt fun s1 hs1 => ?_
  (repeat' split) <;> simp [hs1]
@[simp] theorem execSessionOpen_keeps {i : Bool} (p : PortTime) (f : BusFrame) (o : OpenFrame) (s : State) :
    OKeeps i s (execSessionOpen p f o s) := by
  refine okeeps_openingAt fun s1 hs1 => ?_
  dsimp only; (repeat' split) <;> simp [hs1]
@[simp] theorem execSessionOpenSend_keeps {i : Bool} (t : Time) (partner : Nat) (s : State) :
    OKeeps i s (execSessionOpenSend t partner s) := by
  refine okeeps_at ?_
  (repeat' split) <;> simp
@[simp] theorem execSessionAccept_keeps {i : Bool} (p : PortTime) (f : BusFrame) (o : OpenFrame) (s : State) :
    OKeeps i s (execSessionAccept p f o s) := by
  refine okeeps_openingAt fun s1 hs1 => ?_
  dsimp only; (repeat' split) <;> simp [hs1]
@[simp] theorem execSessionRefuse_keeps {i : Bool} (p : PortTime) (f : BusFrame) (o : OpenFrame) (s : State) :
    OKeeps i s (execSessionRefuse p f o s) := by
  refine okeeps_openingAt fun s1 hs1 => ?_
  dsimp only; (repeat' split) <;> simp [hs1]
@[simp] theorem execSessionClose_keeps {i : Bool} (p : PortTime) (f : BusFrame) (o : OpenFrame) (s : State) :
    OKeeps i s (execSessionClose p f o s) := by
  refine okeeps_openingAt fun s1 hs1 => ?_
  dsimp only; (repeat' split) <;> simp [hs1]
@[simp] theorem execSessionCloseRequest_keeps {i : Bool} (t : Time) (ch : Fin 8) (slot : Fin 512) (value : U8) (s : State) :
    OKeeps i s (execSessionCloseRequest t ch slot value s) := by
  refine okeeps_writeAt ?_
  (repeat' split) <;> simp
@[simp] theorem execSessionTimeout_keeps {i : Bool} (t : Time) (slot : Fin 512) (s : State) :
    OKeeps i s (execSessionTimeout t slot s) := by
  refine okeeps_at ?_
  (repeat' split) <;> simp
@[simp] theorem execVitalTelegram_keeps {i : Bool} (t : Time) (fa fb : Option BusFrame) (wrong : List Lane) (s : State) :
    OKeeps i s (execVitalTelegram t fa fb wrong s) := by
  have copied : core (takeCopy (takeCopy (s.atTime t) .a fa).1 .b fb).1 = core s := by simp
  refine okeeps_at ?_
  dsimp only
  generalize takeCopy (takeCopy (s.atTime t) .a fa).1 .b fb = b at copied
  have combined := combineCopies_keeps (i := i) (scheduledHere (s.atTime t) fa fb) (takeCopy (s.atTime t) .a fa).2 b.2
    (s := b.1) (c₀ := core s) (by simp [copied])
  (repeat' split) <;> simp_all
@[simp] theorem execMatrixBoundary_keeps {i : Bool} (p : PortTime) (s : State) :
    OKeeps i s (execMatrixBoundary p s) := by
  refine okeeps_at ?_
  (repeat' split) <;> simp

/-! ### Machine/Twin.lean -/

@[simp] theorem execTwinHelloSend_keeps {i : Bool} (t : Time) (s : State) :
    OKeeps i s (execTwinHelloSend t s) := by
  refine okeeps_at ?_
  (repeat' split) <;> simp
@[simp] theorem execTwinHello_keeps {i : Bool} (x : TwinArrival) (h : Hello) (s : State) :
    OKeeps i s (execTwinHello x h s) := by
  refine okeeps_at ?_
  (repeat' split) <;> simp
@[simp] theorem execPeerSilenceTimeout_keeps {i : Bool} (t : Time) (s : State) :
    OKeeps i s (execPeerSilenceTimeout t s) := by
  refine okeeps_at ?_
  dsimp only; (repeat' split) <;> simp
@[simp] theorem execTwinLinkDown_keeps {i : Bool} (t : Time) (s : State) :
    OKeeps i s (execTwinLinkDown t s) := by
  refine okeeps_at ?_
  (repeat' split) <;> simp
@[simp] theorem execSnapshotBlock_keeps {i : Bool} (x : TwinArrival) (seq : U32) (idx : Nat) (last : Bool) (data : List Byte)
    (s : State) :
    OKeeps i s (execSnapshotBlock x seq idx last data s) := by
  refine okeeps_at ?_
  (repeat' split) <;> simp
@[simp] theorem execHealthReport_keeps {i : Bool} (x : TwinArrival) (h : HealthReport) (s : State) :
    OKeeps i s (execHealthReport x h s) := by
  refine okeeps_at ?_
  (repeat' split) <;> simp
@[simp] theorem execTaken_keeps {i : Bool} (x : TwinArrival) (cycle : U32) (s : State) :
    OKeeps i s (execTaken x cycle s) := by
  refine okeeps_at ?_
  (repeat' split) <;> simp
@[simp] theorem execGiveupOverlapEnd_keeps {i : Bool} (t : Time) (s : State) :
    OKeeps i s (execGiveupOverlapEnd t s) := by
  refine okeeps_at ?_
  (repeat' split) <;> simp
@[simp] theorem execGiveup_keeps {i : Bool} (x : TwinArrival) (cycle : U32) (s : State) :
    OKeeps i s (execGiveup x cycle s) := by
  refine okeeps_at ?_
  (repeat' split) <;> simp
@[simp] theorem execPowerFailNotice_keeps {i : Bool} (x : TwinArrival) (cycle : U32) (s : State) :
    OKeeps i s (execPowerFailNotice x cycle s) := by
  refine okeeps_at ?_
  (repeat' split) <;> simp
@[simp] theorem execActiveModuleSilent_keeps {i : Bool} (t : Time) (s : State) :
    OKeeps i s (execActiveModuleSilent t s) := by
  refine okeeps_at ?_
  (repeat' split) <;> simp
@[simp] theorem execTakeover_keeps {i : Bool} (t : Time) (s : State) :
    OKeeps i s (execTakeover t s) := by
  refine okeeps_at ?_
  (repeat' split) <;> simp
@[simp] theorem execHandoverRequest_keeps {i : Bool} (t : Time) (ch : Fin 8) (value : U8) (s : State) :
    OKeeps i s (execHandoverRequest t ch value s) := by
  refine okeeps_writeAt ?_
  (repeat' split) <;> simp
@[simp] theorem execHandoverRequestLapse_keeps {i : Bool} (t : Time) (s : State) :
    OKeeps i s (execHandoverRequestLapse t s) := by
  refine okeeps_at ?_
  (repeat' split) <;> simp

/-! ### Machine/Update.lean -/

@[simp] theorem execBeginDownload_keeps {i : Bool} (t : Time) (ch : Fin 8) (pkgid : U64) (pkglen : Nat) (s : State) :
    OKeeps i s (execBeginDownload t ch pkgid pkglen s) := by
  refine okeeps_writeAt ?_
  (repeat' split) <;> simp
@[simp] theorem execPiece_keeps {i : Bool} (t : Time) (ch : Fin 8) (pnum : Nat) (pcrc : U32) (data : List Byte) (s : State) :
    OKeeps i s (execPiece t ch pnum pcrc data s) := by
  refine okeeps_writeAt ?_
  (repeat' split) <;> simp
@[simp] theorem hostAction_keeps {i : Bool} (t : Time) (s : State) (ch action : Nat) (pkgid : U64) :
    OKeeps i s (hostAction t s ch action pkgid) := by
  refine okeeps_writeAt ?_
  (repeat' split) <;> simp
@[simp] theorem execVerify_keeps {i : Bool} (t : Time) (ch : Fin 8) (pkgid : U64) (s : State) :
    OKeeps i s (execVerify t ch pkgid s) :=
  hostAction_keeps t s ch.val 1 pkgid
@[simp] theorem execArm_keeps {i : Bool} (t : Time) (ch : Fin 8) (pkgid : U64) (s : State) :
    OKeeps i s (execArm t ch pkgid s) :=
  hostAction_keeps t s ch.val 2 pkgid
@[simp] theorem execActivate_keeps {i : Bool} (t : Time) (ch : Fin 8) (pkgid : U64) (s : State) :
    OKeeps i s (execActivate t ch pkgid s) :=
  hostAction_keeps t s ch.val 3 pkgid
@[simp] theorem execConfirm_keeps {i : Bool} (t : Time) (ch : Fin 8) (pkgid : U64) (s : State) :
    OKeeps i s (execConfirm t ch pkgid s) :=
  hostAction_keeps t s ch.val 4 pkgid
@[simp] theorem execCancel_keeps {i : Bool} (t : Time) (ch : Fin 8) (pkgid : U64) (s : State) :
    OKeeps i s (execCancel t ch pkgid s) :=
  hostAction_keeps t s ch.val 5 pkgid
@[simp] theorem execRollBack_keeps {i : Bool} (t : Time) (ch : Fin 8) (pkgid : U64) (s : State) :
    OKeeps i s (execRollBack t ch pkgid s) :=
  hostAction_keeps t s ch.val 6 pkgid
@[simp] theorem execVerificationComplete_keeps {i : Bool} (t : Time) (s : State) :
    OKeeps i s (execVerificationComplete t s) := by
  refine okeeps_at ?_
  (repeat' split) <;> simp
@[simp] theorem execUpdateLowSupply_keeps {i : Bool} (t : Time) (s : State) :
    OKeeps i s (execUpdateLowSupply t s) := by
  refine okeeps_at ?_
  (repeat' split) <;> simp
@[simp] theorem execActivationResume_keeps {i : Bool} (t : Time) (s : State) :
    OKeeps i s (execActivationResume t s) := by
  refine okeeps_at ?_
  (repeat' split) <;> simp
@[simp] theorem execConfirmationLimitExpiry_keeps {i : Bool} (t : Time) (s : State) :
    OKeeps i s (execConfirmationLimitExpiry t s) := by
  refine okeeps_at ?_
  dsimp only; (repeat' split) <;> simp
@[simp] theorem execProbationRecordSave_keeps {i : Bool} (t : Time) (s : State) :
    OKeeps i s (execProbationRecordSave t s) := by
  refine okeeps_at ?_
  (repeat' split) <;> simp
@[simp] theorem execOwnerKey_keeps {i : Bool} (t : Time) (ch : Fin 8) (data : List Byte) (s : State) :
    OKeeps i s (execOwnerKey t ch data s) := by
  refine okeeps_writeAt ?_
  (repeat' split) <;> simp

/-! ### Machine/Modes.lean -/

@[simp] theorem execPowerOn_keeps {i : Bool} (t : Time) (vin : Nat) (env : StartEnv) (s : State) :
    OKeeps i s (execPowerOn t vin env s) := by
  refine okeeps_at ?_
  (repeat' split) <;> simp
@[simp] theorem execStartTimeout_keeps {i : Bool} (t : Time) (s : State) :
    OKeeps i s (execStartTimeout t s) := by
  refine okeeps_at ?_
  (repeat' split) <;> simp
@[simp] theorem requestMode_keeps {i : Bool} (t : Time) (ch v : Nat) (env : StartEnv) (s : State) :
    OKeeps i s (requestMode t ch v env s) := by
  refine okeeps_writeAt ?_
  (repeat' split) <;> simp
@[simp] theorem execModeRequestStop_keeps {i : Bool} (t : Time) (ch : Fin 8) (env : StartEnv) (s : State) :
    OKeeps i s (execModeRequestStop t ch env s) :=
  requestMode_keeps t ch.val 3 env s
@[simp] theorem execModeRequestRun_keeps {i : Bool} (t : Time) (ch : Fin 8) (s : State) :
    OKeeps i s (execModeRequestRun t ch s) :=
  requestMode_keeps t ch.val 4 noEnv s
@[simp] theorem execModeRequestTestTrack_keeps {i : Bool} (t : Time) (ch : Fin 8) (s : State) :
    OKeeps i s (execModeRequestTestTrack t ch s) :=
  requestMode_keeps t ch.val 6 noEnv s
@[simp] theorem execModeRequestHold_keeps {i : Bool} (t : Time) (ch : Fin 8) (s : State) :
    OKeeps i s (execModeRequestHold t ch s) :=
  requestMode_keeps t ch.val 7 noEnv s
@[simp] theorem execModeRequestShutdown_keeps {i : Bool} (t : Time) (ch : Fin 8) (env : StartEnv) (s : State) :
    OKeeps i s (execModeRequestShutdown t ch env s) :=
  requestMode_keeps t ch.val 11 env s
@[simp] theorem execResetKeyOperation_keeps {i : Bool} (t : Time) (k : KeyOperation) (env : StartEnv) (s : State) :
    OKeeps i s (execResetKeyOperation t k env s) := by
  refine okeeps_at ?_
  (repeat' split) <;> simp
@[simp] theorem execPowerFail_keeps {i : Bool} (t : Time) (vin : Nat) (s : State) : OKeeps i s (execPowerFail t vin s) := by
  have stopped : Keeps i (core s) (core (stopKillLines (noteVin (s.atTime t) vin) 0)) := by simp
  have killOff : (core (stopKillLines (noteVin (s.atTime t) vin) 0)).KillOff := stopKillLines_kill _ _
  refine okeeps_at ?_
  dsimp only
  split
  · simp
  · generalize stopKillLines (noteVin (s.atTime t) vin) 0 = s1 at stopped killOff
    have told : core (if (twinNotice s1 2).twin.role = .active then recordGiveUp (twinNotice s1 2) 1 none32 else twinNotice s1 2) =
        core s1 := by simp
    rw [← told] at stopped killOff
    generalize (if (twinNotice s1 2).twin.role = .active then recordGiveUp (twinNotice s1 2) 1 none32 else twinNotice s1 2) = s3
      at stopped killOff
    generalize hs4 : raise s3 _ _ _ _ = s4
    have raised : Keeps i (core s) (core s4) := hs4 ▸ raise_keeps _ _ _ _ stopped
    have raisedOff : (core s4).KillOff := hs4 ▸ raise_killOff _ _ _ _ killOff
    generalize hs5 : setMode s4 .off 0 = s5
    have modeOff : core s5 = ⟨.off, (core s4).killR, (core s4).running, (core s4).images⟩ := hs5 ▸ setMode_core ..
    have written : (core (drainBook s5.constable.queue.length s5)).KillOff := drainBook_killOff _ (by rw [modeOff]; exact raisedOff)
    have same : Keeps i (core s5) (core (drainBook s5.constable.queue.length s5)) := drainBook_keeps _ (by simp)
    rw [losePointer_core, countFail_core, partsOff_core, tearNewest_core]
    refine ⟨fun hi => (same.images hi).trans ?_, fun _ _ => ⟨written, rfl⟩⟩
    rw [modeOff]; exact raised.images hi
@[simp] theorem execVinLow_keeps {i : Bool} (t : Time) (vin : Nat) (s : State) :
    OKeeps i s (execVinLow t vin s) := by
  refine okeeps_at ?_
  (repeat' split) <;> simp
@[simp] theorem execPowerDomainFault_keeps {i : Bool} (t : Time) (d : Fin 8) (mv : Nat) (s : State) :
    OKeeps i s (execPowerDomainFault t d mv s) := by
  refine okeeps_at ?_
  (repeat' split) <;> simp
@[simp] theorem execActivationComplete_keeps (t : Time) (env : StartEnv) (s : State) :
    OKeeps false s (execActivationComplete t env s) := by
  refine okeeps_at ?_
  (repeat' split) <;> simp
@[simp] theorem execRollbackComplete_keeps (t : Time) (env : StartEnv)
    (s : State) : OKeeps false s (execRollbackComplete t env s) := by
  have replaced : Keeps false (core s) (core (replaceImages (s.atTime t) (s.atTime t).update.former)) := by simp
  refine okeeps_at ?_
  dsimp only
  generalize replaceImages (s.atTime t) (s.atTime t).update.former = s0 at replaced
  split
  · refine restartDue_keeps env (raise_keeps _ _ _ _ ?_)
    simp [replaced]
  · simp
@[simp] theorem execDegradedLLimitExpiry_keeps {i : Bool} (t : Time) (s : State) :
    OKeeps i s (execDegradedLLimitExpiry t s) := by
  refine okeeps_at ?_
  (repeat' split) <;> simp
@[simp] theorem execDegradedLTimerRestore_keeps {i : Bool} (t : Time) (s : State) :
    OKeeps i s (execDegradedLTimerRestore t s) := by
  refine okeeps_at ?_
  (repeat' split) <;> simp
@[simp] theorem execReadmitRequest_keeps {i : Bool} (t : Time) (ch : Fin 8) (value : U8) (s : State) :
    OKeeps i s (execReadmitRequest t ch value s) := by
  refine okeeps_writeAt ?_
  (repeat' split) <;> simp
@[simp] theorem execReadmissionAttemptStart_keeps {i : Bool} (t : Time) (ln : Lane) (s : State) :
    OKeeps i s (execReadmissionAttemptStart t ln s) := by
  refine okeeps_at ?_
  dsimp only; (repeat' split) <;> simp
@[simp] theorem execLaneBistDone_keeps {i : Bool} (t : Time) (ln : Lane) (passed : Bool) (s : State) :
    OKeeps i s (execLaneBistDone t ln passed s) := by
  refine okeeps_at ?_
  (repeat' split) <;> simp
@[simp] theorem execLaneLoadDone_keeps {i : Bool} (t : Time) (ln : Lane) (badCopy : Bool) (s : State) :
    OKeeps i s (execLaneLoadDone t ln badCopy s) := by
  refine okeeps_at ?_
  (repeat' split) <;> simp
@[simp] theorem execCopyComplete_keeps {i : Bool} (t : Time) (ln : Lane) (s : State) :
    OKeeps i s (execCopyComplete t ln s) := by
  refine okeeps_at ?_
  dsimp only; (repeat' split) <;> simp
@[simp] theorem execShadowJoin_keeps {i : Bool} (t : Time) (ln : Lane) (s : State) :
    OKeeps i s (execShadowJoin t ln s) := by
  refine okeeps_at ?_
  (repeat' split) <;> simp
@[simp] theorem execReadmissionStepTimeout_keeps {i : Bool} (t : Time) (ln : Lane) (s : State) :
    OKeeps i s (execReadmissionStepTimeout t ln s) := by
  refine okeeps_at ?_
  (repeat' split) <;> simp

/-! ### Machine/Cycle.lean -/

@[simp] theorem execCycleStart_keeps {i : Bool} (t : Time) (x : CycleSample) (env : StartEnv) (s : State) :
    OKeeps i s (execCycleStart t x env s) := by
  refine okeeps_at ?_
  dsimp only
  split
  · simp
  · generalize hs0 : (if (s.atTime t).cyc.voted = true then _ else _) = s0
    have opened : Keeps i (core s) (core (joinDueLanes (openCycle (carryTaken s0)))) := by
      rw [← hs0]; split <;> simp
    generalize joinDueLanes (openCycle (carryTaken s0)) = s1 at opened
    have taken : Keeps i (core s) (core (applyForceGroup (takeSessions x.dissent (takeCommands (takeField s1))))) := by simp [opened]
    generalize applyForceGroup _ = s2 at taken
    have passed {f : State → State} (hf : ∀ st, Keeps i (core s) (core st) → Keeps i (core s) (core (f st))) {st : State}
        (hst : Keeps i (core s) (core st)) : Keeps i (core s) (core (whileRunning f st)) :=
      whileRunning_keeps hst fun _ => hf st hst
    exact passed (fun _ h => leaveWatch_keeps h) <| passed (fun _ h => runByLanes_keeps h) <|
      passed (fun _ h => takeRestart_keeps env h) <| passed (fun _ h => takeRequest_keeps env h) <|
      passed (fun _ h => enterStandby_keeps h) <| passed (fun _ h => checkSeal_keeps _ h) taken
@[simp] theorem execVote_keeps {i : Bool} (t : Time) (s : State) : OKeeps i s (execVote t s) := by
  have judged : Keeps i (core s) (core (voteByMode (agreeAbsent { s.atTime t with cyc := { (s.atTime t).cyc with phase := 2 } }))) := by
    simp
  refine okeeps_at ?_
  dsimp only
  generalize voteByMode _ = s1 at judged
  split
  · simp
  · rw [noteClaims_core]
    split <;> simp [judged]
@[simp] theorem execIssuePhase_keeps {i : Bool} (t : Time) (withheld : List (Nat × Nat)) (s : State) :
    OKeeps i s (execIssuePhase t withheld s) := by
  have resultsOut : Keeps i (core s) (core (loadFrames (issueOutputs (issueResults (sendTakenNow
      (sendCloses { s.atTime t with cyc := { (s.atTime t).cyc with phase := 3 } })))))) := by simp
  refine okeeps_at ?_
  dsimp only
  generalize loadFrames _ = s2 at resultsOut
  split
  · simp
  · rw [sendSnapshot_core]
    refine buildTelegrams_keeps withheld ?_
    exact foldl_keeps _ (fun st o hst => by simp [hst]) _ resultsOut
@[simp] theorem hostCommand_keeps {i : Bool} (t : Time) (ch opcode : Nat) (param : U32) (c : CmdArgs) (s : State) :
    OKeeps i s (hostCommand t ch opcode param c s) := by
  refine okeeps_attemptAt ?_
  (repeat' split) <;> simp
@[simp] theorem execSetRoute_keeps {i : Bool} (t : Time) (ch : Fin 8) (param : U32) (c : CmdArgs) (s : State) :
    OKeeps i s (execSetRoute t ch param c s) :=
  hostCommand_keeps t ch.val 1 param c s
@[simp] theorem execCancelRoute_keeps {i : Bool} (t : Time) (ch : Fin 8) (param : U32) (c : CmdArgs) (s : State) :
    OKeeps i s (execCancelRoute t ch param c s) :=
  hostCommand_keeps t ch.val 2 param c s
@[simp] theorem execEmergencyReleaseArm_keeps {i : Bool} (t : Time) (ch : Fin 8) (c : CmdArgs) (s : State) :
    OKeeps i s (execEmergencyReleaseArm t ch c s) :=
  hostCommand_keeps t ch.val 3 1 c s
@[simp] theorem execEmergencyReleaseConfirm_keeps {i : Bool} (t : Time) (ch : Fin 8) (c : CmdArgs) (s : State) :
    OKeeps i s (execEmergencyReleaseConfirm t ch c s) :=
  hostCommand_keeps t ch.val 3 2 c s
@[simp] theorem execPointMove_keeps {i : Bool} (t : Time) (ch : Fin 8) (param : U32) (c : CmdArgs) (s : State) :
    OKeeps i s (execPointMove t ch param c s) :=
  hostCommand_keeps t ch.val 0x10 param c s
@[simp] theorem execPointBlock_keeps {i : Bool} (t : Time) (ch : Fin 8) (c : CmdArgs) (s : State) :
    OKeeps i s (execPointBlock t ch c s) :=
  hostCommand_keeps t ch.val 0x11 1 c s
@[simp] theorem execPointUnblock_keeps {i : Bool} (t : Time) (ch : Fin 8) (c : CmdArgs) (s : State) :
    OKeeps i s (execPointUnblock t ch c s) :=
  hostCommand_keeps t ch.val 0x11 0 c s
@[simp] theorem execSectionReset_keeps {i : Bool} (t : Time) (ch : Fin 8) (param : U32) (c : CmdArgs) (s : State) :
    OKeeps i s (execSectionReset t ch param c s) :=
  hostCommand_keeps t ch.val 0x12 param c s
@[simp] theorem execPointStop_keeps {i : Bool} (t : Time) (ch : Fin 8) (param : U32) (c : CmdArgs) (s : State) :
    OKeeps i s (execPointStop t ch param c s) :=
  hostCommand_keeps t ch.val 0x13 param c s
@[simp] theorem execSignalBlock_keeps {i : Bool} (t : Time) (ch : Fin 8) (c : CmdArgs) (s : State) :
    OKeeps i s (execSignalBlock t ch c s) :=
  hostCommand_keeps t ch.val 0x20 1 c s
@[simp] theorem execSignalUnblock_keeps {i : Bool} (t : Time) (ch : Fin 8) (c : CmdArgs) (s : State) :
    OKeeps i s (execSignalUnblock t ch c s) :=
  hostCommand_keeps t ch.val 0x20 0 c s
@[simp] theorem execReadSequenceAdvance_keeps {i : Bool} (t : Time) (ch : Fin 8) (value : U32) (s : State) :
    OKeeps i s (execReadSequenceAdvance t ch value s) := by
  refine okeeps_writeAt ?_
  (repeat' split) <;> simp
@[simp] theorem receiveRecord_keeps {i : Bool} (t : Time) (slot msg : Nat) (b : BoundaryRec) (s : State) :
    OKeeps i s (receiveRecord t slot msg b s) := by
  refine okeeps_at ?_
  (repeat' split) <;> simp
@[simp] theorem execBoundaryReq_keeps {i : Bool} (t : Time) (slot : Fin 512) (b : BoundaryRec) (s : State) :
    OKeeps i s (execBoundaryReq t slot b s) :=
  receiveRecord_keeps t slot.val 1 b s
@[simp] theorem execBoundaryGrant_keeps {i : Bool} (t : Time) (slot : Fin 512) (b : BoundaryRec) (s : State) :
    OKeeps i s (execBoundaryGrant t slot b s) :=
  receiveRecord_keeps t slot.val 2 b s
@[simp] theorem execBoundaryRefuse_keeps {i : Bool} (t : Time) (slot : Fin 512) (b : BoundaryRec) (s : State) :
    OKeeps i s (execBoundaryRefuse t slot b s) :=
  receiveRecord_keeps t slot.val 3 b s
@[simp] theorem execBoundaryState_keeps {i : Bool} (t : Time) (slot : Fin 512) (b : BoundaryRec) (s : State) :
    OKeeps i s (execBoundaryState t slot b s) :=
  receiveRecord_keeps t slot.val 4 b s
@[simp] theorem execBoundaryCancel_keeps {i : Bool} (t : Time) (slot : Fin 512) (b : BoundaryRec) (s : State) :
    OKeeps i s (execBoundaryCancel t slot b s) :=
  receiveRecord_keeps t slot.val 5 b s
@[simp] theorem execBoundaryRelease_keeps {i : Bool} (t : Time) (slot : Fin 512) (b : BoundaryRec) (s : State) :
    OKeeps i s (execBoundaryRelease t slot b s) :=
  receiveRecord_keeps t slot.val 6 b s

/-! ### Machine/Dictionary.lean -/

@[simp] theorem execDictionaryWrite_keeps {i : Bool} (t : Time) (ch : Fin 8) (index sub : Nat) (data : List Byte) (s : State) :
    OKeeps i s (execDictionaryWrite t ch index sub data s) := by
  refine okeeps_attemptAt ?_
  (repeat' split) <;> simp
@[simp] theorem execShadowWrite_keeps {i : Bool} (t : Time) (ch : Fin 8) (index sub : Nat) (data : List Byte) (s : State) :
    OKeeps i s (execShadowWrite t ch index sub data s) := by
  refine okeeps_writeAt ?_
  (repeat' split) <;> simp
@[simp] theorem execRead_keeps {i : Bool} (t : Time) (q : HostReq) (s : State) : OKeeps i s (execRead t q s) := by
  refine okeeps_onFrame (request_keeps q (by simp) ?_)
  split
  · simp
  next hr => simp [readEntry_core hr]
@[simp] theorem execWriteExpedited_keeps {i : Bool} (t : Time) (q : HostReq) (data : List Byte) (s : State) :
    OKeeps i s (execWriteExpedited t q data s) := by
  refine okeeps_onFrame ?_
  (repeat' split) <;> simp
@[simp] theorem execWriteSegmented_keeps {i : Bool} (t : Time) (q : HostReq) (size : Nat) (s : State) :
    OKeeps i s (execWriteSegmented t q size s) := by
  refine okeeps_onFrame (request_keeps q (by simp) ?_)
  split <;> simp
@[simp] theorem execSegment_keeps {i : Bool} (t : Time) (p : HostPlace) (ch : Fin 8) (tid : U8) (seg : Nat) (last : Bool)
    (data : List Byte) (s : State) :
    OKeeps i s (execSegment t p ch tid seg last data s) := by
  refine okeeps_onFrame ?_
  (repeat' split) <;> simp
@[simp] theorem execBlockAcknowledge_keeps {i : Bool} (t : Time) (p : HostPlace) (ch : Fin 8) (tid : U8) (next blk : Nat)
    (s : State) :
    OKeeps i s (execBlockAcknowledge t p ch tid next blk s) := by
  refine okeeps_onFrame ?_
  (repeat' split) <;> simp
@[simp] theorem execAbortTransfer_keeps {i : Bool} (t : Time) (q : HostReq) (code : U16) (s : State) :
    OKeeps i s (execAbortTransfer t q code s) := by
  refine okeeps_onFrame ?_
  (repeat' split) <;> simp
@[simp] theorem execBlockResendTimeout_keeps {i : Bool} (t : Time) (ch : Fin 8) (s : State) :
    OKeeps i s (execBlockResendTimeout t ch s) := by
  refine okeeps_at ?_
  dsimp only; (repeat' split) <;> simp
@[simp] theorem execTransferTimeout_keeps {i : Bool} (t : Time) (ch : Fin 8) (s : State) :
    OKeeps i s (execTransferTimeout t ch s) := by
  refine okeeps_at ?_
  dsimp only; (repeat' split) <;> simp

/-! ### The dispatch -/

/-- Every command keeps both invariants, but the three that install images keep the first only. -/
theorem exec_keeps {i : Bool} (c : Instr) (s : State) (h : i = true →
    (∀ t env, c ≠ .activationComplete t env) ∧ (∀ t env, c ≠ .rollbackComplete t env) ∧ (∀ t, c ≠ .installedRecordWritten t)) :
    OKeeps i s (exec c s) := by
  cases i with
  | false =>
    cases c <;> simp [exec]
  | true =>
    obtain ⟨h1, h2, h3⟩ := h rfl
    cases c
    case activationComplete t env => exact absurd rfl (h1 t env)
    case rollbackComplete t env => exact absurd rfl (h2 t env)
    case installedRecordWritten t => exact absurd rfl (h3 t)
    all_goals simp [exec]
/-- Settles O4: the commands keep it, and an idle step changes nothing. -/
theorem stoppedModesStayDark : Obligations.StoppedModesStayDark := by
  intro s s' h hs'
  cases hp : s.pending with
  | nil =>
    rw [step_of_pending_nil hp] at hs'
    exact Host.Outcome.next.inj hs' ▸ h
  | cons c rest =>
    rw [step_of_pending_cons hp] at hs'
    exact (exec_keeps (i := false) c (s.withQueue rest) nofun s' hs').dark h

/-- Settles O5. -/
theorem imagesChangeOnlyByTheirSteps : Obligations.ImagesChangeOnlyByTheirSteps :=
  fun c s s' hs' activation rollback record =>
    (exec_keeps (i := true) c s (fun _ => ⟨activation, rollback, record⟩) s' hs').images rfl

end Sys2Proof.Machine
end

section
/-!
PROOFS. The exit of a command whose effect may change the attributes of the device state: what the pushed event leaves of the effect.
-/

namespace Sys2Proof.Machine

/-- But for the queue of its events the host link is as it was. -/
def HostKept (s s' : State) : Prop :=
  s'.host = { s.host with
    events := s'.host.events, eseq := s'.host.eseq, dropped := s'.host.dropped, dropDue := s'.host.dropDue }

theorem HostKept.refl (s : State) : HostKept s s := rfl

theorem queueEvent_host (s : State) (kind : Nat) (bytes : List Byte) : HostKept s (queueEvent s kind bytes) := by
  unfold queueEvent HostKept
  dsimp only
  split <;> rfl

theorem pushEvent_host (s : State) (kind : Nat) (bytes : List Byte) : HostKept s (pushEvent s kind bytes) := by
  have queued := queueEvent_host s kind bytes
  unfold pushEvent
  dsimp only
  split
  · exact queued
  · simpa [HostKept] using queued

theorem settle_host (s0 s : State) : HostKept s (settle s0 s) := by
  unfold settle
  split
  · rfl
  · exact pushEvent_host _ _ _

/-- The end of a command on `s` whose effect is `r`: the queue of `s`, and an event that may have been pushed. -/
structure Closed (s r s' : State) : Prop where
  pending : s'.pending = s.pending
  rest : Frame [.pending, .host, .constable] r s'
  host : HostKept r s'
  source : ∀ n, n ≠ 111 → source s' n = source r n
  kill : s'.constable.kill = r.constable.kill
  grave : s'.constable.grave = r.constable.grave

theorem closed_settle (s r : State) : Closed s r ((settle s r).withQueue s.pending) where
  pending := rfl
  rest := by
    intro p hp
    cases p <;> first | exact absurd hp (by decide) | simp [same, State.withQueue]
  host := settle_host s r
  source n hn := settle_source hn
  kill := (settle_lines s r).1
  grave := (settle_lines s r).2

/-- A command answers what its effect leads to, up to the event that may be pushed. -/
theorem answers_at {c : Instr} {t : Time} {s : State} {f : State → State} {P : State → Prop} (hc : exec c s = at_ t s f)
    (h : ∀ s', Closed s (f (s.atTime t)) s' → P s') : Answers c s P :=
  ⟨_, hc, h _ (closed_settle s _)⟩

/-! ### Frames -/

theorem same_trans {s s' s'' : State} {p : Part} (h : same s s' p) (h' : same s' s'' p) : same s s'' p := by
  cases p <;> exact h'.trans h

theorem frame_atTime (s : State) (t : Time) : Frame [.now] s (s.atTime t) := by
  intro p hp
  cases p <;> first | exact absurd hp (by decide) | rfl

/-- So does an accepted host write. -/
theorem answers_write {c : Instr} {t : Time} {s r : State} {ch : Fin 8} {f : State → Write} {P : State → Prop}
    (hc : exec c s = writeAt t s ch.val f) (serves : Serves s t) (hr : f (s.atTime t) = .ok r)
    (h : ∀ s', Closed s (touch r ch.val) s' → P s') : Answers c s P := by
  have served : stewardServes (s.atTime t) = true := by simp [stewardServes, State.atTime, serves.1, serves.2]
  have ok : hostWrite (s.atTime t) ch.val f = touch r ch.val := hostWrite_ok served hr
  exact answers_at (f := fun s => hostWrite s ch.val f) hc fun s' close => h s' (ok ▸ close)

/-- A command that leaves the attributes answers exactly its effect. -/
theorem answers_plain {c : Instr} {t : Time} {s : State} {f : State → State} {P : State → Prop} (hc : exec c s = at_ t s f)
    (ha : attributes s = attributes (f (s.atTime t))) (hp : (f (s.atTime t)).pending = s.pending) (h : P (f (s.atTime t))) :
    Answers c s P := ⟨_, hc.trans (at_plain ha hp), h⟩

/-- So does one after which the Steward does not serve. -/
theorem answers_dark {c : Instr} {t : Time} {s : State} {f : State → State} {P : State → Prop} (hc : exec c s = at_ t s f)
    (hd : (f (s.atTime t)).host.serving = false) (hp : (f (s.atTime t)).pending = s.pending) (h : P (f (s.atTime t))) :
    Answers c s P := by
  refine ⟨_, hc, ?_⟩
  rw [settle_dark hd, withQueue_self hp]
  exact h

/-- A frame that names the host's events and the Constable outlives the exit. -/
theorem Closed.frame {s r s' : State} {l : List Part} (h : Closed s r s') (hf : Frame l s r) (hh : .host ∈ l) (hc : .constable ∈ l) :
    Frame l s s' := by
  intro p hp
  by_cases hq : p = .pending
  · subst hq; exact h.pending
  · have unlisted : p ∉ [.pending, .host, .constable] := by
      simp only [List.mem_cons, List.not_mem_nil, or_false, not_or]
      exact ⟨hq, fun hp' => hp (hp' ▸ hh), fun hp' => hp (hp' ▸ hc)⟩
    exact same_trans (hf p hp) (h.rest p unlisted)

theorem Closed.now {s r s' : State} (h : Closed s r s') : s'.now = r.now := h.rest .now (by decide)
theorem Closed.lanes {s r s' : State} (h : Closed s r s') : s'.lanes = r.lanes := h.rest .lanes (by decide)
theorem Closed.modes {s r s' : State} (h : Closed s r s') : s'.modes = r.modes := h.rest .modes (by decide)
theorem Closed.cyc {s r s' : State} (h : Closed s r s') : s'.cyc = r.cyc := h.rest .cyc (by decide)
theorem Closed.vote {s r s' : State} (h : Closed s r s') : s'.vote = r.vote := h.rest .vote (by decide)
theorem Closed.field {s r s' : State} (h : Closed s r s') : s'.field = r.field := h.rest .field (by decide)
theorem Closed.twin {s r s' : State} (h : Closed s r s') : s'.twin = r.twin := h.rest .twin (by decide)
theorem Closed.bus {s r s' : State} (h : Closed s r s') : s'.bus = r.bus := h.rest .bus (by decide)
theorem Closed.sessions {s r s' : State} (h : Closed s r s') : s'.sessions = r.sessions := h.rest .sessions (by decide)
theorem Closed.commons {s r s' : State} (h : Closed s r s') : s'.commons = r.commons := h.rest .commons (by decide)
theorem Closed.points {s r s' : State} (h : Closed s r s') : s'.points = r.points := h.rest .points (by decide)
theorem Closed.stiles {s r s' : State} (h : Closed s r s') : s'.stiles = r.stiles := h.rest .stiles (by decide)
theorem Closed.change {s r s' : State} (h : Closed s r s') : s'.change = r.change := h.rest .change (by decide)
theorem Closed.serving {s r s' : State} (h : Closed s r s') : s'.host.serving = r.host.serving := by
  have := congrArg HostSt.serving h.host
  exact this
theorem Closed.modeReq {s r s' : State} (h : Closed s r s') : s'.host.modeReq = r.host.modeReq := by
  have := congrArg HostSt.modeReq h.host
  exact this
theorem Closed.update {s r s' : State} (h : Closed s r s') : s'.update = r.update := h.rest .update (by decide)
theorem Closed.age {s r s' : State} (h : Closed s r s') : s'.age = r.age := h.rest .age (by decide)

end Sys2Proof.Machine
end

section
/-!
PROOFS. Losing a lane (R41, R62): what a Lane-class source does while three lanes are in the vote, and while two are.
-/

namespace Sys2Proof.Machine

/-! ### The exclusion of a lane -/

/-- The record of a lane just excluded at `now` by source `src` (R41, Table 02-7). -/
def excludedLane (now : Time) (src : Nat) (y : LaneSt) : LaneSt :=
  { y with
    state := if y.failed then 1 else 2, lastSource := u8 src, lastTime := now, since := now,
    exclusions := y.exclusions + 1, judged := false, complete := false, delivered := none, held := false }

/-- The Loom's 24 h in the vote end with its exclusion (R64). -/
def loomTimerOff (s : State) (ln : Lane) : State :=
  if ln = .l then { s with vote := { s.vote with loomSince := none } } else s

/-- A lane's loss cancels an armed change, but no armed rollback. -/
def cancelOnLoss (s : State) : State :=
  if s.change.stateC = 4 ∧ s.change.isRoll = false then cancelArmed s else s

/-- The state before `excludeLane` asks how many lanes remain: the lane's record, the vote's timers, the domain and an armed change. -/
def laneOut (s : State) (ln : Lane) (src : Nat) : State :=
  cancelOnLoss (startLimit (clampLane (loomTimerOff (modLane s ln (excludedLane s.now src)) ln) ln))

/-- A lane in the vote is excluded, and Kutia enters Safe State when too few remain. -/
theorem excludeLane_of_state_zero {s : State} {ln : Lane} (h : (s.lanes.get ln).state = 0) (src : Nat) :
    excludeLane s ln src = if tooFewLanes (laneOut s ln src) then enterSafeState (laneOut s ln src) (u8 src) else laneOut s ln src := by
  have idle : attempting (s.lanes.get ln) = false := by simp [attempting, h]
  unfold excludeLane
  dsimp only
  rw [idle, if_neg Bool.false_ne_true, if_pos (.inl h)]
  rfl

/-- The timer is the vote's. -/
theorem loomTimerOff_rest (s : State) (ln : Lane) :
    (loomTimerOff s ln).lanes = s.lanes ∧ (loomTimerOff s ln).vote.disagreed = s.vote.disagreed ∧
      (loomTimerOff s ln).modes.mode = s.modes.mode ∧ (loomTimerOff s ln).constable.sources = s.constable.sources ∧
      Frame [.vote] s (loomTimerOff s ln) := by
  unfold loomTimerOff
  split
  · refine ⟨rfl, rfl, rfl, rfl, fun p hp => ?_⟩
    cases p <;> first | exact absurd hp (by decide) | rfl
  · exact ⟨rfl, rfl, rfl, rfl, .refl _ s⟩

theorem startLimit_disagreed (s : State) : (startLimit s).vote.disagreed = s.vote.disagreed := by
  unfold startLimit; split <;> rfl
theorem startLimit_frame (s : State) : Frame [.vote] s (startLimit s) := by
  intro p hp
  cases p <;> simp [same] at hp ⊢

theorem clampLane_mode (s : State) (ln : Lane) : (clampLane s ln).modes.mode = s.modes.mode := by
  unfold clampLane; split <;> rfl
theorem clampLane_frame (s : State) (ln : Lane) : Frame [.modes] s (clampLane s ln) := by
  intro p hp
  cases p <;> simp [same] at hp ⊢

/-- A cancelled change is noted in the Book: no source is touched. -/
@[simp] theorem cancelArmed_sources (s : State) : (cancelArmed s).constable.sources = s.constable.sources := by
  unfold cancelArmed; split <;> simp [bookEvent]

theorem cancelOnLoss_rest (s : State) :
    (cancelOnLoss s).lanes = s.lanes ∧ (cancelOnLoss s).vote = s.vote ∧ (cancelOnLoss s).modes = s.modes ∧
      (cancelOnLoss s).constable.sources = s.constable.sources ∧ Frame [.change, .constable] s (cancelOnLoss s) := by
  unfold cancelOnLoss
  split
  · refine ⟨by simp, by simp, by simp, by simp, ?_⟩
    intro p hp
    cases p <;> simp [same] at hp ⊢
  · exact ⟨rfl, rfl, rfl, rfl, .refl _ s⟩

/-- What an exclusion leaves, in all: the lane's own record, and a frame. -/
theorem laneOut_rest (s : State) (ln : Lane) (src : Nat) :
    (laneOut s ln src).lanes = s.lanes.set ln (excludedLane s.now src (s.lanes.get ln)) ∧
      (laneOut s ln src).vote.disagreed = s.vote.disagreed ∧ (laneOut s ln src).modes.mode = s.modes.mode ∧
      (laneOut s ln src).constable.sources = s.constable.sources ∧
      Frame [.lanes, .vote, .modes, .change, .constable] s (laneOut s ln src) := by
  obtain ⟨tLanes, tDis, tMode, tSources, tFrame⟩ := loomTimerOff_rest (modLane s ln (excludedLane s.now src)) ln
  have cFrame := clampLane_frame (loomTimerOff (modLane s ln (excludedLane s.now src)) ln) ln
  have lFrame := startLimit_frame (clampLane (loomTimerOff (modLane s ln (excludedLane s.now src)) ln) ln)
  obtain ⟨lanes, vote, modes, sources, frame⟩ :=
    cancelOnLoss_rest (startLimit (clampLane (loomTimerOff (modLane s ln (excludedLane s.now src)) ln) ln))
  have lane : Frame [.lanes] s (modLane s ln (excludedLane s.now src)) := by
    intro p hp
    cases p <;> simp [same] at hp ⊢
  refine ⟨?_, ?_, ?_, ?_, ?_⟩
  · rw [laneOut, lanes]; simp [tLanes]; rfl
  · rw [laneOut, vote, startLimit_disagreed]; simp [tDis]
  · rw [laneOut, modes]; simp [clampLane_mode, tMode]
  · rw [laneOut, sources]; simp [tSources]
  · exact (lane.mono (by decide)).trans ((tFrame.mono (by decide)).trans ((cFrame.mono (by decide)).trans
      ((lFrame.mono (by decide)).trans (frame.mono (by decide)))))

@[simp] theorem laneOut_lanes (s : State) (ln : Lane) (src : Nat) :
    (laneOut s ln src).lanes = s.lanes.set ln (excludedLane s.now src (s.lanes.get ln)) := (laneOut_rest s ln src).1
@[simp] theorem laneOut_disagreed (s : State) (ln : Lane) (src : Nat) : (laneOut s ln src).vote.disagreed = s.vote.disagreed :=
  (laneOut_rest s ln src).2.1
@[simp] theorem laneOut_mode (s : State) (ln : Lane) (src : Nat) : (laneOut s ln src).modes.mode = s.modes.mode :=
  (laneOut_rest s ln src).2.2.1
@[simp] theorem laneOut_sources (s : State) (ln : Lane) (src : Nat) : (laneOut s ln src).constable.sources = s.constable.sources :=
  (laneOut_rest s ln src).2.2.2.1
theorem laneOut_frame (s : State) (ln : Lane) (src : Nat) :
    Frame [.lanes, .vote, .modes, .change, .constable] s (laneOut s ln src) := (laneOut_rest s ln src).2.2.2.2

theorem excludedLane_state (now : Time) (src : Nat) (y : LaneSt) : (excludedLane now src y).state ≠ 0 := by
  unfold excludedLane; dsimp only; split <;> decide

/-- The lane that has just been excluded is not in the vote. -/
theorem inVote_laneOut_self (s : State) (ln : Lane) (src : Nat) : inVote (laneOut s ln src) ln = false := by
  simp [inVote, excludedLane_state]
theorem inVote_laneOut_ne (s : State) {ln k : Lane} (src : Nat) (h : k ≠ ln) : inVote (laneOut s ln src) k = inVote s k := by
  simp [inVote, PerLane.get_set_ne _ _ h]

/-- One voter fewer. -/
theorem voters_laneOut {s : State} {ln : Lane} (src : Nat) (h : inVote s ln = true) :
    (voters (laneOut s ln src)).length + 1 = (voters s).length := by
  have self := inVote_laneOut_self s ln src
  have other : ∀ k, k ≠ ln → inVote (laneOut s ln src) k = inVote s k := fun k hk => inVote_laneOut_ne s src hk
  have a := other .a
  have b := other .b
  have l := other .l
  simp only [voters, allLanes, List.filter_cons, List.filter_nil]
  cases ln <;> simp_all <;> (repeat' split) <;> simp

/-! ### How many lanes remain -/

/-- Two lanes that stay are enough in every mode but Watch. -/
theorem tooFewLanes_of_two {s : State} (h : 2 ≤ (voters s).length) (hm : s.modes.mode ≠ .watch) : tooFewLanes s = false := by
  have two : ¬ (voters s).length < 2 := by omega
  unfold tooFewLanes
  split <;> simp_all

/-- The modes that vote, but Watch and Start (R62). -/
abbrev Votes (s : State) : Prop :=
  s.modes.mode = .stop ∨ s.modes.mode = .run ∨ s.modes.mode = .degraded ∨ s.modes.mode = .testTrack ∨ s.modes.mode = .hold ∨
    s.modes.mode = .standby

/-- In a mode that votes one lane is too few. -/
theorem tooFewLanes_of_one {s : State} (h : (voters s).length < 2) (hm : Votes s) : tooFewLanes s = true := by
  unfold tooFewLanes
  rcases hm with hm | hm | hm | hm | hm | hm <;> simp [hm, h]

/-- A loss while three lanes are in the vote leaves enough. -/
theorem excludeLane_allVoting {s : State} (h : AllVoting s) (ln : Lane) (src : Nat) : excludeLane s ln src = laneOut s ln src := by
  obtain ⟨all, hm⟩ := h
  have zero := voters_all all ln
  have two : 2 ≤ (voters (laneOut s ln src)).length := by
    have := voters_laneOut src (s := s) (ln := ln) (by simp [inVote, zero])
    rw [all] at this
    simp only [allLanes, List.length_cons, List.length_nil] at this
    omega
  rw [excludeLane_of_state_zero zero, tooFewLanes_of_two two (by simpa using hm)]
  rfl

/-- A loss while two are in the vote leads to Safe State (R62). -/
theorem excludeLane_two {s : State} (h : (voters s).length = 2) (hm : Votes s) {ln : Lane} (hv : inVote s ln = true) (src : Nat) :
    excludeLane s ln src = enterSafeState (laneOut s ln src) (u8 src) := by
  have one : (voters (laneOut s ln src)).length < 2 := by
    have := voters_laneOut src hv
    omega
  have zero : (s.lanes.get ln).state = 0 := by simpa [inVote] using hv
  rw [excludeLane_of_state_zero zero, tooFewLanes_of_one one (by simpa [Votes] using hm)]
  rfl

/-! ### A Lane-class source -/

/-- The states that a report of a lane's fault is made in: of the command's state only the lane's record, the vote and the domains
have been touched, and nothing that the exclusion is judged by. -/
structure Reports (s x : State) (ln : Lane) : Prop where
  frame : Frame [.now, .lanes, .vote, .modes] s x
  mode : x.modes.mode = s.modes.mode
  state : ∀ k, (x.lanes.get k).state = (s.lanes.get k).state
  failed : (x.lanes.get ln).failed = (s.lanes.get ln).failed
  exclusions : (x.lanes.get ln).exclusions = (s.lanes.get ln).exclusions
  streak : (x.lanes.get ln).streak = (s.lanes.get ln).streak
  others : ∀ k, k ≠ ln → x.lanes.get k = s.lanes.get k

theorem Reports.source {s x : State} {ln : Lane} (h : Reports s x ln) (n : Nat) : source x n = source s n := by
  have hc : x.constable = s.constable := h.frame .constable (by decide)
  simp only [Machine.source, hc]

theorem Reports.voters {s x : State} {ln : Lane} (h : Reports s x ln) : voters x = voters s := by
  have hv : inVote x = inVote s := funext fun k => by simp [inVote, h.state]
  simp only [Machine.voters, hv]

/-- A command's instant alone is nothing that an exclusion is judged by. -/
theorem reports_atTime (s : State) (t : Time) (ln : Lane) : Reports s (s.atTime t) ln :=
  ⟨fun p hp => by cases p <;> first | exact absurd hp (by decide) | rfl, rfl, fun _ => rfl, rfl, rfl, rfl, fun _ _ => rfl⟩

/-- Nor is a change of the lane's record that leaves state, exclusions and streak. -/
theorem Reports.modLane {s x : State} {ln : Lane} (h : Reports s x ln) {f : LaneSt → LaneSt}
    (hf : ∀ y, (f y).state = y.state ∧ (f y).failed = y.failed ∧ (f y).exclusions = y.exclusions ∧ (f y).streak = y.streak) :
    Reports s (Machine.modLane x ln f) ln where
  frame p hp := by
    have := h.frame p hp
    cases p <;> first | exact absurd hp (by decide) | exact this
  mode := h.mode
  state k := by
    rw [← h.state k, Machine.modLane]
    by_cases hk : k = ln
    · subst hk; simp [hf]
    · simp [PerLane.get_set_ne _ _ hk]
  failed := by simp [Machine.modLane, hf, h.failed]
  exclusions := by simp [Machine.modLane, hf, h.exclusions]
  streak := by simp [Machine.modLane, hf, h.streak]
  others k hk := by simp [Machine.modLane, PerLane.get_set_ne _ _ hk, h.others k hk]

theorem Reports.raisable {s x : State} {ln : Lane} (h : Reports s x ln) {t : Time} (ht : x.now = t) {n : Nat} (hr : Raisable s t n) :
    Quiet x n ∧ tickClass x ≤ srcClass n := by
  obtain ⟨hq, hc⟩ := hr
  have hcon : x.constable = s.constable := h.frame .constable (by decide)
  have tick : tickClass x = tickClass (s.atTime t) := by unfold tickClass tickNow; rw [hcon, ht]; rfl
  exact ⟨by simpa only [Quiet, h.source n] using hq, tick ▸ hc⟩

/-- With three lanes in the vote, the report of a Lane-class source is recorded and its lane is excluded (R41). -/
theorem raise_allVoting {x : State} {ln : Lane} {n : Nat} {p1 : U32} (all : AllVoting x)
    (hr : Quiet x n ∧ tickClass x ≤ srcClass n) (hl : srcClass n = 2 ∧ srcLane n p1 = some ln) (p2 p3 : U32) :
    raise x n p1 p2 p3 = laneOut (recordRaise x n false p1 p2 p3) ln n := by
  obtain ⟨cls, lane⟩ := hl
  have still : AllVoting (recordRaise x n false p1 p2 p3) := by
    simpa [AllVoting, voters, inVote] using all
  rw [raise_quiet hr.1 hr.2, cls]
  simp only [classEffect, lane]
  exact excludeLane_allVoting still ln n

theorem recordRaise_frame (s : State) (n : Nat) (forced : Bool) (p1 p2 p3 : U32) :
    Frame [.constable] s (recordRaise s n forced p1 p2 p3) := by
  intro p hp
  cases p <;> simp [same] at hp ⊢

theorem kept_laneOut (s : State) (ln : Lane) (src n : Nat) : Kept s (laneOut s ln src) n := .of_sources n (laneOut_sources s ln src)

/-- What a raise recorded, later steps of the command kept. -/
theorem raised_of_kept {s r s' : State} {n : Nat} {p1 p2 p3 : U32} (hs : source r n = source s n)
    (h : Kept (recordRaise r n false p1 p2 p3) s' n) (hn : s'.now = r.now) : Raised s s' n p1 p2 p3 := by
  obtain ⟨raises, params, last, _⟩ := h
  rw [recordRaise_source, hs] at raises
  rw [recordRaise_source] at params last
  exact ⟨raises, params, last.trans hn.symm⟩

/-- The report of a Lane-class source while three lanes are in the vote (R41). -/
theorem raise_laneLost {s x : State} {ln : Lane} {n : Nat} {p1 : U32} {t : Time} (all : AllVoting s) (hx : Reports s x ln)
    (ht : x.now = t) (hr : Raisable s t n) (hl : srcClass n = 2 ∧ srcLane n p1 = some ln) (p2 p3 : U32) :
    LaneLost s (raise x n p1 p2 p3) ln n p1 p2 p3 := by
  have allx : AllVoting x := ⟨hx.voters.trans all.1, by rw [hx.mode]; exact all.2⟩
  rw [raise_allVoting allx (hx.raisable ht hr) hl]
  have frame := laneOut_frame (recordRaise x n false p1 p2 p3) ln n
  have now : (laneOut (recordRaise x n false p1 p2 p3) ln n).now = x.now := by
    have := frame .now (by decide)
    simpa [same] using this
  refine ⟨⟨?_, ?_, ?_, ?_, ?_, ?_, fun k hk => ?_⟩, raised_of_kept (hx.source n) (kept_laneOut _ ln n n) now, ?_, ?_⟩
  · simp [excludedLane, hx.failed]
  · simp [excludedLane]
  · simp [excludedLane, now]
  · simp [excludedLane, hx.exclusions]
  · simp [excludedLane, hx.streak]
  · simp [excludedLane]
  · simp [PerLane.get_set_ne _ _ hk, hx.others k hk]
  · simp [hx.mode]
  · exact (hx.frame.mono (by decide)).trans (((recordRaise_frame x n false p1 p2 p3).mono (by decide)).trans (frame.mono (by decide)))

/-- The exit of the command keeps the loss. -/
theorem LaneLost.closed {s r s' : State} {ln : Lane} {n : Nat} {p1 p2 p3 : U32} (h : LaneLost s r ln n p1 p2 p3)
    (hn : n ≠ 111) (c : Closed s r s') : LaneLost s s' ln n p1 p2 p3 := by
  obtain ⟨excluded, raised, mode, frame⟩ := h
  refine ⟨?_, ?_, by rw [c.modes, mode], c.frame frame (by decide) (by decide)⟩
  · simpa only [Excluded, c.lanes, c.now] using excluded
  · simpa only [Raised, c.source n hn, c.now] using raised

/-! ### The lanes' own sources -/

/-- The sources 0 to 5 of a lane are Lane class and name the lane (Table 13-2). -/
theorem laneSource (ln : Lane) {k : Nat} (hk : k ≤ 5) (p1 : U32) :
    srcClass (laneBase ln + k) = 2 ∧ srcLane (laneBase ln + k) p1 = some ln := by
  have hb : laneBase ln = 16 ∨ laneBase ln = 32 ∨ laneBase ln = 48 := by cases ln <;> simp [laneBase]
  interval_cases k <;> cases ln <;> exact ⟨rfl, rfl⟩

theorem laneSource_ne (ln : Lane) {k : Nat} (hk : k ≤ 5) : laneBase ln + k ≠ 111 := by
  cases ln <;> simp only [laneBase] <;> omega

/-- Source 58 names the lane in P1. -/
theorem srcLane_scrub (ln : Lane) : srcClass 58 = 2 ∧ srcLane 58 (u32 (laneNo ln)) = some ln := by cases ln <;> exact ⟨rfl, rfl⟩
/-- So does source 3. -/
theorem srcLane_domain (ln : Lane) : srcClass 3 = 2 ∧ srcLane 3 (u32 (laneNo ln)) = some ln := by cases ln <;> exact ⟨rfl, rfl⟩

/-! ### A command that reports a lane's fault -/

/-- With three lanes in the vote: the loss, and what the lane's record and the vote's count were made of. -/
theorem answers_lost {c : Instr} {t : Time} {s x : State} {f : State → State} {ln : Lane} {n : Nat} {p1 p2 p3 : U32}
    (hc : exec c s = at_ t s f) (hf : f (s.atTime t) = raise x n p1 p2 p3) (all : AllVoting s) (hx : Reports s x ln)
    (ht : x.now = t) (hr : Raisable s t n) (hl : srcClass n = 2 ∧ srcLane n p1 = some ln) (hn : n ≠ 111) :
    Answers c s fun s' => LaneLost s s' ln n p1 p2 p3 ∧
      s'.lanes = x.lanes.set ln (excludedLane t n (x.lanes.get ln)) ∧ s'.vote.disagreed = x.vote.disagreed := by
  refine answers_at hc fun s' close => ?_
  rw [hf] at close
  have allx : AllVoting x := ⟨hx.voters.trans all.1, by rw [hx.mode]; exact all.2⟩
  refine ⟨(raise_laneLost all hx ht hr hl p2 p3).closed hn close, ?_, ?_⟩
  · rw [close.lanes, raise_allVoting allx (hx.raisable ht hr) hl]; simp [ht]
  · rw [close.vote, raise_allVoting allx (hx.raisable ht hr) hl]; simp

/-- What is only said of the loss. -/
theorem Answers.imp {c : Instr} {s : State} {P Q : State → Prop} (h : Answers c s P) (hpq : ∀ s', P s' → Q s') : Answers c s Q := by
  obtain ⟨s', hs, hp⟩ := h
  exact ⟨s', hs, hpq s' hp⟩

/-- The checker of a stage group, and its counter, are of the lane's record, and no exclusion is judged by them. -/
theorem reports_stage {s : State} {t : Time} (ln : Lane) (k : Nat) (f : StageSt → StageSt) :
    Reports s (modStage (s.atTime t) ln k f) ln :=
  (reports_atTime s t ln).modLane fun _ => ⟨rfl, rfl, rfl, rfl⟩

theorem reports_illegal {s : State} {t : Time} (ln : Lane) (k : Nat) (f : StageSt → StageSt) :
    Reports s (modLane (modStage (s.atTime t) ln k f) ln fun y => { y with illegal := y.illegal + 1 }) ln :=
  (reports_stage ln k f).modLane fun _ => ⟨rfl, rfl, rfl, rfl⟩

theorem reports_stalls {s : State} {t : Time} (ln : Lane) (k : Nat) (f : StageSt → StageSt) :
    Reports s (modLane (modStage (s.atTime t) ln k f) ln fun y => { y with stalls := y.stalls + 1 }) ln :=
  (reports_stage ln k f).modLane fun _ => ⟨rfl, rfl, rfl, rfl⟩

theorem reports_stores {s : State} {t : Time} (ln : Lane) :
    Reports s (modLane (s.atTime t) ln fun y => { y with stores := [] }) ln :=
  (reports_atTime s t ln).modLane fun _ => ⟨rfl, rfl, rfl, rfl⟩

theorem reports_vote {s : State} {t : Time} (ln : Lane) (v : VoteSt) : Reports s { s.atTime t with vote := v } ln :=
  ⟨fun p hp => by cases p <;> simp [same] at hp ⊢, rfl, fun _ => rfl, rfl, rfl, rfl, fun _ _ => rfl⟩

/-! ### What the commands report -/

theorem illegalDualRail_reports (t : Time) (s : State) (ln : Lane) (stage : Fin 64) :
    exec (.illegalDualRailCode t ln ⟨stage, true, true⟩) s = at_ t s fun s =>
      raiseLane (modLane (modStage s ln stage.val fun _ => ⟨⟨BitVec.ofBool true, BitVec.ofBool true⟩, some s.now⟩) ln
        fun y => { y with illegal := y.illegal + 1 }) ln 0 (u32 stage.val) := rfl

theorem handshakeStall_reports {t held : Time} (h : us 50 ≤ held) (s : State) (ln : Lane) (stage : Fin 64) :
    exec (.handshakeStall t ln ⟨stage, held⟩) s = at_ t s fun s =>
      raiseLane (modLane (modStage s ln stage.val fun y => { y with request := some (s.now - held) }) ln
        fun y => { y with stalls := y.stalls + 1 }) ln 1 (u32 stage.val) := by
  have hn : ¬ held < us 50 := Nat.not_lt.mpr h
  show execHandshakeStall t ln ⟨stage, held⟩ s = _
  simp only [execHandshakeStall, hn, if_false]

theorem retirementMismatch_eq (t : Time) (s : State) (mill : Lane) (p : U32) (x y : Retired) :
    exec (.retirementMismatch t mill ⟨p, x, y⟩) s = at_ t s fun s => if mill = .l ∨ s.modes.mode = .split ∨ x = y then s else
      raiseLane (modLane s mill fun y => { y with stores := [] }) mill 2 p := rfl

theorem loomSliceMismatch_eq (t : Time) (s : State) (p : U32) (v w : U64) :
    exec (.loomSliceMismatch t ⟨p, v, w⟩) s = at_ t s fun s => if v = w then s else raiseLane s .l 2 p := rfl

theorem retirementMismatch_quiet {t : Time} {s : State} {mill : Lane} {p : U32} {x y : Retired} (h : x = y ∨ s.modes.mode = .split) :
    Runs (.retirementMismatch t mill ⟨p, x, y⟩) s (s.atTime t) := by
  have hn : mill = .l ∨ (s.atTime t).modes.mode = .split ∨ x = y := .inr h.symm
  exact runs_at (retirementMismatch_eq t s mill p x y) (if_pos hn) rfl ⟨rfl, rfl⟩ rfl rfl rfl rfl rfl

theorem answers_illegalDualRail {t : Time} {s : State} {ln : Lane} (stage : Fin 64) (all : AllVoting s)
    (hr : Raisable s t (laneBase ln)) :
    Answers (.illegalDualRailCode t ln ⟨stage, true, true⟩) s fun s' =>
      LaneLost s s' ln (laneBase ln) (u32 (laneNo ln)) s.cyc.number (u32 stage.val) ∧
        (s'.lanes.get ln).illegal = (s.lanes.get ln).illegal + 1 := by
  refine (answers_lost (illegalDualRail_reports t s ln stage) rfl all (reports_illegal ln _ _) rfl hr
    (laneSource ln (Nat.zero_le 5) _) (laneSource_ne ln (Nat.zero_le 5))).imp fun s' h => ⟨h.1, ?_⟩
  rw [h.2.1]
  simp [excludedLane, modStage, modLane]

theorem answers_handshakeStall {t held : Time} {s : State} {ln : Lane} (stage : Fin 64) (long : us 50 ≤ held) (all : AllVoting s)
    (hr : Raisable s t (laneBase ln + 1)) :
    Answers (.handshakeStall t ln ⟨stage, held⟩) s fun s' =>
      LaneLost s s' ln (laneBase ln + 1) (u32 (laneNo ln)) s.cyc.number (u32 stage.val) ∧
        (s'.lanes.get ln).stalls = (s.lanes.get ln).stalls + 1 := by
  refine (answers_lost (handshakeStall_reports long s ln stage) rfl all (reports_stalls ln _ _) rfl hr
    (laneSource ln (by decide) _) (laneSource_ne ln (by decide))).imp fun s' h => ⟨h.1, ?_⟩
  rw [h.2.1]
  simp [excludedLane, modStage, modLane]

theorem answers_retirementMismatch {t : Time} {s : State} {mill : Lane} {p : U32} {x y : Retired} (hm : mill ≠ .l)
    (hs : s.modes.mode ≠ .split) (hxy : x ≠ y) (all : AllVoting s) (hr : Raisable s t (laneBase mill + 2)) :
    Answers (.retirementMismatch t mill ⟨p, x, y⟩) s fun s' =>
      LaneLost s s' mill (laneBase mill + 2) (u32 (laneNo mill)) s.cyc.number p := by
  have both : ¬ (mill = .l ∨ (s.atTime t).modes.mode = .split ∨ x = y) := by simpa using ⟨hm, hs, hxy⟩
  exact (answers_lost (retirementMismatch_eq t s mill p x y) (if_neg both) all (reports_stores mill) rfl hr
    (laneSource mill (by decide) _) (laneSource_ne mill (by decide))).imp fun s' h => h.1

theorem answers_loomSliceMismatch {t : Time} {s : State} {p : U32} {v w : U64} (hvw : v ≠ w) (all : AllVoting s)
    (hr : Raisable s t 50) :
    Answers (.loomSliceMismatch t ⟨p, v, w⟩) s fun s' => LaneLost s s' .l 50 2 s.cyc.number p :=
  (answers_lost (loomSliceMismatch_eq t s p v w) (if_neg hvw) all (reports_atTime s t .l) rfl hr
    ⟨rfl, rfl⟩ (by decide)).imp fun s' h => h.1

theorem answers_disagreement {t : Time} {s : State} {ln : Lane} (all : AllVoting s) (streak : 3 ≤ (s.lanes.get ln).streak)
    (judged : (s.lanes.get ln).judged = true) (hr : Raisable s t (laneBase ln + 3)) :
    Answers (.disagreementExclusion t ln) s fun s' =>
      LaneLost s s' ln (laneBase ln + 3) (u32 (laneNo ln)) s.cyc.number (s.lanes.get ln).differing ∧
        s'.vote.disagreed = s.vote.disagreed + 1 := by
  have zero := voters_all all.1 ln
  exact (answers_lost (t := t) (s := s) rfl (if_pos ⟨judged, streak, zero⟩) all (reports_vote ln _) rfl hr
    (laneSource ln (by decide) _) (laneSource_ne ln (by decide))).imp fun s' h => ⟨h.1, h.2.2⟩

/-- A disagreement streak below 3 excludes no lane. -/
theorem disagreement_quiet {t : Time} {s : State} {ln : Lane} (h : (s.lanes.get ln).streak < 3) :
    Runs (.disagreementExclusion t ln) s (s.atTime t) := by
  refine runs_at (t := t) (s := s) rfl (if_neg ?_) rfl ⟨rfl, rfl⟩ rfl rfl rfl rfl rfl
  rintro ⟨-, hs, -⟩
  exact absurd hs (Nat.not_le.mpr h)

theorem answers_cycleMiss {t : Time} {s : State} {ln : Lane} (all : AllVoting s) (hr : Raisable s t (laneBase ln + 4))
    (h : (3 ≤ ((s.lanes.get ln).misses.filter id).length ∧ s.cyc.phase ≠ 1 ∧ issueStart s ≤ t) ∨
      (s.cyc.running = true ∧ s.cyc.started = true ∧ (s.lanes.get ln).delivered = none ∧ (s.lanes.get ln).late = false ∧
        cycleEnd s ≤ t)) :
    Answers (.cycleMissExclusion t ln) s fun s' =>
      LaneLost s s' ln (laneBase ln + 4) (u32 (laneNo ln)) s.cyc.number (u32 ((s.lanes.get ln).misses.filter id).length) := by
  have zero := voters_all all.1 ln
  have cond : (s.lanes.get ln).state = 0 ∧ ((3 ≤ missCount (s.lanes.get ln) ∧ s.cyc.phase ≠ 1 ∧ issueStart s ≤ t) ∨
      (s.cyc.running && s.cyc.started && (s.lanes.get ln).delivered.isNone && !(s.lanes.get ln).late &&
        decide (cycleEnd s ≤ t)) = true) := by
    refine ⟨zero, h.imp id ?_⟩
    rintro ⟨run, started, delivered, late, ended⟩
    simp [run, started, delivered, late, ended]
  exact (answers_lost (t := t) (s := s) rfl (if_pos cond) all (reports_atTime s t ln) rfl hr
    (laneSource ln (by decide) _) (laneSource_ne ln (by decide))).imp fun s' h => h.1

/-- Settles O6: each report is made in a state that an exclusion is not judged by, and is recorded before the lane is out. -/
theorem lanesAreExcluded : Obligations.LanesAreExcluded := by
  refine ⟨fun t held s ln mill stage p x y v w all => ⟨?_, ?_, ?_, ?_, ?_⟩, fun t s ln all => ⟨?_, ?_, ?_⟩⟩
  · exact answers_illegalDualRail stage all
  · exact fun long => answers_handshakeStall stage long all
  · exact fun hm hs hxy => answers_retirementMismatch hm hs hxy all
  · exact retirementMismatch_quiet
  · exact fun hvw => answers_loomSliceMismatch hvw all
  · exact fun streak judged => answers_disagreement all streak judged
  · exact answers_cycleMiss all
  · exact disagreement_quiet

end Sys2Proof.Machine
end

section
/-!
PROOFS. Safe State (R344): what entering it leaves of the mode, the kill lines, the cycle, the lanes and a source just raised, for the
sources that lead there (R62, R366).
-/

namespace Sys2Proof.Machine

/-! ### The mode, the kill lines and the cycle -/

/-- From a mode that is on, the entry ends in Safe State, with the kill lines stopped and no cycle running. -/
theorem enterSafeState_stopped {s : State} (h : On s) (src : U8) : Stopped (enterSafeState s src) := by
  obtain ⟨hoff, hshut, hsafe⟩ := h
  have kill : (enterSafeState s src).constable.kill = false := enterSafeState_killOff s src
  have dark : (core (enterSafeState s src)).running = false ∧ (core (enterSafeState s src)).mode = .safeState := by
    have halted : core { stopKillLines s src with cyc := { (stopKillLines s src).cyc with running := false } } =
        ⟨(core (stopKillLines s src)).mode, (core (stopKillLines s src)).killR, false, (core (stopKillLines s src)).images⟩ := rfl
    unfold enterSafeState
    split
    case h_1 hm => exact absurd hm hoff
    case h_2 hm => exact absurd hm hshut
    case h_3 hm => exact absurd hm hsafe
    case h_4 =>
      dsimp only
      split <;> simp only [twinNotice_core, recordGiveUp_core, countUp_core, setMode_core, lapseRequest_core, abortAttempts_core,
        cancelArmed_core, flushCommands_core, halted, and_self]
  exact ⟨kill, dark.1, dark.2⟩

/-- The exit of the command leaves Kutia stopped. -/
theorem Stopped.closed {s r s' : State} (h : Stopped r) (c : Closed s r s') : Stopped s' := by
  obtain ⟨kill, running, mode⟩ := h
  exact ⟨by rw [← kill]; exact congrArg _ (congrArg _ rfl) |>.trans c.kill, by rw [c.cyc]; exact running, by rw [c.modes]; exact mode⟩

/-! ### The lanes -/

/-- An aborted attempt brings no lane into the vote. -/
theorem failAttempt_inVote {s : State} {k : Lane} (ln : Lane) (result : U8) (h : inVote s k = false) :
    inVote (failAttempt s ln result) k = false := by
  by_cases hk : k = ln
  · subst hk; simp [inVote, failAttempt, modLane]
  · simpa [inVote, failAttempt, modLane, hk] using h

theorem abortAttempts_inVote {s : State} {k : Lane} (h : inVote s k = false) : inVote (abortAttempts s) k = false := by
  have step (x : State) (ln : Lane) (hx : inVote x k = false) :
      inVote (if attempting (x.lanes.get ln) then failAttempt x ln 6 else x) k = false := by
    split
    · exact failAttempt_inVote ln 6 hx
    · exact hx
  exact step _ .l (step _ .b (step _ .a h))

/-- Safe State brings no lane into the vote. -/
theorem enterSafeState_inVote {s : State} {k : Lane} (src : U8) (h : inVote s k = false) : inVote (enterSafeState s src) k = false := by
  have lanes : ∀ x : State, x.lanes = s.lanes → inVote (abortAttempts (cancelArmed x)) k = false := fun x hx =>
    abortAttempts_inVote (by simpa [inVote, hx] using h)
  unfold enterSafeState
  split
  case h_4 =>
    have := lanes (flushCommands { stopKillLines s src with cyc := { (stopKillLines s src).cyc with running := false } }) (by simp)
    dsimp only
    split <;> simpa [inVote] using this
  all_goals simpa [inVote] using h

/-! ### A source just raised -/

/-- A source that is none of the four which the entry may itself raise: the lost event and the aborted attempts. -/
abbrev Bystander (n : Nat) : Prop := n ≠ 22 ∧ n ≠ 38 ∧ n ≠ 54 ∧ n ≠ 111

/-- What a source holds of its raise: all but the run of its window and the setting of a force. -/
def held (x : SourceSt) : SourceSt := { x with elapsed := 0, ticked := 0, setting := 0, assertedR := .bit false }

/-- From the one state to the other the source holds the same raise. -/
def SameRaise (s s' : State) (n : Nat) : Prop := held (source s' n) = held (source s n)

theorem SameRaise.refl (s : State) (n : Nat) : SameRaise s s n := rfl
theorem SameRaise.trans {s s' s'' : State} {n : Nat} (h : SameRaise s s' n) (h' : SameRaise s' s'' n) : SameRaise s s'' n :=
  Eq.trans h' h
theorem SameRaise.of_source {s s' : State} {n : Nat} (h : source s' n = source s n) : SameRaise s s' n := congrArg held h
theorem SameRaise.of_sources {s s' : State} (n : Nat) (h : s'.constable.sources = s.constable.sources) : SameRaise s s' n :=
  .of_source (by simp only [source, h])
theorem SameRaise.kept {s s' : State} {n : Nat} (h : SameRaise s s' n) : Kept s s' n :=
  ⟨congrArg (·.raises) h, congrArg (·.params) h, congrArg (·.lastRaise) h, congrArg (·.effective) h⟩
theorem SameRaise.held_ne {s s' : State} {n : Nat} (h : SameRaise s s' n) (hp : held (source s n) ≠ {}) : held (source s' n) ≠ {} := by
  rw [h]; exact hp

theorem ne_default_of_held {x : SourceSt} (h : held x ≠ {}) : x ≠ {} := by
  rintro rfl
  exact h rfl

theorem kept_writeResult (s : State) (x : ResultRec) {n : Nat} (h : n ≠ 111) : SameRaise s (writeResult s x) n :=
  .of_source (by rw [writeResult, pushEvent_source h]; rfl)

theorem kept_noteResult (s : State) (c : Command) (code : U8) (ref : U32) (n : Nat) : SameRaise s (noteResult s c code ref) n :=
  .of_sources n (by simp)

theorem kept_flushCommands (s : State) {n : Nat} (h : n ≠ 111) : SameRaise s (flushCommands s) n := by
  have fold (l : List Command) (x : State) : SameRaise x
      (l.foldl (fun st c => writeResult (noteResult st c 0x15 none32) (resultOf st c 0x15 none32)) x) n := by
    induction l generalizing x with
    | nil => exact .refl x n
    | cons c l ih => exact ((kept_noteResult x c _ _ n).trans (kept_writeResult _ _ h)).trans (ih _)
  exact (fold _ s).trans (.of_source rfl)

theorem kept_cancelArmed (s : State) (n : Nat) : SameRaise s (cancelArmed s) n := .of_sources n (cancelArmed_sources s)

theorem kept_raiseNotice (s : State) {n m : Nat} (p1 p2 p3 : U32) (h : m ≠ n) : SameRaise s (raiseNotice s n p1 p2 p3) m := by
  unfold raiseNotice
  split
  · exact .refl s m
  · exact .of_source (recordRaise_source_ne s false p1 p2 p3 h)

theorem kept_failAttempt (s : State) (ln : Lane) (result : U8) {n : Nat} (h : Bystander n) : SameRaise s (failAttempt s ln result) n := by
  obtain ⟨ha, hb, hl, -⟩ := h
  have other : n ≠ laneBase ln + 6 := by cases ln <;> assumption
  have lane (f : LaneSt → LaneSt) : SameRaise s (modLane s ln f) n := .of_source rfl
  unfold failAttempt
  exact (lane _).trans (kept_raiseNotice _ _ _ _ other)

theorem kept_abortAttempts (s : State) {n : Nat} (h : Bystander n) : SameRaise s (abortAttempts s) n := by
  have step (x : State) (ln : Lane) : SameRaise x (if attempting (x.lanes.get ln) then failAttempt x ln 6 else x) n := by
    split
    · exact kept_failAttempt x ln 6 h
    · exact .refl x n
  exact ((step s .a).trans (step _ .b)).trans (step _ .l)

theorem kept_lapseRequest (s : State) {n : Nat} (h : n ≠ 111) : SameRaise s (lapseRequest s) n := by
  unfold lapseRequest
  split
  · exact .refl s n
  · exact .of_source (by rw [pushEvent_source h]; rfl)

/-- A source at a change of mode: its window stops or goes on (R368). -/
def carriedWindow (now : Time) (was : Bool) (n : Nat) (x : SourceSt) : SourceSt :=
  if srcHandler n = 1 ∧ x.pending then
    { x with elapsed := if was then x.elapsed + (now - x.ticked) else x.elapsed, ticked := now }
  else x

theorem carriedWindow_held (now : Time) (was : Bool) (n : Nat) (x : SourceSt) : held (carriedWindow now was n x) = held x := by
  unfold carriedWindow; split <;> rfl

/-- The windows that stop or go on keep what was recorded of a raise. -/
theorem kept_carryWindows (s : State) (was : Bool) {n : Nat} (h : held (source s n) ≠ {}) : SameRaise s (carryWindows s was) n := by
  have same := carriedWindow_held s.now was n (source s n)
  have carried : source (carryWindows s was) n = carriedWindow s.now was n (source s n) :=
    tget_tmap (t := s.constable.sources) (n := n) _ (carriedWindow s.now was) (ne_default_of_held h)
      (ne_default_of_held (same.trans_ne h))
  exact (congrArg held carried).trans same

theorem kept_endForce (s : State) {n : Nat} (m : Nat) (h : held (source s n) ≠ {}) : SameRaise s (endForce s m) n := by
  by_cases hm : n = m
  · subst hm
    let ended (x : SourceSt) : SourceSt := { x with setting := 0, assertedR := .bit (x.asserted && (x.pending || x.reported)) }
    have same : held (ended (source s n)) = held (source s n) := rfl
    exact (congrArg held (modSource_source s ended (ne_default_of_held (same.trans_ne h)))).trans same
  · exact .of_source (modSource_source_ne s _ hm)

theorem kept_foldl_endForce (l : List (Nat × SourceSt)) (s : State) {n : Nat} (h : held (source s n) ≠ {}) :
    SameRaise s (l.foldl (fun st e => endForce st e.1) s) n := by
  induction l generalizing s with
  | nil => exact .refl s n
  | cons e l ih =>
    have first := kept_endForce s e.1 h
    exact first.trans (ih _ (first.held_ne h))

/-- A change of mode keeps it too. -/
theorem kept_setMode (s : State) (m : Mode) (cause : U32) {n : Nat} (h : held (source s n) ≠ {}) : SameRaise s (setMode s m cause) n := by
  unfold setMode
  split
  · exact .refl s n
  · dsimp only
    have carried := kept_carryWindows s (windowsRun s.modes.mode) h
    have booked : SameRaise s (bookEvent { carryWindows s (windowsRun s.modes.mode) with modes := {
        (carryWindows s (windowsRun s.modes.mode)).modes with
          mode := m, previous := s.modes.mode, since := s.now,
          lanesAtEntry := if m = .safeState ∨ m = .shutdown then lanesNow s else s.modes.lanesAtEntry } } 0x0010
        (u32 (modeCode m)) (u32 (modeCode s.modes.mode)) cause) n := carried.trans (.of_source (by simp; rfl))
    split
    · exact booked.trans (kept_foldl_endForce _ _ (booked.held_ne h))
    · exact booked

theorem kept_cyc (s : State) (c : CycleSt) (n : Nat) : SameRaise s { s with cyc := c } n := .of_source rfl
theorem kept_countUp (s : State) (sub k n : Nat) : SameRaise s (countUp s sub k) n := .of_source rfl
theorem kept_giveUp (s : State) (n : Nat) : SameRaise s (twinNotice (recordGiveUp s 0 none32) 1) n :=
  .of_sources n (by simp [recordGiveUp, bookEvent])

/-- Entering Safe State keeps what was recorded of the raise that leads there. -/
theorem kept_enterSafeState (s : State) (src : U8) {n : Nat} (hn : Bystander n) (h : held (source s n) ≠ {}) :
    SameRaise s (enterSafeState s src) n := by
  have lines : SameRaise s (stopKillLines s src) n := .of_sources n (by unfold stopKillLines; split <;> rfl)
  unfold enterSafeState
  split
  case h_4 =>
    have aborted : SameRaise s (abortAttempts (cancelArmed (flushCommands
        { stopKillLines s src with cyc := { (stopKillLines s src).cyc with running := false } }))) n :=
      (((lines.trans (kept_cyc _ _ n)).trans (kept_flushCommands _ hn.2.2.2)).trans (kept_cancelArmed _ n)).trans
        (kept_abortAttempts _ hn)
    have lapsed := aborted.trans (kept_lapseRequest _ hn.2.2.2)
    have moved := (lapsed.trans (kept_setMode _ .safeState (u32 src.toNat) (lapsed.held_ne h))).trans
      (kept_countUp _ 7 1 n)
    dsimp only
    split
    · exact moved.trans (kept_giveUp _ n)
    · exact moved
  all_goals exact lines

/-! ### Losing a lane while two are in the vote (R62) -/

theorem voters_of_lanes {s x : State} (h : x.lanes = s.lanes) : voters x = voters s := by
  have hv : inVote x = inVote s := by funext k; simp only [inVote, h]
  simp only [voters, hv]

theorem Votes.on {s : State} (h : Votes s) : On s := by
  rcases h with h | h | h | h | h | h <;> simp [On, h]

/-- With two lanes in the vote the loss leads to Safe State. -/
theorem answers_lastPair {c : Instr} {t : Time} {s x : State} {f : State → State} {ln : Lane} {n : Nat} {p1 p2 p3 : U32}
    (hc : exec c s = at_ t s f) (hf : f (s.atTime t) = raise x n p1 p2 p3) (two : (voters s).length = 2) (hm : Votes s)
    (hv : inVote s ln = true) (hx : Reports s x ln) (ht : x.now = t) (hr : Raisable s t n)
    (hl : srcClass n = 2 ∧ srcLane n p1 = some ln) :
    Answers c s fun s' => Stopped s' ∧ inVote s' ln = false := by
  refine answers_at hc fun s' close => ?_
  obtain ⟨cls, lane⟩ := hl
  obtain ⟨quiet, tick⟩ := hx.raisable ht hr
  have twoX : (voters (recordRaise x n false p1 p2 p3)).length = 2 := by
    rw [← two, ← hx.voters, voters_of_lanes (s := x) (by simp)]
  have modeX : Votes (recordRaise x n false p1 p2 p3) := by simpa [Votes, hx.mode] using hm
  have inX : inVote (recordRaise x n false p1 p2 p3) ln = true := by simpa [inVote, hx.state] using hv
  have lost : f (s.atTime t) = enterSafeState (laneOut (recordRaise x n false p1 p2 p3) ln n) (u8 n) := by
    rw [hf, raise_quiet quiet tick, cls]
    simp only [classEffect, lane]
    exact excludeLane_two twoX modeX inX n
  rw [lost] at close
  have on : On (laneOut (recordRaise x n false p1 p2 p3) ln n) := by simpa [On] using modeX.on
  refine ⟨(enterSafeState_stopped on _).closed close, ?_⟩
  have out := enterSafeState_inVote (u8 n) (inVote_laneOut_self (recordRaise x n false p1 p2 p3) ln n)
  simpa only [inVote, close.lanes] using out

/-- Settles O7: the lane is out first, then too few remain. -/
theorem secondLaneLostStops : Obligations.SecondLaneLostStops := by
  intro t held s ln mill stage p x y v w two hm
  have notSplit : s.modes.mode ≠ .split := by rcases hm with h | h | h | h | h | h <;> simp [h]
  refine ⟨fun hv hr => ?_, fun hv long hr => ?_, fun hl hv hxy hr => ?_, fun hv hvw hr => ?_⟩
  · exact answers_lastPair (illegalDualRail_reports t s ln stage) rfl two hm hv (reports_illegal ln _ _) rfl hr
      (laneSource ln (Nat.zero_le 5) _)
  · exact answers_lastPair (handshakeStall_reports long s ln stage) rfl two hm hv (reports_stalls ln _ _) rfl hr
      (laneSource ln (by decide) _)
  · have both : ¬ (mill = .l ∨ (s.atTime t).modes.mode = .split ∨ x = y) := by simpa using ⟨hl, notSplit, hxy⟩
    exact answers_lastPair (retirementMismatch_eq t s mill p x y) (if_neg both) two hm hv (reports_stores mill) rfl hr
      (laneSource mill (by decide) _)
  · exact answers_lastPair (loomSliceMismatch_eq t s p v w) (if_neg hvw) two hm hv (reports_atTime s t .l) rfl hr ⟨rfl, rfl⟩

/-! ### A Module-class source (R366) -/

/-- The effect of a Module-class source is the entry into Safe State. -/
theorem raise_module {x : State} {n : Nat} (hr : Quiet x n ∧ tickClass x ≤ srcClass n) (hn : srcClass n = 3) (p1 p2 p3 : U32) :
    raise x n p1 p2 p3 = enterSafeState (recordRaise x n false p1 p2 p3) (u8 n) := by
  rw [raise_quiet hr.1 hr.2, hn]; rfl

/-- What is recorded of the source, and where Kutia stands, when its command has ended. -/
theorem moduleStops_of_entry {s x y s' : State} {n : Nat} {p1 p2 p3 : U32} {src : U8} (on : On y) (sources : source x n = source s n)
    (raised : SameRaise (recordRaise x n false p1 p2 p3) y n) (now : y.now = x.now) (hn : Bystander n)
    (close : Closed s (enterSafeState y src) s') : ModuleStops s s' n p1 p2 p3 := by
  have listed : held (source (recordRaise x n false p1 p2 p3) n) ≠ {} := by
    rw [recordRaise_source]
    intro h
    exact absurd (congrArg SourceSt.params h) (by simp [held])
  have entered := raised.trans (kept_enterSafeState y src hn (raised.held_ne listed))
  refine ⟨(enterSafeState_stopped on src).closed close, ?_⟩
  exact raised_of_kept sources (entered.trans (.of_source (close.source n hn.2.2.2))).kept (by rw [close.now]; simp [now])

/-- A command that reports a Module-class source in a mode that is on. -/
theorem answers_moduleStops {c : Instr} {t : Time} {s x : State} {f : State → State} {n : Nat} {p1 p2 p3 : U32}
    (hc : exec c s = at_ t s f) (hf : f (s.atTime t) = raise x n p1 p2 p3) (on : On x) (con : x.constable = s.constable)
    (ht : x.now = t) (hr : Raisable s t n) (cls : srcClass n = 3) (hn : Bystander n) :
    Answers c s fun s' => ModuleStops s s' n p1 p2 p3 ∧ Closed s (enterSafeState (recordRaise x n false p1 p2 p3) (u8 n)) s' := by
  refine answers_at hc fun s' close => ?_
  have sources : source x n = source s n := by simp only [source, con]
  have raisable : Quiet x n ∧ tickClass x ≤ srcClass n := by
    have tick : tickClass x = tickClass (s.atTime t) := by unfold tickClass tickNow; rw [con, ht]; rfl
    exact ⟨by simpa only [Quiet, sources] using hr.1, tick ▸ hr.2⟩
  rw [hf, raise_module raisable cls] at close
  exact ⟨moduleStops_of_entry (by simpa [On] using on) sources (.refl _ n) (by simp) hn close, close⟩

theorem on_of_cyclic {s : State} (h : cyclic s.modes.mode = true) : On s := by
  refine ⟨?_, ?_, ?_⟩ <;> intro hm <;> simp [hm, cyclic] at h

/-- A notice to the twin leaves the cause of the last give-up. -/
@[simp] theorem twinNotice_giveCause (s : State) (code : Nat) : (twinNotice s code).twin.giveCause = s.twin.giveCause := by
  unfold twinNotice sendTwin; split <;> rfl
@[simp] theorem recordGiveUp_giveCause (s : State) (cause : Nat) (snap : U32) :
    (recordGiveUp s cause snap).twin.giveCause = u8 cause := by simp [recordGiveUp]

/-- An active module that enters Safe State gives up control with cause 0 (R399). -/
theorem enterSafeState_giveCause {s : State} (h : On s) (active : s.twin.role = .active) (src : U8) :
    (enterSafeState s src).twin.giveCause = 0 := by
  obtain ⟨hoff, hshut, hsafe⟩ := h
  unfold enterSafeState
  split
  case h_1 hm => exact absurd hm hoff
  case h_2 hm => exact absurd hm hshut
  case h_3 hm => exact absurd hm hsafe
  case h_4 =>
    dsimp only
    rw [if_pos active, twinNotice_giveCause, recordGiveUp_giveCause]
    rfl

/-! ### The commands of O8 -/

theorem answers_genericSplit {t : Time} {s : State} (cyc : cyclic s.modes.mode = true) (three : 3 ≤ s.vote.split)
    (hr : Raisable s t 56) :
    Answers (.genericSplit t) s fun s' =>
      ModuleStops s s' 56 0xFF s.cyc.number (u32 (bitmap (allLanes.map fun ln => (onTime s).contains ln))) := by
  have hc := (rfl : exec (.genericSplit t) s = at_ t s _)
  exact (answers_moduleStops hc (if_pos ⟨three, cyc⟩) (on_of_cyclic cyc) rfl rfl hr rfl (by decide)).imp fun _ h => h.1

theorem answers_programSplit {t : Time} {s : State} (cyc : cyclic s.modes.mode = true) (three : 3 ≤ s.vote.prog)
    (hr : Raisable s t 57) :
    Answers (.programSplit t) s fun s' =>
      ModuleStops s s' 57 0xFF s.cyc.number none32 ∧ s'.vote.comparing = some t := by
  have hc := (rfl : exec (.programSplit t) s = at_ t s _)
  exact (answers_moduleStops hc (if_pos ⟨three, cyc⟩) (on_of_cyclic cyc) rfl rfl hr rfl (by decide)).imp fun _ h =>
    ⟨h.1, by rw [h.2.vote]; simp [State.atTime]⟩

theorem answers_degradedLLimit {t : Time} {s : State} (run : s.cyc.running = true) (on : On s) (runs : s.vote.limitRuns = true)
    (due : s.vote.limitAt + s.vote.limitLeft ≤ t) (out : inVote s .l = false) (join : joinDue s .l = false) (hr : Raisable s t 55) :
    Answers (.degradedLLimitExpiry t) s fun s' => ModuleStops s s' 55 2 s.cyc.number (u32 s.vote.deglh) := by
  have cond : (s.atTime t).cyc.running ∧ (s.atTime t).vote.limitRuns ∧
      (s.atTime t).vote.limitAt + (s.atTime t).vote.limitLeft ≤ (s.atTime t).now ∧ inVote (s.atTime t) .l = false :=
    ⟨run, runs, due, out⟩
  have stays : ¬ joinDue (s.atTime t) .l = true := by
    have : joinDue (s.atTime t) .l = joinDue s .l := rfl
    simp [this, join]
  have hc := (rfl : exec (.degradedLLimitExpiry t) s = at_ t s _)
  exact (answers_moduleStops hc ((if_pos cond).trans (if_neg stays)) on rfl rfl hr rfl (by decide)).imp fun _ h => h.1

theorem answers_startTimeout {t : Time} {s : State} (hm : s.modes.mode = .start ∨ s.modes.mode = .watch)
    (due : s.modes.startAt + sec 90 ≤ t) (hr : Raisable s t 7) :
    Answers (.startTimeout t) s fun s' =>
      ModuleStops s s' 7 (u32 s.modes.step) (u32 ((t - s.modes.startAt) / ms 1)) none32 := by
  have on : On (s.atTime t) := by rcases hm with h | h <;> simp [On, h]
  have hc := (rfl : exec (.startTimeout t) s = at_ t s _)
  exact (answers_moduleStops hc (if_pos ⟨hm, due⟩) on rfl rfl hr rfl (by decide)).imp fun _ h => h.1

theorem answers_twoActive {t : Time} {s : State} {bcyc : Fin 64} {pos : Fin 200} (on : On s) (two : 2 ≤ s.bus.diffRun)
    (active : s.twin.role = .active) (paired : pairedZone s = true) (posB : atPosA s = false) (hr : Raisable s t 122) :
    Answers (.twoActiveDetected t bcyc pos) s fun s' =>
      ModuleStops s s' 122 (u32 s.host.position) (u32 bcyc.val) (u32 pos.val) ∧ s'.twin.giveCause = 0 := by
  have cond : 2 ≤ (s.atTime t).bus.diffRun ∧ (s.atTime t).twin.role = .active ∧ pairedZone (s.atTime t) ∧ atPosA (s.atTime t) = false :=
    ⟨two, active, paired, posB⟩
  have hc := (rfl : exec (.twoActiveDetected t bcyc pos) s = at_ t s _)
  exact (answers_moduleStops hc (if_pos cond) on rfl rfl hr rfl (by decide)).imp fun s' h =>
    ⟨h.1, by rw [h.2.twin]; exact enterSafeState_giveCause (by simpa [On] using on) (by simpa using active) _⟩

/-! ### The Grave latch -/

/-- The Constable's state once its registers differ (R372): the lines stop and the latch is set. -/
def graveStop (s : State) : State :=
  { stopKillLines s 12 with constable := { (stopKillLines s 12).constable with graveR := .bit true } }

theorem graveStop_rest (s : State) :
    (graveStop s).constable.sources = s.constable.sources ∧ tickClass (graveStop s) = tickClass s ∧ (graveStop s).modes = s.modes ∧
      (graveStop s).now = s.now := by
  unfold graveStop tickClass tickNow stopKillLines
  split <;> exact ⟨rfl, rfl, rfl, rfl⟩

theorem foldl_endForce_grave (l : List (Nat × SourceSt)) (s : State) :
    (l.foldl (fun st e => endForce st e.1) s).constable.grave = s.constable.grave := by
  induction l generalizing s with
  | nil => rfl
  | cons e l ih => exact ih _

theorem setMode_grave (s : State) (m : Mode) (cause : U32) : (setMode s m cause).constable.grave = s.constable.grave := by
  unfold setMode
  dsimp only
  split
  · rfl
  · split
    · rw [foldl_endForce_grave, (bookEvent_lines _ _ _ _ _).2]; rfl
    · rw [(bookEvent_lines _ _ _ _ _).2]; rfl

theorem raiseNotice_grave (s : State) (n : Nat) (p1 p2 p3 : U32) : (raiseNotice s n p1 p2 p3).constable.grave = s.constable.grave := by
  unfold raiseNotice
  split
  · rfl
  · exact (recordRaise_lines s n false p1 p2 p3).2

theorem failAttempt_grave (s : State) (ln : Lane) (result : U8) : (failAttempt s ln result).constable.grave = s.constable.grave := by
  unfold failAttempt
  exact raiseNotice_grave _ _ _ _ _

theorem abortAttempts_grave (s : State) : (abortAttempts s).constable.grave = s.constable.grave := by
  have step (x : State) (ln : Lane) :
      (if attempting (x.lanes.get ln) then failAttempt x ln 6 else x).constable.grave = x.constable.grave := by
    split
    · exact failAttempt_grave x ln 6
    · rfl
  exact (step _ .l).trans ((step _ .b).trans (step s .a))

theorem cancelArmed_grave (s : State) : (cancelArmed s).constable.grave = s.constable.grave := by
  unfold cancelArmed
  split
  · exact (bookEvent_lines _ _ _ _ _).2
  · rfl

theorem lapseRequest_grave (s : State) : (lapseRequest s).constable.grave = s.constable.grave := by
  unfold lapseRequest
  split
  · rfl
  · exact (pushEvent_lines _ _ _).2

theorem flushCommands_grave (s : State) : (flushCommands s).constable.grave = s.constable.grave := by
  have fold (l : List Command) (x : State) :
      (l.foldl (fun st c => writeResult (noteResult st c 0x15 none32) (resultOf st c 0x15 none32)) x).constable.grave =
        x.constable.grave := by
    induction l generalizing x with
    | nil => rfl
    | cons c l ih => rw [List.foldl_cons, ih, writeResult, (pushEvent_lines _ _ _).2]; simp
  exact fold _ s

theorem stopKillLines_grave (s : State) (src : U8) : (stopKillLines s src).constable.grave = s.constable.grave := by
  unfold stopKillLines; split <;> rfl

/-- The entry leaves the latch. -/
theorem enterSafeState_grave (s : State) (src : U8) : (enterSafeState s src).constable.grave = s.constable.grave := by
  unfold enterSafeState
  split
  case h_4 =>
    dsimp only
    split <;> simp [recordGiveUp, setMode_grave, lapseRequest_grave, abortAttempts_grave, cancelArmed_grave, flushCommands_grave,
      stopKillLines_grave]
  all_goals exact stopKillLines_grave s src

theorem kept_graveR (s : State) (r : Rails 1) (n : Nat) : SameRaise s { s with constable := { s.constable with graveR := r } } n :=
  .of_source rfl

/-- The registers differ (R372): the Grave source stops the lines before it is recorded, and the latch is set. -/
theorem answers_registerMismatch {t : Time} {s : State} {reg x y : U32} (on : On s) (hr : Raisable s t 12) :
    Answers (.constableRegisterMismatch t reg x y) s fun s' =>
      ModuleStops s s' 12 reg x y ∧ s'.constable.grave = true := by
  have hc : exec (.constableRegisterMismatch t reg x y) s = at_ t s fun s => raise (graveStop s) 12 reg x y := rfl
  refine answers_at hc fun s' close => ?_
  obtain ⟨sources, tick, modes, now⟩ := graveStop_rest (s.atTime t)
  have source12 : source (graveStop (s.atTime t)) 12 = source s 12 := by simp only [source, sources]; rfl
  have quiet : Quiet (graveStop (s.atTime t)) 12 := by simpa only [Quiet, source12] using hr.1
  have raised : raise (graveStop (s.atTime t)) 12 reg x y =
      enterSafeState { recordRaise (graveStop (s.atTime t)) 12 false reg x y with
        constable := { (recordRaise (graveStop (s.atTime t)) 12 false reg x y).constable with graveR := .bit true } } 12 :=
    raise_quiet quiet (by rw [tick]; exact hr.2) reg x y
  rw [raised] at close
  refine ⟨moduleStops_of_entry (x := graveStop (s.atTime t)) ?_ source12 (kept_graveR _ _ 12) (by simp) (by decide) close, ?_⟩
  · simpa [On, modes] using on
  · rw [close.grave, enterSafeState_grave]
    rfl

/-- Settles O8: source 55's P1 of 2 is the model's choice (log 118), and P3 = FFFFFFFFh of source 7 stands for the table's dash
(log 34, DEDUCED). -/
theorem moduleFaultsStopKutia : Obligations.ModuleFaultsStopKutia := by
  intro t s reg x y bcyc pos
  refine ⟨?_, ?_, ?_, ?_, ?_, ?_⟩
  · exact answers_genericSplit
  · exact answers_programSplit
  · exact answers_degradedLLimit
  · exact answers_startTimeout
  · exact answers_registerMismatch
  · exact answers_twoActive

/-- No reserved source reports a state. -/
theorem srcIsState_reserved {n : Nat} (h : srcReserved n = true) : srcIsState n = false := by
  by_contra hs
  have listed : n ∈ [1, 2, 6, 63, 64, 65, 66, 67, 70, 71, 78, 80, 81, 117, 121, 124, 125, 126] := by
    simpa only [srcIsState, Bool.not_eq_false, decide_eq_true_eq] using hs
  have none : ∀ k ∈ [1, 2, 6, 63, 64, 65, 66, 67, 70, 71, 78, 80, 81, 117, 121, 124, 125, 126], srcReserved k = false := by decide
  simp [none n listed] at h

/-- Settles O10: the check of the reservation is the first of the raise, and no reserved source reports a state. -/
theorem reservedSourcesAreNeverRaised : Obligations.ReservedSourcesAreNeverRaised := by
  intro s n forced p1 p2 p3 reserved
  have never : ∀ forced, raiseWith s n forced p1 p2 p3 = s := fun forced => by simp [raiseWith, reserved]
  have idle : raise s n p1 p2 p3 = s := by simp [raise, srcIsState_reserved reserved, never]
  exact ⟨never forced, by rw [idle], by rw [idle]⟩

end Sys2Proof.Machine
end

section
/-!
PROOFS. Sources (R350, R366 to R377): their acknowledgement, the end of their window, the seal of a stopped Kutia, the proof of the
checkers, and forces.
-/

namespace Sys2Proof.Machine

/-! ### Acknowledgement (R368, R377) -/

/-- An acknowledgement acts on its source when it counts. -/
def acknowledged (n : Nat) (who : Acknowledger) (s : State) : State := if ackCounts s n who then acknowledge s n else s

theorem faultAcknowledge_eq (t : Time) (s : State) (src : Fin 128) (who : Acknowledger) :
    exec (.faultAcknowledge t src who) s = at_ t s fun s =>
      acknowledged src.val who (if windowExpired s src.val then escalate s src.val else s) := rfl

theorem acknowledged_rest (n : Nat) (who : Acknowledger) (s : State) :
    (acknowledged n who s).modes = s.modes ∧ (acknowledged n who s).cyc = s.cyc ∧ (acknowledged n who s).twin = s.twin ∧
      (acknowledged n who s).update = s.update ∧ (acknowledged n who s).lanes = s.lanes ∧ (acknowledged n who s).change = s.change ∧
      (acknowledged n who s).pending = s.pending ∧ (acknowledged n who s).constable.kill = s.constable.kill := by
  unfold acknowledged
  split <;> exact ⟨rfl, rfl, rfl, rfl, rfl, rfl, rfl, rfl⟩

/-- Only a source that has a handler is acknowledged, and its class is none of a Notice. -/
theorem srcClass_of_ackCounts {s : State} {n : Nat} {who : Acknowledger} (h : ackCounts s n who = true) : srcClass n ≠ 0 := by
  intro hc
  have none : srcHandler n = 0 := by simp [srcHandler, hc]
  cases who <;> simp [ackCounts, none] at h

/-- An acknowledgement takes no escalation back. -/
theorem acknowledged_escalations (n : Nat) (who : Acknowledger) (s : State) :
    (source (acknowledged n who s) n).escalations = (source s n).escalations := by
  unfold acknowledged
  split
  case isTrue h =>
    rw [acknowledge, modSource_source]
    exact fun he => srcClass_of_ackCounts h (congrArg SourceSt.effective he)
  case isFalse => rfl

/-- An acknowledgement within the window acts on its source, or on nothing. -/
theorem faultAcknowledge_runs {t : Time} {s r : State} {src : Fin 128} {who : Acknowledger}
    (early : windowExpired (s.atTime t) src.val = false) (hr : acknowledged src.val who (s.atTime t) = r) :
    Runs (.faultAcknowledge t src who) s r := by
  obtain ⟨modes, -, twin, update, lanes, change, pending, -⟩ := acknowledged_rest src.val who (s.atTime t)
  rw [hr] at modes twin update lanes change pending
  exact runs_at (faultAcknowledge_eq t s src who) (by rw [early]; exact hr) (by rw [modes]; rfl) (by rw [modes]; exact ⟨rfl, rfl⟩)
    (by rw [twin]; rfl) (by rw [update]; rfl) lanes (by rw [change]; rfl) pending

theorem ackCounts_lanes {s : State} {n : Nat} {l : List Lane} (handler : srcHandler n = 1) (voted : votedAck s l = true)
    (pending : (source s n).pending = true) (free : (source s n).setting ≠ 2) :
    ackCounts s n (.lanes l) = true := by
  have held : ((source s n).setting == 2) = false := beq_eq_false_iff_ne.mpr free
  simp only [ackCounts, handler, voted, pending, held]
  rfl

theorem ackCounts_steward {s : State} {n : Nat} {t : Time} (handler : srcHandler n = 2) (serves : Serves s t)
    (pending : (source s n).pending = true) (free : (source s n).setting ≠ 2) : ackCounts (s.atTime t) n .steward = true := by
  have served : stewardServes (s.atTime t) = true := by simp [stewardServes, State.atTime, serves.1, serves.2]
  have pending' : (source (s.atTime t) n).pending = true := pending
  have held : ((source (s.atTime t) n).setting == 2) = false := beq_eq_false_iff_ne.mpr free
  simp only [ackCounts, handler, served, pending', held]
  rfl

theorem ackCounts_not_pending {s : State} {n : Nat} (pending : (source s n).pending = false) (who : Acknowledger) :
    ackCounts s n who = false := by
  cases who <;> simp [ackCounts, pending]

/-! ### The end of a window (R369) -/

/-- A source just escalated. -/
def escalated (s : State) (n : Nat) (y : SourceSt) : SourceSt :=
  { y with
    effective := srcEffective n (source s n) + 1, escalatedR := .bit true, escalations := y.escalations + 1,
    inForce := if srcHandler n = 1 then max (classWindow (srcEffective n (source s n) + 1)) (2 * s.cyc.c)
      else classWindow (srcEffective n (source s n) + 1), elapsed := 0, ticked := s.now }

/-- The state that the effect of the new class finds: the record in the queue, and the source. -/
def noteEscalation (s : State) (n : Nat) : State :=
  modSource (bookPush s (bookRec s (n / 16 * 0x1000 + 0x810 + n % 16) n (srcEffective n (source s n) + 1) (source s n).forcedRaise
    (u32 (srcEffective n (source s n) + 1)) (u32 (source s n).inForce) (source s n).raisedSeq)) n (escalated s n)

theorem noteEscalation_source (s : State) (n : Nat) : source (noteEscalation s n) n = escalated s n (source s n) := by
  have listed : escalated s n (source s n) ≠ {} := fun h => by
    have := congrArg SourceSt.effective h
    simp [escalated] at this
  exact (modSource_source _ _ (by rw [bookPush_source]; exact listed)).trans (by rw [bookPush_source])

/-- From Lane class on the escalation enters Safe State; at Grave class the latch is set before. -/
theorem escalate_stops {s : State} {n : Nat} (low : 2 ≤ srcEffective n (source s n)) (high : srcEffective n (source s n) ≤ 3) :
    ∃ y, escalate s n = enterSafeState y (u8 n) ∧ y.modes = s.modes ∧ source y n = escalated s n (source s n) ∧
      (srcEffective n (source s n) = 3 → y.constable.grave = true) := by
  have noted := noteEscalation_source s n
  obtain h | h : srcEffective n (source s n) = 2 ∨ srcEffective n (source s n) = 3 := by omega
  · refine ⟨noteEscalation s n, ?_, by simp [noteEscalation], noted, by omega⟩
    unfold escalate noteEscalation escalated
    simp only [h]
    rfl
  · refine ⟨{ noteEscalation s n with constable := { (noteEscalation s n).constable with graveR := .bit true } }, ?_,
      by simp [noteEscalation], noted, fun _ => rfl⟩
    unfold escalate noteEscalation escalated
    simp only [h]
    rfl

/-- What the escalation leaves, to the end of its command. -/
theorem escalate_source {s : State} {n : Nat} (on : On s) (hn : n ∉ ([22, 38, 54, 111] : List Nat))
    (low : 2 ≤ srcEffective n (source s n)) (high : srcEffective n (source s n) ≤ 3) :
    Stopped (escalate s n) ∧ held (source (escalate s n) n) = held (escalated s n (source s n)) ∧
      (srcEffective n (source s n) = 3 → (escalate s n).constable.grave = true) := by
  obtain ⟨y, enters, modes, src, grave⟩ := escalate_stops low high
  have by_ : Bystander n := by simpa [Bystander] using hn
  have listed : held (source y n) ≠ {} := by
    rw [src]
    intro h
    have := congrArg SourceSt.effective h
    simp [escalated, held] at this
  refine ⟨?_, ?_, fun h => ?_⟩
  · rw [enters]; exact enterSafeState_stopped (by simpa [On, modes] using on) _
  · rw [enters, kept_enterSafeState y (u8 n) by_ listed, src]
  · rw [enters, enterSafeState_grave]; exact grave h

theorem reactionWindowExpiry_eq (t : Time) (s : State) (src : Fin 128) :
    exec (.reactionWindowExpiry t src) s = at_ t s fun s => if windowExpired s src.val then escalate s src.val else s := rfl

/-- Settles O15: an open window leaves the source to its acknowledgement, an expired one escalates it first. -/
theorem acknowledgementsAndWindows : Obligations.AcknowledgementsAndWindows := by
  refine ⟨fun t s src l => ⟨fun early => ⟨?_, ?_, ?_, ?_, ?_⟩, fun expired on hn low high who => ?_⟩,
    fun t s src => ⟨fun early => ?_, fun expired on hn low high => ?_⟩⟩
  · exact fun handler voted pending free => faultAcknowledge_runs early (if_pos (ackCounts_lanes (s := s.atTime t) handler voted pending free))
  · exact fun handler serves pending free => faultAcknowledge_runs early (if_pos (ackCounts_steward handler serves pending free))
  · exact fun pending who => faultAcknowledge_runs early (if_neg (by simp [ackCounts_not_pending (s := s.atTime t) pending]))
  · refine fun other => faultAcknowledge_runs early (if_neg ?_)
    have not_voted : votedAck (s.atTime t) l = votedAck s l := rfl
    rcases other with other | other <;> simp [ackCounts, other, not_voted]
  · exact fun other => faultAcknowledge_runs early (if_neg (by simp [ackCounts, other]))
  · obtain ⟨stopped, same, -⟩ := escalate_source (s := s.atTime t) on hn low high
    refine answers_at (faultAcknowledge_eq t s src who) fun s' close => ?_
    rw [if_pos expired] at close
    have n111 : src.val ≠ 111 := fun h => hn (by simp [h])
    obtain ⟨modes, cyc, -, -, -, -, -, kill⟩ := acknowledged_rest src.val who (escalate (s.atTime t) src.val)
    refine ⟨Stopped.closed ?_ close, ?_⟩
    · obtain ⟨hk, hr, hm⟩ := stopped
      exact ⟨kill.trans hk, by rw [cyc]; exact hr, by rw [modes]; exact hm⟩
    · have count : (source (escalate (s.atTime t) src.val) src.val).escalations = (source s src.val).escalations + 1 :=
        congrArg (·.escalations) same
      rw [close.source _ n111, acknowledged_escalations, count]
  · exact runs_at (reactionWindowExpiry_eq t s src) (if_neg (by rw [early]; simp)) rfl ⟨rfl, rfl⟩ rfl rfl rfl rfl rfl
  · obtain ⟨stopped, same, grave⟩ := escalate_source (s := s.atTime t) on hn low high
    refine answers_at (reactionWindowExpiry_eq t s src) fun s' close => ?_
    rw [if_pos expired] at close
    have n111 : src.val ≠ 111 := fun h => hn (by simp [h])
    rw [close.source _ n111, close.grave]
    exact ⟨stopped.closed close, congrArg (·.effective) same, congrArg (·.escalated) same, congrArg (·.escalations) same, grave⟩

/-! ### The seal and the sweep (R350, R374, R375) -/

theorem sealChanged_eq (t : Time) (s : State) (w : BitVec 24) :
    exec (.sealChangedWhileStopped t w) s = at_ t s fun s => if s.modes.mode = .shutdown then sealWhileStopped s w else s := rfl

theorem sealSample_eq (t : Time) (s : State) (w : BitVec 24) :
    exec (.constableSealSample t w) s = at_ t s fun s =>
      if s.modes.mode = .safeState then
        if w = s.modes.sealStart ∧ (source s 2).reported then withdraw (sealWhileStopped s w) 2 else sealWhileStopped s w
      else s := rfl

/-- A changed reading is kept and is event 0014h. -/
theorem sealWhileStopped_changed {s : State} {w : BitVec 24} (h : w ≠ s.modes.sealNow) :
    sealWhileStopped s w = bookEvent (modModes s fun x => { x with sealNow := w }) 0x0014 (u32 s.modes.sealStart.toNat) (u32 w.toNat)
      (u32 (modeCode s.modes.mode)) := if_neg h

/-- An unchanged one is no news. -/
theorem sealWhileStopped_same {s : State} {w : BitVec 24} (h : w = s.modes.sealNow) : sealWhileStopped s w = s := by
  subst h; exact if_pos rfl

theorem checkerProof_eq (t : Time) (s : State) (b : Bool) :
    exec (.checkerProof t b) s = at_ t s fun s =>
      if proofDue s = false then s else
      let s0 := noteProof s
      let n := nextChecker s0
      let s1 := if s0.constable.onDemand then modConstable s0 fun x => { x with provedReq := n + 1 }
        else modConstable s0 fun x => { x with proved := n + 1 }
      let s2 := if checkerCount ≤ n + 1 then sweepDone s1 else s1
      if b then s2 else silentChecker s2 n := rfl

theorem all_false_of_any {o : Option Time} {p q : Time → Bool} (h : o.any p = true) (hpq : ∀ x, p x = true → q x = false) :
    o.all q = false := by
  cases o with
  | none => exact absurd h Bool.false_ne_true
  | some x => exact hpq x h

/-- No proof is due outside the sweep modes, nor within 4.5 s of the one before. -/
theorem proofDue_false {s : State}
    (h : sweepMode s.modes.mode = false ∨ (s.constable.onDemand = false ∧ s.constable.proofAt.any fun x => s.now < x + ms 4500)) :
    proofDue s = false := by
  rcases h with h | ⟨idle, h⟩
  · simp [proofDue, sweepKind, h]
  · have early : s.constable.proofAt.all (fun x => decide (x + ms 4500 ≤ s.now)) = false :=
      all_false_of_any h fun x hx => decide_eq_false (Nat.not_le.mpr (of_decide_eq_true hx))
    by_cases hm : sweepMode s.modes.mode = true
    · have kind : sweepKind s = 1 := by simp [sweepKind, hm, idle]
      rw [proofDue, kind]
      exact early
    · have kind : sweepKind s = 0 := by simp [sweepKind, hm]
      rw [proofDue, kind]
      rfl

/-- The sweep of a proof that reports (R374): the next checker, or the end of the sweep. -/
theorem checkerProof_reports {t : Time} {s r : State} (due : proofDue (s.atTime t) = true) (idle : s.constable.onDemand = false)
    (hr : (if checkerCount ≤ s.constable.proved + 1 then
        sweepDone (modConstable (noteProof (s.atTime t)) fun x => { x with proved := s.constable.proved + 1 })
      else modConstable (noteProof (s.atTime t)) fun x => { x with proved := s.constable.proved + 1 }) = r)
    (rest : r.modes = s.modes ∧ r.twin = s.twin ∧ r.update = s.update ∧ r.lanes = s.lanes ∧ r.change = s.change ∧ r.pending = s.pending) :
    Runs (.checkerProof t true) s r := by
  obtain ⟨modes, twin, update, lanes, change, pending⟩ := rest
  have idle' : (noteProof (s.atTime t)).constable.onDemand = false := idle
  have next : nextChecker (noteProof (s.atTime t)) = s.constable.proved := by
    unfold nextChecker; rw [idle']; rfl
  refine runs_at (checkerProof_eq t s true) ?_ (by rw [modes]) (by rw [modes]; exact ⟨rfl, rfl⟩) (by rw [twin]) (by rw [update]) lanes
    (by rw [change]) pending
  rw [if_neg (by rw [due]; simp)]
  dsimp only
  rw [next, idle', if_neg Bool.false_ne_true, if_pos rfl]
  exact hr

theorem proofSweepOverdue_eq (t : Time) (s : State) :
    exec (.proofSweepOverdue t) s = at_ t s fun s =>
      if max s.constable.sweepEnd s.modes.startAt + sec 90000 ≤ s.now ∧ s.modes.mode ≠ .off then
        raise s 15 (u32 (checkerCount - nextChecker s)) (u32 ((s.now - max s.constable.sweepEnd s.modes.startAt) / sec 3600)) 0
      else s := rfl

/-- Settles O16. -/
theorem sealSamplesAndProofSweeps : Obligations.SealSamplesAndProofSweeps := by
  refine ⟨fun t s w => ⟨?_, ?_, ?_, ?_, ?_⟩, fun t s ch value => ⟨?_, ?_, ?_, ?_, ?_, ?_⟩⟩
  · intro hm changed
    refine runs_at (sealChanged_eq t s w) ?_ (by simp [modModes]) (by simp [modModes]) (by simp) (by simp) (by simp) (by simp) (by simp)
    have news := sealWhileStopped_changed (s := s.atTime t) changed
    rw [if_pos (show (s.atTime t).modes.mode = .shutdown from hm), news, show (s.atTime t).modes.mode = .shutdown from hm]
    rfl
  · exact fun hm => runs_at (sealChanged_eq t s w) (if_neg hm) rfl ⟨rfl, rfl⟩ rfl rfl rfl rfl rfl
  · intro hm changed other
    refine runs_at (sealSample_eq t s w) ?_ (by simp [modModes]) (by simp [modModes]) (by simp) (by simp) (by simp) (by simp) (by simp)
    have news := sealWhileStopped_changed (s := s.atTime t) changed
    rw [if_pos (show (s.atTime t).modes.mode = .safeState from hm), if_neg (fun h => other h.1), news,
      show (s.atTime t).modes.mode = .safeState from hm]
    rfl
  · intro hm start reported same
    refine runs_at (sealSample_eq t s w) ?_ rfl ⟨rfl, rfl⟩ rfl rfl rfl rfl rfl
    rw [if_pos (show (s.atTime t).modes.mode = .safeState from hm), if_pos ⟨start, reported⟩,
      sealWhileStopped_same (s := s.atTime t) same]
  · exact fun hm => runs_at (sealSample_eq t s w) (if_neg hm) rfl ⟨rfl, rfl⟩ rfl rfl rfl rfl rfl
  · intro due idle more
    refine checkerProof_reports due idle (if_neg ?_) ⟨rfl, rfl, rfl, rfl, rfl, rfl⟩
    rw [checkerCount]; omega
  · intro due idle last
    have all : checkerCount ≤ s.constable.proved + 1 := by rw [checkerCount]; omega
    refine checkerProof_reports due idle ((if_pos all).trans ?_) ⟨rfl, rfl, rfl, rfl, rfl, rfl⟩
    simp [sweepDone, modConstable, noteProof, idle, State.atTime]
  · intro h b
    exact runs_at (checkerProof_eq t s b) (if_pos (proofDue_false (s := s.atTime t) h)) rfl ⟨rfl, rfl⟩ rfl rfl rfl rfl rfl
  · intro serves auth one mode idle
    refine runs_write (f := fun s => needAuth s ch.val fun s => writeSweep s value) rfl serves ?_ rfl ⟨rfl, rfl⟩ rfl rfl rfl rfl rfl
    have auth' : authorised (s.atTime t) ch.val = true := auth
    simp [needAuth, auth', writeSweep, refuseUnless, one, mode, idle, modConstable]
  · intro serves auth one refused
    refine runs_refused (f := fun s => needAuth s ch.val fun s => writeSweep s value) rfl serves ?_
    have auth' : authorised (s.atTime t) ch.val = true := auth
    rcases refused with h | h <;> simp [needAuth, auth', writeSweep, refuseUnless, one, h]
  · intro on quiet due
    have minor := raise_minor (s := s.atTime t) (n := 15) quiet (by decide)
    refine runs_at (proofSweepOverdue_eq t s) ((if_pos ⟨due, on⟩).trans (minor _ _ _))
      (by simp) (by simp) (by simp) (by simp) (by simp) (by simp) (by simp)

/-! ### Forces (R377) -/

theorem force_eq (t : Time) (s : State) (ch : Fin 8) (src : Fin 128) (v : U8) :
    exec (.force t ch src v) s = writeAt t s ch.val fun s => needAuth s ch.val fun s => writeForce s src.val v := rfl

/-- What an authorised channel's force is checked for: its value, the class, the mode. -/
theorem needAuth_of_authorised {s : State} {ch : Fin 8} (auth : authorised s ch.val = true) (t : Time) (f : State → Write) :
    needAuth (s.atTime t) ch.val f = f (s.atTime t) := if_pos auth

theorem writeForce_value {s : State} {n : Nat} {v : U8} (h : 2 < v.toNat ∨ (v ≠ 0 ∧ srcReserved n = true)) :
    writeForce s n v = .error 0x0230 := by
  have big : ¬ v.toNat ≤ (if srcReserved n then 0 else 2) := by
    rcases h with h | ⟨hv, hr⟩
    · split <;> omega
    · have : v.toNat ≠ 0 := fun hz => hv (BitVec.eq_of_toNat_eq hz)
      simp [hr, this]
  simp [writeForce, refuseUnless, big]

/-- A value of 1 or 2 on a source that is not reserved passes the first check. -/
theorem writeForce_inRange {s : State} {n : Nat} {v : U8} (low : 1 ≤ v.toNat) (high : v.toNat ≤ 2) (hr : srcReserved n = false) :
    writeForce s n v = refuseUnless (srcClass n ≠ 4) 0x0471 (refuseUnless (s.modes.mode == .testTrack || s.modes.mode == .hold) 0x0470
      (.ok (forceOn s n v))) := by
  have set : v ≠ 0 := fun hz => by subst hz; simp at low
  simp only [writeForce, refuseUnless, hr, Bool.false_eq_true, if_false, high, decide_true, if_true, if_neg set]

/-- A source under a force. -/
def forcedTo (v : U8) (x : SourceSt) : SourceSt := { x with setting := v }

/-- P1 of a forced raise: the lane whose source it is. -/
def forcedP1 (n : Nat) : U32 :=
  match srcLaneFixed n with
  | some ln => u32 (laneNo ln)
  | none => none32

/-- A Notice or Minor source that is not asserted is raised as forced (R377). -/
theorem forceOn_quiet {s : State} {n : Nat} {v : U8} (quiet : Quiet s n) (minor : srcClass n ≤ 1) (set : v ≠ 0) :
    forceOn s n v = recordRaise (modSource s n (forcedTo v)) n true (forcedP1 n) none32 none32 ∧
      source (modSource s n (forcedTo v)) n = forcedTo v (source s n) := by
  obtain ⟨reserved, idle, cls⟩ := quiet
  have listed : forcedTo v (source s n) ≠ {} := fun h => set (congrArg SourceSt.setting h)
  have put := modSource_source s (forcedTo v) listed
  have idle' : (source (modSource s n (forcedTo v)) n).asserted = false := by rw [put]; exact idle
  have eff : raiseClass (modSource s n (forcedTo v)) n ≤ 1 := by
    unfold raiseClass
    rw [put]
    split
    · exact Nat.zero_le 1
    · exact max_le minor (cls.trans minor)
  refine ⟨?_, put⟩
  unfold forceOn raiseWith
  dsimp only
  rw [show (modSource s n fun x => { x with setting := v }) = modSource s n (forcedTo v) from rfl, reserved, idle', recordRaise_effective]
  simp only [Bool.or_self, Bool.false_eq_true, if_false]
  split
  · rfl
  · generalize raiseClass (modSource s n (forcedTo v)) n = k at eff ⊢
    interval_cases k <;> rfl

/-- What a forced raise leaves of its source. -/
theorem forced_source {s : State} {n : Nat} {v : U8} {p1 : U32} (put : source (modSource s n (forcedTo v)) n = forcedTo v (source s n)) :
    let x := source (recordRaise (modSource s n (forcedTo v)) n true p1 none32 none32) n
    x.setting = v ∧ x.asserted = true ∧ x.forcedRaise = true ∧ x.raises = (source s n).raises + 1 := by
  dsimp only
  rw [recordRaise_source, put]
  refine ⟨rfl, ?_, rfl, rfl⟩
  rw [Bool.or_true]
  rfl

theorem answers_force {t : Time} {s : State} {ch : Fin 8} {src : Fin 128} {v : U8} (serves : Serves s t)
    (auth : authorised s ch.val = true) (low : 1 ≤ v.toNat) (high : v.toNat ≤ 2) (minor : srcClass src.val ≤ 1)
    (quiet : Quiet s src.val) (mode : s.modes.mode = .testTrack ∨ s.modes.mode = .hold) :
    Answers (.force t ch src v) s fun s' =>
      (source s' src.val).setting = v ∧ (source s' src.val).asserted = true ∧ (source s' src.val).forcedRaise = true ∧
        (source s' src.val).raises = (source s src.val).raises + 1 ∧ (∀ n, n ≠ src.val → source s' n = source s n) ∧
        Frame [.now, .host, .constable] s s' := by
  have set : v ≠ 0 := fun hz => by subst hz; simp at low
  obtain ⟨forced, put⟩ := forceOn_quiet (s := s.atTime t) quiet minor set
  have grave : srcClass src.val ≠ 4 := by omega
  have mode' : ((s.atTime t).modes.mode == .testTrack || (s.atTime t).modes.mode == .hold) = true := by
    rcases mode with h | h <;> simp [h]
  have accepts : needAuth (s.atTime t) ch.val (fun s => writeForce s src.val v) =
      .ok (recordRaise (modSource (s.atTime t) src.val (forcedTo v)) src.val true (forcedP1 src.val) none32 none32) := by
    rw [needAuth_of_authorised auth, writeForce_inRange low high quiet.1, mode', forced]
    simp [refuseUnless, grave]
  refine ⟨_, runs_write (force_eq t s ch src v) serves accepts (by simp) (by simp) (by simp) (by simp) (by simp) (by simp) (by simp), ?_⟩
  obtain ⟨setting, asserted, byForce, raises⟩ := forced_source (p1 := forcedP1 src.val) put
  refine ⟨setting, asserted, byForce, raises, fun n hn => ?_, fun p hp => ?_⟩
  · exact (recordRaise_source_ne _ true _ _ _ hn).trans (modSource_source_ne _ _ hn)
  · cases p <;> simp [same, accepted] at hp ⊢

/-- Settles O17: the checks in their order, and the raise of a source that acts in its block only. -/
theorem forcesFollowTheirChecks : Obligations.ForcesFollowTheirChecks := by
  intro t s ch src v serves
  refine ⟨fun auth => ?_, fun auth value => ?_, fun auth low high reserved grave => ?_,
    fun auth low high reserved grave test hold => ?_, fun auth low high minor quiet mode => ?_, fun auth zero => ?_⟩
  · exact runs_refused (force_eq t s ch src v) serves (if_neg (by simp [authorised, chanSt] at auth ⊢; exact auth))
  · exact runs_refused (force_eq t s ch src v) serves ((needAuth_of_authorised auth t _).trans (writeForce_value value))
  · refine runs_refused (force_eq t s ch src v) serves ((needAuth_of_authorised auth t _).trans ?_)
    rw [writeForce_inRange low high reserved]
    simp [refuseUnless, grave]
  · refine runs_refused (force_eq t s ch src v) serves ((needAuth_of_authorised auth t _).trans ?_)
    rw [writeForce_inRange low high reserved]
    simp [refuseUnless, grave, test, hold]
  · exact answers_force serves auth low high minor quiet mode
  · refine runs_write (force_eq t s ch src v) serves ((needAuth_of_authorised auth t _).trans ?_) rfl ⟨rfl, rfl⟩ rfl rfl rfl rfl rfl
    subst zero
    simp [writeForce, refuseUnless, endForce]

end Sys2Proof.Machine
end

section
/-!
PROOFS. Re-admission (R65 to R68, R72): the requests, the steps of an attempt, and its end in the vote or in failure.
-/

namespace Sys2Proof.Machine

/-! ### Exits when the lanes' records change, but not who votes -/

/-- The attributes of R311 stay while the lanes in the vote stay. -/
theorem attrs_voters {s r : State} (mode : r.modes.mode = s.modes.mode) (entry : r.modes.lanesAtEntry = s.modes.lanesAtEntry)
    (previous : r.modes.previous = s.modes.previous) (role : r.twin.role = s.twin.role) (state : r.update.state = s.update.state) (hv : voters r = voters s)
    (forces : r.change.forces = s.change.forces) : attributes s = attributes r := by
  simp [attributes, roleNow, lanesNow, hv, forcesPresent, fence, mode, entry, previous, role, state, forces]

/-- Who votes stays when one lane out of the vote stays out, and the others are as they were. -/
theorem voters_of_out {s r : State} {ln : Lane} (was : (s.lanes.get ln).state ≠ 0) (is : (r.lanes.get ln).state ≠ 0)
    (others : ∀ k, k ≠ ln → r.lanes.get k = s.lanes.get k) : voters r = voters s := by
  have hv : inVote r = inVote s := by
    funext k
    by_cases hk : k = ln
    · subst hk; simp [inVote, was, is]
    · simp [inVote, others k hk]
  simp only [voters, hv]

theorem modLane_others (s : State) (ln : Lane) (f : LaneSt → LaneSt) : ∀ k, k ≠ ln → (modLane s ln f).lanes.get k = s.lanes.get k :=
  fun k hk => by simp [modLane, hk]

/-- A command that changes a lane out of the vote into another one out of it. -/
theorem runs_lane {c : Instr} {t : Time} {s r : State} {f : State → State} {ln : Lane} (hc : exec c s = at_ t s f)
    (hr : f (s.atTime t) = r) (was : (s.lanes.get ln).state ≠ 0) (is : (r.lanes.get ln).state ≠ 0)
    (others : ∀ k, k ≠ ln → r.lanes.get k = s.lanes.get k) (mode : r.modes.mode = s.modes.mode)
    (entry : r.modes.lanesAtEntry = s.modes.lanesAtEntry) (previous : r.modes.previous = s.modes.previous)
    (role : r.twin.role = s.twin.role) (state : r.update.state = s.update.state) (forces : r.change.forces = s.change.forces)
    (pending : r.pending = s.pending) : Runs c s r := by
  subst hr
  unfold Runs
  rw [hc]
  exact at_plain (attrs_voters mode entry previous role state (voters_of_out was is others) forces) pending

/-- So does a host write. -/
theorem runs_writeLane {c : Instr} {t : Time} {s r : State} {f : State → Write} {ch : Fin 8} {ln : Lane}
    (hc : exec c s = writeAt t s ch.val f) (serves : Serves s t) (hr : f (s.atTime t) = .ok r)
    (was : (s.lanes.get ln).state ≠ 0) (is : (r.lanes.get ln).state ≠ 0)
    (others : ∀ k, k ≠ ln → r.lanes.get k = s.lanes.get k) (mode : r.modes.mode = s.modes.mode)
    (entry : r.modes.lanesAtEntry = s.modes.lanesAtEntry) (previous : r.modes.previous = s.modes.previous)
    (role : r.twin.role = s.twin.role) (state : r.update.state = s.update.state) (forces : r.change.forces = s.change.forces)
    (pending : r.pending = s.pending) : Runs c s (accepted r ch) := by
  have served : stewardServes (s.atTime t) = true := by simp [stewardServes, State.atTime, serves.1, serves.2]
  have ok : hostWrite (s.atTime t) ch.val f = accepted r ch := hostWrite_ok served hr
  exact runs_lane (f := fun s => hostWrite s ch.val f) hc ok was is others mode entry previous role state forces pending

/-! ### The request (R72) -/

theorem readmitRequest_eq (t : Time) (s : State) (ch : Fin 8) (v : U8) :
    exec (.readmitRequest t ch v) s = writeAt t s ch.val fun s => writeReadmit s v := rfl

theorem writeReadmit_lane {s : State} {v : U8} {ln : Lane} (hv : v.toNat = laneNo ln + 1) :
    writeReadmit s v = refuseUnless ((s.lanes.get ln).state != 0) 0x0430 (refuseUnless ((recentAttempts s).length < 3) 0x0431
      (refuseUnless (readmits s) 0x0432 (refuseUnless ((s.lanes.get ln).state == 1) 0x0433
        (.ok (modLane s ln fun y => { y with state := 2, hostAsked := true }))))) := by
  have lane : laneOf (v.toNat - 1) = some ln := by rw [hv]; cases ln <;> rfl
  have one : 1 ≤ v.toNat := by omega
  simp [writeReadmit, lane, refuseUnless, one]

theorem writeReadmit_value {s : State} {v : U8} (h : v = 0 ∨ 3 < v.toNat) : writeReadmit s v = .error 0x0230 := by
  rcases h with rfl | h
  · rfl
  · obtain ⟨k, hk⟩ : ∃ k, v.toNat - 1 = k + 3 := ⟨v.toNat - 4, by omega⟩
    simp [writeReadmit, hk, laneOf]

/-! ### The steps -/

/-- A domain that is well again withdraws at most its source. -/
theorem domainWell_eq (s : State) (d : Nat) : domainWell s d = s ∨ ∃ n, domainWell s d = withdraw s n := by
  unfold domainWell
  dsimp only
  generalize (if decide (1 ≤ d ∧ d ≤ 3) = true then 3 else 6) = n
  generalize (if decide (1 ≤ d ∧ d ≤ 3) = true then [1, 2, 3] else [0, 5, 6]) = mates
  by_cases h : (mates.contains d && mates.all (fun k => (domain s k).state != 4) && (source s n).reported) = true
  · exact .inr ⟨n, if_pos h⟩
  · exact .inl (if_neg h)

theorem domainUp_rest (s : State) (d : Nat) :
    (domainUp s d).lanes = s.lanes ∧ (domainUp s d).modes.mode = s.modes.mode ∧
      (domainUp s d).modes.lanesAtEntry = s.modes.lanesAtEntry ∧ (domainUp s d).modes.previous = s.modes.previous ∧
      Frame [.modes, .constable, .draws] s (domainUp s d) := by
  unfold domainUp
  rcases domainWell_eq (modDomain (draw s) d fun x => { x with state := 2, mv := Config.free s.draws % 65536 }) d with h | ⟨n, h⟩ <;>
    rw [h] <;> exact ⟨rfl, rfl, rfl, rfl, fun p hp => by cases p <;> simp [same] at hp ⊢⟩

theorem readmissionAttemptStart_eq (t : Time) (s : State) (ln : Lane) :
    exec (.readmissionAttemptStart t ln) s = at_ t s fun s =>
      if (s.lanes.get ln).state = 2 ∧ ((s.lanes.get ln).hostAsked ∨ (s.lanes.get ln).since + sec 5 ≤ s.now) ∧ readmits s ∧
        (recentAttempts s).length < 3 then
        modVote (modLane s ln fun y => { y with
          state := 3, since := s.now, source := some (copySource ln), bistOk := false, stages := [], stores := [] })
          fun v => { v with attempts := recentAttempts s ++ [s.now] }
      else s := rfl

theorem laneBistDone_eq (t : Time) (s : State) (ln : Lane) (passed : Bool) :
    exec (.laneBistDone t ln passed) s = at_ t s fun s =>
      if (s.lanes.get ln).state ≠ 3 then s
      else if passed then
        domainUp (modLane s ln fun y => { y with state := 4, since := s.now, bistOk := true }) (laneNo ln + 1)
      else failAttempt s ln 2 := rfl

theorem laneLoadDone_eq (t : Time) (s : State) (ln : Lane) (bad : Bool) :
    exec (.laneLoadDone t ln bad) s = at_ t s fun s =>
      if (s.lanes.get ln).state ≠ 4 then s
      else if s.stationOk ∧ copyGood s (if bad then [ln] else []) ln then
        modLane s ln fun y => { y with state := 5, since := s.now, loadCode := 0, loadRef := none32, loadCommit := ownCommit s }
      else failAttempt s ln 3 := rfl

theorem copyComplete_eq (t : Time) (s : State) (ln : Lane) :
    exec (.copyComplete t ln) s = at_ t s fun s =>
      if (s.lanes.get ln).state = 5 ∧ inVote s ((s.lanes.get ln).source.getD (copySource ln)) ∧ atBoundary s then
        modLane s ln fun y => { y with
          state := 6, since := s.now, matching := 0, shadows := 0, claims := copyOf s, current := true
          vars := copiedVars s ln ((s.lanes.get ln).source.getD (copySource ln)) }
      else s := rfl

/-- Settles O18: the order of the request's refusals is the model's (log 72, DEDUCED). -/
theorem readmissionFollowsTheTable : Obligations.ReadmissionFollowsTheTable := by
  refine ⟨fun t s ch v serves => ⟨fun value => ?_, fun ln hv => ⟨fun voting => ?_, fun out many => ?_, fun out few mode => ?_,
    fun out few mode busy => ?_, fun out few mode => ?_⟩⟩, fun t s ln => ⟨fun two due mode few => ?_, fun three => ?_, fun four ok copy => ?_,
    fun five src hsrc voting edge => ?_⟩⟩
  · exact runs_refused (readmitRequest_eq t s ch v) serves (writeReadmit_value value)
  · refine runs_refused (readmitRequest_eq t s ch v) serves ((writeReadmit_lane hv).trans ?_)
    simp [refuseUnless, voting]
  · refine runs_refused (readmitRequest_eq t s ch v) serves ((writeReadmit_lane hv).trans ?_)
    simp [refuseUnless, out, many]
  · have mode' : readmits (s.atTime t) = false := mode
    refine runs_refused (readmitRequest_eq t s ch v) serves ((writeReadmit_lane hv).trans ?_)
    simp [refuseUnless, out, few, mode']
  · have mode' : readmits (s.atTime t) = true := mode
    refine runs_refused (readmitRequest_eq t s ch v) serves ((writeReadmit_lane hv).trans ?_)
    simp [refuseUnless, out, few, mode', busy]
  · have mode' : readmits (s.atTime t) = true := mode
    refine runs_writeLane (ln := ln) (readmitRequest_eq t s ch v) serves
      ((writeReadmit_lane hv).trans ?_) (by simp [out]) (by simp [modLane]) (modLane_others _ ln _) rfl rfl rfl rfl rfl rfl rfl
    simp [refuseUnless, out, few, mode']
  · exact runs_lane (ln := ln) (readmissionAttemptStart_eq t s ln) (if_pos ⟨two, due, mode, few⟩) (by simp [two])
      (by simp [modVote, modLane]) (fun k hk => by simp [modVote, modLane, hk]) rfl rfl rfl rfl rfl rfl rfl
  · obtain ⟨lanes, mode, entry, previous, frame⟩ :=
      domainUp_rest (modLane (s.atTime t) ln fun y => { y with state := 4, since := t, bistOk := true }) (laneNo ln + 1)
    refine runs_lane (ln := ln) (laneBistDone_eq t s ln true) ((if_neg (not_not.mpr three)).trans (if_pos rfl)) (by simp [three])
      (by rw [lanes]; simp [modLane]) (fun k hk => by rw [lanes]; exact modLane_others _ ln _ k hk) mode entry previous ?_ ?_ ?_ (frame .pending (by decide))
    · rw [show (domainUp _ _).twin = _ from frame .twin (by decide)]; rfl
    · rw [show (domainUp _ _).update = _ from frame .update (by decide)]; rfl
    · rw [show (domainUp _ _).change = _ from frame .change (by decide)]; rfl
  · have good : (s.atTime t).stationOk ∧ copyGood (s.atTime t) (if false then [ln] else []) ln := ⟨ok, copy⟩
    exact runs_lane (ln := ln) (laneLoadDone_eq t s ln false) ((if_neg (not_not.mpr four)).trans (if_pos good)) (by simp [four])
      (by simp [modLane]) (modLane_others _ ln _) rfl rfl rfl rfl rfl rfl rfl
  · have source : ((s.atTime t).lanes.get ln).source.getD (copySource ln) = src := by
      rw [State.atTime_lanes, hsrc]; rfl
    refine runs_lane (ln := ln) (copyComplete_eq t s ln) ?_ (by simp [five]) (by simp [modLane]) (modLane_others _ ln _) rfl rfl rfl rfl rfl rfl rfl
    rw [source, if_pos ⟨five, voting, edge⟩]
    rfl

/-! ### The end of an attempt (R65, R67, R338, R64) -/

/-- A lane that has just joined the vote. -/
def joinedLane (now : Time) (y : LaneSt) : LaneSt :=
  { y with
    state := 0, since := now, lastResult := 1, failed := false, hostAsked := false, misses := []
    matching := 0, shadows := 0, complete := false, delivered := none, late := false }

/-- The state before `joinLane` asks whether three lanes are in the vote. -/
def laneIn (s : State) (ln : Lane) : State :=
  if ln = .l then modVote (modLane s ln (joinedLane s.now)) fun v => { v with loomSince := some s.now }
  else modLane s ln (joinedLane s.now)

theorem joinLane_eq (s : State) (ln : Lane) :
    joinLane s ln = if (laneIn s ln).modes.mode = .degraded ∧ (voters (laneIn s ln)).length = 3 then setMode (laneIn s ln) .run 0xFF
      else laneIn s ln := rfl

theorem laneIn_rest (s : State) (ln : Lane) :
    (laneIn s ln).lanes = s.lanes.set ln (joinedLane s.now (s.lanes.get ln)) ∧ Frame [.lanes, .vote] s (laneIn s ln) := by
  unfold laneIn
  split <;> exact ⟨rfl, fun p hp => by cases p <;> simp [same, modVote] at hp ⊢⟩

/-- One voter more. -/
theorem voters_laneIn {s : State} {ln : Lane} (h : inVote s ln = false) :
    (voters (laneIn s ln)).length = (voters s).length + 1 := by
  have lanes := (laneIn_rest s ln).1
  have self : inVote (laneIn s ln) ln = true := by simp [inVote, lanes, joinedLane]
  have other : ∀ k, k ≠ ln → inVote (laneIn s ln) k = inVote s k := fun k hk => by simp [inVote, lanes, hk]
  have a := other .a
  have b := other .b
  have l := other .l
  simp only [voters, allLanes, List.filter_cons, List.filter_nil]
  cases ln <;> simp_all <;> (repeat' split) <;> simp

theorem setMode_mode (s : State) (m : Mode) (cause : U32) : (setMode s m cause).modes.mode = m := by
  have := congrArg Core.mode (setMode_core s m cause)
  exact this

theorem joinLane_mode {s : State} {ln : Lane} (h : inVote s ln = false) :
    (joinLane s ln).modes.mode = (if s.modes.mode = .degraded ∧ (voters s).length = 2 then .run else s.modes.mode) := by
  have modes : (laneIn s ln).modes = s.modes := (laneIn_rest s ln).2 .modes (by decide)
  have count : (voters (laneIn s ln)).length = 3 ↔ (voters s).length = 2 := by rw [voters_laneIn h]; omega
  rw [joinLane_eq, modes]
  simp only [count]
  split
  · exact setMode_mode _ _ _
  · rw [modes]

theorem joinLane_rest (s : State) (ln : Lane) :
    (joinLane s ln).lanes = s.lanes.set ln (joinedLane s.now (s.lanes.get ln)) ∧
      Frame [.lanes, .vote, .modes, .constable] s (joinLane s ln) := by
  obtain ⟨lanes, frame⟩ := laneIn_rest s ln
  rw [joinLane_eq]
  split
  · refine ⟨by simpa using lanes, (frame.mono (by decide)).trans fun p hp => ?_⟩
    cases p <;> simp [same] at hp ⊢
  · exact ⟨lanes, frame.mono (by decide)⟩

theorem shadowJoin_eq (t : Time) (s : State) (ln : Lane) :
    exec (.shadowJoin t ln) s = at_ t s fun s => if joinDue s ln ∧ atBoundary s then joinLane s ln else s := rfl

theorem answers_shadowJoin {t : Time} {s : State} {ln : Lane} (six : (s.lanes.get ln).state = 6)
    (matching : 16 ≤ (s.lanes.get ln).matching) (edge : atBoundary (s.atTime t) = true) :
    Answers (.shadowJoin t ln) s fun s' =>
      (s'.lanes.get ln).state = 0 ∧ (s'.lanes.get ln).lastResult = 1 ∧ (s'.lanes.get ln).failed = false ∧
        (s'.lanes.get ln).streak = (s.lanes.get ln).streak ∧ (s'.lanes.get ln).misses = [] ∧ (∀ k, k ≠ ln →
          s'.lanes.get k = s.lanes.get k) ∧
        s'.modes.mode = (if s.modes.mode = .degraded ∧ (voters s).length = 2 then .run else s.modes.mode) ∧
        Frame [.now, .lanes, .vote, .modes, .constable, .host] s s' := by
  refine answers_at (shadowJoin_eq t s ln) fun s' close => ?_
  have due : joinDue (s.atTime t) ln = true := by simp [joinDue, six, matching]
  rw [if_pos ⟨due, edge⟩] at close
  obtain ⟨lanes, frame⟩ := joinLane_rest (s.atTime t) ln
  have mode := joinLane_mode (s := s.atTime t) (ln := ln) (by simp [inVote, six])
  rw [close.lanes, lanes, close.modes, mode]
  refine ⟨?_, ?_, ?_, ?_, ?_, fun k hk => ?_, rfl, ?_⟩
  · simp [joinedLane]
  · simp [joinedLane]
  · simp [joinedLane]
  · simp [joinedLane]
  · simp [joinedLane]
  · simp [hk]
  · exact close.frame (((frame_atTime s t).mono (by decide)).trans (frame.mono (by decide))) (by decide) (by decide)

/-- A raise records itself. -/
theorem raised_recordRaise {s x : State} {n : Nat} (h : source x n = source s n) (p1 p2 p3 : U32) :
    Raised s (recordRaise x n false p1 p2 p3) n p1 p2 p3 := raised_of_kept (r := x) h (.refl _ _) (by simp)

/-- A failed attempt's end (R67): the lane Excluded with its result, and the Notice with lane, cycle and step. -/
theorem failAttempt_failed {s : State} {ln : Lane} (quiet : (source s (laneBase ln + 6)).asserted = false) (t : Time) (result : U8) :
    AttemptFailed s (failAttempt (s.atTime t) ln result) ln result (stepOf (s.lanes.get ln).state) := by
  have quiet' (f : LaneSt → LaneSt) : (source (modLane (s.atTime t) ln f) (laneBase ln + 6)).asserted = false := quiet
  have recorded : failAttempt (s.atTime t) ln result = recordRaise (modLane (s.atTime t) ln fun y =>
      { y with state := 1, lastResult := result, failed := true, hostAsked := false, matching := 0, shadows := 0 })
      (laneBase ln + 6) false (u32 (laneNo ln)) s.cyc.number (u32 (stepOf (s.lanes.get ln).state)) := by
    unfold failAttempt raiseNotice
    exact if_neg (by rw [quiet']; simp)
  rw [recorded]
  refine ⟨?_, ?_, ?_, ?_, fun k hk => ?_, raised_recordRaise rfl _ _ _, fun p hp => ?_⟩
  · simp [modLane]
  · simp [modLane]
  · simp [modLane]
  · simp [modLane]
  · simp [modLane, hk]
  · cases p <;> simp [same] at hp ⊢

/-- A command that ends an attempt in failure. -/
theorem answers_failAttempt {c : Instr} {t : Time} {s : State} {f : State → State} {ln : Lane} {result : U8} (step : Nat)
    (hc : exec c s = at_ t s f) (hf : f (s.atTime t) = failAttempt (s.atTime t) ln result)
    (out : (s.lanes.get ln).state ≠ 0) (hstep : stepOf (s.lanes.get ln).state = step)
    (quiet : (source s (laneBase ln + 6)).asserted = false) :
    Answers c s fun s' => AttemptFailed s s' ln result step := by
  have failed := failAttempt_failed quiet t result
  rw [hstep] at failed
  obtain ⟨one, -, -, -, others, -⟩ := failAttempt_failed quiet t result
  have stays : voters (failAttempt (s.atTime t) ln result) = voters s := voters_of_out (ln := ln) out (by rw [one]; decide) others
  refine answers_plain hc ?_ ?_ ?_ <;> rw [hf]
  · exact attrs_voters (by simp) (by simp) (by simp) (by simp) (by simp) stays (by simp)
  · simp
  · exact failed

theorem readmissionStepTimeout_eq (t : Time) (s : State) (ln : Lane) :
    exec (.readmissionStepTimeout t ln) s = at_ t s fun s =>
      match stepOut s (s.lanes.get ln) with
      | some code => failAttempt s ln code
      | none => s := rfl

/-- The limit of the step under way fails the attempt (R65). -/
theorem answers_stepTimeout {t : Time} {s : State} {ln : Lane} {result : U8} (step : Nat)
    (due : stepOut (s.atTime t) ((s.atTime t).lanes.get ln) = some result) (out : (s.lanes.get ln).state ≠ 0)
    (hstep : stepOf (s.lanes.get ln).state = step) (quiet : (source s (laneBase ln + 6)).asserted = false) :
    Answers (.readmissionStepTimeout t ln) s fun s' => AttemptFailed s s' ln result step :=
  answers_failAttempt step (readmissionStepTimeout_eq t s ln) (by rw [due]) out hstep quiet

theorem degradedLTimerRestore_eq (t : Time) (s : State) :
    exec (.degradedLTimerRestore t) s = at_ t s fun s =>
      if inVote s .l ∧ s.vote.loomSince.any (fun x => x + sec 86400 ≤ s.now) then restoreLimit s else s := rfl

/-- The Loom's 24 h in the vote are over (R64). -/
theorem loomSince_day {s : State} {t x : Time} (since : s.vote.loomSince = some x) (day : x + sec 86400 ≤ t) :
    (s.vote.loomSince.any fun x => decide (x + sec 86400 ≤ t)) = true := by
  rw [since, Option.any_some]
  exact decide_eq_true day

theorem degradedLTimerRestore_runs {t : Time} {s : State} {x : Time} (voting : inVote s .l = true) (since : s.vote.loomSince = some x)
    (day : x + sec 86400 ≤ t) : Runs (.degradedLTimerRestore t) s
      (modVote (s.atTime t) fun v => { v with limitLeft := v.deglh * sec 3600, limitRuns := false }) :=
  runs_at (degradedLTimerRestore_eq t s) (if_pos ⟨voting, loomSince_day since day⟩) rfl ⟨rfl, rfl⟩ rfl rfl rfl rfl rfl

/-- Settles O19. -/
theorem attemptsEndInTheVoteOrFail : Obligations.AttemptsEndInTheVoteOrFail := by
  refine ⟨fun t s ln => ⟨answers_shadowJoin, fun h => ?_, fun x voting since day => ?_, fun out => ?_⟩,
    fun t s ln quiet => ⟨fun three => ?_, fun four => ?_, fun three long => ?_, fun four long => ?_, fun five long => ?_,
    fun six many => ?_, fun idle => ?_⟩⟩
  · refine runs_at (shadowJoin_eq t s ln) (if_neg ?_) rfl ⟨rfl, rfl⟩ rfl rfl rfl rfl rfl
    rintro ⟨due, edge⟩
    rw [joinDue, State.atTime_lanes, Bool.and_eq_true, beq_iff_eq] at due
    obtain ⟨six, many⟩ := due
    have sixteen := of_decide_eq_true many
    rcases h with h | h | h
    · exact h six
    · omega
    · rw [h] at edge; exact Bool.false_ne_true edge
  · exact degradedLTimerRestore_runs voting since day
  · refine runs_at (degradedLTimerRestore_eq t s) (if_neg fun h => ?_) rfl ⟨rfl, rfl⟩ rfl rfl rfl rfl rfl
    exact Bool.false_ne_true (out.symm.trans h.1)
  · exact answers_failAttempt 3 (laneBistDone_eq t s ln false) ((if_neg (not_not.mpr three)).trans (if_neg Bool.false_ne_true))
      (by simp [three]) (by rw [three]; rfl) quiet
  · have bad : ¬ ((s.atTime t).stationOk ∧ copyGood (s.atTime t) (if true then [ln] else []) ln) := by simp [copyGood]
    exact answers_failAttempt 4 (laneLoadDone_eq t s ln true) ((if_neg (not_not.mpr four)).trans (if_neg bad)) (by simp [four])
      (by rw [four]; rfl) quiet
  · refine answers_stepTimeout 3 ?_ (by simp [three]) (by rw [three]; rfl) quiet
    simp only [stepOut, State.atTime_lanes, three]
    exact if_pos (decide_eq_true long)
  · refine answers_stepTimeout 4 ?_ (by simp [four]) (by rw [four]; rfl) quiet
    simp only [stepOut, State.atTime_lanes, four]
    exact if_pos (decide_eq_true long)
  · refine answers_stepTimeout 5 ?_ (by simp [five]) (by rw [five]; rfl) quiet
    simp only [stepOut, State.atTime_lanes, five]
    exact if_pos (decide_eq_true long)
  · refine answers_stepTimeout 6 ?_ (by simp [six]) (by rw [six]; rfl) quiet
    simp only [stepOut, State.atTime_lanes, six]
    exact if_pos many
  · have none : stepOut (s.atTime t) ((s.atTime t).lanes.get ln) = none := by
      unfold stepOut
      split
      case h_5 => rfl
      all_goals rename_i h; simp at h; omega
    exact runs_at (readmissionStepTimeout_eq t s ln) (by rw [none]) rfl ⟨rfl, rfl⟩ rfl rfl rfl rfl rfl

end Sys2Proof.Machine
end

section
/-!
PROOFS. The supply (R356, R357): its readings, and the failure that leaves Kutia off with its Book written out.
-/

namespace Sys2Proof.Machine

/-! ### Readings (R357) -/

theorem vinLow_eq (t : Time) (s : State) (vin : Nat) :
    exec (.vinLow t vin) s = at_ t s fun s =>
      if s.modes.mode = .off then noteVin s vin
      else if vin < 4200 then raise (noteVin s vin) 1 (u32 vin) none32 none32
      else if 4400 < vin ∧ (source (noteVin s vin) 1).reported then withdraw (noteVin s vin) 1
      else noteVin s vin := rfl

/-- A reading is kept, and marked while it is low. -/
theorem noteVin_marks (s : State) (vin : Nat) :
    (noteVin s vin).modes.vin = vin ∧ ((noteVin s vin).modes.vinLowFrom.isSome = true ↔ vin < 4200) := by
  refine ⟨rfl, ?_⟩
  show (Option.isSome (if vin < 4200 then _ else none)) = true ↔ _
  split <;> simp [*]

/-! ### The Book of a Kutia that is off, in Safe State or in Shutdown -/

/-- Kutia is at rest: a Module-class source finds nothing to stop but the kill lines. -/
abbrev AtRest (s : State) : Prop := s.modes.mode = .off ∨ s.modes.mode = .safeState ∨ s.modes.mode = .shutdown

/-- What writing out the Book leaves while Kutia is at rest: a raise then has no effect but its record. -/
structure BookOnly (s s' : State) : Prop where
  rest : Frame [.host, .constable, .age] s s'
  host : HostKept s s'
  fails : s'.age.counters.getD 13 0 = s.age.counters.getD 13 0

theorem HostKept.trans {s s' s'' : State} (h : HostKept s s') (h' : HostKept s' s'') : HostKept s s'' := by
  unfold HostKept at *
  rw [h] at h'
  exact h'

theorem BookOnly.refl (s : State) : BookOnly s s := ⟨.refl _ s, .refl s, rfl⟩
theorem BookOnly.trans {s s' s'' : State} (h : BookOnly s s') (h' : BookOnly s' s'') : BookOnly s s'' :=
  ⟨h.rest.trans h'.rest, h.host.trans h'.host, h'.fails.trans h.fails⟩
theorem BookOnly.modes {s s' : State} (h : BookOnly s s') : s'.modes = s.modes := h.rest .modes (by decide)

/-- What changes the Constable alone is the Book's affair. -/
theorem bookOnly_of_constable {s s' : State} (h : Frame [.constable] s s') : BookOnly s s' :=
  ⟨h.mono (by decide), by rw [HostKept, show s'.host = s.host from h .host (by decide)],
    by rw [show s'.age = s.age from h .age (by decide)]⟩

theorem bookOnly_recordRaise (s : State) (n : Nat) (forced : Bool) (p1 p2 p3 : U32) : BookOnly s (recordRaise s n forced p1 p2 p3) :=
  bookOnly_of_constable (recordRaise_frame s n forced p1 p2 p3)

theorem bookOnly_modSource (s : State) (n : Nat) (f : SourceSt → SourceSt) : BookOnly s (modSource s n f) :=
  bookOnly_of_constable fun p hp => by cases p <;> simp [same] at hp ⊢

/-- At rest the entry into Safe State stops the kill lines and no more. -/
theorem enterSafeState_atRest {s : State} (h : AtRest s) (src : U8) : enterSafeState s src = stopKillLines s src := by
  unfold enterSafeState
  rcases h with h | h | h <;> simp [h]

theorem bookOnly_stopKillLines (s : State) (src : U8) : BookOnly s (stopKillLines s src) :=
  bookOnly_of_constable fun p hp => by cases p <;> simp [same] at hp ⊢

/-- At rest a source that names no lane has no effect but its record. -/
theorem bookOnly_classEffect {s : State} (h : AtRest s) (n cls : Nat) {p1 : U32} (hl : srcLane n p1 = none) :
    BookOnly s (classEffect s n cls p1) := by
  unfold classEffect
  split
  · exact .refl s
  · exact .refl s
  · rw [hl]; exact .refl s
  · rw [enterSafeState_atRest h]; exact bookOnly_stopKillLines s _
  · rw [enterSafeState_atRest (s := { s with constable := { s.constable with graveR := .bit true } }) h]
    exact (bookOnly_of_constable fun p hp => by cases p <;> simp [same] at hp ⊢).trans (bookOnly_stopKillLines _ _)

theorem bookOnly_raise {s : State} (h : AtRest s) (n : Nat) {p1 : U32} (hl : srcLane n p1 = none) (p2 p3 : U32) :
    BookOnly s (raise s n p1 p2 p3) := by
  unfold raise raiseWith
  dsimp only
  (repeat' split)
  · exact bookOnly_modSource s n _
  · exact .refl s
  · exact bookOnly_recordRaise s n false p1 p2 p3
  · exact (bookOnly_recordRaise s n false p1 p2 p3).trans (bookOnly_classEffect (by simpa [AtRest] using h) n _ hl)

theorem bookOnly_raiseHealth {s : State} (h : AtRest s) (n : Nat) {p1 : U32} (hl : srcLane n p1 = none) (p2 p3 : U32) :
    BookOnly s (raiseHealth s n p1 p2 p3) := by
  unfold raiseHealth
  split
  · exact bookOnly_raise h n hl p2 p3
  · exact (bookOnly_raise h n hl p2 p3).trans (bookOnly_modSource _ n _)

theorem bookOnly_wearSlot {s : State} (h : AtRest s) (slot : Nat) : BookOnly s (wearSlot s slot) := by
  have worn (w : Table Nat) : BookOnly s { s with age := { s.age with wear := w } } :=
    ⟨fun p hp => by cases p <;> simp [same] at hp ⊢, rfl, rfl⟩
  unfold wearSlot
  dsimp only
  split
  · exact (worn _).trans (bookOnly_raiseHealth (by simpa [AtRest] using h) 126 rfl _ _)
  · exact worn _

theorem bookOnly_wearSlots (l : List Nat) {s : State} (h : AtRest s) : BookOnly s (l.foldl wearSlot s) := by
  induction l generalizing s with
  | nil => exact .refl s
  | cons x l ih =>
    have first := bookOnly_wearSlot h x
    exact first.trans (ih (by rw [AtRest, first.modes]; exact h))

/-- A lifetime counter counts up by itself. -/
theorem countUp_getD (s : State) (sub n : Nat) {k : Nat} (hk : k < 14) :
    (countUp s sub n).age.counters.getD k 0 = s.age.counters.getD k 0 + if k + 1 = sub then n else 0 := by
  simp [countUp, List.getD_eq_getElem?_getD, hk]

theorem bookOnly_countUp (s : State) : BookOnly s (countUp s 13 1) :=
  ⟨fun p hp => by cases p <;> simp [same] at hp ⊢, rfl, by rw [countUp_getD s 13 1 (by decide)]; rfl⟩

theorem bookOnly_pushBook (s : State) (x : BookRec) : BookOnly s (pushBook s x) := by
  unfold pushBook
  split
  · exact ⟨fun p hp => by cases p <;> simp [same] at hp ⊢, pushEvent_host _ _ _, by simp⟩
  · exact .refl s

theorem bookOnly_bookStore {s : State} (h : AtRest s) (x : BookRec) : BookOnly s (bookStore s x) := by
  have stored (c : ConstableSt) : BookOnly s { s with constable := c } :=
    bookOnly_of_constable fun p hp => by cases p <;> simp [same] at hp ⊢
  unfold bookStore
  dsimp only
  exact ((stored _).trans (bookOnly_countUp _)).trans ((bookOnly_wearSlots _ (by simpa [AtRest] using h)).trans (bookOnly_pushBook _ _))

theorem bookOnly_bookRepeat {s : State} (h : AtRest s) (newest : BookRec) (t : Time) :
    BookOnly s (bookRepeat s newest t) := by
  have stored (c : ConstableSt) : BookOnly s { s with constable := c } :=
    bookOnly_of_constable fun p hp => by cases p <;> simp [same] at hp ⊢
  unfold bookRepeat
  dsimp only
  split
  · exact stored _
  · exact (stored _).trans (bookOnly_wearSlots _ h)

theorem bookOnly_noteRaiseSeq (s : State) (x : BookRec) (q : U32) : BookOnly s (noteRaiseSeq s x q) := by
  unfold noteRaiseSeq
  split
  · exact bookOnly_modSource s _ _
  · exact .refl s

theorem bookOnly_reportLost {s : State} (h : AtRest s) : BookOnly s (reportLost s) := by
  unfold reportLost
  split
  · have noted : BookOnly s (bookEvent { s with constable := { s.constable with lostDue := 0 } } 0x7061 (u32 s.constable.lostDue) none32
        none32) := bookOnly_of_constable fun p hp => by cases p <;> simp [same] at hp ⊢
    exact noted.trans (bookOnly_raise (by rw [AtRest, noted.modes]; exact h) 113 rfl _ _)
  · exact .refl s

theorem bookOnly_writeFront {s : State} (h : AtRest s) : BookOnly s (writeFront 0 s) := by
  unfold writeFront
  split
  · exact .refl s
  next y rest _ =>
    split
    · exact .refl s
    · have popped : BookOnly s { s with constable := { s.constable with queue := rest } } :=
        bookOnly_of_constable fun p hp => by cases p <;> simp [same] at hp ⊢
      dsimp only
      rw [if_pos rfl]
      have rests (r : State) (b : BookOnly s r) : AtRest r := by rw [AtRest, b.modes]; exact h
      cases (s.constable.circ.getLast?).filter (sameEvent (withRaiseSeq s y)) with
      | none =>
        have stored := popped.trans (bookOnly_bookStore (rests _ popped) (withRaiseSeq s y))
        have noted := stored.trans (bookOnly_noteRaiseSeq _ (withRaiseSeq s y) s.constable.nextSeq)
        exact noted.trans (bookOnly_reportLost (rests _ noted))
      | some z =>
        have stored := popped.trans (bookOnly_bookRepeat (rests _ popped) z (withRaiseSeq s y).time)
        have noted := stored.trans (bookOnly_noteRaiseSeq _ (withRaiseSeq s y) z.seq)
        exact noted.trans (bookOnly_reportLost (rests _ noted))

theorem bookOnly_drainBook (n : Nat) {s : State} (h : AtRest s) : BookOnly s (drainBook n s) := by
  induction n generalizing s with
  | zero => exact .refl s
  | succ n ih =>
    unfold drainBook
    split
    · exact .refl s
    · have first := bookOnly_writeFront h
      exact first.trans (ih (by rw [AtRest, first.modes]; exact h))

/-! ### The failure (R356) -/

/-- A Notice source that reports no state is recorded, or is asserted already. -/
theorem bookOnly_raise_event {s : State} {n : Nat} (hc : srcClass n = 0) (p1 p2 p3 : U32) : BookOnly s (raise s n p1 p2 p3) := by
  have zero : raiseClass s n = 0 := by simp [raiseClass, hc]
  unfold raise raiseWith
  dsimp only
  rw [recordRaise_effective, zero]
  (repeat' split)
  · exact bookOnly_modSource s n _
  · exact .refl s
  · exact bookOnly_recordRaise s n false p1 p2 p3
  · exact bookOnly_recordRaise s n false p1 p2 p3

/-- Before Kutia is off: the lines stop, and the twin hears of the failure. -/
def failHeard (s : State) (vin : Nat) : State :=
  let s1 := twinNotice (stopKillLines (noteVin s vin) 0) 2
  if s1.twin.role = .active then recordGiveUp s1 1 none32 else s1

/-- The failure is recorded. -/
def failNoted (s : State) (vin : Nat) : State :=
  raise (failHeard s vin) 0 (u32 (failHeard s vin).modes.vinLowest) (u32 (modeCode s.modes.mode)) (u32 s.now)

/-- Kutia is off, and has written out its Book. -/
def failBooked (s : State) (vin : Nat) : State :=
  let s1 := setMode (failNoted s vin) .off 0
  tearNewest (drainBook s1.constable.queue.length s1)

/-- What the supply fed is off, and the failure is counted. -/
def partsLost (s : State) : State := losePointer (countFail (partsOff s))

theorem powerFail_eq (t : Time) (s : State) (vin : Nat) :
    exec (.powerFail t vin) s = at_ t s fun s =>
      if s.modes.mode = .off then s else partsLost (failBooked s vin) := by
  show execPowerFail t vin s = _
  unfold execPowerFail partsLost failBooked failNoted failHeard
  dsimp only

theorem failHeard_rest (s : State) (vin : Nat) :
    Frame [.modes, .twin, .constable, .out] s (failHeard s vin) ∧ (failHeard s vin).modes = (noteVin s vin).modes ∧
      (core (failHeard s vin)).KillOff := by
  have lines : (core (twinNotice (stopKillLines (noteVin s vin) 0) 2)).KillOff := by
    rw [twinNotice_core]; exact stopKillLines_kill _ _
  unfold failHeard
  dsimp only
  split
  · refine ⟨fun p hp => ?_, by simp, by rw [recordGiveUp_core]; exact lines⟩
    cases p <;> simp [same, noteVin] at hp ⊢
  · refine ⟨fun p hp => ?_, by simp, lines⟩
    cases p <;> simp [same, noteVin] at hp ⊢

theorem failNoted_rest (s : State) (vin : Nat) :
    Frame [.modes, .twin, .constable, .age, .host, .out] s (failNoted s vin) ∧ (failNoted s vin).modes = (noteVin s vin).modes ∧
      (failNoted s vin).age.counters.getD 13 0 = s.age.counters.getD 13 0 ∧ (core (failNoted s vin)).KillOff := by
  obtain ⟨frame, modes, lines⟩ := failHeard_rest s vin
  have age : (failHeard s vin).age = s.age := frame .age (by decide)
  have event := bookOnly_raise_event (s := failHeard s vin) (n := 0) rfl (u32 (failHeard s vin).modes.vinLowest)
    (u32 (modeCode s.modes.mode)) (u32 s.now)
  exact ⟨(frame.mono (by decide)).trans (event.rest.mono (by decide)), event.modes.trans modes, event.fails.trans (by rw [age]),
    raise_killOff _ _ _ _ lines⟩

/-- A change of mode keeps the record of the mode left. -/
theorem setMode_previous {s : State} {m : Mode} (h : s.modes.mode ≠ m) (cause : U32) :
    (setMode s m cause).modes.previous = s.modes.mode ∧ (setMode s m cause).modes.fails = s.modes.fails := by
  unfold setMode
  dsimp only
  rw [if_neg h]
  split <;> simp [carryWindows]

theorem tearNewest_rest (s : State) : Frame [.constable, .draws] s (tearNewest s) := by
  unfold tearNewest
  dsimp only
  (repeat' split) <;> exact fun p hp => by cases p <;> simp [same] at hp ⊢

theorem failBooked_rest {s : State} (on : s.modes.mode ≠ .off) (vin : Nat) :
    Frame [.modes, .twin, .constable, .age, .host, .out, .draws] s (failBooked s vin) ∧
      (failBooked s vin).modes.mode = .off ∧ (failBooked s vin).modes.previous = s.modes.mode ∧
      (failBooked s vin).modes.fails = s.modes.fails ∧
      (failBooked s vin).age.counters.getD 13 0 = s.age.counters.getD 13 0 ∧ (core (failBooked s vin)).KillOff := by
  obtain ⟨frame, modes, fails, lines⟩ := failNoted_rest s vin
  have was : (failNoted s vin).modes.mode = s.modes.mode := by rw [modes]; rfl
  obtain ⟨previous, count⟩ := setMode_previous (s := failNoted s vin) (m := .off) (by rw [was]; exact on) 0
  have off := setMode_mode (failNoted s vin) .off 0
  have moved : Frame [.modes, .constable] (failNoted s vin) (setMode (failNoted s vin) .off 0) := fun p hp => by
    cases p <;> simp [same] at hp ⊢
  have drained := bookOnly_drainBook (setMode (failNoted s vin) .off 0).constable.queue.length (.inl off)
  have torn := tearNewest_rest (drainBook (setMode (failNoted s vin) .off 0).constable.queue.length (setMode (failNoted s vin) .off 0))
  have modes' : (failBooked s vin).modes = (setMode (failNoted s vin) .off 0).modes :=
    (torn .modes (by decide)).trans drained.modes
  refine ⟨?_, ?_, ?_, ?_, ?_, ?_⟩
  · exact (frame.mono (by decide)).trans ((moved.mono (by decide)).trans ((drained.rest.mono (by decide)).trans (torn.mono (by decide))))
  · rw [modes', off]
  · rw [modes', previous, was]
  · rw [modes', count, modes]; rfl
  · have age : (failBooked s vin).age = _ := torn .age (by decide)
    rw [age, drained.fails]
    simpa using fails
  · unfold failBooked
    dsimp only
    rw [tearNewest_core]
    refine drainBook_killOff _ ?_
    rw [setMode_core]
    exact core_killOff_mk.mpr lines

theorem losePointer_rest (s : State) : Frame [.update, .draws] s (losePointer s) := by
  unfold losePointer writeImageRecord
  split
  · exact fun p hp => by cases p <;> simp [same] at hp ⊢
  · exact .refl _ s

theorem partsOff_domain (s : State) (d : Nat) : (domain (partsOff s) d).state = 0 :=
  tget_tmap_all _ (fun _ (x : DomainSt) => { x with state := 0, mv := 0 }) (fun x => x.state = 0) rfl (fun _ _ => rfl) s.modes.domains d

theorem countFail_rest (s : State) :
    Frame [.age] s (countFail s) ∧ (countFail s).age.counters.getD 13 0 = s.age.counters.getD 13 0 + 1 := by
  refine ⟨fun p hp => by cases p <;> simp [same, countFail] at hp ⊢, ?_⟩
  exact countUp_getD s 14 1 (by decide)

theorem partsLost_rest (s : State) :
    (partsLost s).modes = (partsOff s).modes ∧ (partsLost s).field = (partsOff s).field ∧ (partsLost s).cyc = (partsOff s).cyc ∧
      (partsLost s).host = (partsOff s).host ∧ (partsLost s).constable = s.constable ∧
      (partsLost s).age.counters.getD 13 0 = s.age.counters.getD 13 0 + 1 ∧
      Frame [.cyc, .bus, .field, .host, .modes, .update, .age, .draws] s (partsLost s) := by
  have pointer := losePointer_rest (countFail (partsOff s))
  obtain ⟨counted, count⟩ := countFail_rest (partsOff s)
  have parts : Frame [.cyc, .bus, .field, .host, .modes] s (partsOff s) := fun p hp => by cases p <;> simp [same, partsOff] at hp ⊢
  have both : Frame [.age, .update, .draws] (partsOff s) (partsLost s) := (counted.mono (by decide)).trans (pointer.mono (by decide))
  have frame : Frame [.cyc, .bus, .field, .host, .modes, .update, .age, .draws] s (partsLost s) :=
    (parts.mono (by decide)).trans (both.mono (by decide))
  refine ⟨both .modes (by decide), both .field (by decide), both .cyc (by decide), both .host (by decide),
    frame .constable (by decide), ?_, frame⟩
  rw [show (partsLost s).age = _ from pointer .age (by decide), count]
  rfl

/-- A failure while Kutia is not off. -/
theorem answers_powerFail {t : Time} {s : State} (on : s.modes.mode ≠ .off) (vin : Nat) :
    Answers (.powerFail t vin) s fun s' =>
      s'.modes.mode = .off ∧ s'.modes.previous = s.modes.mode ∧ s'.constable.kill = false ∧ Dark s' ∧ s'.cyc.running = false ∧
        s'.host.serving = false ∧ (∀ d, (domain s' d).state = 0) ∧ s'.modes.fails = s.modes.fails + 1 ∧ s'.modes.lastFail = t ∧
        s'.age.counters.getD 13 0 = s.age.counters.getD 13 0 + 1 ∧ s'.update.images = s.update.images ∧
        Frame [.now, .cyc, .bus, .field, .host, .modes, .constable, .twin, .update, .age, .out, .draws] s s' := by
  obtain ⟨frame, off, previous, fails, counter, lines⟩ := failBooked_rest (s := s.atTime t) on vin
  have now : (failBooked (s.atTime t) vin).now = t := frame .now (by decide)
  have effect : (if (s.atTime t).modes.mode = .off then s.atTime t else partsLost (failBooked (s.atTime t) vin)) =
      partsLost (failBooked (s.atTime t) vin) := if_neg on
  have pending : (failBooked (s.atTime t) vin).pending = s.pending := frame .pending (by decide)
  have before : Frame [.now, .modes, .twin, .constable, .age, .host, .out, .draws] s (failBooked (s.atTime t) vin) :=
    ((frame_atTime s t).mono (by decide)).trans (frame.mono (by decide))
  have counts : (failBooked (s.atTime t) vin).age.counters.getD 13 0 = s.age.counters.getD 13 0 := counter
  have eq := powerFail_eq t s vin
  rw [at_, effect] at eq
  generalize failBooked (s.atTime t) vin = b at *
  obtain ⟨modes, field, cyc, host, con, count, rest⟩ := partsLost_rest b
  have dark : (partsLost b).host.serving = false := by rw [host]; rfl
  rw [settle_dark dark, withQueue_self ((rest .pending (by decide)).trans pending)] at eq
  have images := imagesChangeOnlyByTheirSteps _ _ _ eq (by simp) (by simp) (by simp)
  refine ⟨_, eq, ?_, ?_, ?_, ⟨?_, ?_⟩, ?_, dark, fun d => ?_, ?_, ?_, ?_, images, ?_⟩
  · rw [modes]; exact off
  · rw [modes]; exact previous
  · rw [con]; exact lines
  · rw [field]; rfl
  · rw [field]; rfl
  · rw [cyc]; rfl
  · rw [domain, modes]; exact partsOff_domain b d
  · rw [modes]; exact congrArg (· + 1) fails
  · rw [modes]; exact now
  · rw [count, counts]
  · exact (before.mono (by decide)).trans (rest.mono (by decide))

theorem noteVin_attrs (s : State) (t : Time) (vin : Nat) : attributes s = attributes (noteVin (s.atTime t) vin) := rfl

/-- Settles O11: P2 and P3 of source 1 are FFFFFFFFh for the table's dashes (log 34, DEDUCED), and the failure is counted in PD0's copy
at once (log 78, DEDUCED). -/
theorem supplyReadingsAndPowerFailure : Obligations.SupplyReadingsAndPowerFailure := by
  refine ⟨fun t s vin on => ⟨fun low quiet => ?_, fun high reported => ?_, fun low high => ?_, ?_⟩, fun t s vin on => answers_powerFail on vin⟩
  · have minor := raise_minor (s := noteVin (s.atTime t) vin) (n := 1) quiet (by decide)
    exact runs_at (vinLow_eq t s vin) ((if_neg on).trans ((if_pos low).trans (minor _ _ _)))
      (by simp; rfl) ⟨by simp; rfl, by simp; rfl⟩ (by simp; rfl) (by simp; rfl) (by simp; rfl) (by simp; rfl) (by simp; rfl)
  · have notLow : ¬ vin < 4200 := by omega
    exact runs_at (vinLow_eq t s vin) ((if_neg on).trans ((if_neg notLow).trans (if_pos ⟨high, reported⟩)))
      rfl ⟨rfl, rfl⟩ rfl rfl rfl rfl rfl
  · have notLow : ¬ vin < 4200 := by omega
    have notHigh : ¬ (4400 < vin ∧ (source (noteVin (s.atTime t) vin) 1).reported = true) := fun h => by omega
    exact runs_at (vinLow_eq t s vin) ((if_neg on).trans ((if_neg notLow).trans (if_neg notHigh))) rfl ⟨rfl, rfl⟩ rfl rfl rfl rfl rfl
  · exact noteVin_marks (s.atTime t) vin

end Sys2Proof.Machine
end

section
/-!
PROOFS. Mode requests (R312, R346), the entry into Shutdown (R355), and the ways into a start (R345, R351, R424, R425).
-/

namespace Sys2Proof.Machine

theorem core_mode (s : State) : (core s).mode = s.modes.mode := rfl
theorem core_running (s : State) : (core s).running = s.cyc.running := rfl

/-! ### A request's checks -/

/-- A command that requests a mode. -/
theorem requestMode_eq (t : Time) (s : State) (ch : Fin 8) (env : StartEnv) {c : Instr} {v : Nat}
    (h : (c, v) ∈ [(Instr.modeRequestStop t ch env, 3), (.modeRequestRun t ch, 4), (.modeRequestTestTrack t ch, 6),
      (.modeRequestHold t ch, 7), (.modeRequestShutdown t ch env, 11)]) :
    (∃ env', exec c s = writeAt t s ch.val fun s => needAuth s ch.val fun s => writeMode env' s v) ∧
      (v == 3 || v == 4 || v == 6 || v == 7 || v == 11) = true := by
  simp only [List.mem_cons, Prod.mk.injEq, List.not_mem_nil, or_false] at h
  rcases h with ⟨rfl, rfl⟩ | ⟨rfl, rfl⟩ | ⟨rfl, rfl⟩ | ⟨rfl, rfl⟩ | ⟨rfl, rfl⟩
  · exact ⟨⟨env, rfl⟩, rfl⟩
  · exact ⟨⟨noEnv, rfl⟩, rfl⟩
  · exact ⟨⟨noEnv, rfl⟩, rfl⟩
  · exact ⟨⟨noEnv, rfl⟩, rfl⟩
  · exact ⟨⟨env, rfl⟩, rfl⟩

/-- A listed request for one of the five modes is accepted: at once, or for the next S. -/
theorem writeMode_eq {s : State} {v : Nat} (h : (v == 3 || v == 4 || v == 6 || v == 7 || v == 11) = true) (env : StartEnv) :
    writeMode env s v = refuseUnless (requestAllowed s v) 0x0410 (.ok (if appliesAtOnce s.modes.mode
      then applyRequest env { s with host := { s.host with request := u8 v, outcome := 0 } } v else requestHeld s v)) := by
  unfold writeMode
  rw [h]
  rfl

theorem modeRequests_checked (t : Time) (s : State) (ch : Fin 8) (env : StartEnv) (serves : Serves s t) {c : Instr} {v : Nat}
    (h : (c, v) ∈ [(Instr.modeRequestStop t ch env, 3), (.modeRequestRun t ch, 4), (.modeRequestTestTrack t ch, 6),
      (.modeRequestHold t ch, 7), (.modeRequestShutdown t ch env, 11)]) :
    (authorised s ch.val = false → Runs c s (refused (s.atTime t) ch 0x0301)) ∧
      (authorised s ch.val = true → requestAllowed s v = false → Runs c s (refused (s.atTime t) ch 0x0410)) ∧
      (authorised s ch.val = true → requestAllowed s v = true → appliesAtOnce s.modes.mode = false →
        Runs c s (accepted (requestHeld (s.atTime t) v) ch)) := by
  obtain ⟨⟨env', hc⟩, listed⟩ := requestMode_eq t s ch env h
  refine ⟨fun auth => ?_, fun auth allowed => ?_, fun auth allowed waits => ?_⟩
  · exact runs_refused hc serves (if_neg (by rw [show authorised (s.atTime t) ch.val = false from auth]; simp))
  · have allowed' : requestAllowed (s.atTime t) v = false := allowed
    refine runs_refused hc serves ((needAuth_of_authorised auth t _).trans ?_)
    rw [writeMode_eq listed, allowed']
    rfl
  · have allowed' : requestAllowed (s.atTime t) v = true := allowed
    have waits' : appliesAtOnce (s.atTime t).modes.mode = false := waits
    refine runs_write hc serves ((needAuth_of_authorised auth t _).trans ?_) rfl ⟨rfl, rfl⟩ rfl rfl rfl rfl rfl
    rw [writeMode_eq listed, allowed', waits']
    rfl

/-! ### The entry into Shutdown (R355) -/

/-- What the winding-up of sessions leaves of a Kutia at rest. -/
structure WoundUp (s s' : State) : Prop where
  rest : Frame [.points, .sessions, .cyc, .bus, .host, .constable, .age] s s'
  running : s'.cyc.running = s.cyc.running
  cmdq : s'.cyc.cmdq = s.cyc.cmdq

theorem WoundUp.refl (s : State) : WoundUp s s := ⟨.refl _ s, rfl, rfl⟩
theorem WoundUp.trans {s s' s'' : State} (h : WoundUp s s') (h' : WoundUp s' s'') : WoundUp s s'' :=
  ⟨h.rest.trans h'.rest, h'.running.trans h.running, h'.cmdq.trans h.cmdq⟩
theorem WoundUp.atRest {s s' : State} (h : WoundUp s s') (r : AtRest s) : AtRest s' := by
  rw [AtRest, show s'.modes = s.modes from h.rest .modes (by decide)]; exact r

theorem woundUp_of_frame {s s' : State} (h : Frame [.points, .sessions, .bus, .host, .constable, .age] s s') : WoundUp s s' :=
  ⟨h.mono (by decide), by rw [show s'.cyc = s.cyc from h .cyc (by decide)], by rw [show s'.cyc = s.cyc from h .cyc (by decide)]⟩

/-- A fold of steps each of which keeps a frame keeps it. -/
theorem foldl_frame {α : Type} {l : List Part} (f : State → α → State) (h : ∀ s x, Frame l s (f s x)) (xs : List α) (s : State) :
    Frame l s (xs.foldl f s) := by
  induction xs generalizing s with
  | nil => exact .refl l s
  | cons x xs ih => exact (h s x).trans (ih _)

theorem forgetReports_frame (s : State) (q : Nat) : Frame [.points] s (forgetReports s q) := by
  unfold forgetReports
  refine foldl_frame _ (fun st e => ?_) _ s
  split
  · exact fun p hp => by cases p <;> simp [same] at hp ⊢
  · exact .refl _ st

/-- A session's slot just closed, its mail and its snapshot with it (R268). -/
def slotClosed (s : State) (k : Nat) (reason : U8) : State :=
  let s1 := modSess s k fun x => { x with
    state := 3, reason := reason, firstCyc := none, heard := false, records := [], closeReq := none }
  { s1 with
    sessions := { s1.sessions with
      mailbox := s1.sessions.mailbox.filter fun m => m.slot != k
      records := s1.sessions.records.filter fun r => r.slot != k
      timeouts := if reason = 0x0C then s1.sessions.timeouts + 1 else s1.sessions.timeouts
      closeDue := s1.sessions.closeDue ++ [((sess s k).node, reason)] }
    cyc := { s1.cyc with snap := { s1.cyc.snap with
      records := s1.cyc.snap.records.filter fun r => r.slot != k, mail := s1.cyc.snap.mail.filter fun m => m.slot != k
      events := s1.cyc.snap.events ++ [.closed k reason s1.now] } } }

/-- A session's close: its slot, its reports, and source 90. -/
theorem closeSession_eq (s : State) (k : Nat) (reason : U8) :
    closeSession s k reason = raise (forgetReports (slotClosed s k reason) ((sess s k).partner.getD 0xFFFF)) 90 (u32 k)
      (u32 reason.toNat) (u32 ((sess s k).partner.getD 0xFFFF)) := by
  unfold closeSession slotClosed
  dsimp only

theorem slotClosed_woundUp (s : State) (k : Nat) (reason : U8) : WoundUp s (slotClosed s k reason) :=
  ⟨fun p hp => by cases p <;> simp [same, slotClosed] at hp ⊢, rfl, rfl⟩

theorem closeSession_woundUp {s : State} (h : AtRest s) (k : Nat) (reason : U8) : WoundUp s (closeSession s k reason) := by
  rw [closeSession_eq]
  have slot := slotClosed_woundUp s k reason
  generalize slotClosed s k reason = s1 at slot ⊢
  have forgot := woundUp_of_frame ((forgetReports_frame s1 ((sess s k).partner.getD 0xFFFF)).mono (by decide))
  generalize forgetReports s1 ((sess s k).partner.getD 0xFFFF) = s2 at forgot ⊢
  have both := slot.trans forgot
  exact both.trans (woundUp_of_frame ((bookOnly_raise (both.atRest h) 90 rfl _ _).rest.mono (by decide)))

theorem closeSessions_woundUp (l : List (Nat × Sess)) {s : State} (h : AtRest s) (reason : U8) :
    WoundUp s (l.foldl (fun st e => closeSession st e.1 reason) s) := by
  induction l generalizing s with
  | nil => exact .refl s
  | cons e l ih =>
    have first := closeSession_woundUp h e.1 reason
    exact first.trans (ih (first.atRest h))

theorem sendReason_frame (s : State) (c : Chan) (op node : Nat) (reason : U8) (field : U16) :
    Frame [.bus] s (sendReason s c op node reason field) := by
  unfold sendReason sendOpenFrame queueFrame queueOn
  dsimp only
  (repeat' split) <;> exact fun p hp => by cases p <;> simp [same] at hp ⊢

/-- The closes are on their way. -/
def closesTaken (s : State) : State := { s with sessions := { s.sessions with closeDue := [] } }

/-- One of them. -/
def closeSent (s : State) (x : Nat × U8) : State := sendReason s .a 4 x.1 x.2 0

theorem sendCloses_eq (s : State) :
    sendCloses s = (if s.twin.role = .standby then [] else s.sessions.closeDue).foldl closeSent (closesTaken s) := rfl

theorem closesTaken_frame (s : State) : Frame [.sessions] s (closesTaken s) := by
  intro p hp
  cases p <;> simp [same, closesTaken] at hp ⊢

theorem closeSent_frame (s : State) (x : Nat × U8) : Frame [.bus] s (closeSent s x) := by
  unfold closeSent
  exact sendReason_frame s .a 4 x.1 x.2 0

theorem sendCloses_woundUp (s : State) : WoundUp s (sendCloses s) := by
  rw [sendCloses_eq]
  have taken := closesTaken_frame s
  have sent := foldl_frame closeSent closeSent_frame (if s.twin.role = .standby then [] else s.sessions.closeDue) (closesTaken s)
  exact woundUp_of_frame ((taken.mono (by decide)).trans (sent.mono (by decide)))

/-- Kutia in Shutdown with the kill lines and the sequencer stopped, the queue answered and no attempt left. -/
def shutDown (s : State) : State :=
  abortAttempts (cancelArmed (setMode (flushCommands { (stopKillLines s 0xFF) with cyc := { s.cyc with running := false } }) .shutdown 0xFF))

/-- Its sessions are closed. -/
def sessionsDown (s : State) : State :=
  sendCloses (((slotsInUse (shutDown s)).filter fun e => e.2.state == 1 || e.2.state == 2).foldl
    (fun st e => closeSession st e.1 0x0B) (shutDown s))

/-- Control is given up, and no force and no request is left. -/
def requestsDown (s : State) : State :=
  let s4 := if (sessionsDown s).twin.role = .active then twinNotice (recordGiveUp (sessionsDown s) 0 none32) 1 else sessionsDown s
  bookEvent (dropForces { s4 with host := { s4.host with modeReq := none } }) 0x0012 (u32 (roleCode s4.twin.role)) s4.cyc.number 0

/-- The BIST is recorded and the retention counter begins. -/
def bistDown (env : StartEnv) (s : State) : State :=
  let s6 := recordBist (requestsDown s) env 2
  bookEvent (modModes s6 fun x => { x with record := some ⟨bistAllPassed env, installedCommits s6⟩, retention := some 0 })
    0x0013 (u32 (blocksWith env .failed)) (u32 (blocksWith env .notRun)) (u32 (bistTotal env))

theorem enterShutdown_eq (found : StartEnv) (s : State) :
    enterShutdown found s =
      let s8 := ([7, 6, 3, 2, 1] : List Nat).foldl domainOff (bistDown (fieldBist s found) s)
      lanternOff { s8 with field := { s8.field with gate := 0 } } 1 := by
  unfold enterShutdown bistDown requestsDown sessionsDown shutDown
  dsimp only

theorem shutDown_rest (s : State) :
    (shutDown s).modes.mode = .shutdown ∧ (core (shutDown s)).KillOff ∧ (shutDown s).cyc.running = false ∧ (shutDown s).cyc.cmdq = [] := by
  have halted : core (flushCommands { stopKillLines s 0xFF with cyc := { s.cyc with running := false } }) =
      ⟨(core (stopKillLines s 0xFF)).mode, (core (stopKillLines s 0xFF)).killR, false, (core (stopKillLines s 0xFF)).images⟩ := by
    rw [flushCommands_core]; rfl
  have entered : core (shutDown s) =
      ⟨.shutdown, (core (stopKillLines s 0xFF)).killR, false, (core (stopKillLines s 0xFF)).images⟩ := by
    unfold shutDown
    rw [abortAttempts_core, cancelArmed_core, setMode_core, halted]
  refine ⟨?_, ?_, ?_, ?_⟩
  · rw [← core_mode, entered]
  · rw [entered]; exact core_killOff_mk.mpr (stopKillLines_kill s 0xFF)
  · rw [← core_running, entered]
  · unfold shutDown
    generalize hx : flushCommands _ = x
    have empty : x.cyc.cmdq = [] := by rw [← hx]; exact (flushCommands_waiting _).1
    simpa using empty

theorem sessionsDown_woundUp (s : State) : WoundUp (shutDown s) (sessionsDown s) := by
  unfold sessionsDown
  have closed := closeSessions_woundUp ((slotsInUse (shutDown s)).filter fun e => e.2.state == 1 || e.2.state == 2)
    (s := shutDown s) (.inr (.inr (shutDown_rest s).1)) 0x0B
  exact closed.trans (sendCloses_woundUp _)

theorem dropForces_rest (s : State) :
    (dropForces s).change.forces = [] ∧ (dropForces s).host.modeReq = s.host.modeReq ∧ Frame [.change, .host] s (dropForces s) :=
  ⟨rfl, rfl, fun p hp => by cases p <;> simp [same, dropForces] at hp ⊢⟩

theorem requestsDown_rest (s : State) :
    (requestsDown s).change.forces = [] ∧ (requestsDown s).host.modeReq = none ∧
      Frame [.change, .host, .constable, .twin, .out] (sessionsDown s) (requestsDown s) := by
  unfold requestsDown
  generalize sessionsDown s = s3
  dsimp only
  have given : Frame [.twin, .constable, .out] s3 (if s3.twin.role = .active then twinNotice (recordGiveUp s3 0 none32) 1 else s3) := by
    split
    · exact fun p hp => by cases p <;> simp [same] at hp ⊢
    · exact .refl _ s3
  generalize (if s3.twin.role = .active then twinNotice (recordGiveUp s3 0 none32) 1 else s3) = s4 at given
  obtain ⟨forces, req, dropped⟩ := dropForces_rest { s4 with host := { s4.host with modeReq := none } }
  have cleared : Frame [.host] s4 { s4 with host := { s4.host with modeReq := none } } := fun p hp => by cases p <;> simp [same] at hp ⊢
  generalize hs5 : ({ s4 with host := { s4.host with modeReq := none } } : State) = s5 at *
  have none : s5.host.modeReq = none := by rw [← hs5]
  refine ⟨by simpa using forces, by simp [req, none], ?_⟩
  refine (given.mono (by decide)).trans ((cleared.mono (by decide)).trans ((dropped.mono (by decide)).trans ?_))
  exact fun p hp => by cases p <;> simp [same] at hp ⊢

theorem recordBist_rest (s : State) (env : StartEnv) (kind : Nat) :
    (recordBist s env kind).modes.mode = s.modes.mode ∧ (recordBist s env kind).modes.bistKind = kind ∧
      (recordBist s env kind).modes.bistAt = s.now ∧ Frame [.modes, .constable] s (recordBist s env kind) := by
  unfold recordBist
  dsimp only
  split <;> exact ⟨rfl, rfl, rfl, fun p hp => by cases p <;> simp [same, modModes, sweepDone] at hp ⊢⟩

theorem bistDown_rest (env : StartEnv) (s : State) :
    (bistDown env s).modes.mode = (requestsDown s).modes.mode ∧ (bistDown env s).modes.bistKind = 2 ∧
      (bistDown env s).modes.bistAt = (requestsDown s).now ∧ (bistDown env s).modes.retention = some 0 ∧
      Frame [.modes, .constable] (requestsDown s) (bistDown env s) := by
  unfold bistDown
  generalize requestsDown s = s5
  obtain ⟨mode, kind, at_, frame⟩ := recordBist_rest s5 env 2
  dsimp only
  generalize recordBist s5 env 2 = s6 at *
  refine ⟨by simpa [modModes] using mode, by simpa [modModes] using kind, by simpa [modModes] using at_, by simp [modModes], ?_⟩
  refine frame.trans fun p hp => ?_
  cases p <;> simp [same, modModes] at hp ⊢

theorem domainsOff_rest (l : List Nat) (s : State) :
    (l.foldl domainOff s).modes.mode = s.modes.mode ∧ (l.foldl domainOff s).modes.bistKind = s.modes.bistKind ∧
      (l.foldl domainOff s).modes.bistAt = s.modes.bistAt ∧ (l.foldl domainOff s).modes.retention = s.modes.retention ∧
      Frame [.modes] s (l.foldl domainOff s) := by
  induction l generalizing s with
  | nil => exact ⟨rfl, rfl, rfl, rfl, .refl _ s⟩
  | cons d l ih =>
    obtain ⟨mode, kind, at_, retention, frame⟩ := ih (domainOff s d)
    refine ⟨mode, kind, at_, retention, Frame.trans (fun p hp => ?_) frame⟩
    cases p <;> simp [same, domainOff] at hp ⊢

/-- Nothing is driven. -/
def fieldDark (s : State) : State := lanternOff { s with field := { s.field with gate := 0 } } 1

theorem fieldDark_rest (s : State) : Dark (fieldDark s) ∧ Frame [.field] s (fieldDark s) := by
  unfold fieldDark lanternOff
  split
  case isTrue => exact ⟨⟨rfl, rfl⟩, fun p hp => by cases p <;> simp [same] at hp ⊢⟩
  case isFalse h => exact ⟨⟨rfl, Bool.eq_false_iff.mpr h⟩, fun p hp => by cases p <;> simp [same] at hp ⊢⟩

theorem sessionsDown_killOff (s : State) : (core (sessionsDown s)).KillOff := by
  have closed (l : List (Nat × Sess)) (x : State) (h : (core x).KillOff) :
      (core (l.foldl (fun st e => closeSession st e.1 0x0B) x)).KillOff := by
    induction l generalizing x with
    | nil => exact h
    | cons e l ih =>
      refine ih _ ?_
      show (core (closeSession x e.1 0x0B)).KillOff
      rw [closeSession_eq]
      exact raise_killOff _ _ _ _ (by rw [forgetReports_core]; exact h)
  unfold sessionsDown
  rw [sendCloses_core]
  exact closed _ _ (shutDown_rest s).2.1

theorem enterShutdown_killOff (found : StartEnv) (s : State) : (core (enterShutdown found s)).KillOff := by
  have down := sessionsDown_killOff s
  have requests : core (requestsDown s) = core (sessionsDown s) := by
    unfold requestsDown
    generalize sessionsDown s = s3
    dsimp only
    have given : core (if s3.twin.role = .active then twinNotice (recordGiveUp s3 0 none32) 1 else s3) = core s3 := by
      split <;> simp
    generalize (if s3.twin.role = .active then twinNotice (recordGiveUp s3 0 none32) 1 else s3) = s4 at given ⊢
    simpa using given
  have bist : core (bistDown (fieldBist s found) s) = core (requestsDown s) := by
    unfold bistDown
    generalize requestsDown s = s5
    simp
  have dark : core (enterShutdown found s) = core (bistDown (fieldBist s found) s) := by
    rw [enterShutdown_eq]
    generalize bistDown (fieldBist s found) s = s7
    simp
  rw [dark, bist, requests]
  exact down

/-- Kutia in Shutdown since `now` (R355). -/
structure InShutdown (b : State) (now : Time) : Prop where
  mode : b.modes.mode = .shutdown
  kill : b.constable.kill = false
  running : b.cyc.running = false
  cmdq : b.cyc.cmdq = []
  dark : Dark b
  forces : b.change.forces = []
  modeReq : b.host.modeReq = none
  retention : b.modes.retention = some 0
  bistKind : b.modes.bistKind = 2
  bistAt : b.modes.bistAt = now

theorem KillOff.kill {b : State} (h : (core b).KillOff) : b.constable.kill = false := h

theorem enterShutdown_rest (found : StartEnv) (s : State) : InShutdown (enterShutdown found s) s.now := by
  obtain ⟨mode, -, running, cmdq⟩ := shutDown_rest s
  have now : (shutDown s).now = s.now := by simp [shutDown]
  have wound := sessionsDown_woundUp s
  obtain ⟨forces, req, given⟩ := requestsDown_rest s
  obtain ⟨bMode, bKind, bAt, bRetention, bist⟩ := bistDown_rest (fieldBist s found) s
  obtain ⟨dMode, dKind, dAt, dRetention, domains⟩ := domainsOff_rest [7, 6, 3, 2, 1] (bistDown (fieldBist s found) s)
  have kill := KillOff.kill (enterShutdown_killOff found s)
  have eq : enterShutdown found s = fieldDark (([7, 6, 3, 2, 1] : List Nat).foldl domainOff (bistDown (fieldBist s found) s)) :=
    enterShutdown_eq found s
  rw [eq] at kill ⊢
  obtain ⟨dark, field⟩ := fieldDark_rest (([7, 6, 3, 2, 1] : List Nat).foldl domainOff (bistDown (fieldBist s found) s))
  clear eq
  generalize ([7, 6, 3, 2, 1] : List Nat).foldl domainOff (bistDown (fieldBist s found) s) = s8 at *
  generalize bistDown (fieldBist s found) s = s7 at *
  generalize requestsDown s = s5 at *
  generalize sessionsDown s = s3 at *
  generalize shutDown s = s2 at *
  generalize fieldDark s8 = s9 at *
  have last : Frame [.modes, .field, .constable] s5 s9 :=
    (bist.mono (by decide)).trans ((domains.mono (by decide)).trans (field.mono (by decide)))
  have fModes : s9.modes = s8.modes := field .modes (by decide)
  have fCyc : s9.cyc = s3.cyc := (last .cyc (by decide)).trans (given .cyc (by decide))
  have fChange : s9.change = s5.change := last .change (by decide)
  have fHost : s9.host = s5.host := last .host (by decide)
  have sModes : s5.modes = s2.modes := (given .modes (by decide)).trans (wound.rest .modes (by decide))
  have sNow : s5.now = s2.now := (given .now (by decide)).trans (wound.rest .now (by decide))
  exact {
    mode := by rw [fModes, dMode, bMode, sModes, mode]
    kill := kill
    running := by rw [fCyc, wound.running, running]
    cmdq := by rw [fCyc, wound.cmdq, cmdq]
    dark := dark
    forces := by rw [fChange, forces]
    modeReq := by rw [fHost, req]
    retention := by rw [fModes, dRetention, bRetention]
    bistKind := by rw [fModes, dKind, bKind]
    bistAt := by rw [fModes, dAt, bAt, sNow, now] }

theorem modeRequestShutdown_eq (t : Time) (s : State) (ch : Fin 8) (env : StartEnv) :
    exec (.modeRequestShutdown t ch env) s = writeAt t s ch.val fun s => needAuth s ch.val fun s => writeMode env s 11 := rfl

theorem InShutdown.closed {s r s' : State} {ch : Nat} {now : Time} (h : InShutdown r now) (c : Closed s (touch r ch) s') :
    InShutdown s' now where
  mode := by rw [c.modes]; exact h.mode
  kill := by rw [c.kill]; exact h.kill
  running := by rw [c.cyc]; exact h.running
  cmdq := by rw [c.cyc]; exact h.cmdq
  dark := by rw [Dark, c.field]; exact h.dark
  forces := by rw [c.change]; exact h.forces
  modeReq := by rw [c.modeReq]; exact h.modeReq
  retention := by rw [c.modes]; exact h.retention
  bistKind := by rw [c.modes]; exact h.bistKind
  bistAt := by rw [c.modes]; exact h.bistAt

/-- The request for Shutdown is noted. -/
def shutdownNoted (s : State) : State := { s with host := { s.host with request := 11, outcome := 0 } }

theorem writeMode_shutdown {s : State} (mode : s.modes.mode = Mode.split ∨ (s.modes.mode = .safeState ∧ s.constable.grave = false))
    (env : StartEnv) : writeMode env s 11 = .ok (enterShutdown env (shutdownNoted s)) := by
  have allowed : requestAllowed s 11 = true := by
    rcases mode with h | ⟨h, g⟩
    · simp [requestAllowed, h]
    · simp [requestAllowed, h, g]
  have atOnce : appliesAtOnce s.modes.mode = true := by
    rcases mode with h | ⟨h, -⟩ <;> rw [h] <;> rfl
  rw [writeMode_eq rfl, allowed, atOnce]
  unfold refuseUnless applyRequest shutdownNoted
  rw [if_pos rfl, if_pos rfl, if_pos rfl]
  rfl

/-- Shutdown from Split or Safe State is entered at once (R346). -/
theorem answers_shutdown {t : Time} {s : State} {ch : Fin 8} (env : StartEnv) (serves : Serves s t)
    (auth : authorised s ch.val = true) (mode : s.modes.mode = Mode.split ∨ (s.modes.mode = .safeState ∧ s.constable.grave = false)) :
    Answers (.modeRequestShutdown t ch env) s fun s' => InShutdown s' t := by
  have writes : needAuth (s.atTime t) ch.val (fun s => writeMode env s 11) = .ok (enterShutdown env (shutdownNoted (s.atTime t))) := by
    rw [needAuth_of_authorised auth, writeMode_shutdown (s := s.atTime t) mode]
  have rest := enterShutdown_rest env (shutdownNoted (s.atTime t))
  rw [show (shutdownNoted (s.atTime t)).now = t from rfl] at rest
  generalize enterShutdown env (shutdownNoted (s.atTime t)) = r at writes rest
  exact answers_write (modeRequestShutdown_eq t s ch env) serves writes fun s' close => rest.closed close

/-- Settles O14: Shutdown from Split or Safe State at once is log 71 (DEDUCED). -/
theorem modeRequestsAndShutdown : Obligations.ModeRequestsAndShutdown :=
  ⟨fun t s ch env serves _ _ listed => modeRequests_checked t s ch env serves listed,
    fun _ _ _ env serves auth mode => by
      obtain ⟨s', runs, hMode, kill, running, cmdq, dark, forces, req, retention, kind, bistAt⟩ := answers_shutdown env serves auth mode
      have images := imagesChangeOnlyByTheirSteps _ _ _ runs (by simp) (by simp) (by simp)
      exact ⟨s', runs, hMode, kill, running, cmdq, dark, forces, req, retention, kind, bistAt, images⟩⟩

/-! ### A start that is refuted (R425) -/

/-- A rollback that ends in Stop, with source 118 standing at Module class though it is not asserted. -/
def rollbackWithEscalated118 : State := { State.reset with
  modes := { State.reset.modes with mode := .stop }
  update := { State.reset.update with state := 6, reverse := true }
  constable := { State.reset.constable with sources := [(118, { effective := 3 })] } }

/-- The raise of source 118 enters Safe State, and the start that follows ends in Watch. -/
theorem rollbackWithEscalated118_watch :
    ∃ s', exec (.rollbackComplete 0 noEnv) rollbackWithEscalated118 = .next s' ∧ s'.modes.mode = .watch := by
  refine ⟨_, rfl, ?_⟩
  decide +kernel

/-- Refutes O13: the end of a rollback raises source 118, whose class no hypothesis bounds: one that stands at Module class takes Kutia
out of Stop before the restart is due. -/
theorem not_startsBeginAfresh : ¬ Obligations.StartsBeginAfresh := by
  intro h
  obtain ⟨-, -, -, update, -⟩ := h 0 rollbackWithEscalated118 0 noEnv 0 ⟨0, 0, 0, 0, []⟩
  obtain ⟨s', runs, -, -, -, stays, -⟩ := (update rfl rfl).2 rfl (.inl rfl)
  obtain ⟨s'', runs', watch⟩ := rollbackWithEscalated118_watch
  have same : s' = s'' := by rw [runs] at runs'; injection runs'
  have stop := (stays rfl).1
  rw [same, watch] at stop
  exact absurd stop (by decide)

end Sys2Proof.Machine
end

section
/-!
PROOFS. Commands that leave the attributes of the device state: their exit is plain. The command queue and the ring of the host, and the
boundary records (O21, O22).
-/

namespace Sys2Proof.Machine

/-! ### Effects that leave the attributes -/

/-- None of the listed parts holds one of the attributes of the device state, or the queue of waiting commands. -/
def still (l : List Part) : Bool := [Part.pending, .modes, .twin, .update, .lanes, .change].all fun p => !l.contains p

theorem not_mem_of_still {l : List Part} (h : still l = true) {p : Part} (hp : p ∈ [Part.pending, .modes, .twin, .update, .lanes, .change]) :
    p ∉ l := by
  have := List.all_eq_true.mp h p hp
  simpa using this

theorem attributes_frame {l : List Part} {s r : State} (hf : Frame l s r) (hl : still l = true) : attributes s = attributes r := by
  have modes : r.modes = s.modes := hf .modes (not_mem_of_still hl (by decide))
  have twin : r.twin = s.twin := hf .twin (not_mem_of_still hl (by decide))
  have update : r.update = s.update := hf .update (not_mem_of_still hl (by decide))
  have lanes : r.lanes = s.lanes := hf .lanes (not_mem_of_still hl (by decide))
  have change : r.change = s.change := hf .change (not_mem_of_still hl (by decide))
  exact attrs_same (by rw [modes]) ⟨by rw [modes], by rw [modes]⟩ (by rw [twin]) (by rw [update]) lanes (by rw [change])

/-- A command whose effect leaves the attributes answers exactly its effect. -/
theorem answers_still {c : Instr} {t : Time} {s : State} {l : List Part} {f : State → State} {P : State → Prop}
    (hc : exec c s = at_ t s f) (hf : Frame l (s.atTime t) (f (s.atTime t))) (hl : still l = true) (h : P (f (s.atTime t))) :
    Answers c s P :=
  answers_plain hc ((attributes_frame (frame_atTime s t) (by decide)).trans (attributes_frame hf hl))
    (hf .pending (not_mem_of_still hl (by decide))) h

theorem runs_still {c : Instr} {t : Time} {s r : State} {l : List Part} {f : State → State} (hc : exec c s = at_ t s f)
    (hr : f (s.atTime t) = r) (hf : Frame l (s.atTime t) r) (hl : still l = true) : Runs c s r := by
  subst hr
  obtain ⟨s', runs, rfl⟩ := answers_still (P := (· = f (s.atTime t))) hc hf hl rfl
  exact runs

/-- A command that has no effect here. -/
theorem runs_idle {c : Instr} {t : Time} {s : State} {f : State → State} (hc : exec c s = at_ t s f)
    (hr : f (s.atTime t) = s.atTime t) : Runs c s (s.atTime t) :=
  runs_still hc hr (.refl [] _) (by decide)

theorem touch_frame (s : State) (ch : Nat) : Frame [.host] s (touch s ch) := by
  intro p hp
  cases p <;> simp [same, touch] at hp ⊢

/-- An accepted host write that leaves the attributes answers exactly its effect. -/
theorem answers_writeStill {c : Instr} {t : Time} {s r : State} {ch : Fin 8} {l : List Part} {f : State → Write} {P : State → Prop}
    (hc : exec c s = writeAt t s ch.val f) (serves : Serves s t) (hr : f (s.atTime t) = .ok r) (hf : Frame l (s.atTime t) r)
    (hl : still l = true) (hh : .host ∈ l) (h : P (touch r ch.val)) : Answers c s P := by
  have served : stewardServes (s.atTime t) = true := by simp [stewardServes, State.atTime, serves.1, serves.2]
  have ok : hostWrite (s.atTime t) ch.val f = touch r ch.val := hostWrite_ok served hr
  refine answers_still (f := fun s => hostWrite s ch.val f) (l := l) hc ?_ hl (by rw [ok]; exact h)
  rw [ok]
  exact hf.trans ((touch_frame r ch.val).mono (by simpa using hh))

/-! ### Command records (R134, R137) -/

/-- An attempt of a host frame while the Steward serves. -/
theorem answers_attempt {c : Instr} {t : Time} {s r : State} {ch : Fin 8} {code : Option U16} {l : List Part} {f : State → Attempt}
    {P : State → Prop} (hc : exec c s = attemptAt t s ch.val f) (serves : Serves s t) (hr : f (s.atTime t) = (r, code))
    (hf : Frame l (s.atTime t) r) (hl : still l = true) (hh : .host ∈ l) (h : P (afterAttempt ch.val (r, code))) : Answers c s P := by
  have served : stewardServes (s.atTime t) = true := by simp [stewardServes, State.atTime, serves.1, serves.2]
  have ok : (if stewardServes (s.atTime t) = true then afterAttempt ch.val (f (s.atTime t)) else s.atTime t) =
      afterAttempt ch.val (r, code) := by rw [if_pos served, hr]
  refine answers_still (f := fun s1 => if stewardServes s1 then afterAttempt ch.val (f s1) else s1) (l := l) hc ?_ hl (by rw [ok]; exact h)
  rw [ok]
  refine hf.trans (Frame.mono (l := [.host]) (fun p hp => ?_) (by simpa using hh))
  cases code <;> cases p <;> simp [same, afterAttempt, touch, noteAbort] at hp ⊢

theorem runs_attempt {c : Instr} {t : Time} {s r : State} {ch : Fin 8} {code : Option U16} {l : List Part} {f : State → Attempt}
    (hc : exec c s = attemptAt t s ch.val f) (serves : Serves s t) (hr : f (s.atTime t) = (r, code))
    (hf : Frame l (s.atTime t) r) (hl : still l = true) (hh : .host ∈ l) : Runs c s (afterAttempt ch.val (r, code)) := by
  obtain ⟨s', runs, rfl⟩ := answers_attempt (P := (· = afterAttempt ch.val (r, code))) hc serves hr hf hl hh rfl
  exact runs

theorem queueFull_iff (s : State) :
    queueFull s = true ↔ 256 ≤ s.cyc.cmdq.length ∨ 4096 < s.cyc.ring.length + s.cyc.reserved + 2 := by
  unfold queueFull
  rw [Bool.or_eq_true, decide_eq_true_iff, decide_eq_true_iff]

theorem notFull {s : State} (q : s.cyc.cmdq.length < 256) (ring : s.cyc.ring.length + s.cyc.reserved + 2 ≤ 4096) :
    queueFull s = false := by
  rw [← Bool.not_eq_true, queueFull_iff]
  omega

/-- The state after a command that is answered 15h at once (R337). -/
def answeredAtOnce (s : State) (x : Command) : State :=
  let s1 := noteResult { s with cyc := { s.cyc with reserved := s.cyc.reserved + 1 } } x 0x15 none32
  writeResult s1 (resultOf s1 x 0x15 none32)

theorem answeredAtOnce_cyc (s : State) (x : Command) : (answeredAtOnce s x).cyc = { s.cyc with
    ring := s.cyc.ring ++ [resultOf s x 0x15 none32], writeSeq := s.cyc.writeSeq + 1 } := by
  simp [answeredAtOnce, resultOf]

theorem answeredAtOnce_route (s : State) (x : Command) (h : x.opcode.toNat ≤ 3) :
    (routeSt (answeredAtOnce s x) x.target).result = 0x15 ∧ (routeSt (answeredAtOnce s x) x.target).ref = none32 := by
  have put : routeSt (answeredAtOnce s x) x.target = { routeSt s x.target with result := 0x15, ref := none32 } := by
    simp only [routeSt, answeredAtOnce, writeResult_rest, noteResult, if_pos h, modRoute]
    exact tget_tput_self _ _ _ _ (fun same => absurd (show (0x15 : U8) = 0 from congrArg RouteSt.result same) (by decide))
  rw [put]
  exact ⟨rfl, rfl⟩

theorem answeredAtOnce_frame (s : State) (x : Command) :
    Frame [.cyc, .host, .commons, .constable] s (answeredAtOnce s x) := by
  intro p hp
  cases p <;> simp [same, answeredAtOnce] at hp ⊢

theorem commandsJoin_of {t : Time} {s : State} {ch : Fin 8} {a : CmdArgs} {c : Instr} {op : Nat} {param : U32} (serves : Serves s t)
    (hc : exec c s = attemptAt t s ch.val fun s => writeCommand s ch.val op param a) (small : op < 256) :
    (a.flags ≠ 0 ∨ paramOk op param.toNat = false → Runs c s (refused (s.atTime t) ch 0x0241)) ∧
      (a.flags = 0 → paramOk op param.toNat = true →
        256 ≤ s.cyc.cmdq.length ∨ 4096 < s.cyc.ring.length + s.cyc.reserved + 2 →
        Runs c s (refused (modCyc (s.atTime t) fun x => { x with refusedFull := x.refusedFull + 1 }) ch 0x0616)) ∧
      (a.flags = 0 → paramOk op param.toNat = true → s.cyc.cmdq.length < 256 →
        s.cyc.ring.length + s.cyc.reserved + 2 ≤ 4096 → takesNone s.modes.mode = false →
        Runs c s (accepted (modCyc (s.atTime t) fun x => { x with
          cmdq := x.cmdq ++ [Recorded s t ch (u8 op) param a], reserved := x.reserved + 2 }) ch)) ∧
      (a.flags = 0 → paramOk op param.toNat = true → s.cyc.cmdq.length < 256 →
        s.cyc.ring.length + s.cyc.reserved + 2 ≤ 4096 → takesNone s.modes.mode = true →
        Answers c s fun s' =>
          s'.cyc.ring = s.cyc.ring ++ [⟨a.hseq, u16 a.target.toNat, u8 op, 0x15, none32, s.cyc.number⟩] ∧
          s'.cyc.writeSeq = s.cyc.writeSeq + 1 ∧ s'.cyc.cmdq = s.cyc.cmdq ∧ s'.cyc.reserved = s.cyc.reserved ∧
          (op ≤ 3 → (routeSt s' a.target.toNat).result = 0x15 ∧ (routeSt s' a.target.toNat).ref = none32) ∧
          Frame [.now, .cyc, .host, .commons, .constable] s s') := by
  refine ⟨fun bad => ?_, fun flags ok full => ?_, fun flags ok q ring takes => ?_, fun flags ok q ring takes => ?_⟩
  · refine runs_attempt (code := some 0x0241) (l := [.host]) hc serves ?_ (.refl _ _) (by decide) (by decide)
    exact if_pos bad
  · refine runs_attempt (code := some 0x0616) (l := [.cyc, .host]) hc serves ?_ ?_ (by decide) (by decide)
    · have queue : queueFull (s.atTime t) = true := (queueFull_iff _).mpr full
      simp [writeCommand, flags, ok, queue]
    · exact fun p hp => by cases p <;> simp [same] at hp ⊢
  · refine runs_attempt (code := none) (l := [.cyc, .host]) hc serves ?_ ?_ (by decide) (by decide)
    · have queue : queueFull (s.atTime t) = false := notFull q ring
      simp only [writeCommand, flags, ok, queue]
      simp [takes, Recorded, commandOf, authorised, chanSt]
      rfl
    · exact fun p hp => by cases p <;> simp [same] at hp ⊢
  · have queue : queueFull (s.atTime t) = false := notFull q ring
    have made : writeCommand (s.atTime t) ch.val op param a =
        (answeredAtOnce (s.atTime t) (commandOf (s.atTime t) ch.val op param a), none) := by
      simp [writeCommand, flags, ok, queue, takes, answeredAtOnce]
    have frame := answeredAtOnce_frame (s.atTime t) (commandOf (s.atTime t) ch.val op param a)
    refine answers_attempt hc serves made frame (by decide) (by decide) ?_
    have touched := touch_frame (answeredAtOnce (s.atTime t) (commandOf (s.atTime t) ch.val op param a)) ch.val
    have cyc : (afterAttempt ch.val (answeredAtOnce (s.atTime t) (commandOf (s.atTime t) ch.val op param a), none)).cyc = _ :=
      (touched .cyc (by decide)).trans (answeredAtOnce_cyc _ _)
    have commons : (afterAttempt ch.val (answeredAtOnce (s.atTime t) (commandOf (s.atTime t) ch.val op param a), none)).commons = _ :=
      touched .commons (by decide)
    refine ⟨by rw [cyc]; rfl, by rw [cyc]; rfl, by rw [cyc]; rfl, by rw [cyc]; rfl, fun le => ?_, ?_⟩
    · have code : (commandOf (s.atTime t) ch.val op param a).opcode.toNat ≤ 3 := by
        simp only [commandOf, u8, BitVec.toNat_ofNat]
        omega
      unfold routeSt
      rw [commons]
      exact answeredAtOnce_route (s.atTime t) (commandOf (s.atTime t) ch.val op param a) code
    · exact ((frame_atTime s t).mono (by decide)).trans ((frame.mono (by decide)).trans (touched.mono (by decide)))

/-- Settles O21. -/
theorem commandsJoinTheQueue : Obligations.CommandsJoinTheQueue := by
  intro t s ch p a serves c op param listed
  simp only [List.mem_cons, Prod.mk.injEq, List.not_mem_nil, or_false] at listed
  rcases listed with ⟨rfl, rfl, rfl⟩ | ⟨rfl, rfl, rfl⟩ | ⟨rfl, rfl, rfl⟩ | ⟨rfl, rfl, rfl⟩ | ⟨rfl, rfl, rfl⟩ | ⟨rfl, rfl, rfl⟩ |
    ⟨rfl, rfl, rfl⟩ | ⟨rfl, rfl, rfl⟩ | ⟨rfl, rfl, rfl⟩ | ⟨rfl, rfl, rfl⟩ | ⟨rfl, rfl, rfl⟩ <;>
    exact commandsJoin_of serves rfl (by decide)

/-! ### The read sequence and boundary records (R142, R96) -/

theorem readSequenceAdvance_eq (t : Time) (s : State) (ch : Fin 8) (v : U32) :
    exec (.readSequenceAdvance t ch v) s = writeAt t s ch.val fun s => writeReadSeq s v := rfl

theorem readSequence_advances {t : Time} {s : State} {ch : Fin 8} {v : U32} (serves : Serves s t) :
    ((v - s.cyc.readSeq).toNat ≤ (s.cyc.writeSeq - s.cyc.readSeq).toNat →
       Runs (.readSequenceAdvance t ch v) s
         (accepted (modCyc (s.atTime t) fun x => { x with
           readSeq := v, ring := s.cyc.ring.drop (v - s.cyc.readSeq).toNat }) ch)) ∧
     ((s.cyc.writeSeq - s.cyc.readSeq).toNat < (v - s.cyc.readSeq).toNat →
       Runs (.readSequenceAdvance t ch v) s (refused (s.atTime t) ch 0x0230)) := by
  have eq : writeReadSeq (s.atTime t) v = refuseUnless
      (decide ((v - s.cyc.readSeq).toNat ≤ (s.cyc.writeSeq - s.cyc.readSeq).toNat)) 0x0230
      (.ok (modCyc (s.atTime t) fun x => { x with readSeq := v, ring := s.cyc.ring.drop (v - s.cyc.readSeq).toNat })) := rfl
  refine ⟨fun le => ?_, fun lt => ?_⟩
  · refine runs_write (readSequenceAdvance_eq t s ch v) serves ?_ rfl ⟨rfl, rfl⟩ rfl rfl rfl rfl rfl
    rw [eq, decide_eq_true le]
    rfl
  · refine runs_refused (readSequenceAdvance_eq t s ch v) serves ?_
    rw [eq, decide_eq_false (not_le.mpr lt)]
    rfl

/-- A boundary record arrives on a session slot. -/
theorem runs_boundaryRecord {t : Time} {s : State} {k : Nat} {b : BoundaryRec} {msg : Nat} {c : Instr}
    (hc : exec c s = receiveRecord t k msg b s) :
    ((sess s k).state = 2 → Runs c s (modSessions (s.atTime t) fun x => { x with records := x.records ++ [⟨k, msg, b, t⟩] })) ∧
      ((sess s k).state ≠ 2 → Runs c s (s.atTime t)) := by
  refine ⟨fun opened => ?_, fun closed => ?_⟩
  · refine runs_still (l := [.sessions]) hc (if_pos opened) ?_ (by decide)
    exact fun p hp => by cases p <;> simp [same, modSessions] at hp ⊢
  · exact runs_idle hc (if_neg closed)

/-- Settles O22: that a record is taken on an Open slot alone is log 77 (DEDUCED). -/
theorem ringReadsAndBoundaryRecords : Obligations.RingReadsAndBoundaryRecords := by
  refine ⟨fun t s ch v serves => readSequence_advances serves, fun t s k b c msg listed => ?_⟩
  simp only [List.mem_cons, Prod.mk.injEq, List.not_mem_nil, or_false] at listed
  rcases listed with ⟨rfl, rfl⟩ | ⟨rfl, rfl⟩ | ⟨rfl, rfl⟩ | ⟨rfl, rfl⟩ | ⟨rfl, rfl⟩ | ⟨rfl, rfl⟩ <;> exact runs_boundaryRecord rfl

end Sys2Proof.Machine
end

section
/-!
PROOFS. Local drive groups: how they lose torque, and how their lock-out is reset (O28).
-/

namespace Sys2Proof.Machine

/-! ### Reading elements and groups that have just been changed -/

theorem modElem_self {s : State} {e : Nat} {f : ElemSt → ElemSt} (h : f (elemSt s e) ≠ {}) : elemSt (modElem s e f) e = f (elemSt s e) :=
  tget_tput_self _ _ _ _ h

theorem modElem_ne {s : State} {e k : Nat} (f : ElemSt → ElemSt) (h : k ≠ e) : elemSt (modElem s e f) k = elemSt s k :=
  tget_tput_ne _ _ _ _ _ h

theorem modGroup_self {s : State} {g : Nat} {f : GroupSt → GroupSt} (h : f (groupSt s g) ≠ {}) :
    groupSt (modGroup s g f) g = f (groupSt s g) :=
  tget_tput_self _ _ _ _ h

theorem modGroup_ne {s : State} {g k : Nat} (f : GroupSt → GroupSt) (h : k ≠ g) : groupSt (modGroup s g f) k = groupSt s k :=
  tget_tput_ne _ _ _ _ _ h

@[simp] theorem elemSt_modGroup (s : State) (g e : Nat) (f : GroupSt → GroupSt) : elemSt (modGroup s g f) e = elemSt s e := rfl

@[simp] theorem groupSt_modElem (s : State) (g e : Nat) (f : ElemSt → ElemSt) : groupSt (modElem s e f) g = groupSt s g := rfl

theorem modElem_frame (s : State) (e : Nat) (f : ElemSt → ElemSt) : Frame [.points] s (modElem s e f) := by
  intro p hp
  cases p <;> simp [same] at hp ⊢

theorem modGroup_frame (s : State) (g : Nat) (f : GroupSt → GroupSt) : Frame [.points] s (modGroup s g f) := by
  intro p hp
  cases p <;> simp [same] at hp ⊢

theorem countUp_frame (s : State) (sub n : Nat) : Frame [.age] s (countUp s sub n) := by
  intro p hp
  cases p <;> simp [same, countUp] at hp ⊢

/-! ### What a command does after a vote -/

theorem afterVote_eq (t : Time) (s : State) (f : State → State) :
    afterVote t s f = at_ t s fun s => if s.cyc.voted then f s else s := rfl

/-- Before a vote it does nothing. -/
theorem runs_unvoted {c : Instr} {t : Time} {s : State} {f : State → State} (hc : exec c s = afterVote t s f)
    (voted : s.cyc.voted = false) : Runs c s (s.atTime t) :=
  runs_idle (f := fun s => if s.cyc.voted then f s else s) hc (if_neg (by rw [State.atTime_cyc, voted]; decide))

/-- Nor where its own condition fails. -/
theorem runs_notDue {c : Instr} {t : Time} {s : State} {f : State → State} (hc : exec c s = afterVote t s f)
    (idle : f (s.atTime t) = s.atTime t) : Runs c s (s.atTime t) :=
  runs_idle (f := fun s => if s.cyc.voted then f s else s) hc (by simp only [idle, ite_self])

/-- At a vote it has its effect. -/
theorem answers_voted {c : Instr} {t : Time} {s r : State} {f : State → State} {l : List Part} {P : State → Prop}
    (hc : exec c s = afterVote t s f) (voted : s.cyc.voted = true) (hr : f (s.atTime t) = r) (hf : Frame l (s.atTime t) r)
    (hl : still l = true) (h : P r) : Answers c s P := by
  have eq : (if (s.atTime t).cyc.voted then f (s.atTime t) else s.atTime t) = r := by
    rw [State.atTime_cyc, voted]
    exact hr
  exact answers_still (f := fun s => if s.cyc.voted then f s else s) hc (eq.symm ▸ hf) hl (eq.symm ▸ h)

theorem runs_voted {c : Instr} {t : Time} {s r : State} {f : State → State} {l : List Part}
    (hc : exec c s = afterVote t s f) (voted : s.cyc.voted = true) (hr : f (s.atTime t) = r) (hf : Frame l (s.atTime t) r)
    (hl : still l = true) : Runs c s r := by
  obtain ⟨s', runs, rfl⟩ := answers_voted (P := (· = r)) hc voted hr hf hl rfl
  exact runs

/-! ### The pull-in check and the window of a safe stop (R185, R187) -/

/-- The check of a group's pull-in that has failed. -/
def pullInFailed (s : State) (g : Nat) (r : GroupRec) : State :=
  modGroup (modElem s r.elem fun y => { y with throwing := 0, throwTimer := 0, stopping := true, stopReason := 8, stopAt := s.now }) g
    fun y => { y with state := 5, lock := true, reason := 8, offAt := none, envelope := none }

/-- PULL_IN_CHECK. -/
def pullIn (g : Nat) (s : State) : State :=
  match group? s g with
  | none => s
  | some r => if pullInFails s g then pullInFailed s g r else s

theorem pullInCheck_eq (t : Time) (s : State) (g : Fin 4) : exec (.pullInCheck t g) s = afterVote t s (pullIn g.val) := rfl

theorem pullIn_of {s : State} {g : Nat} {r : GroupRec} (h : group? s g = some r) :
    pullIn g s = if pullInFails s g then pullInFailed s g r else s := by
  unfold pullIn
  rw [h]

theorem pullInChecks (t : Time) (s : State) (g : Fin 4) (r : GroupRec) (h : group? s g.val = some r) :
    (s.cyc.voted = true → pullInFails s g.val = true → Runs (.pullInCheck t g) s (pullInFailed (s.atTime t) g.val r)) ∧
      (s.cyc.voted = false ∨ pullInFails s g.val = false → Runs (.pullInCheck t g) s (s.atTime t)) := by
  have eq : pullIn g.val (s.atTime t) = _ := pullIn_of (s := s.atTime t) h
  refine ⟨fun voted fails => ?_, fun none => ?_⟩
  · refine runs_voted (l := [.points]) (pullInCheck_eq t s g) voted (eq.trans (if_pos fails)) ?_ (by decide)
    exact (modElem_frame _ _ _).trans (modGroup_frame _ _ _)
  · rcases none with unvoted | holds
    · exact runs_unvoted (pullInCheck_eq t s g) unvoted
    · exact runs_notDue (pullInCheck_eq t s g) (eq.trans (if_neg (by rw [show pullInFails (s.atTime t) g.val = _ from holds]; decide)))

/-- SAFE_STOP_WINDOW_EXPIRY. -/
def windowExpires (g : Nat) (s : State) : State :=
  match group? s g with
  | none => s
  | some r => if (groupSt s g).state = 4 ∧ cyclesOfMs s r.sstw ≤ (groupSt s g).j then torqueOff s g true 0x11 else s

theorem safeStopWindowExpiry_eq (t : Time) (s : State) (g : Fin 4) :
    exec (.safeStopWindowExpiry t g) s = afterVote t s (windowExpires g.val) := rfl

theorem windowExpires_of {s : State} {g : Nat} {r : GroupRec} (h : group? s g = some r) : windowExpires g s =
    if (groupSt s g).state = 4 ∧ cyclesOfMs s r.sstw ≤ (groupSt s g).j then torqueOff s g true 0x11 else s := by
  unfold windowExpires
  rw [h]

theorem windowExpiry (t : Time) (s : State) (g : Fin 4) (r : GroupRec) (h : group? s g.val = some r) :
    (s.cyc.voted = true → (groupSt s g.val).state = 4 → cyclesOfMs s r.sstw ≤ (groupSt s g.val).j →
        Runs (.safeStopWindowExpiry t g) s (torqueOff (s.atTime t) g.val true 0x11)) ∧
      (s.cyc.voted = false ∨ (groupSt s g.val).state ≠ 4 → Runs (.safeStopWindowExpiry t g) s (s.atTime t)) := by
  have eq : windowExpires g.val (s.atTime t) = _ := windowExpires_of (s := s.atTime t) h
  refine ⟨fun voted stopping expired => ?_, fun none => ?_⟩
  · exact runs_voted (l := [.points]) (safeStopWindowExpiry_eq t s g) voted (eq.trans (if_pos ⟨stopping, expired⟩))
      (modGroup_frame _ _ _) (by decide)
  · rcases none with unvoted | other
    · exact runs_unvoted (safeStopWindowExpiry_eq t s g) unvoted
    · exact runs_notDue (safeStopWindowExpiry_eq t s g) (eq.trans (if_neg fun both => other both.1))

/-! ### A safe stop (R185, R186) -/

/-- The stop of an element for another reason than a lost permission loses no command. -/
def stopped (s : State) (e : Nat) (x : Element) (reason : U8) : State :=
  let s1 := modElem s e fun y => { y with
    throwing := 0, throwTimer := 0, stopping := true, stopReason := reason, stopAt := s.now, cmdStop := x.remote }
  countUp { s1 with points := { s1.points with stops := s1.points.stops + 1 } } 10 1

theorem stopped_elem (s : State) (e : Nat) (x : Element) (reason : U8) : elemSt (stopped s e x reason) e = { elemSt s e with
    throwing := 0, throwTimer := 0, stopping := true, stopReason := reason, stopAt := s.now, cmdStop := x.remote } :=
  modElem_self (f := fun y => { y with
    throwing := 0, throwTimer := 0, stopping := true, stopReason := reason, stopAt := s.now, cmdStop := x.remote })
    fun same => absurd (show true = false from congrArg ElemSt.stopping same) (by decide)

theorem stopped_frame (s : State) (e : Nat) (x : Element) (reason : U8) : Frame [.points, .age] s (stopped s e x reason) := by
  intro p hp
  cases p <;> simp [same, stopped, countUp] at hp ⊢

/-- The group of an element stops with it. -/
def groupStops (s : State) (g : Nat) (reason : U8) : State :=
  modGroup s g fun y => { y with
    state := 4, reason := reason, lock := decide (1 ≤ reason.toNat ∧ reason.toNat ≤ 4), f0 := y.rate, j := 0, envelope := none }

theorem groupStops_self (s : State) (g : Nat) (reason : U8) : groupSt (groupStops s g reason) g = { groupSt s g with
    state := 4, reason := reason, lock := decide (1 ≤ reason.toNat ∧ reason.toNat ≤ 4), f0 := (groupSt s g).rate, j := 0,
    envelope := none } :=
  modGroup_self (f := fun y => { y with
    state := 4, reason := reason, lock := decide (1 ≤ reason.toNat ∧ reason.toNat ≤ 4), f0 := y.rate, j := 0, envelope := none })
    fun same => absurd (show (4 : Nat) = 0 from congrArg GroupSt.state same) (by decide)

theorem startStop_eq {s : State} {e : Nat} {x : Element} {reason : U8} (other : reason ≠ 5) :
    startStop s e x reason = match driveOf s x with
      | some (g, _) => groupStops (stopped s e x reason) g reason
      | none => stopped s e x reason := by
  unfold startStop
  dsimp only
  rw [if_neg other]
  rfl

/-- OBSTRUCTION_CURRENT_EXPIRY. -/
def obstruction (g : Nat) (s : State) : State :=
  match group? s g with
  | none => s
  | some r => onElement s r.elem fun x =>
    if (groupSt s g).state = 2 ∧ obstructed s g r ∧ pullInFails s g = false ∧ (elemSt s r.elem).throwTimer ≠ 0
      ∧ detectedIn s r.elem (elemSt s r.elem).throwing = false then startStop s r.elem x 2 else s

theorem obstructionCurrentExpiry_eq (t : Time) (s : State) (g : Fin 4) :
    exec (.obstructionCurrentExpiry t g) s = afterVote t s (obstruction g.val) := rfl

theorem obstruction_of {s : State} {g : Nat} {r : GroupRec} {x : Element} (hg : group? s g = some r) (hx : elem? s r.elem = some x)
    (drive : driveOf s x = some (g, r)) (state : (groupSt s g).state = 2) (stalled : obstructed s g r = true)
    (pulled : pullInFails s g = false) (timer : (elemSt s r.elem).throwTimer ≠ 0)
    (under : detectedIn s r.elem (elemSt s r.elem).throwing = false) :
    obstruction g s = groupStops (stopped s r.elem x 2) g 2 := by
  unfold obstruction
  rw [hg]
  unfold onElement
  dsimp only
  rw [hx]
  refine (if_pos ⟨state, stalled, pulled, timer, under⟩).trans ?_
  rw [startStop_eq (by decide), drive]

theorem answers_obstruction {t : Time} {s : State} {g : Fin 4} {r : GroupRec} {x : Element} (hg : group? s g.val = some r)
    (hx : elem? s r.elem = some x) (drive : driveOf s x = some (g.val, r)) (voted : s.cyc.voted = true)
    (state : (groupSt s g.val).state = 2) (stalled : obstructed s g.val r = true) (pulled : pullInFails s g.val = false)
    (timer : (elemSt s r.elem).throwTimer ≠ 0) (under : detectedIn s r.elem (elemSt s r.elem).throwing = false) :
    Answers (.obstructionCurrentExpiry t g) s fun s' =>
      (groupSt s' g.val).state = 4 ∧ (groupSt s' g.val).reason = 2 ∧ (groupSt s' g.val).lock = true ∧
        (groupSt s' g.val).f0 = (groupSt s g.val).rate ∧ (groupSt s' g.val).j = 0 ∧ (elemSt s' r.elem).stopping = true ∧
        (elemSt s' r.elem).stopReason = 2 ∧ (elemSt s' r.elem).throwing = 0 ∧ s'.points.stops = s.points.stops + 1 ∧
        Frame [.now, .points, .age] s s' := by
  have eq : obstruction g.val (s.atTime t) = _ := obstruction_of (s := s.atTime t) hg hx drive state stalled pulled timer under
  have frame : Frame [.points, .age] (s.atTime t) (groupStops (stopped (s.atTime t) r.elem x 2) g.val 2) :=
    (stopped_frame _ _ _ _).trans ((modGroup_frame _ _ _).mono (by decide))
  refine answers_voted (obstructionCurrentExpiry_eq t s g) voted eq frame (by decide) ?_
  have element : elemSt (groupStops (stopped (s.atTime t) r.elem x 2) g.val 2) r.elem = _ := stopped_elem (s.atTime t) r.elem x 2
  have group := groupStops_self (stopped (s.atTime t) r.elem x 2) g.val 2
  rw [element, group]
  exact ⟨rfl, rfl, rfl, rfl, rfl, rfl, rfl, rfl, rfl, ((frame_atTime s t).mono (by decide)).trans (frame.mono (by decide))⟩

/-! ### The reset of a lock-out (R190) -/

theorem driveGroupReset_eq (t : Time) (s : State) (ch : Fin 8) (g : Fin 4) (v : U8) :
    exec (.driveGroupReset t ch g v) s = writeAt t s ch.val fun s => needAuth s ch.val fun s => writeGroupReset s g.val v := rfl

theorem groupReset {t : Time} {s : State} {ch : Fin 8} {g : Fin 4} {v : U8} (serves : Serves s t) (auth : authorised s ch.val = true)
    (one : v = 1) :
    ((groupSt s g.val).state = 6 → Runs (.driveGroupReset t ch g v) s
        (accepted (modGroup (s.atTime t) g.val fun y => { y with resetAt := some t }) ch)) ∧
      ((groupSt s g.val).state ≠ 6 → Runs (.driveGroupReset t ch g v) s (refused (s.atTime t) ch 0x0450)) := by
  subst one
  refine ⟨fun locked => ?_, fun other => ?_⟩
  · refine runs_write (driveGroupReset_eq t s ch g 1) serves ((needAuth_of_authorised auth t _).trans ?_) rfl ⟨rfl, rfl⟩ rfl rfl rfl rfl rfl
    simp [writeGroupReset, refuseUnless, groupSt, State.atTime_points] at locked ⊢
    simp [locked]
    rfl
  · refine runs_refused (driveGroupReset_eq t s ch g 1) serves ((needAuth_of_authorised auth t _).trans ?_)
    simp [writeGroupReset, refuseUnless, groupSt, State.atTime_points] at other ⊢
    simp [other]

/-- Settles O28. -/
theorem driveGroupsLoseTorqueByTheRules : Obligations.DriveGroupsLoseTorqueByTheRules := by
  intro t s g r ch v hg
  obtain ⟨fails, holds⟩ := pullInChecks t s g r hg
  obtain ⟨expires, waits⟩ := windowExpiry t s g r hg
  exact ⟨fails, holds, expires, waits, fun x hx drive voted state stalled pulled timer under =>
    answers_obstruction hg hx drive voted state stalled pulled timer under, fun serves auth one => groupReset serves auth one⟩

end Sys2Proof.Machine
end

section
/-!
PROOFS. Statements that fail on some state, since they quantify over every one: a table that lists a key twice, a key outside its range,
a condition of the command that the statement leaves out or judges at another time.
-/

namespace Sys2Proof.Machine

/-- A command answers one next state: one run that ends otherwise refutes what it is said to answer. -/
theorem not_answers {c : Instr} {s : State} {P : State → Prop} (h : ∃ s', exec c s = .next s' ∧ ¬ P s') : ¬ Answers c s P := by
  rintro ⟨s', runs, holds⟩
  obtain ⟨s'', runs', fails⟩ := h
  rw [runs] at runs'
  injection runs' with same
  exact fails (same ▸ holds)

/-! ### A staged subindex beyond a byte (O52) -/

/-- An arm is staged, and with it a value under 37FF:104h, whose key is the one of 3800:04h, the switch cycle. -/
def armedWithWideSubindex : State := { State.reset with
  modes := { State.reset.modes with mode := .run }
  twin := { State.reset.twin with role := .active }
  change := { State.reset.change with stateC := 3, prepared := some (pairOf ([], [])) }
  lanes := ⟨{ State.reset.lanes.a with state := 0 }, { State.reset.lanes.b with state := 0 }, { State.reset.lanes.l with state := 0 }⟩
  host := { State.reset.host with
    serving := true
    channels := [(0, { keySlot := some 0 })]
    groups := [(30, { status := 1, owner := some 0, shadow := [(0x3800, 3, [2]), (0x37FF, 260, [9])] })] } }

theorem armedWithWideSubindex_switchesAt9 :
    ∃ s', exec (.changeArm 0 0) armedWithWideSubindex = .next s' ∧ s'.change.kSwitch = 9 := by
  refine ⟨_, rfl, ?_⟩
  decide +kernel

/-- Refutes O52: the commit puts every staged value in force before the arm reads its switch cycle, and a subindex beyond a byte
addresses another entry. -/
theorem not_changeActionsFollowTheirStates : ¬ Obligations.ChangeActionsFollowTheirStates := by
  intro h
  obtain ⟨-, permitted⟩ := h 0 armedWithWideSubindex 0 (by decide +kernel) rfl rfl rfl
  obtain ⟨-, arm, -⟩ := permitted (by decide +kernel)
  obtain ⟨s', runs, nine⟩ := armedWithWideSubindex_switchesAt9
  refine not_answers ⟨s', runs, fun ⟨_, _, switch, _⟩ => ?_⟩ (arm (by decide +kernel))
  rw [switch] at nine
  exact absurd nine (by decide +kernel)

/-! ### A channel that the table lists twice (O49) -/

/-- Channel 0 is listed twice, with a challenge in each. -/
def challengedTwice : State := { State.reset with
  host := { State.reset.host with
    serving := true
    channels := [(0, { challenge := some ([], 0) }), (0, { challenge := some ([], 0) })]
    keys := [(0, { key := some [] })] } }

/-- A wrong response, after the time of its challenge. -/
def lateResponse : List Byte := List.replicate 33 0

theorem challengedTwice_keepsAChallenge : ∃ s', exec (.response (sec 60) 0 lateResponse) challengedTwice = .next s' ∧
    (chanSt s' 0).challenge ≠ none := by
  refine ⟨_, rfl, ?_⟩
  decide +kernel

/-- Refutes O49: a response uses the challenge of the channel's first record, whose place the second one then takes. -/
theorem not_authenticationFollowsTheChallenge : ¬ Obligations.AuthenticationFollowsTheChallenge := by
  intro h
  obtain ⟨-, -, response, -⟩ := h (sec 60) challengedTwice 0 0 [] (List.replicate 32 0) [] lateResponse 0 0 (by decide +kernel)
  obtain ⟨known, -⟩ := response rfl rfl rfl
  obtain ⟨-, wrong, -⟩ := known rfl rfl
  obtain ⟨s', runs, kept⟩ := challengedTwice_keepsAChallenge
  exact not_answers ⟨s', runs, fun ⟨_, used, _⟩ => kept used⟩ (wrong (.inl (by decide +kernel)) (by decide +kernel))

/-- Channel 0 is listed twice, with something fetched in each. -/
def fetchedTwice : State := { State.reset with
  host := { State.reset.host with channels := [(0, { fetched := [1] }), (0, { fetched := [2] })] } }

theorem fetchedTwice_keepsAFetch : ∃ s', exec (.serviceRead 0 .a 0 0 true) fetchedTwice = .next s' ∧ (chanSt s' 0).fetched = [2] := by
  refine ⟨_, rfl, ?_⟩
  decide +kernel

/-- Refutes O54: a service read that fetches nothing leaves its channel's first record as it is at reset, and the second one takes its place.
That a read towards a side in reset ends with RESET, its answer in its own step and the delivery are log entries 135, 60 and 120. -/
theorem not_stilesBoundEveryAccess : ¬ Obligations.StilesBoundEveryAccess := by
  intro h
  obtain ⟨-, -, -, -, -, reads, -⟩ := h 0 fetchedTwice .a (stile fetchedTwice .a) 0 0 0 none 0 [] 0 0 0 0 .service .outward rfl
  obtain ⟨-, -, answered⟩ := reads rfl (by decide) rfl
  obtain ⟨s', runs, kept⟩ := fetchedTwice_keepsAFetch
  refine not_answers ⟨s', runs, fun ⟨_, fetched, _⟩ => ?_⟩ (answered rfl)
  rw [show (0 : Fin 8).val = 0 from rfl, kept] at fetched
  exact absurd fetched (by decide)

/-! ### A crossing that the table lists twice (O55) -/

/-- Crossing 0, whose kind is a value, is listed twice: in reset, and stopped. -/
def crossedTwice : State := { State.reset with
  stiles := { State.reset.stiles with crossings := [(0, { state := 2 }), (0, { state := 1 })] } }

theorem crossedTwice_staysStopped : ∃ s', exec (.crossingReset 0 0 ⟨true, .outward, true⟩) crossedTwice = .next s' ∧
    (crossing s' 0).state = 1 := by
  refine ⟨_, rfl, ?_⟩
  decide +kernel

/-- Refutes O55: the end of a reset leaves the crossing's first record as it is at reset, and the second one, which is stopped, takes its
place before the value is sent. What a reset discards and what the timeout's parameters are, log entries 134 and 88, does not matter. -/
theorem not_crossingsWaitForTheirAcknowledge : ¬ Obligations.CrossingsWaitForTheirAcknowledge := by
  intro h
  obtain ⟨-, -, -, -, -, -, -, ends, -⟩ := h 0 0 crossedTwice 0 (crossing crossedTwice 0) .outward (crossWay crossedTwice 0 .outward) [] 0 0
    false rfl rfl
  obtain ⟨value, -⟩ := ends (by decide)
  obtain ⟨s', runs, stopped⟩ := crossedTwice_staysStopped
  refine not_answers ⟨s', runs, fun ⟨state, _⟩ => ?_⟩ (value rfl)
  rw [show (0 : Fin 16).val = 0 from rfl, stopped] at state
  exact absurd state (by decide)

/-! ### A HELLO that finds no link (O56) -/

/-- A snapshot of nothing. -/
def emptyMirror : Mirror :=
  { seq := 0, cycle := 0, mode := 0, final := false, kPend := false, kSwitch := 0, lanes := 0, token := 0, station := 0, progid := 0
    dgstate := [], slots := [], timers := [], sess := [], elems := [], length := 0 }

/-- The module is on, and the power domain of its Twin link is not. -/
def unlinked : State := { State.reset with modes := { State.reset.modes with mode := .run } }

theorem unlinked_sendsNothing : ∃ s', exec (.twinHelloSend 0) unlinked = .next s' ∧ s'.out = [] := by
  refine ⟨_, rfl, ?_⟩
  decide +kernel

/-- Refutes O56: a HELLO goes out only while PD4 is up and its crossing runs (R331, R393), which the statement does not ask for. That an
active module pairs on a standby's HELLO is log entry 57; nothing here turns on it. -/
theorem not_twinFramesKeepTheLinkAndTheMirror : ¬ Obligations.TwinFramesKeepTheLinkAndTheMirror := by
  intro h
  obtain ⟨-, -, hello, -⟩ := h 0 unlinked ⟨0, 0, 0, 0⟩ ⟨0, 0, 0, 0, 0, 0⟩ ⟨0, 0, 0, 0, false, false, false, 0, 0⟩ 0 0 false [] 0
    emptyMirror
  obtain ⟨s', runs, silent⟩ := unlinked_sendsNothing
  refine not_answers ⟨s', runs, fun ⟨sent, _⟩ => ?_⟩ (hello (by decide))
  rw [silent] at sent
  exact absurd sent (by decide)

/-! ### A source that the table lists twice (O57) -/

/-- A standby is due to take over from its final snapshot. Source 123 is listed twice: as it is at reset, and raised five times. -/
def takingOver : State := { State.reset with
  modes := { State.reset.modes with mode := .standby }
  twin := { State.reset.twin with role := .standby, dueTakeover := true, mirror := some { emptyMirror with final := true } }
  cyc := { State.reset.cyc with voted := true }
  constable := { State.reset.constable with sources := [(123, {}), (123, { raises := 5 })] } }

theorem takingOver_raisesSix : ∃ s', exec (.takeover (ms 1000)) takingOver = .next s' ∧ (source s' 123).raises = 6 := by
  refine ⟨_, rfl, ?_⟩
  decide +kernel

/-- Refutes O57: the change of mode carries every source's window, and drops a record that stands as at reset; the second one takes its
place before source 123 is raised. When PEER_SILENCE is judged, log entry 55, does not matter. -/
theorem not_controlPassesToOneModule : ¬ Obligations.ControlPassesToOneModule := by
  intro h
  obtain ⟨-, -, -, -, takes, -⟩ := h (ms 1000) takingOver { emptyMirror with final := true } 0 0 0
  obtain ⟨s', runs, six⟩ := takingOver_raisesSix
  refine not_answers ⟨s', runs, fun ⟨_, _, _, _, _, _, _, _, raises, _⟩ => ?_⟩
    (takes (.inl rfl) rfl rfl rfl rfl (by decide) (by decide +kernel) (.inl rfl))
  rw [six] at raises
  exact absurd raises (by decide +kernel)

/-! ### An element that the table lists twice (O30) -/

/-- A remote element that no neighbour answers for. -/
def looseElement : Element :=
  let none_ : Binding := { partner := none, obj := 0, drive := false, dgroup := 0, diA := none, diB := none }
  { kind := 0, profile := 0, remote := true, bind1 := none_, bind2 := none_, kp0 := 0, kp1 := 0 }

/-- A vote has been written. Element 0 is thrown to the position that it is detected in, and is listed a second time. -/
def thrownTwice : State := { State.reset with
  station := some { loadStation [] with elements := [(0, some looseElement)] }
  points := { State.reset.points with elems := [(0, { throwing := 255 }), (0, { throwing := 1 })] }
  cyc := { State.reset.cyc with voted := true } }

theorem thrownTwice_stillThrows : ∃ s', exec (.throwComplete 0 0) thrownTwice = .next s' ∧ (elemSt s' 0).throwing = 1 := by
  refine ⟨_, rfl, ?_⟩
  decide +kernel

/-- Refutes O30: the end of a throw leaves the element's first record as it is at reset, which the table does not hold, and the second one
takes its place. That a reset ended by its limit sets the latch again is log entry 99; nothing here turns on it. -/
theorem not_throwsAndResetsEnd : ¬ Obligations.ThrowsAndResetsEnd := by
  intro h
  obtain ⟨complete, -⟩ := h 0 thrownTwice 0 looseElement rfl
  obtain ⟨s', runs, throws⟩ := thrownTwice_stillThrows
  refine not_answers ⟨s', runs, fun ⟨ended, _⟩ => ?_⟩ (complete rfl (by decide +kernel) (by decide +kernel))
  rw [ended] at throws
  exact absurd throws (by decide)

/-! ### A hand-over whose overlap ends as the command comes (O29) -/

/-- A drive group of element 0. -/
def looseGroup : GroupRec :=
  { elem := 0, fstop := 0, fmarg := 0, frunmin := 0, fmax := 0, dect := 0, sstw := 0, imax := 0, istall := 0, izero := 0, startd := 0
    runn := 0, runr := 0 }

/-- The peer has just taken control from this standby, whose group 0 still runs; no cycle runs. -/
def justGiven : State := { State.reset with
  station := some { loadStation [] with groups := [(0, some looseGroup)] }
  modes := { State.reset.modes with mode := .standby }
  twin := { State.reset.twin with giving := some 0, takenAt := some 0 }
  points := { State.reset.points with groups := [(0, { state := 2 })] } }

theorem justGiven_locksOut : ∃ s', exec (.immediateTorqueOff (us 200)) justGiven = .next s' ∧ (groupSt s' 0).state = 6 := by
  refine ⟨_, rfl, ?_⟩
  decide +kernel

/-- Refutes O29: the statement asks on the state before the command whether its outputs are voted; 200 us later the overlap of the
give-up (R406) has ended, and the group loses torque at once. -/
theorem not_torqueOffIsConfirmedOrLocksOut : ¬ Obligations.TorqueOffIsConfirmedOrLocksOut := by
  intro h
  have idle := (h.2 (us 200) justGiven).1 (.inl (by decide +kernel))
  obtain ⟨s', runs, locked⟩ := justGiven_locksOut
  have same : s' = justGiven.atTime (us 200) := Host.Outcome.next.inj (runs.symm.trans idle)
  rw [same] at locked
  exact absurd locked (by decide +kernel)

/-! ### A source of the ageing that stands above its class (O60) -/

/-- A lane's life ends within 24 months, and source 124, which is not asserted, stands at Module class. -/
def endingLife : State := { State.reset with
  modes := { State.reset.modes with mode := .run }
  age := { State.reset.age with lanes := State.reset.age.lanes.set .a { bound := 0 } }
  constable := { State.reset.constable with sources := [(124, { effective := 3 })] } }

theorem endingLife_stops : ∃ s', exec (.historyPoint 0) endingLife = .next s' ∧ s'.modes.mode = .safeState := by
  refine ⟨_, rfl, ?_⟩
  decide +kernel

/-- Refutes O60: the history point of a day raises source 124, and one whose class has not come back from an escalation leads to Safe State,
outside the parts that the statement lets it change. The powered day counted from 0 of 2900:01 is log entry 163, the rounding of the
measuring rules and the KIND 0 record going out first are log entry 21; nothing here turns on them. -/
theorem not_ageingIsMeasuredAndCounted : ¬ Obligations.AgeingIsMeasuredAndCounted := by
  intro h
  obtain ⟨-, -, -, history, -⟩ := h 0 endingLife .a 0 0 [] 0 0 0 none 0 0
  obtain ⟨s', runs, stops⟩ := endingLife_stops
  refine not_answers ⟨s', runs, fun ⟨_, _, frame⟩ => ?_⟩ history
  have modes : s'.modes = endingLife.modes := frame .modes (by decide)
  rw [modes] at stops
  exact absurd stops (by decide)

/-! ### An output at its rated operations, whose source stands above its class (O26) -/

/-- A drive group on the outputs 0 to 3. -/
def issuedGroup : GroupRec :=
  { elem := 0, fstop := 0, fmarg := 0, frunmin := 0, fmax := 0, dect := 0, sstw := 0, imax := 0, istall := 0, izero := 0, startd := 0
    runn := 2, runr := 3 }

/-- A vote has been written; the coil of group 0 is about to be energised for its first and last rated operation, and source 126, which is
not asserted, stands at Module class. -/
def ratedOutput : State := { State.reset with
  station := some { loadStation [] with field := none, groups := [(0, some issuedGroup)] }
  modes := { State.reset.modes with mode := .stop }
  cyc := { State.reset.cyc with running := true, voted := true, phase := 2 }
  points := { State.reset.points with groups := [(0, { state := 2 })] }
  age := { State.reset.age with ratings := [1] }
  constable := { State.reset.constable with sources := [(126, { effective := 3 })] } }

theorem ratedOutput_stops : ∃ s', exec (.issuePhase (ms 1000) []) ratedOutput = .next s' ∧ s'.modes.mode = .safeState := by
  refine ⟨_, rfl, ?_⟩
  decide +kernel

/-- Refutes O26: the Issue phase counts an output's operations and raises source 126 at its rated number; one whose class has not come back
from an escalation leads to Safe State. -/
theorem not_issueFollowsTheVote : ¬ Obligations.IssueFollowsTheVote := by
  intro h
  obtain ⟨-, issued⟩ := h (ms 1000) ratedOutput []
  obtain ⟨s', runs, stops⟩ := ratedOutput_stops
  refine not_answers ⟨s', runs, fun ⟨_, _, _, _, _, _, _, _, mode⟩ => ?_⟩ (issued rfl rfl (by decide) (by decide +kernel))
  rw [mode] at stops
  exact absurd stops (by decide)

/-! ### A frame at time 0 for a channel that the table lists twice (O47) -/

/-- Channel 0 is listed twice: as it is at reset, and with a transfer. -/
def listenedTwice : State := { State.reset with
  host := { State.reset.host with
    serving := true
    hl1 := { State.reset.host.hl1 with state := 1 }
    channels := [(0, {}), (0, { transfer := some (.sending .hl1 0 0 0 [] 0 0 0) })] } }

/-- A request on channel 0 whose OP no function has. -/
def unknownRequest : HostReq := ⟨⟨.hl1, 2, false, 0⟩, 0, 0, 0, 0, 0⟩

theorem listenedTwice_findsATransfer : ∃ s', exec (.read 0 unknownRequest) listenedTwice = .next s' ∧ (chanSt s' 0).transfer ≠ none := by
  refine ⟨_, rfl, ?_⟩
  decide +kernel

/-- Refutes O47: a frame at time 0 leaves its channel's first record as it is at reset, and the second one, which has a transfer, takes its
place. That a segment without its transfer is not answered, the 1 to 32 segments of a grant and the row that carries an unknown FUNC or OP are
log entries 84, 85 and 86; nothing here turns on them. -/
theorem not_transfersCarryReadsAndWrites : ¬ Obligations.TransfersCarryReadsAndWrites := by
  intro h
  obtain ⟨-, unknown, -⟩ := h 0 listenedTwice unknownRequest [] [] 0 0 0 0 0 0 0 {} listenedTwice (by decide +kernel) rfl rfl rfl rfl
  obtain ⟨s', runs, found⟩ := listenedTwice_findsATransfer
  exact not_answers ⟨s', runs, fun ⟨transfer, _⟩ => found transfer⟩ (unknown rfl rfl _ List.mem_cons_self)

/-! ### A claim word that a lane's copy lists twice (O23) -/

/-- A route that claims element 0 alone. -/
def claimingRoute : Route :=
  { profile := 0, contin := false, noseq := false, shunt := false, xzone := false, list := [⟨0, 0, false, 0, 0⟩], exit := 0, entry := 0
    appr1 := none, appr2 := none, ovlt := 0, apprt := 0, maxcls := 0, berth := none, cont := none }

/-- Slot 0 holds element 0 for route 0. -/
def heldByRoute : State := { State.reset with
  station := some { loadStation [] with routes := [(0, some claimingRoute)] }
  modes := { State.reset.modes with mode := .stop }
  cyc := { State.reset.cyc with running := true }
  commons := { State.reset.commons with slots := [(0, { route := some 0, held := [0] })] } }

/-- A lane at the end of its Intake, whose copy of the claims lists element 0 twice, each time with its right word. -/
def copiedTwice : LaneSt :=
  { state := 0, markBus := true, markQueue := true, held := true, current := true
    claims := [(0, Rails.code (claimWord heldByRoute 0)), (0, Rails.code (claimWord heldByRoute 0))] }

/-- Every lane's copy lists element 0 twice. -/
def claimedTwice : State := { heldByRoute with lanes := ⟨copiedTwice, copiedTwice, copiedTwice⟩ }

theorem claimedTwice_staysInVote : ∃ s', exec (.snapshotComplete (ms 1000) .l ⟨none, ⟨[], [], 0⟩⟩ (.claimWord 0 0)) claimedTwice = .next s' ∧
    (s'.lanes.get .l).state = 0 := by
  refine ⟨_, rfl, ?_⟩
  decide +kernel

/-- Refutes O23: a fault that clears the word of an element in a lane's copy takes away the copy's first record of it, and the second one,
which is right, takes its place. -/
theorem not_cyclesBeginAndLogicRuns : ¬ Obligations.CyclesBeginAndLogicRuns := by
  rintro ⟨-, logic⟩
  obtain ⟨-, scrubs⟩ := logic (ms 1000) claimedTwice .l none ⟨[], [], 0⟩ 0 0 0
  obtain ⟨-, -, -, word⟩ := scrubs rfl (by decide) rfl rfl rfl (by decide) rfl (by decide +kernel) (.inl rfl)
  obtain ⟨s', runs, votes⟩ := claimedTwice_staysInVote
  refine not_answers ⟨s', runs, fun ⟨⟨out, _⟩, _⟩ => ?_⟩
    (word rfl ⟨by decide, by decide⟩ ⟨by decide +kernel, by decide +kernel⟩ rfl (by decide +kernel))
  rw [votes] at out
  exact absurd out (by decide)

/-! ### A mirror snapshot that a standby applies at its vote (O25) -/

/-- A lane that has delivered no deviation. -/
def deliveredLane : LaneSt := { state := 0, delivered := some ⟨Rails.code 0, Rails.code 0, [], []⟩ }

/-- A standby in cycle 0, whose newest snapshot was taken in cycle 41. -/
def mirroredAt41 : State := { State.reset with
  modes := { State.reset.modes with mode := .standby }
  cyc := { State.reset.cyc with running := true, phase := 1 }
  lanes := ⟨deliveredLane, deliveredLane, deliveredLane⟩
  twin := { State.reset.twin with role := .standby, newest := some { emptyMirror with cycle := 41 } } }

theorem mirroredAt41_counts42 : ∃ s', exec (.vote (ms 1000)) mirroredAt41 = .next s' ∧ s'.cyc.number = 42 := by
  refine ⟨_, rfl, ?_⟩
  decide +kernel

/-- Refutes O25: at a standby's vote the newest snapshot is applied, and the cycle number becomes the one after the snapshot's (R398). -/
theorem not_votesAreWrittenUnlessAStreakStops : ¬ Obligations.VotesAreWrittenUnlessAStreakStops := by
  intro h
  obtain ⟨-, voted⟩ := h (ms 1000) mirroredAt41 rfl (by decide)
  obtain ⟨-, written⟩ := voted rfl rfl (by decide) (by decide)
  obtain ⟨s', runs, next⟩ := mirroredAt41_counts42
  refine not_answers ⟨s', runs, fun ⟨_, number, _⟩ => ?_⟩ (written (by decide))
  rw [next] at number
  exact absurd number (by decide)

end Sys2Proof.Machine
end

section
/-!
PROOFS. The preparation of a program, its switch at cycle K, and the record that makes it the installed one (O53).
-/

namespace Sys2Proof.Machine

theorem frame_closing {s r s' : State} {l : List Part} {t : Time} (close : Closed s r s') (hf : Frame l (s.atTime t) r)
    (hh : .host ∈ l) (hc : .constable ∈ l) : Frame (.now :: l) s s' := by
  refine close.frame (((frame_atTime s t).mono fun p => ?_).trans (hf.mono fun p hp => List.mem_cons_of_mem _ hp))
    (List.mem_cons_of_mem _ hh) (List.mem_cons_of_mem _ hc)
  intro hp
  simp_all

/-! ### The end of the loading and of the checks (R147, R148) -/

theorem refuseChange_frame (s : State) (result : U8) (ref : U32) : Frame [.change, .constable] s (refuseChange s result ref) := by
  intro p hp
  cases p <;> simp [same, refuseChange, changeEvent] at hp ⊢

theorem refuseChange_change (s : State) (result : U8) (ref : U32) : (refuseChange s result ref).change =
    { s.change with stateC := 0, result := result, prepared := none, since := s.now } := by
  simp [refuseChange, changeEvent]

/-- A change that is refused is Idle again, with its result. -/
theorem answers_refuseChange {c : Instr} {t : Time} {s : State} {f : State → State} {code : U8} {ref : U32}
    (hc : exec c s = at_ t s f) (hr : f (s.atTime t) = refuseChange (s.atTime t) code ref) :
    Answers c s fun s' => s'.change.stateC = 0 ∧ s'.change.result = code ∧ s'.change.prepared = none ∧
      Frame [.now, .change, .constable, .host] s s' := by
  refine answers_at hc fun s' close => ?_
  rw [hr] at close
  rw [close.change, refuseChange_change]
  exact ⟨rfl, rfl, rfl, frame_closing close ((refuseChange_frame _ _ _).mono (by decide)) (by decide) (by decide)⟩

/-- CHANGE_PREPARATION_COMPLETE. -/
def preparationEnds (l : List Lane) (s : State) : State :=
  if s.change.stateC = 1 then endLoading s else if s.change.stateC = 2 then endChecking l s else s

theorem changePreparationComplete_eq (t : Time) (s : State) (l : List Lane) :
    exec (.changePreparationComplete t l) s = at_ t s (preparationEnds l) := rfl

theorem preparationEnds_loading {s : State} (l : List Lane) (h : s.change.stateC = 1) : preparationEnds l s = endLoading s := if_pos h

theorem preparationEnds_checking {s : State} (l : List Lane) (h : s.change.stateC = 2) : preparationEnds l s = endChecking l s := by
  unfold preparationEnds
  rw [if_neg (by omega), if_pos h]

theorem loadingEnds (t : Time) (s : State) (l : List Lane) (loading : s.change.stateC = 1) :
    (loadingResult s (stagedImages s) = 0 → Answers (.changePreparationComplete t l) s fun s' =>
        s'.change.stateC = 2 ∧ Frame [.now, .change] s s') ∧
      (loadingResult s (stagedImages s) ≠ 0 → Answers (.changePreparationComplete t l) s fun s' =>
        s'.change.stateC = 0 ∧ s'.change.result = loadingResult s (stagedImages s) ∧ s'.change.prepared = none ∧
          Frame [.now, .change, .constable, .host] s s') := by
  have eq : preparationEnds l (s.atTime t) = endLoading (s.atTime t) := preparationEnds_loading l loading
  refine ⟨fun fits => ?_, fun fails => ?_⟩
  · have passes : preparationEnds l (s.atTime t) = { s.atTime t with change := { s.change with stateC := 2 } } := by
      rw [eq]
      exact if_pos fits
    refine answers_plain (changePreparationComplete_eq t s l) ?_ ?_ ?_
    · rw [passes]
      exact attrs_same rfl ⟨rfl, rfl⟩ rfl rfl rfl rfl
    · rw [passes]
      rfl
    · rw [passes]
      exact ⟨rfl, fun p hp => by cases p <;> simp [same] at hp ⊢⟩
  · refine answers_refuseChange (ref := none32) (changePreparationComplete_eq t s l) ?_
    rw [eq]
    exact if_neg fails

theorem endChecking_of {s : State} (l : List Lane) {x : List Byte × List Byte} (h : stagedImages s = some x) : endChecking l s =
    if (checkingResult s x l).1 = 0 then makeReady s x else refuseChange s (checkingResult s x l).1 (checkingResult s x l).2 := by
  unfold endChecking
  rw [h]

theorem checksFail {t : Time} {s : State} {l : List Lane} {x : List Byte × List Byte} (checking : s.change.stateC = 2)
    (staged : stagedImages s = some x) (fails : (checkingResult s x l).1 ≠ 0) :
    Answers (.changePreparationComplete t l) s fun s' =>
      s'.change.stateC = 0 ∧ s'.change.result = (checkingResult s x l).1 ∧ s'.change.prepared = none ∧
        Frame [.now, .change, .constable, .host] s s' := by
  refine answers_refuseChange (ref := (checkingResult s x l).2) (changePreparationComplete_eq t s l) ?_
  have eq : preparationEnds l (s.atTime t) = endChecking l (s.atTime t) := preparationEnds_checking l checking
  rw [eq, endChecking_of (s := s.atTime t) l staged]
  exact if_neg fails

theorem checksPass {t : Time} {s : State} {l : List Lane} {x : List Byte × List Byte} (checking : s.change.stateC = 2)
    (staged : stagedImages s = some x) (passes : (checkingResult s x l).1 = 0) :
    Answers (.changePreparationComplete t l) s fun s' =>
      s'.change.result = 0 ∧ s'.change.stateC = 3 ∧ s'.change.prepared = some (pairOf x) ∧ s'.update.otherBank = [x.1, x.2] ∧
        Frame [.now, .change, .update] s s' := by
  have eq : preparationEnds l (s.atTime t) = makeReady (s.atTime t) x := by
    have checked : preparationEnds l (s.atTime t) = endChecking l (s.atTime t) := preparationEnds_checking l checking
    rw [checked, endChecking_of (s := s.atTime t) l staged]
    exact if_pos passes
  refine answers_plain (changePreparationComplete_eq t s l) ?_ ?_ ?_
  · rw [eq]
    exact attrs_same rfl ⟨rfl, rfl⟩ rfl rfl rfl rfl
  · rw [eq]
    rfl
  · rw [eq]
    exact ⟨rfl, rfl, rfl, rfl, fun p hp => by cases p <;> simp [same, makeReady] at hp ⊢⟩

theorem checkingEnds (t : Time) (s : State) (l : List Lane) (images : List Byte × List Byte) (checking : s.change.stateC = 2)
    (staged : stagedImages s = some images) :
    (∀ code ref, checkingResult s images l = (code, ref) → code ≠ 0 → Answers (.changePreparationComplete t l) s fun s' =>
        s'.change.stateC = 0 ∧ s'.change.result = code ∧ s'.change.prepared = none ∧ Frame [.now, .change, .constable, .host] s s') ∧
      Answers (.changePreparationComplete t l) s fun s' =>
        s'.change.result = (checkingResult s images l).1 ∧
          (s'.change.result = 0 → s'.change.stateC = 3 ∧ s'.change.prepared = some (pairOf images) ∧
            s'.update.otherBank = [images.1, images.2] ∧ Frame [.now, .change, .update] s s') := by
  refine ⟨fun code ref result nonzero => ?_, ?_⟩
  · have code' : (checkingResult s images l).1 = code := by rw [result]
    subst code'
    exact checksFail checking staged nonzero
  · by_cases passes : (checkingResult s images l).1 = 0
    · refine (checksPass checking staged passes).imp fun s' ⟨zero, ready⟩ => ⟨zero.trans passes.symm, fun _ => ready⟩
    · exact (checksFail checking staged passes).imp fun s' ⟨_, result, _⟩ => ⟨result, fun zero => absurd (result.symm.trans zero) passes⟩

theorem checkingEnds_gone (t : Time) (s : State) (l : List Lane) (checking : s.change.stateC = 2) (staged : stagedImages s = none) :
    Answers (.changePreparationComplete t l) s fun s' =>
      s'.change.stateC = 0 ∧ s'.change.result = 0x20 ∧ Frame [.now, .change, .constable, .host] s s' := by
  refine (answers_refuseChange (code := 0x20) (ref := none32) (changePreparationComplete_eq t s l) ?_).imp
    fun s' ⟨state, result, _, frame⟩ => ⟨state, result, frame⟩
  have eq : preparationEnds l (s.atTime t) = endChecking l (s.atTime t) := preparationEnds_checking l checking
  rw [eq]
  unfold endChecking
  rw [show stagedImages (s.atTime t) = none from staged]

/-- CHANGE_PREPARATION_TIMEOUT. -/
def preparationLate (s : State) : State :=
  if (s.change.stateC = 1 ∨ s.change.stateC = 2) ∧ s.change.since + sec 60 ≤ s.now then refuseChange s 0x24 none32 else s

theorem changePreparationTimeout_eq (t : Time) (s : State) : exec (.changePreparationTimeout t) s = at_ t s preparationLate := rfl

theorem preparationTimeout (t : Time) (s : State) (busy : s.change.stateC = 1 ∨ s.change.stateC = 2) :
    (s.change.since + sec 60 ≤ t → Answers (.changePreparationTimeout t) s fun s' =>
        s'.change.stateC = 0 ∧ s'.change.result = 0x24 ∧ Frame [.now, .change, .constable, .host] s s') ∧
      (t < s.change.since + sec 60 → Runs (.changePreparationTimeout t) s (s.atTime t)) := by
  refine ⟨fun late => ?_, fun early => ?_⟩
  · exact (answers_refuseChange (code := 0x24) (ref := none32) (changePreparationTimeout_eq t s) (if_pos ⟨busy, late⟩)).imp
      fun s' ⟨state, result, _, frame⟩ => ⟨state, result, frame⟩
  · exact runs_idle (changePreparationTimeout_eq t s) (if_neg fun both => Nat.not_le.mpr early both.2)

theorem preparation_idle (t : Time) (s : State) (l : List Lane) (h1 : s.change.stateC ≠ 1) (h2 : s.change.stateC ≠ 2) :
    Runs (.changePreparationComplete t l) s (s.atTime t) ∧ Runs (.changePreparationTimeout t) s (s.atTime t) := by
  refine ⟨runs_idle (changePreparationComplete_eq t s l) ((if_neg h1).trans (if_neg h2)),
    runs_idle (changePreparationTimeout_eq t s) (if_neg fun both => both.1.elim h1 h2)⟩

/-! ### The switch (R150, R153 to R155) -/

theorem modLane_frame (s : State) (ln : Lane) (f : LaneSt → LaneSt) : Frame [.lanes] s (modLane s ln f) := by
  intro p hp
  cases p <;> simp [same] at hp ⊢

theorem intakeVars_frame (s : State) (ln : Lane) (held : List Byte) : Frame [.lanes] s (intakeVars s ln held) := by
  unfold intakeVars
  split
  · exact modLane_frame _ _ _
  · exact modLane_frame _ _ _

theorem endIntake_frame (s : State) : Frame [.lanes] s (endIntake s) := by
  unfold endIntake
  refine foldl_frame _ (fun st ln => ?_) _ _
  split
  · exact .refl _ _
  · exact intakeVars_frame _ _ _

theorem switchVars_frame (s : State) (old new : ProgPair) : Frame [.lanes, .program] s (switchVars s old new) := by
  unfold switchVars
  dsimp only
  have carried : Frame [.lanes] s (allLanes.foldl (fun st ln => modLane st ln fun x => { x with
      vars := carryVars (variantOf old ln) (loomPart ln (variantOf new ln)) x.vars }) s) :=
    foldl_frame _ (fun st ln => modLane_frame st ln _) allLanes s
  generalize allLanes.foldl (fun st ln => modLane st ln fun x => { x with
      vars := carryVars (variantOf old ln) (loomPart ln (variantOf new ln)) x.vars }) s = z at *
  refine (carried.mono (by decide)).trans fun p hp => ?_
  cases p <;> simp [same] at hp ⊢

theorem bookEvent_frame (s : State) (code : Nat) (p1 p2 p3 : U32) : Frame [.constable] s (bookEvent s code p1 p2 p3) := by
  intro p hp
  cases p <;> simp [same] at hp ⊢

theorem rekeyForces_frame (s : State) (old new : Variant) : Frame [.change, .constable] s (rekeyForces s old new) := by
  unfold rekeyForces
  dsimp only
  have noted := foldl_frame (l := [.constable]) (fun (st : State) (f : ForceRow) => bookEvent st 0x7040
      (u32 (f.symid.toNat % 2 ^ 32)) (u32 (f.symid.toNat / 2 ^ 32)) (u32 f.varnum))
    (fun st f => bookEvent_frame st _ _ _ _)
    (s.change.forces.filter fun f => (new.map.find? fun m => m.symid == f.symid && disposition old m == 0).isNone) s
  generalize List.foldl _ s _ = z at noted ⊢
  refine (noted.mono (by decide)).trans fun p hp => ?_
  cases p <;> simp [same] at hp ⊢

theorem digestAfterSwitch_frame (s : State) (new : ProgPair) : Frame [.lanes] s (digestAfterSwitch s new) :=
  (modLane_frame _ _ _).trans (modLane_frame _ _ _)

/-- What the switch keeps of the old program in the new one: variables, forces and digests (R150, R154). -/
def carriedOver (s : State) (old new : ProgPair) : State :=
  digestAfterSwitch (rekeyForces (switchVars s old new) old.va new.va) new

theorem carriedOver_frame (s : State) (old new : ProgPair) :
    Frame [.program, .lanes, .change, .constable] s (carriedOver s old new) :=
  ((switchVars_frame s old new).mono (by decide)).trans (((rekeyForces_frame _ _ _).mono (by decide)).trans
    ((digestAfterSwitch_frame _ _).mono (by decide)))

/-- The pair that runs from cycle K on, and the state of the change. -/
def switchedTo (s x : State) (old new : ProgPair) : State :=
  { x with
    program := { x.program with pair := some new },
    change := { x.change with
      stateC := if s.change.isRoll then 0 else 5, prepared := none, retained := if s.change.isRoll then none else some old,
      isRoll := false, switched := true, switchAt := s.cyc.begun, armedAt := none, lastK := s.change.kSwitch, byMirror := false,
      since := s.now } }

theorem switchProgram_eq (s : State) (old new : ProgPair) (micros : Nat) : switchProgram s old new micros =
    if s.change.isRoll then bookEvent (switchedTo s (carriedOver s old new) old new) 0x7044 s.change.kSwitch (progLow new) 0
    else bookEvent (switchedTo s (carriedOver s old new) old new) 0x7042 s.change.kSwitch (progLow new) (u32 micros) := rfl

theorem switchProgram_rest (s : State) (old new : ProgPair) (micros : Nat) :
    (switchProgram s old new micros).program.pair = some new ∧
      (switchProgram s old new micros).change.stateC = (if s.change.isRoll then 0 else 5) ∧
      (switchProgram s old new micros).change.retained = (if s.change.isRoll then none else some old) ∧
      (switchProgram s old new micros).change.prepared = none ∧ (switchProgram s old new micros).change.switchAt = s.cyc.begun ∧
      Frame [.program, .lanes, .change, .constable] s (switchProgram s old new micros) := by
  have carried := carriedOver_frame s old new
  rw [switchProgram_eq]
  generalize carriedOver s old new = x at *
  have frame : Frame [.program, .lanes, .change, .constable] x (switchedTo s x old new) :=
    fun p hp => by cases p <;> simp [same, switchedTo] at hp ⊢
  split <;> refine ⟨by simp [switchedTo], by simp_all [switchedTo], by simp_all [switchedTo], by simp [switchedTo],
    by simp [switchedTo], carried.trans (frame.trans ((bookEvent_frame _ _ _ _ _).mono (by decide)))⟩

/-- PROGRAM_SWITCH. -/
def switchDue (micros : Nat) (s : State) : State :=
  match s.program.pair, switchTarget s with
  | some old, some new =>
    if switchPending s ∧ s.lanes.a.complete = false ∧ s.lanes.b.complete = false ∧ s.cyc.voted = false then
      switchProgram (endIntake s) old new micros
    else s
  | _, _ => s

theorem programSwitch_eq (t : Time) (s : State) (micros : Nat) : exec (.programSwitch t micros) s = at_ t s (switchDue micros) := rfl

theorem answers_switch {t : Time} {s : State} {micros : Nat} {old new : ProgPair} (pair : s.program.pair = some old)
    (armed : s.change.stateC = 4) (atK : s.cyc.number = s.change.kSwitch) (runs : s.cyc.running = true)
    (millA : s.lanes.a.complete = false) (millB : s.lanes.b.complete = false) (voted : s.cyc.voted = false)
    (target : switchTarget s = some new) :
    Answers (.programSwitch t micros) s fun s' =>
      s'.program.pair = some new ∧ s'.change.stateC = (if s.change.isRoll then 0 else 5) ∧
        s'.change.retained = (if s.change.isRoll then none else some old) ∧ s'.change.prepared = none ∧
        s'.change.switchAt = s.cyc.begun ∧ Frame [.now, .program, .lanes, .change, .constable, .host] s s' := by
  have pending : switchPending s = true := by simp [switchPending, armed, atK, runs, pair, target]
  have eq : switchDue micros (s.atTime t) = switchProgram (endIntake (s.atTime t)) old new micros := by
    unfold switchDue
    rw [show (s.atTime t).program.pair = some old from pair, show switchTarget (s.atTime t) = some new from target]
    exact if_pos ⟨pending, millA, millB, voted⟩
  have intake := endIntake_frame (s.atTime t)
  obtain ⟨hPair, state, retained, prepared, at_, frame⟩ := switchProgram_rest (endIntake (s.atTime t)) old new micros
  have change : (endIntake (s.atTime t)).change = s.change := intake .change (by decide)
  have cyc : (endIntake (s.atTime t)).cyc = s.cyc := intake .cyc (by decide)
  refine answers_at (programSwitch_eq t s micros) fun s' close => ?_
  rw [eq] at close
  have program : s'.program = _ := close.rest .program (by decide)
  rw [program, close.change, hPair, state, retained, prepared, at_, change, cyc]
  exact ⟨rfl, rfl, rfl, rfl, rfl, frame_closing close ((intake.mono (by decide)).trans (frame.mono (by decide))) (by decide) (by decide)⟩

theorem switchDue_other {s : State} (micros : Nat) (h : switchPending s = false) : switchDue micros s = s := by
  unfold switchDue
  split
  · exact if_neg fun both => by simp [h] at both
  · rfl

theorem programSwitches (t : Time) (s : State) (micros : Nat) (old new : ProgPair) (pair : s.program.pair = some old)
    (armed : s.change.stateC = 4) :
    (s.cyc.number = s.change.kSwitch → s.cyc.running = true → s.lanes.a.complete = false → s.lanes.b.complete = false →
        s.cyc.voted = false →
        (s.change.isRoll = false → s.change.prepared = some new → Answers (.programSwitch t micros) s fun s' =>
          s'.program.pair = some new ∧ s'.change.stateC = 5 ∧ s'.change.retained = some old ∧ s'.change.prepared = none ∧
            s'.change.switchAt = s.cyc.begun ∧ Frame [.now, .program, .lanes, .change, .constable, .host] s s') ∧
        (s.change.isRoll = true → s.change.retained = some new → Answers (.programSwitch t micros) s fun s' =>
          s'.program.pair = some new ∧ s'.change.stateC = 0 ∧ s'.change.retained = none ∧
            Frame [.now, .program, .lanes, .change, .constable, .host] s s')) ∧
      (s.cyc.number ≠ s.change.kSwitch → Runs (.programSwitch t micros) s (s.atTime t)) := by
  refine ⟨fun atK runs millA millB voted => ⟨fun fwd ready => ?_, fun back ready => ?_⟩, fun other => ?_⟩
  · have target : switchTarget s = some new := by simp [switchTarget, fwd, ready]
    exact (answers_switch pair armed atK runs millA millB voted target).imp
      fun s' ⟨hPair, state, retained, prepared, at_, frame⟩ =>
        ⟨hPair, by simpa [fwd] using state, by simpa [fwd] using retained, prepared, at_, frame⟩
  · have target : switchTarget s = some new := by simp [switchTarget, back, ready]
    exact (answers_switch pair armed atK runs millA millB voted target).imp
      fun s' ⟨hPair, state, retained, prepared, at_, frame⟩ =>
        ⟨hPair, by simpa [back] using state, by simpa [back] using retained, frame⟩
  · exact runs_idle (programSwitch_eq t s micros)
      (switchDue_other micros (show switchPending s = false by simp [switchPending, other]))

/-! ### The installed-program record (R156) -/

theorem writeImageRecord_rest (s : State) : (writeImageRecord s).update.images = s.update.images ∧
    (writeImageRecord s).update.otherBank = s.update.otherBank ∧ (writeImageRecord s).update.state = s.update.state ∧
    Frame [.update] s (writeImageRecord s) := by
  unfold writeImageRecord
  dsimp only
  split <;> exact ⟨rfl, rfl, rfl, fun p hp => by cases p <;> simp [same] at hp ⊢⟩

theorem setUpdateState_rest (s : State) (n : Nat) : (setUpdateState s n).update.state = n ∧
    (setUpdateState s n).update.images = s.update.images ∧ (setUpdateState s n).update.otherBank = s.update.otherBank ∧
    Frame [.update, .constable] s (setUpdateState s n) := by
  unfold setUpdateState
  split
  · next h => exact ⟨h, rfl, rfl, .refl _ _⟩
  · have changed : Frame [.update] s { s with update := { s.update with state := n, changedAt := s.now } } :=
      fun p hp => by cases p <;> simp [same] at hp ⊢
    obtain ⟨images, bank, state, frame⟩ := writeImageRecord_rest { s with update := { s.update with state := n, changedAt := s.now } }
    generalize writeImageRecord { s with update := { s.update with state := n, changedAt := s.now } } = x at *
    refine ⟨by simpa using state, by simpa using images, by simpa using bank, ?_⟩
    exact (changed.mono (by decide)).trans ((frame.mono (by decide)).trans ((bookEvent_frame _ _ _ _ _).mono (by decide)))

/-- The other bank's images are the installed ones. -/
def bankSwitched (s : State) : State :=
  writeImageRecord (switchBank { s with change := { s.change with stateC := 0, since := s.now } })

theorem bankSwitched_rest {s : State} {x y : List Byte} (bank : s.update.otherBank = [x, y]) (hx : x ≠ []) (hy : y ≠ []) :
    (bankSwitched s).change.stateC = 0 ∧ tget [] (bankSwitched s).update.images 2 = x ∧
      tget [] (bankSwitched s).update.images 3 = y ∧
      (bankSwitched s).update.otherBank = [tget [] s.update.images 2, tget [] s.update.images 3] ∧
      (bankSwitched s).update.state = s.update.state ∧ Frame [.change, .update] s (bankSwitched s) := by
  unfold bankSwitched
  have images : (switchBank { s with change := { s.change with stateC := 0, since := s.now } }).update.images =
      tput [] (tput [] s.update.images 2 x) 3 y := by simp [switchBank, bank]
  have other : (switchBank { s with change := { s.change with stateC := 0, since := s.now } }).update.otherBank =
      [tget [] s.update.images 2, tget [] s.update.images 3] := rfl
  have state : (switchBank { s with change := { s.change with stateC := 0, since := s.now } }).update.state = s.update.state := rfl
  have change : (switchBank { s with change := { s.change with stateC := 0, since := s.now } }).change.stateC = 0 := rfl
  have frame : Frame [.change, .update] s (switchBank { s with change := { s.change with stateC := 0, since := s.now } }) :=
    fun p hp => by cases p <;> simp [same, switchBank] at hp ⊢
  generalize switchBank { s with change := { s.change with stateC := 0, since := s.now } } = z at *
  obtain ⟨wImages, wOther, wState, written⟩ := writeImageRecord_rest z
  have wChange : (writeImageRecord z).change = z.change := written .change (by decide)
  rw [wImages, wOther, wState, wChange, images]
  refine ⟨change, ?_, tget_tput_self _ _ _ _ hy, other, state, frame.trans (written.mono (by decide))⟩
  rw [tget_tput_ne _ _ _ _ _ (by decide), tget_tput_self _ _ _ _ hx]

/-- INSTALLED_RECORD_WRITTEN. -/
def recordInstalled (s : State) : State :=
  if s.change.stateC ≠ 6 then s else
  let s2 := if (bankSwitched s).update.state = 4 then setUpdateState (bankSwitched s) 8 else bankSwitched s
  bookEvent s2 0x7045 s.cyc.number ((s.program.pair.map progLow).getD 0) 0

theorem installedRecordWritten_eq (t : Time) (s : State) : exec (.installedRecordWritten t) s = at_ t s recordInstalled := rfl

theorem recordInstalled_rest {s : State} {x y : List Byte} (six : s.change.stateC = 6) (bank : s.update.otherBank = [x, y])
    (hx : x ≠ []) (hy : y ≠ []) :
    (recordInstalled s).change.stateC = 0 ∧ tget [] (recordInstalled s).update.images 2 = x ∧
      tget [] (recordInstalled s).update.images 3 = y ∧
      (recordInstalled s).update.otherBank = [tget [] s.update.images 2, tget [] s.update.images 3] ∧
      (recordInstalled s).update.state = (if s.update.state = 4 then 8 else s.update.state) ∧
      Frame [.change, .update, .constable] s (recordInstalled s) := by
  obtain ⟨state, x2, y3, other, update, frame⟩ := bankSwitched_rest bank hx hy
  unfold recordInstalled
  rw [if_neg (not_not.mpr six)]
  dsimp only
  generalize bankSwitched s = z at *
  have stands : (if z.update.state = 4 then setUpdateState z 8 else z).update.state = (if s.update.state = 4 then 8 else s.update.state) ∧
      (if z.update.state = 4 then setUpdateState z 8 else z).update.images = z.update.images ∧
      (if z.update.state = 4 then setUpdateState z 8 else z).update.otherBank = z.update.otherBank ∧
      Frame [.update, .constable] z (if z.update.state = 4 then setUpdateState z 8 else z) := by
    rw [← update]
    split
    · exact setUpdateState_rest z 8
    · exact ⟨rfl, rfl, rfl, .refl _ _⟩
  generalize (if z.update.state = 4 then setUpdateState z 8 else z) = w at *
  obtain ⟨wState, wImages, wOther, wFrame⟩ := stands
  have wChange : w.change = z.change := wFrame .change (by decide)
  refine ⟨by simpa [wChange] using state, by simpa [wImages] using x2, by simpa [wImages] using y3, by simpa [wOther] using other,
    by simpa using wState, ?_⟩
  exact (frame.mono (by decide)).trans ((wFrame.mono (by decide)).trans ((bookEvent_frame _ _ _ _ _).mono (by decide)))

theorem recordWritten (t : Time) (s : State) (x y : List Byte) :
    (s.change.stateC = 6 → s.update.otherBank = [x, y] → x ≠ [] → y ≠ [] → Answers (.installedRecordWritten t) s fun s' =>
      s'.change.stateC = 0 ∧ tget [] s'.update.images 2 = x ∧ tget [] s'.update.images 3 = y ∧
        s'.update.otherBank = [tget [] s.update.images 2, tget [] s.update.images 3] ∧
        s'.update.state = (if s.update.state = 4 then 8 else s.update.state) ∧ s'.program = s.program ∧
        Frame [.now, .change, .update, .constable, .host] s s') ∧
      (s.change.stateC ≠ 6 → Runs (.installedRecordWritten t) s (s.atTime t)) := by
  refine ⟨fun six bank hx hy => ?_, fun other => runs_idle (installedRecordWritten_eq t s) (if_pos other)⟩
  obtain ⟨state, x2, y3, otherBank, update, frame⟩ := recordInstalled_rest (s := s.atTime t) six bank hx hy
  refine answers_at (installedRecordWritten_eq t s) fun s' close => ?_
  have whole : Frame [.now, .change, .update, .constable, .host] s s' :=
    frame_closing close (frame.mono (by decide)) (by decide) (by decide)
  rw [close.change, close.update]
  exact ⟨state, x2, y3, otherBank, update, whole .program (by decide), whole⟩

/-- Settles O53: the order of the results and what ends Loading and Checking are log 39, a package no longer Verified is log 104
(both the model's choice). -/
theorem programsSwitchAtTheirCycle : Obligations.ProgramsSwitchAtTheirCycle := by
  intro t s l micros old new images x y
  obtain ⟨written, other⟩ := recordWritten t s x y
  exact ⟨loadingEnds t s l, fun checking staged => checkingEnds t s l images checking staged,
    fun checking gone => checkingEnds_gone t s l checking gone, preparationTimeout t s, preparation_idle t s l,
    programSwitches t s micros old new, written, other⟩

end Sys2Proof.Machine
end

section
/-!
PROOFS. Download, the host's update actions, and how the phases of an update end (O58, O59).
-/

namespace Sys2Proof.Machine

theorem Raised.closed {s r s' : State} {n : Nat} {p1 p2 p3 : U32} (h : Raised s r n p1 p2 p3) (close : Closed s r s') (hn : n ≠ 111) :
    Raised s s' n p1 p2 p3 := by
  obtain ⟨raises, params, last⟩ := h
  exact ⟨by rw [close.source n hn, raises], by rw [close.source n hn, params], by rw [close.source n hn, last, close.now]⟩

/-! ### A state of the update -/

theorem writeImageRecord_update (s : State) : ∃ a b, (writeImageRecord s).update = { s.update with copyA := a, copyB := b } := by
  unfold writeImageRecord
  dsimp only
  split
  · exact ⟨_, s.update.copyB, rfl⟩
  · exact ⟨s.update.copyA, _, rfl⟩

/-- A change of the update's state touches the state, its time and the image record only. -/
theorem setUpdateState_update (s : State) (n : Nat) : ∃ at' a b, (setUpdateState s n).update =
    { s.update with state := n, changedAt := at', copyA := a, copyB := b } := by
  unfold setUpdateState
  split
  · next h => exact ⟨s.update.changedAt, s.update.copyA, s.update.copyB, by rw [← h]⟩
  · obtain ⟨a, b, record⟩ := writeImageRecord_update { s with update := { s.update with state := n, changedAt := s.now } }
    have kept := bookEvent_frame (writeImageRecord { s with update := { s.update with state := n, changedAt := s.now } }) 0x70A0
      (u32 n) (u32 s.update.state) (u32 (s.update.pkgid.toNat % 2 ^ 32)) .update (by decide)
    exact ⟨s.now, a, b, kept.trans record⟩

theorem writeImageRecord_source (s : State) (k : Nat) : source (writeImageRecord s) k = source s k := rfl

theorem setUpdateState_source (s : State) (n k : Nat) : source (setUpdateState s n) k = source s k := by
  unfold setUpdateState
  split
  · rfl
  · rw [bookEvent_source, writeImageRecord_source]
    rfl

theorem setUpdateState_frame (s : State) (n : Nat) : Frame [.update, .constable] s (setUpdateState s n) := by
  obtain ⟨-, -, -, frame⟩ := setUpdateState_rest s n
  exact frame

theorem update_frame (s : State) (u : UpdateSt) : Frame [.update] s { s with update := u } := by
  intro p hp
  cases p <;> simp [same] at hp ⊢

theorem frame_touched {s r : State} (h : Frame [.update, .constable] s r) (ch : Nat) :
    Frame [.update, .constable, .host] s (touch r ch) :=
  (h.mono (by decide)).trans ((touch_frame r ch).mono (by decide))

/-! ### Download (R419, R420) -/

theorem needAuth_granted {s : State} {ch : Fin 8} {t : Time} {f : State → Write} {w : Write} (auth : authorised s ch.val = true)
    (h : f (s.atTime t) = w) : needAuth (s.atTime t) ch.val f = w := (needAuth_of_authorised auth t f).trans h

theorem beginDownload_eq (t : Time) (s : State) (ch : Fin 8) (pkgid : U64) (n : Nat) : exec (.beginDownload t ch pkgid n) s =
    writeAt t s ch.val fun s => needAuth s ch.val fun s => writeBegin s pkgid n := rfl

theorem piece_eq (t : Time) (s : State) (ch : Fin 8) (n : Nat) (pcrc : U32) (data : List Byte) : exec (.piece t ch n pcrc data) s =
    writeAt t s ch.val fun s => needAuth s ch.val fun s =>
      refuseUnless (data != []) 0x0201 <| refuseUnless (data.length ≤ 512) 0x0203 (writePiece s n pcrc data) := rfl

theorem refuseUnless_true {ok : Bool} {code : U16} {k : Write} (h : ok = true) : refuseUnless ok code k = k := if_pos h

theorem refuseUnless_false {ok : Bool} {code : U16} {k : Write} (h : ok = false) : refuseUnless ok code k = .error code := by
  rw [h]
  rfl

/-- A download cannot begin while the store is in use (Table 15-6). -/
def storeBusy (s : State) : Bool := s.update.state == 3 || s.update.state == 5 || s.update.state == 6 || s.update.state == 7

/-- The store of a download that begins. -/
def emptyStore (s : State) (pkgid : U64) (n : Nat) : State :=
  { s with update := { s.update with
    pkgid := pkgid, pkglen := n, pieces := [], plan := [], former := [], pointer := 0, reverse := false } }

/-- The download that has begun. -/
def begunDownload (s : State) (pkgid : U64) (n : Nat) : State := setUpdateState (emptyStore s pkgid n) 1

theorem writeBegin_eq (s : State) (pkgid : U64) (n : Nat) : writeBegin s pkgid n = refuseUnless (!s21 s) 0x0484
    (refuseUnless (!storeBusy s) 0x0480 (refuseUnless (decide (n ≤ 134217728)) 0x0660 (.ok (begunDownload s pkgid n)))) := rfl

theorem storeBusy_iff (s : State) : storeBusy s = true ↔
    s.update.state = 3 ∨ s.update.state = 5 ∨ s.update.state = 6 ∨ s.update.state = 7 := by
  simp [storeBusy, or_assoc]

theorem answers_begin {t : Time} {s : State} {ch : Fin 8} {pkgid : U64} {n : Nat} (serves : Serves s t)
    (auth : authorised s ch.val = true) (open' : s21 s = false) (free : storeBusy s = false) (fits : n ≤ 134217728) :
    Answers (.beginDownload t ch pkgid n) s fun s' =>
      s'.update.state = 1 ∧ s'.update.pkgid = pkgid ∧ s'.update.pkglen = n ∧ s'.update.pieces = [] ∧ s'.update.plan = [] ∧
        s'.update.former = [] ∧ s'.update.images = s.update.images ∧ Frame [.now, .update, .constable, .host] s s' := by
  have writes : writeBegin (s.atTime t) pkgid n = .ok (begunDownload (s.atTime t) pkgid n) := by
    rw [writeBegin_eq, refuseUnless_true (by rw [show s21 (s.atTime t) = false from open']; rfl),
      refuseUnless_true (by rw [show storeBusy (s.atTime t) = false from free]; rfl), refuseUnless_true (decide_eq_true fits)]
  have frame : Frame [.update, .constable] (s.atTime t) (begunDownload (s.atTime t) pkgid n) :=
    ((update_frame _ _).mono (by decide)).trans (setUpdateState_frame _ _)
  obtain ⟨_, _, _, update⟩ := setUpdateState_update (emptyStore (s.atTime t) pkgid n) 1
  refine answers_write (beginDownload_eq t s ch pkgid n) serves (needAuth_granted auth writes) fun s' close => ?_
  have touched := frame_touched frame ch.val
  have begun : s'.update = _ := close.update.trans (touch_update (begunDownload (s.atTime t) pkgid n) ch.val)
  rw [begun, show (begunDownload (s.atTime t) pkgid n).update = _ from update]
  exact ⟨rfl, rfl, rfl, rfl, rfl, rfl, rfl, frame_closing close touched (by decide) (by decide)⟩

theorem writePiece_eq (s : State) (n : Nat) (pcrc : U32) (data : List Byte) : writePiece s n pcrc data =
    refuseUnless (!s21 s) 0x0484 (refuseUnless (crc32c data == pcrc.toNat) 0x0250
      (refuseUnless (decide (n < piecesTotal s) && data.length == pieceLength s n) 0x0251
        (if (tget [] s.update.pieces n != []) = true then .ok s else refuseUnless (s.update.state == 1) 0x0480
          (.ok (if (tput [] s.update.pieces n data).length = piecesTotal s
            then setUpdateState { s with update := { s.update with pieces := tput [] s.update.pieces n data } } 2
            else { s with update := { s.update with pieces := tput [] s.update.pieces n data } }))))) := rfl

/-- A piece within the bounds of its entry is judged by the rules of the download. -/
theorem piece_write {t : Time} {s : State} {ch : Fin 8} {n : Nat} {pcrc : U32} {data : List Byte} {w : Write}
    (auth : authorised s ch.val = true) (some' : data ≠ []) (short : data.length ≤ 512) (h : writePiece (s.atTime t) n pcrc data = w) :
    needAuth (s.atTime t) ch.val (fun s => refuseUnless (data != []) 0x0201 <|
      refuseUnless (data.length ≤ 512) 0x0203 (writePiece s n pcrc data)) = w := by
  refine needAuth_granted auth ?_
  rw [refuseUnless_true (by simpa using some'), refuseUnless_true (decide_eq_true short), h]

/-- The last missing piece leads to Received (R420). -/
def pieceStored (s : State) (n : Nat) (data : List Byte) : State :=
  if (tput [] s.update.pieces n data).length = piecesTotal s
    then setUpdateState { s with update := { s.update with pieces := tput [] s.update.pieces n data } } 2
    else { s with update := { s.update with pieces := tput [] s.update.pieces n data } }

theorem pieceStored_rest {s : State} (n : Nat) (data : List Byte) (receiving : s.update.state = 1) :
    (pieceStored s n data).update.pieces = tput [] s.update.pieces n data ∧
      (pieceStored s n data).update.pkglen = s.update.pkglen ∧
      (pieceStored s n data).update.state = (if (tput [] s.update.pieces n data).length = piecesTotal s then 2 else 1) ∧
      (pieceStored s n data).update.images = s.update.images ∧ Frame [.update, .constable] s (pieceStored s n data) := by
  unfold pieceStored
  split
  · obtain ⟨_, _, _, update⟩ := setUpdateState_update { s with update := { s.update with pieces := tput [] s.update.pieces n data } } 2
    rw [update]
    exact ⟨rfl, rfl, rfl, rfl, ((update_frame _ _).mono (by decide)).trans (setUpdateState_frame _ _)⟩
  · exact ⟨rfl, rfl, receiving, rfl, (update_frame _ _).mono (by decide)⟩

theorem answers_piece {t : Time} {s : State} {ch : Fin 8} {n : Nat} {pcrc : U32} {data : List Byte} (serves : Serves s t)
    (writes : needAuth (s.atTime t) ch.val (fun s => refuseUnless (data != []) 0x0201 <|
      refuseUnless (data.length ≤ 512) 0x0203 (writePiece s n pcrc data)) = .ok (pieceStored (s.atTime t) n data))
    (some' : data ≠ []) (receiving : s.update.state = 1) :
    Answers (.piece t ch n pcrc data) s fun s' =>
      s'.update.pieces = tput [] s.update.pieces n data ∧ tget [] s'.update.pieces n = data ∧
        s'.update.state = (if s'.update.pieces.length = piecesTotal s then 2 else 1) ∧
        s'.update.images = s.update.images ∧ Frame [.now, .update, .constable, .host] s s' := by
  obtain ⟨pieces, -, state, images, frame⟩ := pieceStored_rest (s := s.atTime t) n data receiving
  refine answers_write (piece_eq t s ch n pcrc data) serves writes fun s' close => ?_
  have touched := frame_touched frame ch.val
  have stored : s'.update = (pieceStored (s.atTime t) n data).update := close.update.trans (touch_update _ ch.val)
  rw [stored, pieces, images, state]
  exact ⟨rfl, tget_tput_self _ _ _ _ some', rfl, rfl, frame_closing close touched (by decide) (by decide)⟩

theorem pieces {t : Time} {s : State} {ch : Fin 8} {n : Nat} {pcrc : U32} {data : List Byte} (serves : Serves s t)
    (auth : authorised s ch.val = true) (open' : s21 s = false) (some' : data ≠ []) (short : data.length ≤ 512) :
    (crc32c data ≠ pcrc.toNat → Runs (.piece t ch n pcrc data) s (refused (s.atTime t) ch 0x0250)) ∧
      (crc32c data = pcrc.toNat → piecesTotal s ≤ n ∨ data.length ≠ pieceLength s n →
        Runs (.piece t ch n pcrc data) s (refused (s.atTime t) ch 0x0251)) ∧
      (crc32c data = pcrc.toNat → n < piecesTotal s → data.length = pieceLength s n →
        (tget [] s.update.pieces n ≠ [] → Runs (.piece t ch n pcrc data) s (accepted (s.atTime t) ch)) ∧
        (tget [] s.update.pieces n = [] → s.update.state ≠ 1 → Runs (.piece t ch n pcrc data) s (refused (s.atTime t) ch 0x0480)) ∧
        (tget [] s.update.pieces n = [] → s.update.state = 1 → Answers (.piece t ch n pcrc data) s fun s' =>
          s'.update.pieces = tput [] s.update.pieces n data ∧ tget [] s'.update.pieces n = data ∧
            s'.update.state = (if s'.update.pieces.length = piecesTotal s then 2 else 1) ∧
            s'.update.images = s.update.images ∧ Frame [.now, .update, .constable, .host] s s')) := by
  have hs : (!s21 (s.atTime t)) = true := by rw [show s21 (s.atTime t) = false from open']; rfl
  refine ⟨fun crc => ?_, fun crc bad => ?_, fun crc inside length => ⟨fun marked => ?_, fun missing other => ?_, fun missing receiving => ?_⟩⟩
  · refine runs_refused (piece_eq t s ch n pcrc data) serves (piece_write auth some' short ?_)
    rw [writePiece_eq, refuseUnless_true hs, refuseUnless_false (by simpa using crc)]
  · refine runs_refused (piece_eq t s ch n pcrc data) serves (piece_write auth some' short ?_)
    rw [writePiece_eq, refuseUnless_true hs, refuseUnless_true (by simpa using crc), refuseUnless_false]
    rcases bad with beyond | length
    · have late : decide (n < piecesTotal (s.atTime t)) = false := decide_eq_false (Nat.not_lt.mpr beyond)
      rw [late, Bool.false_and]
    · rw [show (data.length == pieceLength (s.atTime t) n) = false from beq_eq_false_iff_ne.mpr length, Bool.and_false]
  all_goals
    have fits : (decide (n < piecesTotal (s.atTime t)) && data.length == pieceLength (s.atTime t) n) = true := by
      have early : decide (n < piecesTotal (s.atTime t)) = true := decide_eq_true inside
      rw [early, show (data.length == pieceLength (s.atTime t) n) = true from beq_iff_eq.mpr length, Bool.true_and]
  · refine runs_write (piece_eq t s ch n pcrc data) serves (piece_write auth some' short ?_) rfl ⟨rfl, rfl⟩ rfl rfl rfl rfl rfl
    rw [writePiece_eq, refuseUnless_true hs, refuseUnless_true (by simpa using crc), refuseUnless_true fits,
      if_pos (by simpa using marked)]
  · refine runs_refused (piece_eq t s ch n pcrc data) serves (piece_write auth some' short ?_)
    rw [writePiece_eq, refuseUnless_true hs, refuseUnless_true (by simpa using crc), refuseUnless_true fits,
      if_neg (by simpa using missing), refuseUnless_false (by simpa using other)]
  · refine answers_piece serves (piece_write auth some' short ?_) some' receiving
    rw [writePiece_eq, refuseUnless_true hs, refuseUnless_true (by simpa using crc), refuseUnless_true fits,
      if_neg (by simpa using missing), refuseUnless_true (by simpa using receiving)]
    rfl

/-! ### The host's actions (Table 15-7) -/

/-- An action with its package and in its states is taken. -/
theorem writeAction_of {s : State} {a : Nat} {pkgid : U64} (h : 1 ≤ a ∧ a ≤ 6) : writeAction s a pkgid =
    refuseUnless (pkgid == s.update.pkgid) 0x0481 (match updateRefusal s a with
      | some code => .error code
      | none => .ok (doUpdate s a)) := by
  unfold writeAction
  rw [refuseUnless_true (by simp [h])] <;> rfl

theorem updateRefusal_state {s : State} {a : Nat} (h : actionState s a = false) : updateRefusal s a = some 0x0480 := if_pos h

theorem updateRefusal_seal {s : State} {a : Nat} (h : actionState s a = true) (closed : s21 s = true) :
    updateRefusal s a = some 0x0484 := by
  unfold updateRefusal
  rw [if_neg (by simp [h]), if_pos closed]

/-- Refusals of the host's actions. -/
theorem actionRefused {t : Time} {s : State} {ch : Fin 8} {pkgid : U64} {a : Nat} {c : Instr} (code : U16)
    (hc : exec c s = hostAction t s ch.val a pkgid) (h : 1 ≤ a ∧ a ≤ 6) (serves : Serves s t) (auth : authorised s ch.val = true) :
    (pkgid ≠ s.update.pkgid → Runs c s (refused (s.atTime t) ch 0x0481)) ∧
      (pkgid = s.update.pkgid → actionState s a = false → Runs c s (refused (s.atTime t) ch 0x0480)) ∧
      (pkgid = s.update.pkgid → actionState s a = true → s21 s = true → Runs c s (refused (s.atTime t) ch 0x0484)) ∧
      (pkgid = s.update.pkgid → updateRefusal (s.atTime t) a = some code → Runs c s (refused (s.atTime t) ch code)) := by
  have refusal {x : U16} (same : pkgid = s.update.pkgid) (hx : updateRefusal (s.atTime t) a = some x) :
      Runs c s (refused (s.atTime t) ch x) := by
    refine runs_refused hc serves (needAuth_granted auth ?_)
    rw [writeAction_of h, refuseUnless_true (by simp [same]), hx]
  refine ⟨fun other => ?_, fun same state => refusal same (updateRefusal_state state),
    fun same state closed => refusal same (updateRefusal_seal state closed), refusal⟩
  refine runs_refused hc serves (needAuth_granted auth ?_)
  rw [writeAction_of h, refuseUnless_false (by simp [other])]

/-- An action that is not refused is done. -/
theorem answers_action {t : Time} {s : State} {ch : Fin 8} {pkgid : U64} {a : Nat} {c : Instr} {P : State → Prop}
    (hc : exec c s = hostAction t s ch.val a pkgid) (h : 1 ≤ a ∧ a ≤ 6) (serves : Serves s t) (auth : authorised s ch.val = true)
    (same : pkgid = s.update.pkgid) (passes : updateRefusal (s.atTime t) a = none)
    (frame : Frame [.update, .constable] (s.atTime t) (doUpdate (s.atTime t) a))
    (hP : ∀ s', s'.update = (doUpdate (s.atTime t) a).update → Frame [.now, .update, .constable, .host] s s' → P s') :
    Answers c s P := by
  have writes : writeAction (s.atTime t) a pkgid = .ok (doUpdate (s.atTime t) a) := by
    rw [writeAction_of h, refuseUnless_true (by simp [same]), passes]
  refine answers_write hc serves (needAuth_granted auth writes) fun s' close => ?_
  have touched := frame_touched frame ch.val
  exact hP s' (close.update.trans (touch_update _ ch.val)) (frame_closing close touched (by decide) (by decide))

theorem endDue_rest (s : State) : (endDue s).update = { s.update with due := none } ∧ Frame [.update, .constable] s (endDue s) := by
  unfold endDue
  dsimp only
  split <;> exact ⟨rfl, fun p hp => by cases p <;> simp [same] at hp ⊢⟩

theorem startReverse_rest (s : State) (cause : Nat) : (startReverse s cause).update.state = 6 ∧
    (startReverse s cause).update.images = s.update.images ∧ (startReverse s cause).update.reverse = true ∧
    (startReverse s cause).update.cause = cause ∧ (startReverse s cause).update.due = none ∧
    (startReverse s cause).update.pointer = s.update.plan.length ∧ Frame [.update, .constable] s (startReverse s cause) := by
  obtain ⟨due, ended⟩ := endDue_rest s
  unfold startReverse
  dsimp only
  generalize endDue s = z at *
  obtain ⟨_, _, _, update⟩ := setUpdateState_update { z with update := { z.update with
    reverse := true, pointer := s.update.plan.length, cause := cause, paused := false } } 6
  rw [update]
  refine ⟨rfl, by simp [due], rfl, rfl, by simp [due], rfl, ?_⟩
  exact ended.trans (((update_frame _ _).mono (by decide)).trans (setUpdateState_frame _ _))

theorem doUpdate_confirm (s : State) : doUpdate s 4 =
    setUpdateState { endDue s with update := { (endDue s).update with plan := [], former := [] } } 8 := rfl

theorem doUpdate_cancel (s : State) : doUpdate s 5 =
    if s.update.state = 5 then setUpdateState { s with update := { s.update with plan := [] } } 4
    else setUpdateState { s with update := { s.update with pkgid := 0, pkglen := 0, pieces := [] } } 0 := rfl

theorem confirmed_rest (s : State) : (doUpdate s 4).update.state = 8 ∧ (doUpdate s 4).update.images = s.update.images ∧
    (doUpdate s 4).update.former = [] ∧ (doUpdate s 4).update.plan = [] ∧ Frame [.update, .constable] s (doUpdate s 4) := by
  obtain ⟨due, ended⟩ := endDue_rest s
  rw [doUpdate_confirm]
  generalize endDue s = z at *
  obtain ⟨_, _, _, update⟩ := setUpdateState_update { z with update := { z.update with plan := [], former := [] } } 8
  rw [update]
  exact ⟨rfl, by simp [due], rfl, rfl, ended.trans (((update_frame _ _).mono (by decide)).trans (setUpdateState_frame _ _))⟩

theorem cancelled_rest (s : State) : (doUpdate s 5).update.state = (if s.update.state = 5 then 4 else 0) ∧
    (doUpdate s 5).update.images = s.update.images ∧
    (s.update.state ≠ 5 → (doUpdate s 5).update.pieces = [] ∧ (doUpdate s 5).update.pkgid = 0) ∧
    Frame [.update, .constable] s (doUpdate s 5) := by
  rw [doUpdate_cancel]
  split
  · next five =>
    obtain ⟨_, _, _, update⟩ := setUpdateState_update { s with update := { s.update with plan := [] } } 4
    rw [update]
    exact ⟨rfl, rfl, fun other => absurd five other, ((update_frame _ _).mono (by decide)).trans (setUpdateState_frame _ _)⟩
  · obtain ⟨_, _, _, update⟩ := setUpdateState_update { s with update := { s.update with pkgid := 0, pkglen := 0, pieces := [] } } 0
    rw [update]
    exact ⟨rfl, rfl, fun _ => ⟨rfl, rfl⟩, ((update_frame _ _).mono (by decide)).trans (setUpdateState_frame _ _)⟩

section Actions

variable {t : Time} {s : State} {ch : Fin 8} {pkgid : U64} (serves : Serves s t) (auth : authorised s ch.val = true)
  (same : pkgid = s.update.pkgid)
include serves auth same

theorem answers_verify (passes : updateRefusal (s.atTime t) 1 = none) : Answers (.verify t ch pkgid) s fun s' =>
    UpdateStands s s' 3 ∧ s'.update.former = s.update.former := by
  obtain ⟨_, _, _, update⟩ := setUpdateState_update (s.atTime t) 3
  refine answers_action (a := 1) rfl (by decide) serves auth same passes (setUpdateState_frame _ _) fun s' h frame => ?_
  rw [UpdateStands, h, show (doUpdate (s.atTime t) 1).update = _ from update]
  exact ⟨⟨rfl, rfl, frame⟩, rfl⟩

theorem answers_armUpdate (passes : updateRefusal (s.atTime t) 2 = none) : Answers (.arm t ch pkgid) s fun s' =>
    UpdateStands s s' 5 ∧ s'.update.plan = journalPlan (stagedPackage s) s.update.images ∧ s'.update.former = s.update.former := by
  obtain ⟨_, _, _, update⟩ := setUpdateState_update { s.atTime t with update := { s.update with
    plan := journalPlan (stagedPackage s) s.update.images, pointer := 0, reverse := false } } 5
  refine answers_action (a := 2) rfl (by decide) serves auth same passes
    (((update_frame _ _).mono (by decide)).trans (setUpdateState_frame _ _)) fun s' h frame => ?_
  rw [UpdateStands, h, show (doUpdate (s.atTime t) 2).update = _ from update]
  exact ⟨⟨rfl, rfl, frame⟩, rfl, rfl⟩

theorem answers_activate (passes : updateRefusal (s.atTime t) 3 = none) : Answers (.activate t ch pkgid) s fun s' =>
    UpdateStands s s' 6 ∧ s'.update.former = s.update.images ∧ s'.update.reverse = false ∧ s'.update.pointer = 0 := by
  obtain ⟨_, _, _, update⟩ := setUpdateState_update { s.atTime t with update := { s.update with
    pointer := 0, reverse := false, former := s.update.images, limit := setting (s.atTime t) 0x2600 0x0C 24, paused := false } } 6
  refine answers_action (a := 3) rfl (by decide) serves auth same passes
    (((update_frame _ _).mono (by decide)).trans (setUpdateState_frame _ _)) fun s' h frame => ?_
  rw [UpdateStands, h, show (doUpdate (s.atTime t) 3).update = _ from update]
  exact ⟨⟨rfl, rfl, frame⟩, rfl, rfl, rfl⟩

theorem answers_confirm (passes : updateRefusal (s.atTime t) 4 = none) : Answers (.confirm t ch pkgid) s fun s' =>
    UpdateStands s s' 8 ∧ s'.update.former = [] ∧ s'.update.plan = [] := by
  obtain ⟨state, images, former, plan, frame⟩ := confirmed_rest (s.atTime t)
  refine answers_action (a := 4) rfl (by decide) serves auth same passes frame fun s' h whole => ?_
  rw [UpdateStands, h]
  exact ⟨⟨state, images, whole⟩, former, plan⟩

theorem answers_cancel (passes : updateRefusal (s.atTime t) 5 = none) : Answers (.cancel t ch pkgid) s fun s' =>
    UpdateStands s s' (if s.update.state = 5 then 4 else 0) ∧
      (s.update.state ≠ 5 → s'.update.pieces = [] ∧ s'.update.pkgid = 0) := by
  obtain ⟨state, images, cleared, frame⟩ := cancelled_rest (s.atTime t)
  refine answers_action (a := 5) rfl (by decide) serves auth same passes frame fun s' h whole => ?_
  rw [UpdateStands, h]
  exact ⟨⟨state, images, whole⟩, cleared⟩

theorem answers_rollBack (passes : updateRefusal (s.atTime t) 6 = none) : Answers (.rollBack t ch pkgid) s fun s' =>
    UpdateStands s s' 6 ∧ s'.update.reverse = true ∧ s'.update.cause = 3 ∧ s'.update.pointer = s.update.plan.length := by
  obtain ⟨state, images, reverse, cause, -, pointer, frame⟩ := startReverse_rest (s.atTime t) 3
  refine answers_action (a := 6) rfl (by decide) serves auth same passes frame fun s' h whole => ?_
  rw [UpdateStands, h]
  exact ⟨⟨state, images, whole⟩, reverse, cause, pointer⟩

end Actions

/-- Settles O58: that a missing piece outside Receiving is 0480h, the PKGID judged before the state, 0484h before the checks of a
piece, and the cleared download are log 58 (the model's choice). -/
theorem updateActionsFollowTheirStates : Obligations.UpdateActionsFollowTheirStates := by
  intro t s ch pkgid n pcrc data code serves auth
  refine ⟨fun closed => ⟨?_, fun some' short => ?_⟩, fun open' => ⟨fun busy => ?_, fun h3 h5 h6 h7 => ⟨fun long => ?_, fun fits => ?_⟩,
    fun some' short => pieces serves auth open' some' short⟩, fun a c listed => ?_, fun same => ?_⟩
  · refine runs_refused (beginDownload_eq t s ch pkgid n) serves (needAuth_granted auth ?_)
    rw [writeBegin_eq, refuseUnless_false (by rw [show s21 (s.atTime t) = true from closed]; rfl)]
  · refine runs_refused (piece_eq t s ch n pcrc data) serves (piece_write auth some' short ?_)
    rw [writePiece_eq, refuseUnless_false (by rw [show s21 (s.atTime t) = true from closed]; rfl)]
  · refine runs_refused (beginDownload_eq t s ch pkgid n) serves (needAuth_granted auth ?_)
    rw [writeBegin_eq, refuseUnless_true (by rw [show s21 (s.atTime t) = false from open']; rfl),
      refuseUnless_false (by rw [(storeBusy_iff (s.atTime t)).mpr busy]; rfl)]
  · have free : storeBusy (s.atTime t) = false := by
      rw [← Bool.not_eq_true, storeBusy_iff]
      exact fun busy => by rcases busy with h | h | h | h <;> contradiction
    refine runs_refused (beginDownload_eq t s ch pkgid n) serves (needAuth_granted auth ?_)
    rw [writeBegin_eq, refuseUnless_true (by rw [show s21 (s.atTime t) = false from open']; rfl),
      refuseUnless_true (by rw [free]; rfl), refuseUnless_false (decide_eq_false (Nat.not_le.mpr long))]
  · have free : storeBusy s = false := by
      rw [← Bool.not_eq_true, storeBusy_iff]
      exact fun busy => by rcases busy with h | h | h | h <;> contradiction
    exact answers_begin serves auth open' free fits
  · simp only [List.mem_cons, Prod.mk.injEq, List.not_mem_nil, or_false] at listed
    rcases listed with ⟨rfl, rfl⟩ | ⟨rfl, rfl⟩ | ⟨rfl, rfl⟩ | ⟨rfl, rfl⟩ | ⟨rfl, rfl⟩ | ⟨rfl, rfl⟩ <;>
      exact actionRefused code rfl (by decide) serves auth
  · exact ⟨answers_verify serves auth same, answers_armUpdate serves auth same, answers_activate serves auth same,
      answers_confirm serves auth same, answers_cancel serves auth same, answers_rollBack serves auth same⟩

/-! ### The ends of the phases (R421, R422, R428) -/

theorem endVerification_rest {s : State} (quiet : Quiet s 116) (r k : Nat) :
    (endVerification s r k).update.state = (if r = 0 then 4 else 2) ∧ (endVerification s r k).update.result = u8 r ∧
      (r ≠ 0 → Raised s (endVerification s r k) 116 (u32 r) (u32 k) (pkgLow s)) ∧
      (endVerification s r k).update.images = s.update.images ∧ Frame [.update, .constable] s (endVerification s r k) := by
  unfold endVerification
  dsimp only
  split
  · next zero =>
    obtain ⟨_, _, _, update⟩ := setUpdateState_update { s with update := { s.update with result := u8 r } } 4
    rw [update]
    exact ⟨rfl, rfl, fun other => absurd zero other, rfl, ((update_frame _ _).mono (by decide)).trans (setUpdateState_frame _ _)⟩
  · obtain ⟨_, _, _, update⟩ := setUpdateState_update { s with update := { s.update with result := u8 r } } 2
    have sources : source (setUpdateState { s with update := { s.update with result := u8 r } } 2) 116 = source s 116 :=
      setUpdateState_source _ 2 116
    have frame : Frame [.update, .constable] s (setUpdateState { s with update := { s.update with result := u8 r } } 2) :=
      ((update_frame _ _).mono (by decide)).trans (setUpdateState_frame _ _)
    generalize setUpdateState { s with update := { s.update with result := u8 r } } 2 = z at *
    have quiet' : Quiet z 116 := by
      unfold Quiet
      rw [sources]
      exact quiet
    rw [raise_minor quiet' (by decide)]
    refine ⟨?_, ?_, fun _ => raised_recordRaise sources _ _ _, ?_, frame.trans ((recordRaise_frame _ _ _ _ _ _).mono (by decide))⟩
    all_goals simp [update]

theorem answers_endVerification {c : Instr} {t : Time} {s : State} {f : State → State} {r k : Nat} (hc : exec c s = at_ t s f)
    (hr : f (s.atTime t) = endVerification (s.atTime t) r k) (quiet : Quiet s 116) : Answers c s fun s' =>
      s'.update.state = (if r = 0 then 4 else 2) ∧ s'.update.result = u8 r ∧ (r ≠ 0 → Raised s s' 116 (u32 r) (u32 k) (pkgLow s)) ∧
        s'.update.images = s.update.images ∧ Frame [.now, .update, .constable, .host] s s' := by
  obtain ⟨state, result, raised, images, frame⟩ := endVerification_rest (s := s.atTime t) quiet r k
  refine answers_at hc fun s' close => ?_
  rw [hr] at close
  rw [close.update]
  exact ⟨state, result, fun fails => Raised.closed (s := s) (raised fails) close (by decide), images,
    frame_closing close (frame.mono (by decide)) (by decide) (by decide)⟩

/-- VERIFICATION_COMPLETE. -/
def verificationEnds (s : State) : State :=
  if s.update.state ≠ 3 then s
  else if s21 s then endVerification s 9 0xFF
  else
    let x := verifyPackage (stagedPackage s) s.update.pkgid s.update.pkglen s.update.ownerKey s.update.images
    endVerification s x.1 x.2

theorem verificationComplete_eq (t : Time) (s : State) : exec (.verificationComplete t) s = at_ t s verificationEnds := rfl

/-- UPDATE_LOW_SUPPLY. -/
def supplyLow (s : State) : State :=
  if lowSupply s = false then s
  else if s.update.state = 3 then endVerification s 9 0xFF
  else if s.update.state = 6 then { s with update := { s.update with paused := true } }
  else s

theorem updateLowSupply_eq (t : Time) (s : State) : exec (.updateLowSupply t) s = at_ t s supplyLow := rfl

theorem verificationComplete_ends {t : Time} {s : State} {r k : Nat} (verifying : s.update.state = 3) (open' : s21 s = false)
    (result : verifyPackage (stagedPackage s) s.update.pkgid s.update.pkglen s.update.ownerKey s.update.images = (r, k))
    (quiet : Quiet s 116) : Answers (.verificationComplete t) s fun s' =>
      s'.update.state = (if r = 0 then 4 else 2) ∧ s'.update.result = u8 r ∧ (r ≠ 0 → Raised s s' 116 (u32 r) (u32 k) (pkgLow s)) ∧
        s'.update.images = s.update.images ∧ Frame [.now, .update, .constable, .host] s s' := by
  refine answers_endVerification (verificationComplete_eq t s) ?_ quiet
  have judged : verifyPackage (stagedPackage (s.atTime t)) (s.atTime t).update.pkgid (s.atTime t).update.pkglen
      (s.atTime t).update.ownerKey (s.atTime t).update.images = (r, k) := result
  have three : (s.atTime t).update.state = 3 := verifying
  unfold verificationEnds
  rw [if_neg (not_not.mpr three), if_neg (by rw [show s21 (s.atTime t) = false from open']; decide), judged]

/-- S21 and a low supply end a verification with result 9. -/
theorem verification_stopped {t : Time} {s : State} {c : Instr} (verifying : s.update.state = 3) (quiet : Quiet s 116)
    (h : (c = .verificationComplete t ∧ s21 s = true) ∨ (c = .updateLowSupply t ∧ lowSupply (s.atTime t) = true)) :
    Answers c s fun s' =>
      s'.update.state = 2 ∧ s'.update.result = 9 ∧ Raised s s' 116 9 0xFF (pkgLow s) ∧ Frame [.now, .update, .constable, .host] s s' := by
  have ends {f : State → State} (hc : exec c s = at_ t s f) (hf : f (s.atTime t) = endVerification (s.atTime t) 9 0xFF) :
      Answers c s fun s' => s'.update.state = 2 ∧ s'.update.result = 9 ∧ Raised s s' 116 9 0xFF (pkgLow s) ∧
        Frame [.now, .update, .constable, .host] s s' :=
    (answers_endVerification hc hf quiet).imp fun s' ⟨state, result, raised, _, frame⟩ => ⟨state, result, raised (by decide), frame⟩
  have three : (s.atTime t).update.state = 3 := verifying
  rcases h with ⟨rfl, closed⟩ | ⟨rfl, low⟩
  · refine ends (verificationComplete_eq t s) ?_
    have sealed : s21 (s.atTime t) = true := closed
    unfold verificationEnds
    rw [if_neg (not_not.mpr three), if_pos sealed]
  · refine ends (updateLowSupply_eq t s) ?_
    unfold supplyLow
    rw [if_neg (by rw [low]; decide), if_pos three]

/-- An effect on the update alone, which leaves its state. -/
theorem runs_update {c : Instr} {t : Time} {s : State} {f : State → State} {u : UpdateSt} (hc : exec c s = at_ t s f)
    (hf : f (s.atTime t) = { s.atTime t with update := u }) (hu : u.state = s.update.state) :
    Runs c s { s.atTime t with update := u } := runs_at hc hf rfl ⟨rfl, rfl⟩ rfl hu rfl rfl rfl

theorem lowSupply_pauses {t : Time} {s : State} :
    (s.update.state = 6 → lowSupply (s.atTime t) = true →
      Runs (.updateLowSupply t) s (modUpdate (s.atTime t) fun u => { u with paused := true })) ∧
    (lowSupply (s.atTime t) = false → Runs (.updateLowSupply t) s (s.atTime t)) := by
  refine ⟨fun activating low => runs_update (updateLowSupply_eq t s) ?_ rfl, fun good => runs_idle (updateLowSupply_eq t s) (if_pos good)⟩
  have six : (s.atTime t).update.state = 6 := activating
  unfold supplyLow
  rw [if_neg (by rw [low]; decide), if_neg (by omega), if_pos six]

/-- ACTIVATION_RESUME. -/
def resumes (s : State) : State :=
  if s.update.paused ∧ s.modes.vinOkFrom.any (fun x => x + sec 10 ≤ s.now) then { s with update := { s.update with paused := false } }
  else s

theorem activationResume_eq (t : Time) (s : State) : exec (.activationResume t) s = at_ t s resumes := rfl

theorem activation_resumes {t : Time} {s : State} {x : Time} (paused : s.update.paused = true) (since : s.modes.vinOkFrom = some x) :
    (x + sec 10 ≤ t → Runs (.activationResume t) s (modUpdate (s.atTime t) fun u => { u with paused := false })) ∧
      (t < x + sec 10 → Runs (.activationResume t) s (s.atTime t)) := by
  have good : ((s.atTime t).modes.vinOkFrom.any fun x => decide (x + sec 10 ≤ (s.atTime t).now)) = decide (x + sec 10 ≤ t) := by
    have now : (s.atTime t).now = t := rfl
    rw [State.atTime_modes, since, Option.any_some, now]
  refine ⟨fun long => runs_update (activationResume_eq t s) ?_ rfl, fun short => runs_idle (activationResume_eq t s) ?_⟩
  · exact if_pos ⟨paused, good.trans (decide_eq_true long)⟩
  · exact if_neg fun both => absurd (good.symm.trans both.2) (by rw [decide_eq_false (Nat.not_le.mpr short)]; decide)

/-- CONFIRMATION_LIMIT_EXPIRY. -/
def limitExpires (s : State) : State :=
  if s.update.state = 7 ∧ s.update.goodStart ∧ s.update.due = none ∧ s.update.limit * 3600 ≤ probationSeconds s then
    if standsStill s ∧ s.change.stateC = 0 then runDueRollback { s with update := { s.update with due := some 2 } }
    else raise { s with update := { s.update with due := some 2 } } 117 2 (u32 (probationSeconds s / 3600))
      (pkgLow { s with update := { s.update with due := some 2 } })
  else s

theorem confirmationLimitExpiry_eq (t : Time) (s : State) : exec (.confirmationLimitExpiry t) s = at_ t s limitExpires := rfl

theorem limit_rollsBack {t : Time} {s : State} (probation : s.update.state = 7) (good : s.update.goodStart = true)
    (due : s.update.due = none) (expired : s.update.limit * 3600 ≤ probationSeconds (s.atTime t)) (still : standsStill s = true)
    (change : s.change.stateC = 0) : Answers (.confirmationLimitExpiry t) s fun s' =>
      s'.update.state = 6 ∧ s'.update.reverse = true ∧ s'.update.cause = 2 ∧ s'.update.due = none ∧
        s'.update.pointer = s.update.plan.length ∧ Frame [.now, .update, .constable, .host] s s' := by
  have eq : limitExpires (s.atTime t) = startReverse { s.atTime t with update := { s.update with due := some 2 } } 2 := by
    unfold limitExpires
    rw [if_pos ⟨probation, good, due, expired⟩, if_pos ⟨still, change⟩]
    exact if_pos ⟨probation, still, change⟩
  obtain ⟨state, -, reverse, cause, due', pointer, frame⟩ :=
    startReverse_rest { s.atTime t with update := { s.update with due := some 2 } } 2
  have whole : Frame [.update, .constable] (s.atTime t) (startReverse { s.atTime t with update := { s.update with due := some 2 } } 2) :=
    ((update_frame _ _).mono (by decide)).trans frame
  refine answers_at (confirmationLimitExpiry_eq t s) fun s' close => ?_
  rw [eq] at close
  rw [close.update]
  exact ⟨state, reverse, cause, due', pointer, frame_closing close (whole.mono (by decide)) (by decide) (by decide)⟩

theorem limit_raises {t : Time} {s : State} (probation : s.update.state = 7) (good : s.update.goodStart = true)
    (due : s.update.due = none) (expired : s.update.limit * 3600 ≤ probationSeconds (s.atTime t)) (moves : standsStill s = false)
    (quiet : Quiet s 117) : Answers (.confirmationLimitExpiry t) s fun s' =>
      s'.update.state = 7 ∧ s'.update.due = some 2 ∧
        Raised s s' 117 2 (u32 (probationSeconds (s.atTime t) / 3600)) (pkgLow s) ∧ Frame [.now, .update, .constable] s s' := by
  have eq : limitExpires (s.atTime t) = recordRaise { s.atTime t with update := { s.update with due := some 2 } } 117 false 2
      (u32 (probationSeconds (s.atTime t) / 3600)) (pkgLow s) := by
    unfold limitExpires
    rw [if_pos ⟨probation, good, due, expired⟩, if_neg fun both => absurd both.1 (by rw [show standsStill (s.atTime t) = _ from moves]; decide)]
    exact raise_minor (s := { s.atTime t with update := { s.update with due := some 2 } }) quiet (by decide) _ _ _
  have frame : Frame [.update, .constable] (s.atTime t) (limitExpires (s.atTime t)) := by
    rw [eq]
    exact ((update_frame _ _).mono (by decide)).trans ((recordRaise_frame _ _ _ _ _ _).mono (by decide))
  have raised : Raised s (limitExpires (s.atTime t)) 117 2 (u32 (probationSeconds (s.atTime t) / 3600)) (pkgLow s) := by
    rw [eq]
    exact raised_recordRaise (x := { s.atTime t with update := { s.update with due := some 2 } }) rfl _ _ _
  have update : (limitExpires (s.atTime t)).update = { s.update with due := some 2 } := by
    rw [eq]
    simp
  refine answers_plain (confirmationLimitExpiry_eq t s) ?_ (frame .pending (by decide)) ⟨?_, ?_, raised, ?_⟩
  · have modes : (limitExpires (s.atTime t)).modes = s.modes := frame .modes (by decide)
    have twin : (limitExpires (s.atTime t)).twin = s.twin := frame .twin (by decide)
    have change : (limitExpires (s.atTime t)).change = s.change := frame .change (by decide)
    exact attrs_same (by rw [modes]) ⟨by rw [modes], by rw [modes]⟩ (by rw [twin]) (by rw [update]) (frame .lanes (by decide))
      (by rw [change])
  · rw [update]; exact probation
  · rw [update]
  · exact ((frame_atTime s t).mono (by decide)).trans (frame.mono (by decide))

/-- PROBATION_RECORD_SAVE. -/
def savesProbation (s : State) : State := if s.update.state = 7 ∧ s.update.goodStart then saveProbation s else s

theorem probationRecordSave_eq (t : Time) (s : State) : exec (.probationRecordSave t) s = at_ t s savesProbation := rfl

theorem probation_saved {t : Time} {s : State} (probation : s.update.state = 7) (good : s.update.goodStart = true) :
    Answers (.probationRecordSave t) s fun s' =>
      s'.update.elapsed = s.update.elapsed + (t - s.update.countFrom) / sec 1 ∧ s'.update.savedAt = t ∧ Frame [.now, .update] s s' := by
  have eq : savesProbation (s.atTime t) = saveProbation (s.atTime t) := if_pos ⟨probation, good⟩
  refine answers_plain (probationRecordSave_eq t s) ?_ ?_ ?_
  · rw [eq]
    exact attrs_same rfl ⟨rfl, rfl⟩ rfl rfl rfl rfl
  · rw [eq]
    rfl
  · rw [eq]
    exact ⟨rfl, rfl, fun p hp => by cases p <;> simp [same, saveProbation] at hp ⊢⟩

/-- Settles O59. -/
theorem updatePhasesEnd : Obligations.UpdatePhasesEnd := by
  intro t s r k x
  refine ⟨fun verifying => ⟨fun open' result quiet => verificationComplete_ends verifying open' result quiet,
      fun quiet c h => verification_stopped verifying quiet h⟩,
    fun other => runs_idle (verificationComplete_eq t s) (if_pos other), lowSupply_pauses.1, lowSupply_pauses.2,
    activation_resumes, fun probation good => ⟨fun due expired => ⟨limit_rollsBack probation good due expired,
      limit_raises probation good due expired⟩, fun early => ?_, probation_saved probation good⟩, fun other => ⟨?_, ?_⟩⟩
  · exact runs_idle (confirmationLimitExpiry_eq t s) (if_neg fun all => Nat.not_le.mpr early all.2.2.2)
  · exact runs_idle (confirmationLimitExpiry_eq t s) (if_neg fun all => other.elim (· all.1) fun bad => absurd all.2.1 (by simp [bad]))
  · exact runs_idle (probationRecordSave_eq t s) (if_neg fun all => other.elim (· all.1) fun bad => absurd all.2 (by simp [bad]))

end Sys2Proof.Machine
end

section
/-!
PROOFS. Writes of dictionary entries, and the staged groups and forces (O48, O50).
-/

namespace Sys2Proof.Machine

/-! ### Shadows of staged groups -/

theorem modShadow_self {s : State} {g : Nat} {f : GroupShadow → GroupShadow} (h : f (groupShadow s g) ≠ {}) :
    groupShadow (modShadow s g f) g = f (groupShadow s g) := tget_tput_self _ _ _ _ h

theorem modShadow_frame (s : State) (g : Nat) (f : GroupShadow → GroupShadow) : Frame [.host] s (modShadow s g f) := by
  intro p hp
  cases p <;> simp [same] at hp ⊢

theorem freeGroup_self {s : State} {g status : Nat} (h : status ≠ 0) : groupShadow (freeGroup s g status) g =
    { groupShadow s g with status := status, owner := none, shadow := [] } :=
  modShadow_self (f := fun x => { x with status := status, owner := none, shadow := [] })
    fun same => h (show status = 0 from congrArg GroupShadow.status same)

/-! ### Events that the queue takes (R307) -/

/-- An enabled event on a queue that is not full joins it, and nothing else changes. -/
theorem pushEvent_room {s : State} {kind : Nat} (bytes : List Byte) (enabled : kindEnabled s kind = true)
    (room : s.host.events.length < 256) : pushEvent s kind bytes =
    { s with host := { s.host with events := s.host.events ++ [⟨kind, s.host.eseq, bytes⟩], eseq := s.host.eseq + 1 } } := by
  have free : decide (256 ≤ s.host.events.length) = false := decide_eq_false (by omega)
  unfold pushEvent
  rw [if_pos (.inl room)]
  unfold queueEvent
  rw [if_neg (by rw [enabled]; decide)]
  simp only [free]
  rfl

/-! ### Writes of an entry (R295 to R300) -/

theorem shadowWrite_eq (t : Time) (s : State) (ch : Fin 8) (index sub : Nat) (data : List Byte) :
    exec (.shadowWrite t ch index sub data) s = writeAt t s ch.val fun s => writeShadow s ch.val index sub data := rfl

theorem dictionaryWrite_eq (t : Time) (s : State) (ch : Fin 8) (index sub : Nat) (data : List Byte) :
    exec (.dictionaryWrite t ch index sub data) s = attemptAt t s ch.val fun s => writeEntry s ch.val index sub data := rfl

/-- A refused attempt is answered with its code. -/
theorem runs_attemptRefused {c : Instr} {t : Time} {s : State} {ch : Fin 8} {code : U16} {f : State → Attempt}
    (hc : exec c s = attemptAt t s ch.val f) (serves : Serves s t) (hr : f (s.atTime t) = (s.atTime t, some code)) :
    Runs c s (refused (s.atTime t) ch code) :=
  runs_attempt (l := [.host]) hc serves hr (.refl _ _) (by decide) (by decide)

theorem writeEntry_error {s : State} {ch index sub : Nat} {data : List Byte} {code : U16} (h : entryAt s index sub = .error code) :
    writeEntry s ch index sub data = (s, some code) := by
  unfold writeEntry
  rw [h]

theorem writeEntry_ro {s : State} {ch index sub : Nat} {data : List Byte} {e : Entry} (h : entryAt s index sub = .ok e)
    (right : e.right = .ro) : writeEntry s ch index sub data = (s, some 0x0101) := by
  unfold writeEntry
  rw [h]
  simp only [right]

theorem writeEntry_rwa {s : State} {ch index sub : Nat} {data : List Byte} {e : Entry} (h : entryAt s index sub = .ok e)
    (right : e.right = .rwa) (auth : authorised s ch = false) : writeEntry s ch index sub data = (s, some 0x0301) := by
  unfold writeEntry
  rw [h]
  simp only [right, auth]
  rfl

/-- 2510:01, from which SEQ the Book's records are shown. -/
theorem entryAt_fromSeq (s : State) : entryAt s 0x2510 1 = .ok ((b32 s.constable.fromSeq.toNat).as .rw) := by
  simp [entryAt, entriesAt, areas, linkAreas, fieldBusAreas, sessionAreas, twinAreas, deviceAreas, laneAreas, fieldAreas,
    constableAreas, one]

theorem writeEntry_fromSeq (s : State) (ch : Nat) (data : List Byte) : writeEntry s ch 0x2510 1 data =
    if data.length ≠ 4 then (s, some 0x0201) else (modConstable s fun c => { c with fromSeq := u32 (leNat data) }, none) := by
  unfold writeEntry
  rw [entryAt_fromSeq]
  rfl

theorem writeShadow_none {s : State} {ch index sub : Nat} {data : List Byte} (h : rwsEntry index sub data = none) :
    writeShadow s ch index sub data = .error 0x0101 := by
  unfold writeShadow
  rw [h]

theorem writeShadow_error {s : State} {ch index sub g : Nat} {data : List Byte} {code : U16}
    (h : rwsEntry index sub data = some (g, some code)) : writeShadow s ch index sub data = .error code := by
  unfold writeShadow
  rw [h]

/-- The group is free or the channel's own. -/
def shadowFree (s : State) (ch g : Nat) : Bool := (groupShadow s g).owner.isNone || (groupShadow s g).owner == some ch

theorem shadowFree_of {s : State} {ch g : Nat} (h : (groupShadow s g).owner = none ∨ (groupShadow s g).owner = some ch) :
    shadowFree s ch g = true := by
  rcases h with h | h <;> simp [shadowFree, h]

theorem shadowFree_not {s : State} {ch g k : Nat} (h : (groupShadow s g).owner = some k) (other : k ≠ ch) :
    shadowFree s ch g = false := by
  simp [shadowFree, h, other]

theorem writeShadow_ok {s : State} {ch index sub g : Nat} {data : List Byte} (h : rwsEntry index sub data = some (g, none)) :
    writeShadow s ch index sub data = refuseUnless (shadowFree s ch g) 0x0504 (refuseUnless ((groupShadow s g).status != 2) 0x0505
      (match if g = 31 then forceWriteCode s data else none with
      | some code => .error code
      | none => .ok (modShadow s g fun y => { y with status := 1, owner := some ch, shadow :=
          (if g = 31 then (groupShadow s g).shadow else (groupShadow s g).shadow.filter fun y => !(y.1 == index && y.2.1 == sub))
            ++ [(index, sub, keptData g data)] }))) := by
  unfold writeShadow
  rw [h]
  rfl

/-- A value that joins the shadow. -/
def shadowed (s : State) (ch g : Nat) (l : List (Nat × Nat × List Byte)) : State :=
  modShadow s g fun y => { y with status := 1, owner := some ch, shadow := l }

theorem shadowed_self (s : State) (ch g : Nat) (l : List (Nat × Nat × List Byte)) :
    groupShadow (shadowed s ch g l) g = { groupShadow s g with status := 1, owner := some ch, shadow := l } :=
  modShadow_self (f := fun y => { y with status := 1, owner := some ch, shadow := l })
    fun same => absurd (show (1 : Nat) = 0 from congrArg GroupShadow.status same) (by decide)

theorem answers_shadowed {c : Instr} {t : Time} {s : State} {ch : Fin 8} {f : State → Write} {g : Nat}
    {l : List (Nat × Nat × List Byte)} (hc : exec c s = writeAt t s ch.val f) (serves : Serves s t)
    (writes : f (s.atTime t) = .ok (shadowed (s.atTime t) ch.val g l)) : Answers c s fun s' =>
      (groupShadow s' g).status = 1 ∧ (groupShadow s' g).owner = some ch.val ∧ (groupShadow s' g).shadow = l ∧
        Frame [.now, .host] s s' := by
  have frame : Frame [.host] (s.atTime t) (shadowed (s.atTime t) ch.val g l) := modShadow_frame _ _ _
  refine answers_writeStill hc serves writes frame (by decide) (by decide) ?_
  have self : groupShadow (touch (shadowed (s.atTime t) ch.val g l) ch.val) g = _ := shadowed_self (s.atTime t) ch.val g l
  rw [self]
  exact ⟨rfl, rfl, rfl, ((frame_atTime s t).mono (by decide)).trans ((frame.trans (touch_frame _ _)).mono (by decide))⟩

theorem shadowWrites {t : Time} {s : State} {ch : Fin 8} {index sub g : Nat} {data : List Byte} (serves : Serves s t)
    (h : rwsEntry index sub data = some (g, none)) :
    (∀ k, (groupShadow s g).owner = some k → k ≠ ch.val →
        Runs (.shadowWrite t ch index sub data) s (refused (s.atTime t) ch 0x0504)) ∧
      ((groupShadow s g).owner = none ∨ (groupShadow s g).owner = some ch.val →
        ((groupShadow s g).status = 2 → Runs (.shadowWrite t ch index sub data) s (refused (s.atTime t) ch 0x0505)) ∧
        ((groupShadow s g).status ≠ 2 → g ≠ 31 → Answers (.shadowWrite t ch index sub data) s fun s' =>
          (groupShadow s' g).status = 1 ∧ (groupShadow s' g).owner = some ch.val ∧
            (groupShadow s' g).shadow =
              ((groupShadow s g).shadow.filter fun y => !(y.1 == index && y.2.1 == sub)) ++ [(index, sub, data)] ∧
            Frame [.now, .host] s s')) := by
  refine ⟨fun k owner other => ?_, fun owner => ⟨fun pending => ?_, fun free other => ?_⟩⟩
  · refine runs_refused (shadowWrite_eq t s ch index sub data) serves ?_
    rw [writeShadow_ok h, refuseUnless_false (shadowFree_not (s := s.atTime t) owner other)]
  · refine runs_refused (shadowWrite_eq t s ch index sub data) serves ?_
    have two : (groupShadow (s.atTime t) g).status = 2 := pending
    rw [writeShadow_ok h, refuseUnless_true (shadowFree_of (s := s.atTime t) owner), refuseUnless_false (by rw [two]; rfl)]
  · refine answers_shadowed (shadowWrite_eq t s ch index sub data) serves ?_
    have ready : ((groupShadow (s.atTime t) g).status != 2) = true := bne_iff_ne.mpr free
    rw [writeShadow_ok h, refuseUnless_true (shadowFree_of (s := s.atTime t) owner), refuseUnless_true ready, if_neg other]
    simp only [if_neg other, keptData]
    rfl

/-- Settles O48. -/
theorem entriesAreWrittenByTheirRights : Obligations.EntriesAreWrittenByTheirRights := by
  intro t s ch index sub data code serves
  refine ⟨fun missing => ?_, fun e entry => ⟨fun right => ?_, fun right unauth => ?_⟩, fun four => ?_, fun length => ?_,
    fun none => ?_, fun g bad => ?_, fun g good => shadowWrites serves good⟩
  · exact runs_attemptRefused (dictionaryWrite_eq t s ch index sub data) serves (writeEntry_error missing)
  · exact runs_attemptRefused (dictionaryWrite_eq t s ch index sub data) serves (writeEntry_ro entry right)
  · exact runs_attemptRefused (dictionaryWrite_eq t s ch index sub data) serves (writeEntry_rwa entry right unauth)
  · refine runs_attempt (code := Option.none) (l := [.constable, .host]) (dictionaryWrite_eq t s ch 0x2510 1 data) serves
      (r := modConstable (s.atTime t) fun c => { c with fromSeq := u32 (leNat data) }) ?_ ?_ (by decide) (by decide)
    · exact (writeEntry_fromSeq (s.atTime t) ch.val data).trans (if_neg (not_not.mpr four))
    · exact fun p hp => by cases p <;> simp [same, modConstable] at hp ⊢
  · exact runs_attemptRefused (dictionaryWrite_eq t s ch 0x2510 1 data) serves
      ((writeEntry_fromSeq (s.atTime t) ch.val data).trans (if_pos length))
  · exact runs_refused (shadowWrite_eq t s ch index sub data) serves (writeShadow_none none)
  · exact runs_refused (shadowWrite_eq t s ch index sub data) serves (writeShadow_error bad)

/-! ### Settings in force -/

theorem setting_eq (s : State) (index sub dflt : Nat) : setting s index sub dflt =
    ((s.host.settings.find? fun e => e.1 == index * 256 + sub).map fun e => e.2).getD dflt := by
  unfold setting
  split
  · next e h => rw [h]; rfl
  · next h => rw [h]; rfl

theorem setting_putSetting_self (s : State) (index sub v dflt : Nat) : setting (putSetting s index sub v) index sub dflt = v := by
  have below : (s.host.settings.filter fun e => decide (e.1 < index * 256 + sub)).find? (fun e => e.1 == index * 256 + sub) = none := by
    rw [List.find?_eq_none]
    intro e he
    have lt := of_decide_eq_true (List.mem_filter.mp he).2
    simp only [beq_iff_eq]
    omega
  simp [setting_eq, putSetting, List.find?_append, below]

theorem setting_putSetting_ne (s : State) {index sub index' sub' : Nat} (v dflt : Nat)
    (h : index' * 256 + sub' ≠ index * 256 + sub) : setting (putSetting s index sub v) index' sub' dflt = setting s index' sub' dflt := by
  have parts : (putSetting s index sub v).host.settings.find? (fun e => e.1 == index' * 256 + sub') =
      s.host.settings.find? (fun e => e.1 == index' * 256 + sub') := by
    have self : ((index * 256 + sub) == index' * 256 + sub') = false := beq_eq_false_iff_ne.mpr (Ne.symm h)
    have none' : s.host.settings.find? (fun _ => false) = none := List.find?_eq_none.mpr fun _ _ => by decide
    simp only [putSetting, List.find?_append, List.find?_filter, List.find?_cons, self, List.find?_nil, Option.or_none]
    rcases Nat.lt_or_gt_of_ne h with lt | gt
    · have low : (fun e : Nat × Nat => decide (decide (e.1 < index * 256 + sub) = true ∧ (e.1 == index' * 256 + sub') = true)) =
          fun e => e.1 == index' * 256 + sub' := by
        funext e
        by_cases he : e.1 = index' * 256 + sub' <;> simp [he, lt]
      have high : (fun e : Nat × Nat => decide (decide (index * 256 + sub < e.1) = true ∧ (e.1 == index' * 256 + sub') = true)) = fun _ => false := by
        funext e
        by_cases he : e.1 = index' * 256 + sub' <;> simp [he, Nat.le_of_lt lt]
      rw [low, high, none', Option.or_none]
    · have low : (fun e : Nat × Nat => decide (decide (e.1 < index * 256 + sub) = true ∧ (e.1 == index' * 256 + sub') = true)) = fun _ => false := by
        funext e
        by_cases he : e.1 = index' * 256 + sub' <;> simp [he, Nat.le_of_lt gt]
      have high : (fun e : Nat × Nat => decide (decide (index * 256 + sub < e.1) = true ∧ (e.1 == index' * 256 + sub') = true)) =
          fun e => e.1 == index' * 256 + sub' := by
        funext e
        by_cases he : e.1 = index' * 256 + sub' <;> simp [he, gt]
      rw [low, high, none', Option.none_or]
  rw [setting_eq, setting_eq, parts]

/-! ### Commits (R300, R301) -/

theorem groupCommit_eq (t : Time) (s : State) (ch : Fin 8) (g : U8) :
    exec (.groupCommit t ch g) s = attemptAt t s ch.val fun s => writeCommit s ch.val g.toNat := rfl

theorem forceCommit_eq (t : Time) (s : State) (ch : Fin 8) :
    exec (.forceCommit t ch) s = attemptAt t s ch.val fun s => writeCommit s ch.val 31 := rfl

/-- A commit of a group that a channel has staged, once its own checks are made. -/
theorem writeCommit_staged {s : State} {ch g : Nat} (defined : groupDefined g = true) (status : (groupShadow s g).status = 1)
    (owner : (groupShadow s g).owner = some ch) (auth : authorised s ch = true) : writeCommit s ch g = match groupRefusal s g with
      | some code => commitRefused (if g = 30 then draw s else s) g code
      | none => (applyGroup (if g = 30 then draw s else s) g, none) := by
  have range : ¬ (g = 0 ∨ 63 < g) := by
    simp only [groupDefined, Bool.or_eq_true, beq_iff_eq] at defined
    omega
  unfold writeCommit
  dsimp only
  rw [if_neg range, if_neg (by simp [defined]), if_neg (by simp [status]), if_neg (by simp [owner]), if_neg (by simp [auth])] <;> rfl

/-- The checks of a commit, in their order; of the group's own ones the one of group 1. -/
def commitCheck (s : State) (ch : Nat) (g : Nat) : Option U16 :=
  if groupDefined g = false then some 0x0501 else if (groupShadow s g).status ≠ 1 then some 0x0503
    else if (groupShadow s g).owner ≠ some ch then some 0x0504
    else if authorised s ch = false then some 0x0340 else if g = 1 ∧ linkFieldsOk s = false then some 0x0502 else none

theorem commitCheck_pos {s : State} {ch g : Nat} {code : U16} (h : commitCheck s ch g = some code) : code ≠ 0 := by
  unfold commitCheck at h
  rintro rfl
  (repeat' split at h) <;> simp at h

theorem writeCommit_refused {s : State} {ch g : Nat} {code : U16} (low : 0 < g) (high : g ≤ 63)
    (h : commitCheck s ch g = some code) : writeCommit s ch g = commitRefused s g code := by
  unfold commitCheck at h
  unfold writeCommit
  dsimp only
  rw [if_neg (by omega)]
  split at h
  · next undefined => rw [if_pos undefined, Option.some.inj h]
  rw [if_neg (by assumption)]
  split at h
  · next status => rw [if_pos status, Option.some.inj h]
  rw [if_neg (by assumption)]
  split at h
  · next owner => rw [if_pos owner, Option.some.inj h]
  rw [if_neg (by assumption)]
  split at h
  · next auth => rw [if_pos auth, Option.some.inj h]
  rw [if_neg (by assumption)]
  split at h
  · next link =>
    obtain ⟨rfl, bad⟩ := link
    simp [groupRefusal, bad, Option.some.inj h]
  · exact absurd h (by simp)

theorem groupEvent_room {s : State} (g outcome : Nat) (code : U16) (enabled : kindEnabled s 4 = true)
    (room : s.host.events.length < 256) : groupEvent s g outcome code =
    { s with host := { s.host with
      events := s.host.events ++ [⟨4, s.host.eseq, [u8 g, u8 outcome] ++ leBytes 2 code.toNat⟩], eseq := s.host.eseq + 1 } } :=
  pushEvent_room _ enabled room

/-- A group whose commit was refused, with the event of it. -/
def commitNoted (s : State) (g : Nat) (code : U16) : State := groupEvent (modShadow s g fun x => { x with code := code }) g 2 code

theorem commitNoted_rest {s : State} {g : Nat} {code : U16} (enabled : kindEnabled s 4 = true) (room : s.host.events.length < 256)
    (code' : code ≠ 0) : groupShadow (commitNoted s g code) g = { groupShadow s g with code := code } ∧
      (commitNoted s g code).host.events = s.host.events ++ [⟨4, s.host.eseq, [u8 g, 2] ++ leBytes 2 code.toNat⟩] ∧
      (commitNoted s g code).host.channels = s.host.channels ∧ Frame [.host] s (commitNoted s g code) := by
  have noted : commitNoted s g code = _ :=
    groupEvent_room (s := modShadow s g fun x => { x with code := code }) g 2 code enabled room
  have self : groupShadow (modShadow s g fun x => { x with code := code }) g = { groupShadow s g with code := code } :=
    modShadow_self (f := fun x => { x with code := code }) fun same => code' (show code = 0 from congrArg GroupShadow.code same)
  have frame := modShadow_frame s g fun x => { x with code := code }
  rw [noted]
  refine ⟨self, rfl, rfl, frame.trans fun p hp => ?_⟩
  cases p <;> simp [same] at hp ⊢

theorem modChan_self {s : State} {c : Nat} {f : ChannelSt → ChannelSt} (h : f (chanSt s c) ≠ {}) :
    chanSt (modChan s c f) c = f (chanSt s c) := tget_tput_self _ _ _ _ h

/-- A refusal stays with its channel. -/
theorem touch_noteAbort_chan (s : State) (ch : Nat) {code : U16} (h : code ≠ 0) : chanSt (touch (noteAbort s ch code) ch) ch =
    { chanSt s ch with aborts := (chanSt s ch).aborts + 1, lastAbort := code, activity := s.now } := by
  have noted : chanSt (noteAbort s ch code) ch = { chanSt s ch with aborts := (chanSt s ch).aborts + 1, lastAbort := code } :=
    modChan_self (f := fun c => { c with aborts := c.aborts + 1, lastAbort := code })
      fun same => h (show code = 0 from congrArg ChannelSt.lastAbort same)
  have touched : chanSt (touch (noteAbort s ch code) ch) ch = { chanSt (noteAbort s ch code) ch with activity := s.now } :=
    modChan_self (s := noteAbort s ch code) (f := fun c => { c with activity := s.now }) fun same => by
      rw [noted] at same
      exact h (show code = 0 from congrArg ChannelSt.lastAbort same)
  rw [touched, noted]

theorem touch_noteAbort_frame (s : State) (ch : Nat) (code : U16) : Frame [.host] s (touch (noteAbort s ch code) ch) := by
  intro p hp
  cases p <;> simp [same] at hp ⊢

theorem answers_commitRefused {c : Instr} {t : Time} {s : State} {ch : Fin 8} {f : State → Attempt} {g : Nat} {code : U16}
    (hc : exec c s = attemptAt t s ch.val f) (serves : Serves s t) (enabled : kindEnabled s 4 = true)
    (room : s.host.events.length < 256) (hr : f (s.atTime t) = commitRefused (s.atTime t) g code) (code' : code ≠ 0) :
    Answers c s fun s' => (groupShadow s' g).code = code ∧ (groupShadow s' g).shadow = (groupShadow s g).shadow ∧
      (chanSt s' ch.val).lastAbort = code ∧
      s'.host.events = s.host.events ++ [⟨4, s.host.eseq, [u8 g, 2] ++ leBytes 2 code.toNat⟩] ∧ Frame [.now, .host] s s' := by
  obtain ⟨shadow, events, -, frame⟩ := commitNoted_rest (s := s.atTime t) (g := g) enabled room code'
  refine answers_attempt (r := commitNoted (s.atTime t) g code) (code := some code) hc serves hr frame (by decide) (by decide) ?_
  have chan := touch_noteAbort_chan (commitNoted (s.atTime t) g code) ch.val code'
  have touched := touch_noteAbort_frame (commitNoted (s.atTime t) g code) ch.val code
  have whole : Frame [.now, .host] s (touch (noteAbort (commitNoted (s.atTime t) g code) ch.val code) ch.val) :=
    ((frame_atTime s t).mono (by decide)).trans ((frame.trans touched).mono (by decide))
  have kept : groupShadow (touch (noteAbort (commitNoted (s.atTime t) g code) ch.val code) ch.val) g = _ := shadow
  have kept' := congrArg GroupShadow.shadow kept
  exact ⟨congrArg GroupShadow.code kept, kept', congrArg ChannelSt.lastAbort chan, events, whole⟩

/-- The end of a commit that was accepted. -/
theorem commitDone_rest {s : State} (g : Nat) (enabled : kindEnabled s 4 = true) (room : s.host.events.length < 256) :
    (commitDone s g).host.events = s.host.events ++ [⟨4, s.host.eseq, [u8 g, 1, 0, 0]⟩] ∧
      (commitDone s g).host.settings = s.host.settings ∧ Frame [.host] s (commitDone s g) := by
  have done : commitDone s g = _ :=
    groupEvent_room (s := modShadow (freeGroup s g 0) g fun x => { x with code := 0 }) g 1 0 enabled room
  rw [done]
  exact ⟨rfl, rfl, fun p hp => by cases p <;> simp [same] at hp ⊢⟩

theorem answers_windowCommit {t : Time} {s : State} {ch : Fin 8} {n : Nat} {data : List Byte} (serves : Serves s t)
    (enabled : kindEnabled s 4 = true) (room : s.host.events.length < 256) (status : (groupShadow s 40).status = 1)
    (owner : (groupShadow s 40).owner = some ch.val) (auth : authorised s ch.val = true)
    (shadow : (groupShadow s 40).shadow = [(0x2400 + n, 6, data)]) : Answers (.groupCommit t ch 40) s fun s' =>
      (source s' n).window = some (leNat data) ∧ (∀ m, m ≠ n → source s' m = source s m) ∧
        s'.host.events = s.host.events ++ [⟨4, s.host.eseq, [40, 1, 0, 0]⟩] ∧ Frame [.now, .host, .constable] s s' := by
  have windows : applyWindows (s.atTime t) = modSource (s.atTime t) n fun x => { x with window := some (leNat data) } := by
    unfold applyWindows
    rw [show groupShadow (s.atTime t) 40 = groupShadow s 40 from rfl, shadow, List.foldl_cons, List.foldl_nil,
      show (0x2400 + n, 6, data).1 - 0x2400 = n from Nat.add_sub_cancel_left _ _]
  have writes : writeCommit (s.atTime t) ch.val 40 = (commitDone (applyWindows (s.atTime t)) 40, none) :=
    writeCommit_staged (s := s.atTime t) rfl status owner auth
  rw [windows] at writes
  have window : source (modSource (s.atTime t) n fun x => { x with window := some (leNat data) }) n =
      { source (s.atTime t) n with window := some (leNat data) } :=
    modSource_source _ _ fun same => absurd (show some (leNat data) = none from congrArg SourceSt.window same) (by simp)
  have others (m : Nat) (h : m ≠ n) : source (modSource (s.atTime t) n fun x => { x with window := some (leNat data) }) m =
      source s m := modSource_source_ne _ _ h
  have changed : Frame [.constable] (s.atTime t) (modSource (s.atTime t) n fun x => { x with window := some (leNat data) }) :=
    fun p hp => by cases p <;> simp [same] at hp ⊢
  obtain ⟨events, -, done⟩ := commitDone_rest (s := modSource (s.atTime t) n fun x => { x with window := some (leNat data) }) 40
    enabled room
  generalize modSource (s.atTime t) n (fun x => { x with window := some (leNat data) }) = z at *
  have frame : Frame [.host, .constable] (s.atTime t) (commitDone z 40) := (changed.mono (by decide)).trans (done.mono (by decide))
  refine answers_attempt (code := none) (groupCommit_eq t s ch 40) serves writes frame (by decide) (by decide) ?_
  have touched := touch_frame (commitDone z 40) ch.val
  have constable : (touch (commitDone z 40) ch.val).constable = z.constable :=
    (touched .constable (by decide)).trans (done .constable (by decide))
  have sources (m : Nat) : source (touch (commitDone z 40) ch.val) m = source z m := by
    unfold source
    rw [constable]
  refine ⟨?_, fun m h => ?_, ?_, ?_⟩
  · exact (congrArg SourceSt.window ((sources n).trans window))
  · exact (sources m).trans (others m h)
  · refine Eq.trans (show (touch (commitDone z 40) ch.val).host.events = (commitDone z 40).host.events from rfl) (events.trans ?_)
    rw [show z.host = s.host from changed .host (by decide)]
    rfl
  · exact ((frame_atTime s t).mono (by decide)).trans ((frame.mono (by decide)).trans (touched.mono (by decide)))

theorem answers_linkCommit {t : Time} {s : State} {ch : Fin 8} {data : List Byte} (serves : Serves s t)
    (enabled : kindEnabled s 4 = true) (room : s.host.events.length < 256) (status : (groupShadow s 1).status = 1)
    (owner : (groupShadow s 1).owner = some ch.val) (auth : authorised s ch.val = true)
    (shadow : (groupShadow s 1).shadow = [(0x1100, 1, data)]) (fits : linkFieldsOk s = true) :
    Answers (.groupCommit t ch 1) s fun s' =>
      setting s' 0x1100 1 500 = leNat data ∧ s'.host.events = s.host.events ++ [⟨4, s.host.eseq, [1, 1, 0, 0]⟩] ∧
        Frame [.now, .host] s s' := by
  have fields : applyFields (s.atTime t) 1 = putSetting (s.atTime t) 0x1100 1 (leNat data) := by
    unfold applyFields
    rw [show groupShadow (s.atTime t) 1 = groupShadow s 1 from rfl, shadow, List.foldl_cons, List.foldl_nil]
  have writes : writeCommit (s.atTime t) ch.val 1 = (commitDone (applyFields (s.atTime t) 1) 1, none) := by
    rw [writeCommit_staged (s := s.atTime t) rfl status owner auth]
    have free : groupRefusal (s.atTime t) 1 = none := by
      unfold groupRefusal
      simp only [show linkFieldsOk (s.atTime t) = true from fits]
      rfl
    rw [free]
    rfl
  rw [fields] at writes
  have enabled' : kindEnabled (putSetting (s.atTime t) 0x1100 1 (leNat data)) 4 = true := by
    unfold kindEnabled
    rw [setting_putSetting_ne _ _ _ (by decide)]
    exact enabled
  have self := setting_putSetting_self (s.atTime t) 0x1100 1 (leNat data) 500
  have changed : Frame [.host] (s.atTime t) (putSetting (s.atTime t) 0x1100 1 (leNat data)) :=
    fun p hp => by cases p <;> simp [same, putSetting] at hp ⊢
  have events0 : (putSetting (s.atTime t) 0x1100 1 (leNat data)).host.events = s.host.events := rfl
  have eseq : (putSetting (s.atTime t) 0x1100 1 (leNat data)).host.eseq = s.host.eseq := rfl
  generalize putSetting (s.atTime t) 0x1100 1 (leNat data) = z at *
  obtain ⟨events, settings, done⟩ := commitDone_rest (s := z) 1 enabled' (by rw [events0]; exact room)
  have frame : Frame [.host] (s.atTime t) (commitDone z 1) := changed.trans done
  refine answers_attempt (code := none) (groupCommit_eq t s ch 1) serves writes frame (by decide) (by decide) ⟨?_, ?_, ?_⟩
  · rw [setting_eq, show (afterAttempt ch.val (commitDone z 1, none)).host.settings = (commitDone z 1).host.settings from rfl, settings,
      ← setting_eq, self]
  · refine Eq.trans (show (afterAttempt ch.val (commitDone z 1, none)).host.events = (commitDone z 1).host.events from rfl)
      (events.trans ?_)
    rw [events0, eseq]
    rfl
  · exact ((frame_atTime s t).mono (by decide)).trans ((frame.trans (touch_frame _ _)).mono (by decide))

/-! ### Forces (R160 to R162) -/

theorem forceRule_pos {s : State} {q : ForceReq} {code : U16} (h : forceRule s q = some code) : code ≠ 0 := by
  unfold forceRule at h
  rintro rfl
  (repeat' split at h) <;> simp at h

theorem forceRefusal_pos {s : State} {code : U16} (h : forceRefusal s = some code) : code ≠ 0 := by
  unfold forceRefusal at h
  dsimp only at h
  split at h
  · rintro rfl
    exact absurd (Option.some.inj h) (by decide)
  · obtain ⟨q, -, rule⟩ := List.exists_of_findSome?_eq_some h
    exact forceRule_pos rule

/-- The forces of a commit wait for the next S. -/
def forcesHeld (s : State) : State :=
  modShadow (freeGroup { s with change := { s.change with queued := some (shadowForces s) } } 31 2) 31
    fun x => { x with code := 0, pending := some s.now }

theorem forcesHeld_shadow (s : State) : groupShadow (forcesHeld s) 31 =
    { groupShadow s 31 with status := 2, owner := none, shadow := [], code := 0, pending := some s.now } := by
  have freed : groupShadow (freeGroup { s with change := { s.change with queued := some (shadowForces s) } } 31 2) 31 =
      { groupShadow s 31 with status := 2, owner := none, shadow := [] } :=
    freeGroup_self (s := { s with change := { s.change with queued := some (shadowForces s) } }) (by decide)
  unfold forcesHeld
  generalize freeGroup { s with change := { s.change with queued := some (shadowForces s) } } 31 2 = z at *
  rw [modShadow_self (f := fun x => { x with code := 0, pending := some s.now })
    fun same => absurd (show some s.now = none from congrArg GroupShadow.pending same) (by simp), freed]

theorem answers_forceCommit {t : Time} {s : State} {ch : Fin 8} (serves : Serves s t) (status : (groupShadow s 31).status = 1)
    (owner : (groupShadow s 31).owner = some ch.val) (auth : authorised s ch.val = true) (fits : forceRefusal s = none) :
    Answers (.forceCommit t ch) s fun s' =>
      s'.change.queued = some (shadowForces s) ∧ s'.change.forces = s.change.forces ∧ (groupShadow s' 31).status = 2 ∧
        (groupShadow s' 31).pending = some t ∧ (groupShadow s' 31).shadow = [] ∧ s'.host.events = s.host.events ∧
        Frame [.now, .host, .change] s s' := by
  have writes : writeCommit (s.atTime t) ch.val 31 = (forcesHeld (s.atTime t), none) := by
    rw [writeCommit_staged (s := s.atTime t) rfl status owner auth,
      show groupRefusal (s.atTime t) 31 = none from (show forceRefusal (s.atTime t) = none from fits)]
    rfl
  have served : stewardServes (s.atTime t) = true := by simp [stewardServes, State.atTime, serves.1, serves.2]
  have ok : (if stewardServes (s.atTime t) = true then afterAttempt ch.val (writeCommit (s.atTime t) ch.val 31) else s.atTime t) =
      touch (forcesHeld (s.atTime t)) ch.val := by
    rw [if_pos served, writes]
    rfl
  have shadow : groupShadow (touch (forcesHeld (s.atTime t)) ch.val) 31 = _ := forcesHeld_shadow (s.atTime t)
  refine answers_plain (f := fun s1 => if stewardServes s1 then afterAttempt ch.val (writeCommit s1 ch.val 31) else s1)
    (forceCommit_eq t s ch) ?_ ?_ ?_
  · rw [ok]
    exact attrs_same rfl ⟨rfl, rfl⟩ rfl rfl rfl rfl
  · rw [ok]
    rfl
  · rw [ok, shadow]
    exact ⟨rfl, rfl, rfl, rfl, rfl, rfl, fun p hp => by cases p <;> simp [same, forcesHeld] at hp ⊢⟩

theorem forceCommit_refused {t : Time} {s : State} {ch : Fin 8} {code : U16} (serves : Serves s t) (enabled : kindEnabled s 4 = true)
    (room : s.host.events.length < 256) (status : (groupShadow s 31).status = 1)
    (owner : (groupShadow s 31).owner = some ch.val) (auth : authorised s ch.val = true) (bad : forceRefusal s = some code) :
    Answers (.forceCommit t ch) s fun s' =>
      (chanSt s' ch.val).lastAbort = code ∧ s'.change = s.change ∧ (groupShadow s' 31).shadow = (groupShadow s 31).shadow ∧
        Frame [.now, .host] s s' := by
  have writes : writeCommit (s.atTime t) ch.val 31 = commitRefused (s.atTime t) 31 code := by
    rw [writeCommit_staged (s := s.atTime t) rfl status owner auth,
      show groupRefusal (s.atTime t) 31 = some code from (show forceRefusal (s.atTime t) = some code from bad)]
    rfl
  exact (answers_commitRefused (forceCommit_eq t s ch) serves enabled room writes (forceRefusal_pos bad)).imp
    fun s' ⟨_, shadow, abort, _, frame⟩ => ⟨abort, frame .change (by decide), shadow, frame⟩

theorem forceRequest_eq (t : Time) (s : State) (ch : Fin 8) (data : List Byte) :
    exec (.forceRequest t ch data) s = writeAt t s ch.val fun s => writeShadow s ch.val 0x3880 1 data := rfl

theorem rwsEntry_force (data : List Byte) : rwsEntry 0x3880 1 data =
    some (31, if data.length ≠ 20 then some (lengthCode data 20)
      else if data.headD 0 = 1 ∨ data.headD 0 = 2 then none else some 0x0230) := rfl

theorem forceRequests {t : Time} {s : State} {ch : Fin 8} {data : List Byte} {code : U16} (serves : Serves s t)
    (owner : (groupShadow s 31).owner = none ∨ (groupShadow s 31).owner = some ch.val) (free : (groupShadow s 31).status ≠ 2)
    (length : data.length = 20) (op : data.headD 0 = 1 ∨ data.headD 0 = 2) :
    (forceWriteCode s data = none → Answers (.forceRequest t ch data) s fun s' =>
        (groupShadow s' 31).status = 1 ∧ (groupShadow s' 31).owner = some ch.val ∧
          (groupShadow s' 31).shadow = (groupShadow s 31).shadow ++ [(0x3880, 1, keptData 31 data)] ∧ Frame [.now, .host] s s') ∧
      (forceWriteCode s data = some code → Runs (.forceRequest t ch data) s (refused (s.atTime t) ch code)) := by
  have entry : rwsEntry 0x3880 1 data = some (31, none) := by
    rw [rwsEntry_force, if_neg (not_not.mpr length), if_pos op]
  have ready : ((groupShadow (s.atTime t) 31).status != 2) = true := bne_iff_ne.mpr free
  have writes : writeShadow (s.atTime t) ch.val 0x3880 1 data = match forceWriteCode s data with
      | some code => .error code
      | none => .ok (shadowed (s.atTime t) ch.val 31 ((groupShadow s 31).shadow ++ [(0x3880, 1, keptData 31 data)])) := by
    rw [writeShadow_ok entry, refuseUnless_true (shadowFree_of (s := s.atTime t) owner), refuseUnless_true ready]
    rfl
  refine ⟨fun fits => ?_, fun bad => ?_⟩
  · exact answers_shadowed (forceRequest_eq t s ch data) serves (by rw [writes, fits])
  · exact runs_refused (forceRequest_eq t s ch data) serves (by rw [writes, bad])

theorem forceRequest_length {t : Time} {s : State} {ch : Fin 8} {data : List Byte} (serves : Serves s t) (length : data.length ≠ 20) :
    Runs (.forceRequest t ch data) s (refused (s.atTime t) ch (lengthCode data 20)) := by
  refine runs_refused (forceRequest_eq t s ch data) serves (writeShadow_error (g := 31) ?_)
  rw [rwsEntry_force, if_pos length]

/-! ### How a group becomes free (R300) -/

theorem groupAbort_eq (t : Time) (s : State) (ch : Fin 8) (g : U8) :
    exec (.groupAbort t ch g) s = writeAt t s ch.val fun s => writeGroupAbort s g.toNat := rfl

theorem writeGroupAbort_inRange {s : State} {g : Nat} (low : 0 < g) (high : g ≤ 63) : writeGroupAbort s g =
    .ok (if (groupShadow s g).status = 2 then s else freeGroup s g 0) :=
  refuseUnless_true (by simp [high]; omega)

theorem groupAborts {t : Time} {s : State} {ch : Fin 8} {g : U8} (serves : Serves s t) (low : 0 < g.toNat) (high : g.toNat ≤ 63) :
    ((groupShadow s g.toNat).status ≠ 2 → Runs (.groupAbort t ch g) s (accepted (freeGroup (s.atTime t) g.toNat 0) ch)) ∧
      ((groupShadow s g.toNat).status = 2 → Runs (.groupAbort t ch g) s (accepted (s.atTime t) ch)) := by
  refine ⟨fun free => ?_, fun pending => ?_⟩
  · refine runs_write (groupAbort_eq t s ch g) serves ((writeGroupAbort_inRange low high).trans ?_) rfl ⟨rfl, rfl⟩ rfl rfl rfl rfl rfl
    exact congrArg Except.ok (if_neg free)
  · refine runs_write (groupAbort_eq t s ch g) serves ((writeGroupAbort_inRange low high).trans ?_) rfl ⟨rfl, rfl⟩ rfl rfl rfl rfl rfl
    exact congrArg Except.ok (if_pos pending)

/-- GROUP_OWNER_TIMEOUT. -/
def ownerTimesOut (g : Nat) (s : State) : State :=
  match (groupShadow s g).owner with
  | some ch => if (chanSt s ch).activity + sec 1800 ≤ s.now then freeGroup s g 3 else s
  | none => s

theorem groupOwnerTimeout_eq (t : Time) (s : State) (k : Fin 64) : exec (.groupOwnerTimeout t k) s = at_ t s (ownerTimesOut k.val) := rfl

theorem ownerTimesOut_of {s : State} {g ch : Nat} (h : (groupShadow s g).owner = some ch) : ownerTimesOut g s =
    if (chanSt s ch).activity + sec 1800 ≤ s.now then freeGroup s g 3 else s := by
  unfold ownerTimesOut
  rw [h]

theorem ownerTimeout {t : Time} {s : State} {ch : Fin 8} {k : Fin 64} (owner : (groupShadow s k.val).owner = some ch.val) :
    ((chanSt s ch.val).activity + sec 1800 ≤ t → Answers (.groupOwnerTimeout t k) s fun s' =>
        (groupShadow s' k.val).status = 3 ∧ (groupShadow s' k.val).owner = none ∧ (groupShadow s' k.val).shadow = [] ∧
          Frame [.now, .host] s s') ∧
      (t < (chanSt s ch.val).activity + sec 1800 → Runs (.groupOwnerTimeout t k) s (s.atTime t)) := by
  have eq : ownerTimesOut k.val (s.atTime t) = _ := ownerTimesOut_of (s := s.atTime t) owner
  refine ⟨fun silent => ?_, fun active => runs_idle (groupOwnerTimeout_eq t s k) (eq.trans (if_neg (Nat.not_le.mpr active)))⟩
  have freed : ownerTimesOut k.val (s.atTime t) = freeGroup (s.atTime t) k.val 3 := eq.trans (if_pos silent)
  have frame : Frame [.host] (s.atTime t) (freeGroup (s.atTime t) k.val 3) := modShadow_frame _ _ _
  have self : groupShadow (freeGroup (s.atTime t) k.val 3) k.val = _ := freeGroup_self (by decide)
  refine answers_still (groupOwnerTimeout_eq t s k) (freed.symm ▸ frame) (by decide) ?_
  rw [freed, self]
  exact ⟨rfl, rfl, rfl, ((frame_atTime s t).mono (by decide)).trans (frame.mono (by decide))⟩

/-- Settles O50: the order of a commit's checks is log 38, and the rules of forces judged at the write as well are log 37 (both
DEDUCED). -/
theorem stagedGroupsApplyAtTheirCommit : Obligations.StagedGroupsApplyAtTheirCommit := by
  intro t s ch g k n data code serves enabled room
  refine ⟨fun range => ?_, fun low high check => ?_, ?_, ?_, ?_, fun owner free length op => forceRequests serves owner free length op,
    forceRequest_length serves, fun low high => (groupAborts serves low high).1, fun pending low high => (groupAborts serves low high).2 pending,
    ownerTimeout⟩
  · refine runs_attemptRefused (groupCommit_eq t s ch g) serves (if_pos ?_)
    exact range.imp (fun zero => by rw [zero]; rfl) id
  · have one : g = 1 ↔ g.toNat = 1 := ⟨fun h => by rw [h]; rfl, fun h => BitVec.eq_of_toNat_eq h⟩
    have check' : commitCheck (s.atTime t) ch.val g.toNat = some code := by
      rw [← check]
      unfold commitCheck
      simp only [one]
      rfl
    have refused' := writeCommit_refused low high check'
    refine (answers_commitRefused (groupCommit_eq t s ch g) serves enabled room refused' (commitCheck_pos check')).imp
      fun s' ⟨hCode, shadow, abort, events, frame⟩ => ⟨hCode, shadow, abort, ?_, frame⟩
    rw [events]
    simp [u8]
  · rintro x rfl status owner auth shadow
    exact answers_windowCommit serves enabled room status owner auth shadow
  · rintro x rfl status owner auth shadow fits
    exact answers_linkCommit serves enabled room status owner auth shadow fits
  · rintro x rfl status owner auth
    exact ⟨answers_forceCommit serves status owner auth, forceCommit_refused serves enabled room status owner auth⟩

end Sys2Proof.Machine
end

section
/-!
PROOFS. Events of the host, the states of its buses, and restarts of the Steward (O51).
-/

namespace Sys2Proof.Machine

/-! ### Frames to the host -/

theorem modHostBus_frame (s : State) (b : HostBus) (f : HostBusSt → HostBusSt) : Frame [.host] s (modHostBus s b f) := by
  intro p hp
  cases b <;> cases p <;> simp [same, modHostBus] at hp ⊢

theorem hostBus_modHostBus (s : State) (b : HostBus) (f : HostBusSt → HostBusSt) : hostBus (modHostBus s b f) b = f (hostBus s b) := by
  cases b <;> rfl

/-- A frame to the host leaves but for the bus counters and the outputs. -/
theorem sendHost_rest (s : State) (b : HostBus) (func chan : Nat) (tid : U8) (bytes : List Byte) :
    (sendHost s b func chan tid bytes).host.events = s.host.events ∧
      (sendHost s b func chan tid bytes).host.dropDue = s.host.dropDue ∧
      (sendHost s b func chan tid bytes).host.position = s.host.position ∧
      (∃ l, (sendHost s b func chan tid bytes).out = s.out ++ l ∧
        ∀ o ∈ l, ∃ k, o = .hostFrame k (hostWord func true s.host.position chan tid) (padded bytes)) ∧
      Frame [.host, .out] s (sendHost s b func chan tid bytes) := by
  unfold sendHost
  split
  · refine ⟨by cases b <;> rfl, by cases b <;> rfl, by cases b <;> rfl, ⟨[.hostFrame b (hostWord func true s.host.position chan tid) (padded bytes)],
      by cases b <;> rfl, fun o ho => ⟨b, by simpa using ho⟩⟩,
      fun p hp => ?_⟩
    cases b <;> cases p <;> simp [same, emit, modHostBus] at hp ⊢
  · exact ⟨rfl, rfl, rfl, ⟨[], by simp, by simp⟩, .refl _ _⟩

/-- The event goes out on every bus that carries events. -/
def eventSent (l : List HostBus) (bytes : List Byte) (s : State) : State := l.foldl (fun st b => sendHost st b 3 0 0 bytes) s

theorem eventSent_rest (l : List HostBus) (bytes : List Byte) (s : State) :
    (eventSent l bytes s).host.events = s.host.events ∧ (eventSent l bytes s).host.dropDue = s.host.dropDue ∧
      (∃ new, (eventSent l bytes s).out = s.out ++ new ∧
        ∀ o ∈ new, ∃ k, o = .hostFrame k (hostWord 3 true s.host.position 0 0) (padded bytes)) ∧
      Frame [.host, .out] s (eventSent l bytes s) := by
  induction l generalizing s with
  | nil => exact ⟨rfl, rfl, ⟨[], by simp [eventSent], by simp⟩, .refl _ _⟩
  | cons b l ih =>
    obtain ⟨events, due, position, ⟨first, out, frames⟩, frame⟩ := sendHost_rest s b 3 0 0 bytes
    obtain ⟨events', due', ⟨new, out', frames'⟩, frame'⟩ := ih (sendHost s b 3 0 0 bytes)
    have head : eventSent (b :: l) bytes s = eventSent l bytes (sendHost s b 3 0 0 bytes) := rfl
    rw [head]
    refine ⟨events'.trans events, due'.trans due, ⟨first ++ new, ?_, fun o ho => ?_⟩, frame.trans frame'⟩
    · rw [out', out, List.append_assoc]
    · rcases List.mem_append.mp ho with early | late
      · exact frames o early
      · obtain ⟨k, h⟩ := frames' o late
        exact ⟨k, by rw [h, position]⟩

/-! ### The oldest event goes out (R307) -/

/-- EVENT_PUSH. -/
def pushesEvent (s : State) : State :=
  if stewardServes s = false then s else
  match s.host.events with
  | [] => s
  | e :: rest =>
    let s1 := { s with host := { s.host with events := rest } }
    reportDropped (eventSent (eventBuses s1) (eventBytes e) s1)

theorem eventPush_eq (t : Time) (s : State) : exec (.eventPush t) s = at_ t s pushesEvent := rfl

theorem reportDropped_none {s : State} (h : s.host.dropDue = 0) : reportDropped s = s := by
  unfold reportDropped
  exact if_neg fun due => by omega

theorem answers_eventPush {t : Time} {s : State} {e : Event} {rest : List Event} (serves : Serves s t)
    (events : s.host.events = e :: rest) (due : s.host.dropDue = 0) : Answers (.eventPush t) s fun s' =>
      s'.host.events = rest ∧ Frame [.now, .host, .out] s s' ∧
        ∀ o ∈ s'.out.drop s.out.length, ∃ k, o = .hostFrame k (hostWord 3 true s.host.position 0 0) (padded (eventBytes e)) := by
  have served : stewardServes (s.atTime t) = true := by simp [stewardServes, State.atTime, serves.1, serves.2]
  have taken : Frame [.host] (s.atTime t) { s.atTime t with host := { s.host with events := rest } } :=
    fun p hp => by cases p <;> simp [same] at hp ⊢
  have eq : pushesEvent (s.atTime t) = reportDropped (eventSent (eventBuses { s.atTime t with host := { s.host with events := rest } })
      (eventBytes e) { s.atTime t with host := { s.host with events := rest } }) := by
    unfold pushesEvent
    rw [if_neg (by rw [served]; decide), show (s.atTime t).host.events = e :: rest from events]
    rfl
  obtain ⟨left, due', ⟨new, out, frames⟩, frame⟩ := eventSent_rest
    (eventBuses { s.atTime t with host := { s.host with events := rest } }) (eventBytes e)
    { s.atTime t with host := { s.host with events := rest } }
  rw [reportDropped_none (due'.trans due)] at eq
  have whole := (taken.mono (m := [.host, .out]) (by decide)).trans frame
  refine answers_still (eventPush_eq t s) (l := [.host, .out]) (by rw [eq]; exact whole) (by decide) ?_
  rw [eq]
  refine ⟨left, ((frame_atTime s t).mono (by decide)).trans (whole.mono (by decide)), ?_⟩
  rw [out]
  have drop : (s.out ++ new).drop s.out.length = new := List.drop_left
  intro o ho
  exact frames o (drop ▸ ho)

theorem eventPush_none {t : Time} {s : State} (events : s.host.events = []) : Runs (.eventPush t) s (s.atTime t) := by
  refine runs_idle (eventPush_eq t s) ?_
  unfold pushesEvent
  split
  · rfl
  · rw [show (s.atTime t).host.events = [] from events]

/-! ### The states of the host's buses (R316) -/

/-- The bus has changed its state. -/
def busTurned (b : HostBus) (n errors : Nat) (s : State) : State :=
  modHostBus (draw (draw s)) b fun y => { y with
    state := n, errors := u32 errors, txErr := Config.free s.draws % 256, rxErr := Config.free (s.draws + 1) % 256,
    busOff := if n = 3 then y.busOff + 1 else y.busOff }

/-- HOST_BUS_STATE_CHANGE. -/
def busChanges (b : HostBus) (n errors : Nat) (s : State) : State :=
  if (hostBus s b).state = 0 ∨ (hostBus s b).state = 4 ∨ n = 0 ∨ n = 4 ∨ n = (hostBus s b).state then s
  else if n = 3 then raise (busTurned b n errors s) (107 + busNo b) (u32 (busNo b)) 0 (u32 errors)
  else if n = 2 then raise (busTurned b n errors s) (107 + busNo b) (u32 (busNo b)) 1 (u32 errors)
  else busTurned b n errors s

theorem hostBusStateChange_eq (t : Time) (s : State) (b : HostBus) (n : Fin 5) (errors : Nat) :
    exec (.hostBusStateChange t b n errors) s = at_ t s (busChanges b n.val errors) := rfl

theorem busTurned_bus (b : HostBus) (n errors : Nat) (s : State) : hostBus (busTurned b n errors s) b = { hostBus s b with
    state := n, errors := u32 errors, txErr := Config.free s.draws % 256, rxErr := Config.free (s.draws + 1) % 256,
    busOff := if n = 3 then (hostBus s b).busOff + 1 else (hostBus s b).busOff } := by
  unfold busTurned
  rw [hostBus_modHostBus]
  cases b <;> rfl

theorem busTurned_frame (b : HostBus) (n errors : Nat) (s : State) : Frame [.host, .draws] s (busTurned b n errors s) := by
  intro p hp
  cases b <;> cases p <;> simp [same, busTurned, modHostBus] at hp ⊢

theorem busTurned_source (b : HostBus) (n errors : Nat) (s : State) (k : Nat) : source (busTurned b n errors s) k = source s k := by
  cases b <;> rfl

theorem srcClass_hostBus (b : HostBus) : srcClass (107 + busNo b) ≤ 1 := by cases b <;> decide

section Turns

variable {t : Time} {s : State} {b : HostBus} {n : Fin 5} {errors : Nat} (on : (hostBus s b).state ≠ 0)
  (passive : (hostBus s b).state ≠ 4) (other : (hostBus s b).state ≠ n.val)
include on passive other

theorem answers_busRaises {p2 : U32} (quiet : Quiet s (107 + busNo b)) (h : (n.val = 3 ∧ p2 = 0) ∨ (n.val = 2 ∧ p2 = 1)) :
    Answers (.hostBusStateChange t b n errors) s fun s' =>
      (hostBus s' b).state = n.val ∧ (hostBus s' b).busOff = (if n.val = 3 then (hostBus s b).busOff + 1 else (hostBus s b).busOff) ∧
        (hostBus s' b).errors = u32 errors ∧ Raised s s' (107 + busNo b) (u32 (busNo b)) p2 (u32 errors) ∧
        Frame [.now, .host, .constable, .draws] s s' := by
  have quiet' : Quiet (busTurned b n.val errors (s.atTime t)) (107 + busNo b) := by
    unfold Quiet
    rw [busTurned_source]
    exact quiet
  have eq : busChanges b n.val errors (s.atTime t) =
      recordRaise (busTurned b n.val errors (s.atTime t)) (107 + busNo b) false (u32 (busNo b)) p2 (u32 errors) := by
    rw [← raise_minor quiet' (srcClass_hostBus b)]
    unfold busChanges
    rw [if_neg (by show ¬ ((hostBus s b).state = 0 ∨ (hostBus s b).state = 4 ∨ _ ∨ _ ∨ n.val = (hostBus s b).state); omega)]
    rcases h with ⟨three, rfl⟩ | ⟨two, rfl⟩
    · rw [if_pos three]
    · rw [if_neg (by omega), if_pos two]
  have raised : Raised s (busChanges b n.val errors (s.atTime t)) (107 + busNo b) (u32 (busNo b)) p2 (u32 errors) := by
    rw [eq]
    exact raised_recordRaise (busTurned_source b n.val errors (s.atTime t) _) _ _ _
  have bus : hostBus (busChanges b n.val errors (s.atTime t)) b = hostBus (busTurned b n.val errors (s.atTime t)) b := by
    rw [eq]
    cases b <;> simp [hostBus]
  have frame : Frame [.host, .draws, .constable] (s.atTime t) (busChanges b n.val errors (s.atTime t)) := by
    rw [eq]
    exact ((busTurned_frame _ _ _ _).mono (by decide)).trans ((recordRaise_frame _ _ _ _ _ _).mono (by decide))
  refine answers_still (hostBusStateChange_eq t s b n errors) frame (by decide) ?_
  rw [bus, busTurned_bus]
  exact ⟨rfl, rfl, rfl, raised, ((frame_atTime s t).mono (by decide)).trans (frame.mono (by decide))⟩

theorem answers_busActive (one : n.val = 1) : Answers (.hostBusStateChange t b n errors) s fun s' =>
    (hostBus s' b).state = 1 ∧ (hostBus s' b).errors = u32 errors ∧ Frame [.now, .host, .draws] s s' := by
  have eq : busChanges b n.val errors (s.atTime t) = busTurned b n.val errors (s.atTime t) := by
    unfold busChanges
    rw [if_neg (by show ¬ ((hostBus s b).state = 0 ∨ (hostBus s b).state = 4 ∨ _ ∨ _ ∨ n.val = (hostBus s b).state); omega),
      if_neg (by omega), if_neg (by omega)]
  have frame := busTurned_frame b n.val errors (s.atTime t)
  refine answers_still (hostBusStateChange_eq t s b n errors) (by rw [eq]; exact frame) (by decide) ?_
  rw [eq, busTurned_bus]
  exact ⟨one, rfl, ((frame_atTime s t).mono (by decide)).trans (frame.mono (by decide))⟩

end Turns

theorem bus_stays {t : Time} {s : State} {b : HostBus} {n : Fin 5} {errors : Nat}
    (h : (hostBus s b).state = n.val ∨ n.val = 0 ∨ n.val = 4) : Runs (.hostBusStateChange t b n errors) s (s.atTime t) := by
  refine runs_idle (hostBusStateChange_eq t s b n errors) (if_pos ?_)
  show (hostBus s b).state = 0 ∨ (hostBus s b).state = 4 ∨ _ ∨ _ ∨ n.val = (hostBus s b).state
  omega

/-! ### A restart of the Steward (R308) -/

/-- STEWARD_RESTART. -/
def restarts (s : State) : State := if s.host.serving then restartSteward s else s

theorem stewardRestart_eq (t : Time) (s : State) : exec (.stewardRestart t) s = at_ t s restarts := rfl

theorem queueEvent_empty {s : State} (kind : Nat) (bytes : List Byte) (h : s.host.events = []) :
    (queueEvent s kind bytes).host.events.length ≤ 1 := by
  unfold queueEvent
  split
  · simp [h]
  · simp [h]

theorem restartChannel_empty (l : Table ChannelSt) (ch : Nat) : (tget {} (tmap {} (fun _ x => restartChannel x) l) ch).keySlot = none ∧
    (tget {} (tmap {} (fun _ x => restartChannel x) l) ch).transfer = none ∧
    (tget {} (tmap {} (fun _ x => restartChannel x) l) ch).challenge = none :=
  tget_tmap_all {} (fun _ x => restartChannel x) (fun x => x.keySlot = none ∧ x.transfer = none ∧ x.challenge = none)
    ⟨rfl, rfl, rfl⟩ (fun _ _ => ⟨rfl, rfl, rfl⟩) l ch

theorem restartUntil_rest (s : State) (back : Time) : (restartUntil s back).host.servingAt = back ∧
    (restartUntil s back).host.serving = s.host.serving ∧
    (∀ ch, (chanSt (restartUntil s back) ch).keySlot = none ∧ (chanSt (restartUntil s back) ch).transfer = none ∧
      (chanSt (restartUntil s back) ch).challenge = none) ∧
    (restartUntil s back).host.events.length ≤ 1 ∧ (restartUntil s back).host.keys = s.host.keys ∧
    (restartUntil s back).host.settings = s.host.settings ∧ Frame [.host, .constable] s (restartUntil s back) := by
  unfold restartUntil holdStewardWindows
  dsimp only
  refine ⟨?_, ?_, fun ch => ?_, queueEvent_empty _ _ rfl, ?_, ?_, fun p hp => ?_⟩
  case refine_3 =>
    unfold chanSt
    rw [(queueEvent_host _ _ _)]
    exact restartChannel_empty _ ch
  case refine_6 => cases p <;> simp [same] at hp ⊢
  all_goals rw [(queueEvent_host _ _ _)]

theorem answers_restart {t : Time} {s : State} (serving : s.host.serving = true) : Answers (.stewardRestart t) s fun s' =>
    t ≤ s'.host.servingAt ∧ s'.host.servingAt ≤ t + sec 2 ∧ s'.host.serving = true ∧
      (∀ ch, (chanSt s' ch).keySlot = none ∧ (chanSt s' ch).transfer = none ∧ (chanSt s' ch).challenge = none) ∧
      s'.host.events.length ≤ 1 ∧ s'.host.keys = s.host.keys ∧ s'.host.settings = s.host.settings ∧
      Frame [.now, .host, .constable, .draws] s s' := by
  have eq : restarts (s.atTime t) = restartUntil (draw (s.atTime t)) (t + Config.free s.draws % (sec 2 + 1)) := if_pos serving
  have drawn : Frame [.draws] (s.atTime t) (draw (s.atTime t)) := fun p hp => by cases p <;> simp [same] at hp ⊢
  obtain ⟨back, serves, channels, events, keys, settings, frame⟩ :=
    restartUntil_rest (draw (s.atTime t)) (t + Config.free s.draws % (sec 2 + 1))
  have whole := (drawn.mono (m := [.host, .constable, .draws]) (by decide)).trans (frame.mono (by decide))
  refine answers_still (stewardRestart_eq t s) (l := [.host, .constable, .draws]) (by rw [eq]; exact whole) (by decide) ?_
  rw [eq, back]
  have bound : Config.free s.draws % (sec 2 + 1) < sec 2 + 1 := Nat.mod_lt _ (Nat.succ_pos _)
  exact ⟨Nat.le_add_right _ _, Nat.add_le_add_left (Nat.le_of_lt_succ bound) t, serves.trans serving, channels, events, keys, settings,
    ((frame_atTime s t).mono (by decide)).trans (whole.mono (by decide))⟩

/-- Settles O51. -/
theorem eventsAndRestartsOfTheSteward : Obligations.EventsAndRestartsOfTheSteward := by
  intro t s b n errors e rest
  refine ⟨answers_eventPush, eventPush_none, fun on passive other => ⟨fun three quiet => ?_, fun two quiet => ?_, fun one =>
    answers_busActive on passive other one⟩, bus_stays, answers_restart, fun dark => runs_idle (stewardRestart_eq t s) (if_neg ?_)⟩
  · refine (answers_busRaises on passive other quiet (.inl ⟨three, rfl⟩)).imp fun s' ⟨state, off, errors', raised, frame⟩ =>
      ⟨state.trans three, by rw [off, if_pos three], errors', raised, frame⟩
  · refine (answers_busRaises on passive other quiet (.inr ⟨two, rfl⟩)).imp fun s' ⟨state, off, _, raised, frame⟩ =>
      ⟨state.trans two, by rw [off, if_neg (by omega)], raised, frame⟩
  · rw [show (s.atTime t).host.serving = false from dark]
    decide

end Sys2Proof.Machine
end

section
/-!
PROOFS. The Gatehouse and the down frames of the lanes (O32, O33).
-/

namespace Sys2Proof.Machine

/-! ### Bit maps -/

/-- The bits of a bit map are the flags of its list. -/
theorem testBit_bitmap (l : List Bool) (i : Nat) : (bitmap l).testBit i = l.getD i false := by
  induction l generalizing i with
  | nil => simp [bitmap]
  | cons x xs ih =>
    have eq : bitmap (x :: xs) = Nat.bit x (bitmap xs) := by
      cases x with
      | false => simp [bitmap, Nat.bit]
      | true =>
        simp [bitmap, Nat.bit]
        omega
    rw [eq]
    cases i with
    | zero => simp
    | succ i =>
      rw [Nat.testBit_bit_succ, ih]
      rfl

theorem getLsbD_bits24 (f : Nat → Bool) {d : Nat} (h : d < 24) : (bits24 f).getLsbD d = f d := by
  rw [bits24, BitVec.getLsbD_ofNat, testBit_bitmap]
  simp [h]

/-! ### The Gatehouse -/

theorem modField_frame (s : State) (f : FieldSt → FieldSt) : Frame [.field] s (modField s f) := by
  intro p hp
  cases p <;> simp [same, modField] at hp ⊢

theorem modBar_frame (s : State) (ln : Lane) (f : BarrierSt → BarrierSt) : Frame [.field] s (modBar s ln f) := by
  intro p hp
  cases p <;> simp [same, modBar] at hp ⊢

theorem receiveDown_frame (s : State) (ln : Lane) (f : DownFrame) : Frame [.field] s (receiveDown s ln f) := by
  unfold receiveDown
  dsimp only
  split
  · exact modBar_frame _ _ _
  split
  · exact .refl _ _
  split
  · exact modBar_frame _ _ _
  split <;> exact modBar_frame _ _ _

/-- What the Gatehouse has received before it evaluates. -/
def received (ln : Lane) (f : Option DownFrame) (s : State) : State :=
  match f with
  | some x => receiveDown s ln x
  | none => s

theorem received_frame (ln : Lane) (f : Option DownFrame) (s : State) : Frame [.field] s (received ln f s) := by
  cases f with
  | none => exact .refl _ _
  | some x => exact receiveDown_frame s ln x

/-- An evaluation of the Gatehouse. -/
def evaluated (ln : Lane) (f : Option DownFrame) (s : State) : State :=
  if fieldUp s = false then s else gateEval (noteEdges (received ln f s))

theorem gatehouseEvaluation_eq (t : Time) (ln : Lane) (f : Option DownFrame) (s : State) :
    exec (.gatehouseEvaluation t ln f) s = at_ t s (evaluated ln f) := by cases f <;> rfl

theorem gateEval_frame (s : State) : Frame [.field] s (gateEval s) := modField_frame _ _

theorem noteEdges_frame (s : State) : Frame [.field] s (noteEdges s) := modField_frame _ _

theorem gateEval_gate (s : State) {d : Nat} (h : d < 24) : (gateEval s).field.gate.getLsbD d = energised s d :=
  getLsbD_bits24 (energised s) h

/-- An evaluation changes nothing that the conditions speak of. -/
theorem energised_gateEval (s : State) (d : Nat) : energised (gateEval s) d = energised s d := rfl

/-- What an evaluation answers, while the field side is up. -/
theorem answers_evaluation {t : Time} {s : State} {ln : Lane} {f : Option DownFrame} {P : State → Prop} (up : fieldUp s = true)
    (h : P (gateEval (noteEdges (received ln f (s.atTime t))))) : Answers (.gatehouseEvaluation t ln f) s P := by
  have eq : evaluated ln f (s.atTime t) = gateEval (noteEdges (received ln f (s.atTime t))) := by
    unfold evaluated
    rw [show fieldUp (s.atTime t) = true from up, if_neg (by decide)]
  refine answers_still (l := [.field]) (gatehouseEvaluation_eq t ln f s) (eq ▸ ?_) (by decide) (eq ▸ h)
  exact (received_frame ln f _).trans ((noteEdges_frame _).trans (gateEval_frame _))

/-- The conditions of R199 for an output. -/
def OutputConditions (s : State) (c : FieldConfig) (d : Nat) : Prop :=
  s.field.config = some c ∧ s.field.unconf = false ∧ s.field.flost = false ∧ s.field.kill = 3 ∧
    (∀ k ∈ outputGroup c d, s.field.doflt.getLsbD k = false) ∧
    2 ≤ ((freshFrames s).filter fun x => x.kind = 1 ∧ x.split = false ∧ x.alloff = false ∧ x.epoch = s.field.epoch ∧
      x.w3.getLsbD (leadOf c d) = true).length ∧
    ((∃ x ∈ freshFrames s, x.test = true) → c.fmask.getLsbD d = true)

theorem commandsOn_eq (s : State) (e : Nat) : commandsOn s e = fun x => decide (x.kind = 1 ∧ x.split = false ∧ x.alloff = false ∧
    x.epoch = s.field.epoch ∧ x.w3.getLsbD e = true) := by
  funext x
  rw [Bool.eq_iff_iff]
  simp [commandsOn, and_assoc]

theorem energised_iff (s : State) (d : Nat) : energised s d = true ↔ ∃ c, OutputConditions s c d := by
  unfold energised OutputConditions
  cases s.field.config with
  | none => simp
  | some c =>
    simp only [commandsOn_eq, Bool.and_eq_true, Option.some.injEq, exists_eq_left', Bool.not_eq_true', beq_iff_eq, List.all_eq_true,
      decide_eq_true_eq, Bool.or_eq_true, List.any_eq_false, and_assoc]
    refine and_congr_right fun _ => and_congr_right fun _ => and_congr_right fun _ => and_congr_right fun _ => and_congr_right fun _ => ?_
    constructor
    · rintro (quiet | mask) ⟨x, hx, test⟩
      · exact absurd test (quiet x hx)
      · exact mask
    · intro h
      by_cases test : ∃ x ∈ freshFrames s, x.test = true
      · exact .inr (h test)
      · exact .inl fun x hx ht => test ⟨x, hx, ht⟩

/-- Settles O33: a bit of the gate is `energised`, which is the conjunction of the conditions of R199. -/
theorem outputsAreEnergisedExactlyByTheConditions : Obligations.OutputsAreEnergisedExactlyByTheConditions := by
  intro t s ln f up
  refine answers_evaluation up ⟨?_, fun d => ?_⟩
  · exact ((frame_atTime s t).mono (by decide)).trans ((Frame.mono ((received_frame ln f _).trans ((noteEdges_frame _).trans
      (gateEval_frame _))) (by decide)))
  · rw [gateEval_gate _ d.isLt, ← energised_gateEval]
    exact energised_iff _ d.val

/-! ### Down frames of the lanes (R195, R204) -/

/-- A frame leaves a lane. -/
def downSent (s : State) (ln : Lane) (f : DownFrame) : State :=
  let s1 := modBar s ln fun b => { b with seq := f.seq, sent := b.sent + 1 }
  let s2 := if f.kind = 3 then { s1 with draws := s1.draws + 4 } else s1
  let s3 := if f.kind = 2 ∧ s2.field.configSince = none then modField s2 fun x => { x with configSince := some s.now } else s2
  emit s3 (.downFrame ln (sealDown f))

/-- A lane's slot of the barrier channels. -/
def sendDown (ln : Lane) (s : State) : State :=
  match (downFrame? s ln).filter fun _ => crossRuns s 3 with
  | none => s
  | some f => downSent s ln f

theorem downFrameSend_eq (t : Time) (ln : Lane) (s : State) : exec (.downFrameSend t ln) s = at_ t s (sendDown ln) := rfl

theorem downFrame_none {s : State} {ln : Lane} (h : laneSends s ln = false ∨ s.modes.mode = .start ∧ ln ≠ firmwareLane s) :
    downFrame? s ln = none := by
  unfold downFrame?
  dsimp only
  split
  · rfl
  next sends =>
    obtain silent | ⟨start, other⟩ := h
    · exact absurd silent sends
    · rw [if_pos start, if_neg other]

/-- Where a lane sends, its frame carries these fields. -/
theorem downFrame_some {s : State} {ln : Lane} (sends : laneSends s ln = true) (h : s.modes.mode ≠ .start ∨ ln = firmwareLane s) :
    ∃ f, downFrame? s ln = some f ∧ f.lane = BitVec.ofNat 2 (laneNo ln) ∧ f.seq = (s.field.bar.get ln).seq + 1 ∧
      f.split = (s.modes.mode == Mode.split) ∧ f.test = fence s ∧ f.alloff = allOff s ln := by
  unfold downFrame?
  dsimp only
  rw [sends, if_neg (by decide)]
  split
  next start => exact ⟨_, if_pos (h.resolve_left (not_not_intro start)), rfl, rfl, rfl, rfl, rfl⟩
  split <;> exact ⟨_, rfl, rfl, rfl, rfl, rfl, rfl⟩

theorem downSent_bar (s : State) (ln : Lane) (f : DownFrame) :
    (downSent s ln f).field.bar = s.field.bar.set ln { s.field.bar.get ln with seq := f.seq, sent := (s.field.bar.get ln).sent + 1 } := by
  unfold downSent
  dsimp only
  split <;> split <;> rfl

theorem downSent_out (s : State) (ln : Lane) (f : DownFrame) : (downSent s ln f).out = s.out ++ [.downFrame ln (sealDown f)] := by
  unfold downSent
  dsimp only
  split <;> split <;> rfl

theorem downSent_frame (s : State) (ln : Lane) (f : DownFrame) : Frame [.field, .out, .draws] s (downSent s ln f) := by
  intro p hp
  unfold downSent
  dsimp only
  split <;> split <;> cases p <;> simp [same, modBar, modField, emit] at hp ⊢

/-- A frame with a checksum. -/
def withCrc (f : DownFrame) (c : U32) : DownFrame := { f with crc := c }

theorem sealDown_eq (f : DownFrame) : sealDown f = withCrc f (u32 (crc32c (downBytes f))) := rfl

/-- The checksum covers every other field. -/
theorem withCrc_fields (f : DownFrame) (c : U32) : (withCrc f c).lane = f.lane ∧ (withCrc f c).seq = f.seq ∧
    (withCrc f c).split = f.split ∧ (withCrc f c).test = f.test ∧ (withCrc f c).alloff = f.alloff ∧ (withCrc f c).crc = c ∧
    downBytes (withCrc f c) = downBytes f := by
  cases f
  exact ⟨rfl, rfl, rfl, rfl, rfl, rfl, rfl⟩

theorem sealDown_fields (f : DownFrame) : (sealDown f).lane = f.lane ∧ (sealDown f).seq = f.seq ∧ (sealDown f).split = f.split ∧
    (sealDown f).test = f.test ∧ (sealDown f).alloff = f.alloff ∧ (sealDown f).crc = u32 (crc32c (downBytes (sealDown f))) := by
  rw [sealDown_eq]
  generalize hc : u32 (crc32c (downBytes f)) = c
  obtain ⟨hlane, hseq, hsplit, htest, halloff, hcrc, hbytes⟩ := withCrc_fields f c
  exact ⟨hlane, hseq, hsplit, htest, halloff, by rw [hcrc, hbytes, hc]⟩

theorem allOff_of_excluded {s : State} {ln : Lane} (h : inVote s ln = false) : allOff s ln = true := by simp [allOff, h]

theorem answers_downFrame {t : Time} {s : State} {ln : Lane} (sends : laneSends s ln = true) (runs : crossRuns s 3 = true)
    (h : s.modes.mode ≠ .start ∨ ln = firmwareLane s) : Answers (.downFrameSend t ln) s fun s' =>
      (s'.field.bar.get ln).seq = (s.field.bar.get ln).seq + 1 ∧ (s'.field.bar.get ln).sent = (s.field.bar.get ln).sent + 1 ∧
        (∀ k, k ≠ ln → s'.field.bar.get k = s.field.bar.get k) ∧ Frame [.now, .field, .out, .draws] s s' ∧
        ∃ f, s'.out = s.out ++ [.downFrame ln f] ∧ f.lane.toNat = laneNo ln ∧ f.seq = (s.field.bar.get ln).seq + 1 ∧
          f.split = (s.modes.mode == Mode.split) ∧ f.test = fence s ∧ f.alloff = allOff (s.atTime t) ln ∧
          (inVote s ln = false → f.alloff = true) ∧ f.crc = u32 (crc32c (downBytes f)) := by
  obtain ⟨f, hf, lane, seq, split, test, alloff⟩ := downFrame_some (s := s.atTime t) (ln := ln) sends h
  have eq : sendDown ln (s.atTime t) = downSent (s.atTime t) ln f := by
    unfold sendDown
    rw [hf, Option.filter_some, show crossRuns (s.atTime t) 3 = true from runs]
    rfl
  have out := downSent_out (s.atTime t) ln f
  obtain ⟨hlane, hseq, hsplit, htest, halloff, hcrc⟩ := sealDown_fields f
  have frame := downSent_frame (s.atTime t) ln f
  refine answers_still (downFrameSend_eq t ln s) (eq ▸ frame) (by decide) (eq ▸ ?_)
  rw [downSent_bar]
  refine ⟨by simpa using seq, by simp, fun k hk => by simp [hk], ((frame_atTime s t).mono (by decide)).trans (frame.mono (by decide)),
    sealDown f, out, ?_, hseq.trans seq, hsplit.trans split, htest.trans test, halloff.trans alloff, fun excluded => ?_, hcrc⟩
  · rw [hlane, lane]
    cases ln <;> rfl
  · exact halloff.trans (alloff.trans (allOff_of_excluded excluded))

/-- Settles O32: a frame takes its flags from the mode and the vote, and nothing leaves a lane that does not send. -/
theorem excludedLanesCommandAllOff : Obligations.ExcludedLanesCommandAllOff := by
  intro t s ln
  have idle (h : downFrame? (s.atTime t) ln = none) : Runs (.downFrameSend t ln) s (s.atTime t) :=
    runs_idle (downFrameSend_eq t ln s) (by unfold sendDown; rw [h]; rfl)
  refine ⟨?_, fun start other => idle (downFrame_none (.inr ⟨start, other⟩)), answers_downFrame⟩
  rintro (silent | stopped)
  · exact idle (downFrame_none (.inl silent))
  · refine runs_idle (downFrameSend_eq t ln s) ?_
    unfold sendDown
    rw [show crossRuns (s.atTime t) 3 = false from stopped]
    cases downFrame? (s.atTime t) ln <;> rfl

end Sys2Proof.Machine
end

section
/-!
PROOFS. The reset key and the inputs of the field side (O35, O38).
-/

namespace Sys2Proof.Machine

/-! ### The field side's records -/

/-- A change of the field side's own records. -/
theorem runs_field {c : Instr} {t : Time} {s : State} {f : State → State} {g : FieldSt → FieldSt} (hc : exec c s = at_ t s f)
    (hr : f (s.atTime t) = modField (s.atTime t) g) : Runs c s (modField (s.atTime t) g) :=
  runs_still (l := [.field]) hc hr (modField_frame _ _) (by decide)

theorem fieldRaised_frame (s : State) (g : FieldSt → FieldSt) (n : Nat) (p1 p2 p3 : U32) :
    Frame [.field, .constable] s (recordRaise (modField s g) n false p1 p2 p3) :=
  ((modField_frame s g).mono (by decide)).trans ((recordRaise_frame _ n false p1 p2 p3).mono (by decide))

/-- A change of the field side's records with a Notice or Minor source. -/
theorem runs_fieldRaise {c : Instr} {t : Time} {s : State} {f : State → State} {g : FieldSt → FieldSt} {n : Nat} {p1 p2 p3 : U32}
    (hc : exec c s = at_ t s f) (hf : f (s.atTime t) = raise (modField (s.atTime t) g) n p1 p2 p3) (quiet : Quiet s n)
    (cls : srcClass n ≤ 1) : Runs c s (recordRaise (modField (s.atTime t) g) n false p1 p2 p3) :=
  runs_still hc (hf.trans (raise_minor (s := modField (s.atTime t) g) quiet cls p1 p2 p3)) (fieldRaised_frame _ g n p1 p2 p3) (by decide)

theorem modSource_frame (s : State) (n : Nat) (f : SourceSt → SourceSt) : Frame [.constable] s (modSource s n f) := by
  intro p hp
  cases p <;> simp [same, modSource] at hp ⊢

theorem withdraw_frame (s : State) (n : Nat) : Frame [.constable] s (withdraw s n) := modSource_frame s n _

theorem runs_writeStill {c : Instr} {t : Time} {s r : State} {ch : Fin 8} {l : List Part} {f : State → Write}
    (hc : exec c s = writeAt t s ch.val f) (serves : Serves s t) (hr : f (s.atTime t) = .ok r) (hf : Frame l (s.atTime t) r)
    (hl : still l = true) (hh : .host ∈ l) : Runs c s (accepted r ch) := by
  obtain ⟨s', runs, rfl⟩ := answers_writeStill (P := (· = accepted r ch)) hc serves hr hf hl hh rfl
  exact runs

/-! ### The reset key (R219) -/

/-- An operation of the key, while the field side is up. -/
def keyOperated (k : KeyOperation) (env : StartEnv) (s : State) : State :=
  if fieldUp s = false then s else
  let s1 := countKey s k
  if validKey k && keySeen k then resetByKey env s1 else s1

theorem resetKeyOperation_eq (t : Time) (s : State) (k : KeyOperation) (env : StartEnv) :
    exec (.resetKeyOperation t k env) s = at_ t s (keyOperated k env) := rfl

theorem countKey_valid {s : State} {k : KeyOperation} (h : validKey k = true) :
    countKey s k = modField s fun x => { x with keycnt := x.keycnt + 1, keyOps := x.keyOps + 1 } := by
  simp [countKey, h]

theorem countKey_invalid {s : State} {k : KeyOperation} (h : validKey k = false) :
    countKey s k = modField s fun x => { x with keyIgn := x.keyIgn + 1 } := by
  simp [countKey, h]

theorem keyOperated_up {s : State} {k : KeyOperation} {env : StartEnv} (up : fieldUp s = true) :
    keyOperated k env s = if validKey k && keySeen k then resetByKey env (countKey s k) else countKey s k :=
  if_neg (by rw [up]; decide)

/-- The operation has been counted, and the mode or the Grave latch leaves it at that. -/
theorem resetByKey_idle {s : State} {env : StartEnv} (h : (s.modes.mode ≠ .shutdown ∧ s.modes.mode ≠ .safeState) ∨
    (s.modes.mode = .safeState ∧ s.constable.grave = true)) : resetByKey env s = s := by
  unfold resetByKey
  obtain ⟨shutdown, safe⟩ | ⟨safe, grave⟩ := h
  · split
    · next mode => exact absurd mode shutdown
    · next mode => exact absurd mode safe
    · rfl
  · rw [safe]
    exact if_pos grave

theorem resetByKey_module {s : State} {env : StartEnv} {n : Nat} (safe : s.modes.mode = .safeState) (grave : s.constable.grave = false)
    (h : assertedModule s = some n) : resetByKey env s = bookEvent s 0x0011 (u32 n) s.cyc.number 0 := by
  unfold resetByKey
  rw [safe]
  dsimp only
  rw [if_neg (by rw [grave]; decide), h]

theorem runs_keyCounted {t : Time} {s : State} {k : KeyOperation} {env : StartEnv} (up : fieldUp s = true) (valid : validKey k = true)
    (h : keySeen k = false ∨ (s.modes.mode ≠ .shutdown ∧ s.modes.mode ≠ .safeState) ∨
      (s.modes.mode = .safeState ∧ s.constable.grave = true)) : Runs (.resetKeyOperation t k env) s
        (modField (s.atTime t) fun x => { x with keycnt := x.keycnt + 1, keyOps := x.keyOps + 1 }) := by
  refine runs_field (resetKeyOperation_eq t s k env) ?_
  rw [keyOperated_up (s := s.atTime t) up, countKey_valid valid, valid, Bool.true_and]
  obtain unseen | idle := h
  · rw [unseen]
    rfl
  · rw [resetByKey_idle (by exact idle), ite_self]

/-- A reading of the key. -/
def keyRead (w : BitVec 2) (s : State) : State :=
  if fieldUp s = false then s else
  let s1 := modField s fun x => readKey x w s.now
  if keyLong s1.field s.now then raise (modField s1 fun x => { x with kstuck := true }) 78 (u32 w.toNat) none32 s.field.tick else s1

theorem resetKeyStuck_eq (t : Time) (s : State) (w : BitVec 2) : exec (.resetKeyStuck t w) s = at_ t s (keyRead w) := rfl

theorem keyRead_long {s : State} {t : Time} {w : BitVec 2} (up : fieldUp s = true) (long : keyLong (readKey s.field w t) t = true) :
    keyRead w (s.atTime t) = raise (modField (s.atTime t) fun x => { readKey x w t with kstuck := true }) 78 (u32 w.toNat) none32
      s.field.tick := by
  unfold keyRead
  rw [if_neg (by rw [show fieldUp (s.atTime t) = true from up]; decide)]
  exact if_pos long

theorem keyRead_short {s : State} {t : Time} {w : BitVec 2} (up : fieldUp s = true) (short : keyLong (readKey s.field w t) t = false) :
    keyRead w (s.atTime t) = modField (s.atTime t) fun x => readKey x w t := by
  unfold keyRead
  rw [if_neg (by rw [show fieldUp (s.atTime t) = true from up]; decide)]
  have eq : keyLong (modField (s.atTime t) fun x => readKey x w (s.atTime t).now).field (s.atTime t).now = false := short
  dsimp only
  rw [eq]
  rfl

/-- Both channels have read 0 for their time. -/
def keyFreed (s : State) : State :=
  if fieldUp s = false ∨ heldSince s s.field.keyOff (sec 1) = false then s else
  let s1 := modField s fun x => { x with kstuck := false }
  if (source s1 78).reported then withdraw s1 78 else s1

theorem resetKeyStuckClear_eq (t : Time) (s : State) : exec (.resetKeyStuckClear t) s = at_ t s keyFreed := rfl

theorem keyFreed_due {s : State} (up : fieldUp s = true) (free : heldSince s s.field.keyOff (sec 1) = true) : keyFreed s =
    if (source s 78).reported then withdraw (modField s fun x => { x with kstuck := false }) 78
    else modField s fun x => { x with kstuck := false } := by
  unfold keyFreed
  rw [up, free]
  rfl

theorem keyFreed_idle {s : State} (h : fieldUp s = false ∨ heldSince s s.field.keyOff (sec 1) = false) : keyFreed s = s := if_pos h

/-- Settles O38: the operation is counted first; a stuck key is what `readKey` has timed. The dash of source 78 is log entry 34, the
operation that acts in its own step log entry 121. -/
theorem resetKeyCountsAndStuck : Obligations.ResetKeyCountsAndStuck := by
  intro t s k env w
  refine ⟨fun up valid => ⟨?_, ?_, ?_⟩, fun up invalid => ?_, fun up long quiet => ?_, fun up long asserted => ?_, fun up short => ?_,
    fun up free reported => ?_, fun up free silent => ?_, fun early => ?_, fun down => ⟨?_, ?_⟩⟩
  · exact fun h => runs_keyCounted up valid (h.elim (.inr ∘ .inl) .inl)
  · exact fun safe grave => runs_keyCounted up valid (.inr (.inr ⟨safe, grave⟩))
  · intro safe grave seen n module
    refine runs_still (l := [.field, .constable]) (resetKeyOperation_eq t s k env) ?_ (((modField_frame _ _).mono (by decide)).trans
      ((bookEvent_frame _ _ _ _ _).mono (by decide))) (by decide)
    rw [keyOperated_up (s := s.atTime t) up, countKey_valid valid, valid, seen]
    exact resetByKey_module safe grave module
  · refine runs_field (resetKeyOperation_eq t s k env) ?_
    rw [keyOperated_up (s := s.atTime t) up, countKey_invalid invalid, invalid]
    rfl
  · exact runs_fieldRaise (resetKeyStuck_eq t s w) (keyRead_long up long) quiet (by decide)
  · refine runs_still (l := [.field, .constable]) (resetKeyStuck_eq t s w) ((keyRead_long up long).trans (if_pos ?_))
      (((modField_frame _ _).mono (by decide)).trans ((modSource_frame _ _ _).mono (by decide))) (by decide)
    exact (Bool.and_eq_true _ _).mpr ⟨asserted, rfl⟩
  · exact runs_field (resetKeyStuck_eq t s w) (keyRead_short up short)
  · exact runs_still (l := [.field, .constable]) (resetKeyStuckClear_eq t s) ((keyFreed_due (s := s.atTime t) up free).trans (if_pos reported))
      (((modField_frame _ _).mono (by decide)).trans ((withdraw_frame _ _).mono (by decide))) (by decide)
  · exact runs_field (resetKeyStuckClear_eq t s) ((keyFreed_due (s := s.atTime t) up free).trans
      (if_neg (by rw [show (source (s.atTime t) 78).reported = false from silent]; decide)))
  · exact runs_idle (resetKeyStuckClear_eq t s) (keyFreed_idle (.inr early))
  · exact runs_idle (resetKeyStuck_eq t s w) (if_pos down)
  · exact runs_idle (resetKeyStuckClear_eq t s) (keyFreed_idle (.inl down))

/-! ### Input pairs and analog inputs (R208, R209, R216) -/

/-- A pair's count reaches its DT. -/
def pairDiscrepancy (k : Nat) (s : State) : State :=
  match s.field.config with
  | none => s
  | some c =>
    if c.pair.getLsbD k ∧ s.field.pairf.getLsbD k = false ∧ c.dt.getD k 0 ≤ s.field.pairRun.getD k 0 then
      raise (modField s fun x => { x with pairf := setBit x.pairf k true }) 69 (u32 k) (u32 (c.dt.getD k 0)) s.field.tick
    else s

theorem pairDiscrepancyLatch_eq (t : Time) (s : State) (k : Fin 24) :
    exec (.pairDiscrepancyLatch t k) s = at_ t s (pairDiscrepancy k.val) := rfl

theorem pairDiscrepancy_latches {s : State} {k : Nat} {c : FieldConfig} (config : s.field.config = some c) (pair : c.pair.getLsbD k = true)
    (free : s.field.pairf.getLsbD k = false) (due : c.dt.getD k 0 ≤ s.field.pairRun.getD k 0) : pairDiscrepancy k s =
      raise (modField s fun x => { x with pairf := setBit x.pairf k true }) 69 (u32 k) (u32 (c.dt.getD k 0)) s.field.tick := by
  unfold pairDiscrepancy
  rw [config]
  exact if_pos ⟨pair, free, due⟩

theorem pairDiscrepancy_latched {s : State} {k : Nat} (h : s.field.pairf.getLsbD k = true) : pairDiscrepancy k s = s := by
  unfold pairDiscrepancy
  split
  · rfl
  · exact if_neg fun both => by rw [h] at both; exact absurd both.2.1 (by decide)

theorem pairResetRequest_eq (t : Time) (s : State) (ch : Fin 8) (mask : U32) : exec (.pairResetRequest t ch mask) s =
    writeAt t s ch.val fun s => needAuth s ch.val fun s => writePairReset s mask := rfl

theorem writePairReset_fits {s : State} {mask : U32} (h : mask.toNat ≤ 0xFFFFFF) : writePairReset s mask = .ok (modField s fun x =>
    { x with pairReq := x.pairReq ++ [(BitVec.ofNat 24 mask.toNat, s.now)] }) := refuseUnless_true (decide_eq_true h)

theorem writePairReset_wide {s : State} {mask : U32} (h : 0xFFFFFF < mask.toNat) : writePairReset s mask = .error 0x0230 :=
  refuseUnless_false (decide_eq_false (Nat.not_le.mpr h))

/-- The reset edge of a pair. -/
def pairEdgeTaken (k : Nat) (s : State) : State :=
  if s.field.pairEdge.getLsbD k then
    modField s fun x =>
      let x1 := { x with pairEdge := setBit x.pairEdge k false }
      if x.pairSafe.getLsbD k then { x1 with pairf := setBit x.pairf k false } else { x1 with pairIgn := x.pairIgn + 1 }
  else s

theorem pairReset_eq (t : Time) (s : State) (k : Fin 24) : exec (.pairReset t k) s = at_ t s (pairEdgeTaken k.val) := rfl

theorem pairEdgeTaken_safe {s : State} {k : Nat} (edge : s.field.pairEdge.getLsbD k = true) (safe : s.field.pairSafe.getLsbD k = true) :
    pairEdgeTaken k s = modField s fun x => { x with pairEdge := setBit x.pairEdge k false, pairf := setBit x.pairf k false } := by
  simp [pairEdgeTaken, edge, modField, safe]

theorem pairEdgeTaken_unsafe {s : State} {k : Nat} (edge : s.field.pairEdge.getLsbD k = true) (risky : s.field.pairSafe.getLsbD k = false) :
    pairEdgeTaken k s = modField s fun x => { x with pairEdge := setBit x.pairEdge k false, pairIgn := x.pairIgn + 1 } := by
  simp [pairEdgeTaken, edge, modField, risky]

/-- The three ticks of a converter mismatch. -/
def converterDiffers (i : Nat) (s : State) : State :=
  if 3 ≤ s.field.aiRun.getD i 0 ∧ s.field.aiflt.getLsbD i = false then
    raise (modField s fun x => { x with aiflt := setBit x.aiflt i true }) 68 (u32 (0x40 + i)) 7 (u32 s.field.iout)
  else s

theorem aiConverterMismatch_eq (t : Time) (s : State) (i : Fin 4) : exec (.aiConverterMismatch t i) s = at_ t s (converterDiffers i.val) := rfl

/-- A new reset edge is noted with what the pair reads at its frame. -/
theorem noteEdges_pair (s : State) {k : Nat} (h : k < 24) (was : s.field.votedPrst.getLsbD k = false)
    (now : (noteEdges s).field.votedPrst.getLsbD k = true) :
    (noteEdges s).field.pairEdge.getLsbD k = true ∧ (noteEdges s).field.pairSafe.getLsbD k = pairRestrictive s.field k := by
  have voted : (votedBits s fun f => f.w4).getLsbD k = true := now
  simp only [noteEdges, modField, BitVec.getLsbD_or, BitVec.getLsbD_and, BitVec.getLsbD_not, getLsbD_bits24 _ h, voted, was, h]
  simp

/-- An evaluation leaves the edges, and what a pair reads. -/
theorem gateEval_edges (s : State) : (gateEval s).field.votedPrst = s.field.votedPrst ∧ (gateEval s).field.pairEdge = s.field.pairEdge ∧
    (gateEval s).field.pairSafe = s.field.pairSafe ∧ (gateEval s).field.votedOrst = s.field.votedOrst ∧
    (gateEval s).field.outEdge = s.field.outEdge ∧ (gateEval s).field.outSafe = s.field.outSafe ∧
    (gateEval s).field.dorb = s.field.dorb := ⟨rfl, rfl, rfl, rfl, rfl, rfl, rfl⟩

/-- What a pair reads is the configuration's and the filtered levels'. -/
theorem pairRestrictive_congr {x y : FieldSt} (config : x.config = y.config) (di : x.di = y.di) (k : Nat) :
    pairRestrictive x k = pairRestrictive y k := by
  simp only [pairRestrictive, config, di]

theorem gateEval_inputs (s : State) : (gateEval s).field.config = s.field.config ∧ (gateEval s).field.di = s.field.di := ⟨rfl, rfl⟩

theorem noteEdges_inputs (s : State) : (noteEdges s).field.config = s.field.config ∧ (noteEdges s).field.di = s.field.di := by
  unfold noteEdges modField
  exact ⟨rfl, rfl⟩

theorem pairRestrictive_evaluated (s : State) (k : Nat) :
    pairRestrictive (gateEval (noteEdges s)).field k = pairRestrictive s.field k :=
  pairRestrictive_congr ((gateEval_inputs _).1.trans (noteEdges_inputs s).1) ((gateEval_inputs _).2.trans (noteEdges_inputs s).2) k

theorem received_votedPrst (ln : Lane) (f : Option DownFrame) (s : State) : (received ln f s).field.votedPrst = s.field.votedPrst ∧
    (received ln f s).field.votedOrst = s.field.votedOrst := by
  cases f with
  | none => exact ⟨rfl, rfl⟩
  | some x =>
    unfold received receiveDown modBar
    dsimp only
    repeat' split
    all_goals exact ⟨rfl, rfl⟩

/-- Settles O35: every latch has one command that sets it, and the reset edge is the only one that clears it. -/
theorem inputFaultsLatchUntilReset : Obligations.InputFaultsLatchUntilReset := by
  intro t s ch mask k i ln f
  refine ⟨fun c config pair free due quiet => ?_, fun latched => ?_, fun serves auth fits => ?_, fun serves auth wide => ?_, fun up => ?_,
    fun edge safe => ?_, fun edge risky => ?_, fun idle => ?_, fun due free quiet => ?_, fun early => ?_⟩
  · exact runs_fieldRaise (pairDiscrepancyLatch_eq t s k) (pairDiscrepancy_latches (s := s.atTime t) config pair free due) quiet (by decide)
  · exact runs_idle (pairDiscrepancyLatch_eq t s k) (pairDiscrepancy_latched latched)
  · exact runs_writeStill (l := [.field, .host]) (pairResetRequest_eq t s ch mask) serves
      (needAuth_granted auth (writePairReset_fits fits)) ((modField_frame _ _).mono (by decide)) (by decide) (by decide)
  · exact runs_refused (pairResetRequest_eq t s ch mask) serves (needAuth_granted auth (writePairReset_wide wide))
  · refine answers_evaluation up fun was now => ?_
    obtain ⟨hp, -⟩ := received_votedPrst ln f (s.atTime t)
    obtain ⟨hvoted, hedge, hsafe, -⟩ := gateEval_edges (noteEdges (received ln f (s.atTime t)))
    rw [hvoted] at now
    rw [hedge, hsafe, pairRestrictive_evaluated]
    exact noteEdges_pair (received ln f (s.atTime t)) k.isLt (by rw [hp]; exact was) now
  · exact runs_field (pairReset_eq t s k) (pairEdgeTaken_safe edge safe)
  · exact runs_field (pairReset_eq t s k) (pairEdgeTaken_unsafe edge risky)
  · exact runs_idle (pairReset_eq t s k) (if_neg (by rw [show (s.atTime t).field.pairEdge.getLsbD k.val = false from idle]; decide))
  · exact runs_fieldRaise (aiConverterMismatch_eq t s i) (if_pos ⟨due, free⟩) quiet (by decide)
  · exact runs_idle (aiConverterMismatch_eq t s i) (if_neg fun both => by
      have three : 3 ≤ s.field.aiRun.getD i.val 0 := both.1
      omega)

end Sys2Proof.Machine
end

section
/-!
PROOFS. The outputs of the field side, its configuration and its supply (O36, O37).
-/

namespace Sys2Proof.Machine

/-! ### Single bits -/

theorem getLsbD_setBit {w : Nat} (v : BitVec w) (k j : Nat) (on : Bool) :
    (setBit v k on).getLsbD j = if j = k then on && decide (k < w) else v.getLsbD j := by
  have bit : (BitVec.ofNat w (2 ^ k)).getLsbD j = (decide (j < w) && decide (k = j)) := by
    rw [BitVec.getLsbD_ofNat, Nat.testBit_two_pow]
  have out : ¬ j < w → v.getLsbD j = false := fun h => BitVec.getLsbD_of_ge v j (Nat.not_lt.mp h)
  unfold setBit
  generalize BitVec.ofNat w (2 ^ k) = m at bit
  by_cases h : j = k
  · subst h
    by_cases hw : j < w
    · cases on <;> simp only [Bool.false_eq_true, if_true, if_false, BitVec.getLsbD_or, BitVec.getLsbD_and, BitVec.getLsbD_not, bit] <;>
        simp [hw]
    · cases on <;> simp only [Bool.false_eq_true, if_true, if_false, BitVec.getLsbD_or, BitVec.getLsbD_and, bit, out hw] <;> simp [hw]
  · have other : k ≠ j := fun e => h e.symm
    have apart : (decide (j < w) && decide (k = j)) = false := by simp [other]
    rw [apart] at bit
    rw [if_neg h]
    by_cases hw : j < w
    · cases on <;> simp only [Bool.false_eq_true, if_true, if_false, BitVec.getLsbD_or, BitVec.getLsbD_and, BitVec.getLsbD_not, bit] <;>
        simp [hw]
    · cases on <;> simp only [Bool.false_eq_true, if_true, if_false, BitVec.getLsbD_or, BitVec.getLsbD_and, bit, out hw] <;> simp

theorem getLsbD_setBits {w : Nat} (l : List Nat) (v : BitVec w) (j : Nat) :
    (l.foldl (fun v k => setBit v k true) v).getLsbD j = ((decide (j ∈ l) && decide (j < w)) || v.getLsbD j) := by
  induction l generalizing v with
  | nil => simp
  | cons k l ih =>
    rw [List.foldl_cons, ih, getLsbD_setBit]
    by_cases h : j = k
    · subst h
      by_cases hw : j < w
      · simp [hw]
      · simp [hw, BitVec.getLsbD_of_ge v j (Nat.not_lt.mp hw)]
    · simp [h]

/-! ### Latched outputs (R212, R214) -/

theorem mem_outputGroup (c : FieldConfig) (d : Nat) : d ∈ outputGroup c d := by
  unfold outputGroup
  split
  · exact List.mem_map.mpr ⟨d % 4, List.mem_range.mpr (Nat.mod_lt d (by decide)), Nat.div_add_mod' d 4⟩
  split
  · rcases Nat.mod_two_eq_zero_or_one d with h | h <;> simp <;> omega
  · exact List.mem_singleton.mpr rfl

/-- A latched output is not energised. -/
theorem energised_latched {s : State} {d : Nat} (h : s.field.doflt.getLsbD d = true) : energised s d = false := by
  rw [Bool.eq_false_iff]
  intro on
  obtain ⟨c, -, -, -, -, free, -⟩ := (energised_iff s d).mp on
  rw [free d (mem_outputGroup c d)] at h
  exact absurd h (by decide)

theorem mem_latchedWith (s : State) (d : Nat) : d ∈ latchedWith s d := by
  unfold latchedWith
  cases s.field.config with
  | none => exact List.mem_singleton.mpr rfl
  | some c => exact mem_outputGroup c d

theorem latchOutput_doflt (s : State) (d : Nat) {k : Nat} (h : k ∈ latchedWith s d) (hk : k < 24) :
    (latchOutput s d).field.doflt.getLsbD k = true :=
  (getLsbD_setBits (latchedWith s d) s.field.doflt k).trans (by simp [h, hk])

/-- An output fault with source 68, which acts in its block only. -/
theorem outputFault_eq {s : State} {d : Nat} (quiet : Quiet s 68) (reason : U32) :
    outputFault s d reason = gateEval (recordRaise (latchOutput s d) 68 false (u32 d) reason (u32 s.field.iout)) :=
  congrArg gateEval (raise_minor (s := latchOutput s d) quiet (by decide) _ _ _)

theorem latchOutput_frame (s : State) (d : Nat) : Frame [.field] s (latchOutput s d) := modField_frame _ _

/-- The frame of a change of the field side, a raise in the book, and an evaluation. -/
theorem evaluatedRaise_frame {s x : State} (h : Frame [.field] s x) (n : Nat) (p1 p2 p3 : U32) :
    Frame [.field, .constable] s (gateEval (recordRaise x n false p1 p2 p3)) :=
  (h.mono (by decide)).trans (((recordRaise_frame x n false p1 p2 p3).mono (by decide)).trans ((gateEval_frame _).mono (by decide)))

/-- What an output fault leaves of a state whose sources, supply reading and configuration are the command's. -/
theorem outputFault_latched {s x : State} {d : Nat} (hd : d < 24) (quiet : Quiet s 68) (reason : U32) {t : Time}
    (frame : Frame [.field] (s.atTime t) x) (config : x.field.config = s.field.config) (iout : x.field.iout = s.field.iout) :
    OutputLatched s (outputFault x d reason) d reason ∧ Frame [.field, .constable] (s.atTime t) (outputFault x d reason) := by
  have con : x.constable = s.constable := frame .constable (by decide)
  have sources : source x 68 = source s 68 := by simp only [source, con]
  have quiet' : Quiet x 68 := by simpa only [Quiet, sources] using quiet
  have members : latchedWith x d = latchedWith s d := by simp only [latchedWith, config]
  have all := evaluatedRaise_frame (frame.trans (latchOutput_frame x d)) 68 (u32 d) reason (u32 x.field.iout)
  rw [outputFault_eq quiet']
  have field : (recordRaise (latchOutput x d) 68 false (u32 d) reason (u32 x.field.iout)).field = (latchOutput x d).field :=
    (recordRaise_frame _ _ _ _ _ _) .field (by decide)
  have latched : ∀ k ∈ latchedWith s d, k < 24 →
      (recordRaise (latchOutput x d) 68 false (u32 d) reason (u32 x.field.iout)).field.doflt.getLsbD k = true := by
    intro k hk small
    rw [field]
    exact latchOutput_doflt x d (members ▸ hk) small
  refine ⟨⟨latched, ?_, ?_, ?_⟩, all⟩
  · rw [gateEval_gate _ hd]
    exact energised_latched (latched d (mem_latchedWith s d) hd)
  · rw [iout]
    exact raised_recordRaise (x := latchOutput x d) sources _ _ _
  · exact ((frame_atTime s t).mono (by decide)).trans (all.mono (by decide))

theorem answers_outputFault {c : Instr} {t : Time} {s x : State} {d : Fin 24} {f : State → State} {reason : U32}
    (hc : exec c s = at_ t s f) (hf : f (s.atTime t) = outputFault x d.val reason) (quiet : Quiet s 68)
    (frame : Frame [.field] (s.atTime t) x) (config : x.field.config = s.field.config) (iout : x.field.iout = s.field.iout) :
    Answers c s fun s' => OutputLatched s s' d.val reason := by
  obtain ⟨latched, all⟩ := outputFault_latched d.isLt quiet reason frame config iout
  exact answers_still hc (hf ▸ all) (by decide) (hf ▸ latched)

/-! ### The commands of the output checks -/

/-- The total of the outputs has been too high. -/
def totalTrip (s : State) : State :=
  match s.field.iouSince with
  | some since =>
    if since + ms 10 ≤ s.now ∧ 900 < s.field.iout then
      gateEval (raise (modField s fun x => { x with doflt := 0xFFFFFF }) 68 0xFF 5 (u32 s.field.iout))
    else s
  | none => s

theorem outputTotalTrip_eq (t : Time) (s : State) : exec (.outputTotalTrip t) s = at_ t s totalTrip := rfl

theorem totalTrip_idle {s : State} (h : s.field.iouSince = none ∨ s.field.iout ≤ 900) : totalTrip s = s := by
  unfold totalTrip
  split
  next since =>
    obtain none | low := h
    · rw [none] at since
      cases since
    · exact if_neg fun both => absurd both.2 (Nat.not_lt.mpr low)
  · rfl

/-- The gate is empty where every output is latched. -/
theorem gateEval_dark {s : State} (h : ∀ d < 24, energised s d = false) : (gateEval s).field.gate = 0 := by
  refine BitVec.eq_of_getLsbD_eq fun d hd => ?_
  rw [gateEval_gate s hd, h d hd]
  simp

theorem answers_totalTrip {t : Time} {s : State} {x : Time} (quiet : Quiet s 68) (since : s.field.iouSince = some x) (due : x + ms 10 ≤ t)
    (high : 900 < s.field.iout) : Answers (.outputTotalTrip t) s fun s' =>
      s'.field.doflt = 0xFFFFFF ∧ s'.field.gate = 0 ∧ Raised s s' 68 0xFF 5 (u32 s.field.iout) ∧
        Frame [.now, .field, .constable] s s' := by
  have eq : totalTrip (s.atTime t) = gateEval (recordRaise (modField (s.atTime t) fun x => { x with doflt := 0xFFFFFF }) 68 false 0xFF 5
      (u32 s.field.iout)) := by
    unfold totalTrip
    rw [show (s.atTime t).field.iouSince = some x from since]
    refine (if_pos ⟨due, high⟩).trans (congrArg gateEval ?_)
    exact raise_minor (s := modField (s.atTime t) fun x => { x with doflt := 0xFFFFFF }) quiet (by decide) _ _ _
  generalize hx : modField (s.atTime t) (fun x => { x with doflt := 0xFFFFFF }) = x1 at eq
  have frame : Frame [.field] (s.atTime t) x1 := hx ▸ modField_frame _ _
  have all := evaluatedRaise_frame frame 68 0xFF 5 (u32 s.field.iout)
  have doflt : (recordRaise x1 68 false 0xFF 5 (u32 s.field.iout)).field.doflt = 0xFFFFFF := by
    rw [show (recordRaise x1 68 false 0xFF 5 (u32 s.field.iout)).field = x1.field from (recordRaise_frame _ _ _ _ _ _) .field (by decide), ← hx]
    rfl
  refine answers_still (outputTotalTrip_eq t s) (eq ▸ all) (by decide) (eq ▸ ⟨doflt, gateEval_dark fun d hd => ?_, ?_, ?_⟩)
  · refine energised_latched ?_
    rw [doflt]
    interval_cases d <;> rfl
  · exact raised_recordRaise (x := x1) (by rw [← hx]; rfl) _ _ _
  · exact ((frame_atTime s t).mono (by decide)).trans (all.mono (by decide))

/-- The two samples of a test pulse. -/
def pulsed (d : Nat) (high1 high2 : Bool) (s : State) : State :=
  let tested := s.field.gate.getLsbD d && s.field.config.any fun c => !c.tpdis.getLsbD d
  if tested ∧ (high1 ∨ high2) then
    outputFault (modField s fun x => { x with pulseFail := x.pulseFail + 1 }) d (if high1 then 2 else 3)
  else s

theorem outputTestPulse_eq (t : Time) (s : State) (d : Fin 24) (h1 h2 : Bool) :
    exec (.outputTestPulse t d h1 h2) s = at_ t s (pulsed d.val h1 h2) := rfl

theorem pulsed_fails {s : State} {d : Nat} {h1 h2 : Bool} {c : FieldConfig} (config : s.field.config = some c)
    (tested : c.tpdis.getLsbD d = false) (gate : s.field.gate.getLsbD d = true) (high : h1 = true ∨ h2 = true) :
    pulsed d h1 h2 s = outputFault (modField s fun x => { x with pulseFail := x.pulseFail + 1 }) d (if h1 then 2 else 3) := by
  unfold pulsed
  exact if_pos ⟨by rw [config, gate]; simp [tested], high⟩

theorem pulsed_idle {s : State} {d : Nat} {h1 h2 : Bool} (h : s.field.gate.getLsbD d = false ∨ (h1 = false ∧ h2 = false)) :
    pulsed d h1 h2 s = s := by
  unfold pulsed
  refine if_neg fun both => ?_
  obtain off | ⟨low1, low2⟩ := h
  · rw [off] at both
    exact absurd both.1 (by simp)
  · rw [low1, low2] at both
    exact absurd both.2 (by simp)

/-- A readback, 2 ms after the output was switched. -/
def readback (d : Nat) (high : Bool) (s : State) : State :=
  let s1 := modField s fun x => { x with dorb := setBit x.dorb d high }
  if s.field.gate.getLsbD d = high ∨ heldFor s d (ms 2) = false then endStuckOn s1
  else if high then raise s1 67 (u32 d) (u32 s1.field.dorb.toNat) s.cyc.number
  else outputFault s1 d 1

theorem outputReadbackFault_eq (t : Time) (s : State) (d : Fin 24) (high : Bool) :
    exec (.outputReadbackFault t d high) s = at_ t s (readback d.val high) := rfl

theorem readback_agrees (s : State) (d : Nat) : readback d (s.field.gate.getLsbD d) s =
    endStuckOn (modField s fun x => { x with dorb := setBit x.dorb d (s.field.gate.getLsbD d) }) := if_pos (.inl rfl)

theorem readback_differs {s : State} {d : Nat} {high : Bool} (gate : s.field.gate.getLsbD d = !high) (long : heldFor s d (ms 2) = true) :
    readback d high s = if high then raise (modField s fun x => { x with dorb := setBit x.dorb d high }) 67 (u32 d)
        (u32 (setBit s.field.dorb d high).toNat) s.cyc.number
      else outputFault (modField s fun x => { x with dorb := setBit x.dorb d high }) d 1 := by
  unfold readback
  refine if_neg ?_
  rw [gate, long]
  cases high <;> simp

theorem endStuckOn_frame (s : State) : Frame [.constable] s (endStuckOn s) := by
  unfold endStuckOn
  split
  · exact withdraw_frame s 67
  · exact .refl _ _

/-- The feedback of an output, at the level that the comparison finds. -/
def feedback (d : Nat) (level : Bool) (s : State) : State :=
  match s.field.config with
  | none => s
  | some c =>
    let on := s.field.gate.getLsbD d
    let fb := (c.fbin.getD d 0).toNat
    if fb.testBit 7 ∧ s.field.di.getLsbD (fb % 64) = level ∧ level = on ∧ heldFor s d (ms c.fbt) then outputFault s d 6 else s

theorem outputFeedbackFault_eq (t : Time) (s : State) (d : Fin 24) (level : Bool) :
    exec (.outputFeedbackFault t d level) s = at_ t s (feedback d.val level) := rfl

theorem feedback_fails {s : State} {d : Nat} {c : FieldConfig} (config : s.field.config = some c)
    (enabled : (c.fbin.getD d 0).toNat.testBit 7 = true) (long : heldFor s d (ms c.fbt) = true)
    (same : s.field.di.getLsbD ((c.fbin.getD d 0).toNat % 64) = s.field.gate.getLsbD d) :
    feedback d (s.field.gate.getLsbD d) s = outputFault s d 6 := by
  unfold feedback
  rw [config]
  exact if_pos ⟨enabled, same, rfl, long⟩

theorem feedback_idle {s : State} {d : Nat} {level : Bool} (h : level ≠ s.field.gate.getLsbD d ∨
    ∃ c, s.field.config = some c ∧ s.field.di.getLsbD ((c.fbin.getD d 0).toNat % 64) ≠ s.field.gate.getLsbD d) :
    feedback d level s = s := by
  unfold feedback
  split
  · rfl
  next c config =>
    refine if_neg fun ⟨_, found, on, _⟩ => ?_
    obtain other | ⟨c', config', differs⟩ := h
    · exact other on
    · rw [config] at config'
      cases config'
      exact differs (found.trans on)

/-! ### Reset requests and reset edges (R215) -/

theorem outputResetRequest_eq (t : Time) (s : State) (ch : Fin 8) (mask : U32) : exec (.outputResetRequest t ch mask) s =
    writeAt t s ch.val fun s => needAuth s ch.val fun s => writeOutputReset s mask := rfl

theorem writeOutputReset_fits {s : State} {mask : U32} (h : mask.toNat ≤ 0xFFFFFF) : writeOutputReset s mask = .ok (modField s fun x =>
    { x with outReq := x.outReq ++ [(BitVec.ofNat 24 mask.toNat, s.now)] }) := refuseUnless_true (decide_eq_true h)

theorem writeOutputReset_wide {s : State} {mask : U32} (h : 0xFFFFFF < mask.toNat) : writeOutputReset s mask = .error 0x0230 :=
  refuseUnless_false (decide_eq_false (Nat.not_le.mpr h))

/-- The reset edge of an output. -/
def outEdgeTaken (d : Nat) (s : State) : State :=
  if s.field.outEdge.getLsbD d then
    let s1 := modField s fun x => { x with outEdge := setBit x.outEdge d false }
    if s.field.outSafe.getLsbD d then gateEval (modField s1 fun x => { x with doflt := setBit x.doflt d false })
    else modField s1 fun x => { x with outIgn := x.outIgn + 1 }
  else s

theorem outputReset_eq (t : Time) (s : State) (d : Fin 24) : exec (.outputReset t d) s = at_ t s (outEdgeTaken d.val) := rfl

theorem outEdgeTaken_safe {s : State} {d : Nat} (edge : s.field.outEdge.getLsbD d = true) (safe : s.field.outSafe.getLsbD d = true) :
    outEdgeTaken d s = gateEval (modField s fun x => { x with
      outEdge := setBit x.outEdge d false, doflt := setBit x.doflt d false }) := by
  unfold outEdgeTaken
  rw [if_pos edge]
  exact if_pos safe

theorem outEdgeTaken_risky {s : State} {d : Nat} (edge : s.field.outEdge.getLsbD d = true) (risky : s.field.outSafe.getLsbD d = false) :
    outEdgeTaken d s = modField s fun x => { x with outEdge := setBit x.outEdge d false, outIgn := x.outIgn + 1 } := by
  unfold outEdgeTaken
  rw [if_pos edge, risky]
  rfl

/-- A new reset edge is noted with what the two frames command and the readback shows. -/
theorem noteEdges_out (s : State) {d : Nat} (h : d < 24) (was : s.field.votedOrst.getLsbD d = false)
    (now : (noteEdges s).field.votedOrst.getLsbD d = true) :
    (noteEdges s).field.outEdge.getLsbD d = true ∧
      (noteEdges s).field.outSafe.getLsbD d = (resetFramesOff s d && !s.field.dorb.getLsbD d) := by
  have voted : (votedBits s fun f => f.w5).getLsbD d = true := now
  simp only [noteEdges, modField, BitVec.getLsbD_or, BitVec.getLsbD_and, BitVec.getLsbD_not, getLsbD_bits24 _ h, voted, was, h]
  simp

/-- The frames of the fresh lanes are what the barrier channels hold. -/
theorem resetFramesOff_congr {s x : State} (bar : x.field.bar = s.field.bar) (d : Nat) : resetFramesOff x d = resetFramesOff s d := by
  simp only [resetFramesOff, freshFrames, bar]

theorem noteEdges_rest (s : State) : (noteEdges s).field.bar = s.field.bar ∧ (noteEdges s).field.dorb = s.field.dorb := by
  unfold noteEdges modField
  exact ⟨rfl, rfl⟩

theorem gateEval_bar (s : State) : (gateEval s).field.bar = s.field.bar := rfl

/-- An evaluation leaves the frames. -/
theorem resetFramesOff_evaluated (s : State) (d : Nat) : resetFramesOff (gateEval (noteEdges s)) d = resetFramesOff s d :=
  resetFramesOff_congr ((gateEval_bar _).trans (noteEdges_rest s).1) d

/-- Settles O36: one lemma for what every output fault latches, with its own command's condition for each. That a feedback fault whose
level is not the filtered one does nothing is log entry 143. -/
theorem outputFaultsLatchUntilTheirEdge : Obligations.OutputFaultsLatchUntilTheirEdge := by
  refine ⟨fun t s d h1 h2 => ⟨fun quiet => ⟨?_, fun c config tested gate => ⟨fun high => ?_, fun low high => ?_⟩, fun gate long => ?_, ?_,
    fun c config enabled long same => ?_⟩, fun on hr gate long => ?_, fun idle => ?_, fun idle => ?_, ?_, ?_, fun c config differs => ?_,
    fun other => ?_⟩, fun t s ch mask d ln f => ⟨fun serves auth fits => ?_, fun serves auth wide => ?_, fun serves strange => ?_,
    fun up => ?_, fun edge safe => ?_, fun edge risky => ?_, fun idle => ?_⟩⟩
  · exact fun x since due high => answers_totalTrip quiet since due high
  · refine answers_outputFault (outputTestPulse_eq t s d h1 h2) ?_ quiet (modField_frame _ fun x => { x with pulseFail := x.pulseFail + 1 })
      rfl rfl
    rw [pulsed_fails (s := s.atTime t) config tested gate (.inl high), high]
    rfl
  · refine answers_outputFault (outputTestPulse_eq t s d h1 h2) ?_ quiet (modField_frame _ fun x => { x with pulseFail := x.pulseFail + 1 })
      rfl rfl
    rw [pulsed_fails (s := s.atTime t) config tested gate (.inr high), low]
    rfl
  · exact answers_outputFault (outputReadbackFault_eq t s d false) (readback_differs (s := s.atTime t) gate long) quiet
      (modField_frame _ _) rfl rfl
  · exact answers_outputFault (f := fun s => outputFault s d.val 4) rfl rfl quiet (.refl _ _) rfl rfl
  · exact answers_outputFault (outputFeedbackFault_eq t s d _) (feedback_fails (s := s.atTime t) config enabled long same) quiet
      (.refl _ _) rfl rfl
  · exact (answers_moduleStops (outputReadbackFault_eq t s d true) (readback_differs (s := s.atTime t) gate long) on rfl rfl hr rfl
      (by decide)).imp fun _ h => h.1
  · exact runs_idle (outputTotalTrip_eq t s) (totalTrip_idle idle)
  · exact runs_idle (outputTestPulse_eq t s d h1 h2) (pulsed_idle (.inl idle))
  · exact runs_idle (outputTestPulse_eq t s d false false) (pulsed_idle (.inr ⟨rfl, rfl⟩))
  · exact runs_still (l := [.field, .constable]) (outputReadbackFault_eq t s d _) (readback_agrees (s.atTime t) d.val)
      (((modField_frame _ _).mono (by decide)).trans ((endStuckOn_frame _).mono (by decide))) (by decide)
  · exact runs_idle (outputFeedbackFault_eq t s d h1) (feedback_idle (.inr ⟨c, config, differs⟩))
  · exact runs_idle (outputFeedbackFault_eq t s d h1) (feedback_idle (.inl other))
  · exact runs_writeStill (l := [.field, .host]) (outputResetRequest_eq t s ch mask) serves
      (needAuth_granted auth (writeOutputReset_fits fits)) ((modField_frame _ _).mono (by decide)) (by decide) (by decide)
  · exact runs_refused (outputResetRequest_eq t s ch mask) serves (needAuth_granted auth (writeOutputReset_wide wide))
  · exact runs_refused (outputResetRequest_eq t s ch mask) serves
      (if_neg (by rw [show authorised (s.atTime t) ch.val = false from strange]; decide))
  · refine answers_evaluation up fun was now => ?_
    obtain ⟨-, ho⟩ := received_votedPrst ln f (s.atTime t)
    obtain ⟨-, -, -, hvoted, hedge, hsafe, hdorb⟩ := gateEval_edges (noteEdges (received ln f (s.atTime t)))
    rw [hvoted] at now
    rw [hedge, hsafe, hdorb, (noteEdges_rest _).2, resetFramesOff_evaluated]
    exact noteEdges_out (received ln f (s.atTime t)) d.isLt (by rw [ho]; exact was) now
  · have eq := outEdgeTaken_safe (s := s.atTime t) edge safe
    have frame := (modField_frame (s.atTime t) fun x => { x with
      outEdge := setBit x.outEdge d.val false, doflt := setBit x.doflt d.val false }).trans (gateEval_frame _)
    refine answers_still (outputReset_eq t s d) (eq ▸ frame) (by decide) (eq ▸ ⟨rfl, rfl, rfl, ?_⟩)
    exact ((frame_atTime s t).mono (by decide)).trans (frame.mono (by decide))
  · exact runs_field (outputReset_eq t s d) (outEdgeTaken_risky edge risky)
  · exact runs_idle (outputReset_eq t s d) (if_neg (by rw [show (s.atTime t).field.outEdge.getLsbD d.val = false from idle]; decide))

end Sys2Proof.Machine
end

section
/-!
PROOFS. The configuration and the supply of the field side (O37).
-/

namespace Sys2Proof.Machine

/-! ### Field configuration (R204) -/

theorem assembled_atTime (s : State) (t : Time) : assembled (s.atTime t) = assembled s := by
  have pages : agreedPage (s.atTime t) = agreedPage s := rfl
  simp only [assembled, pages]

/-- The record is in force. -/
def configured (c : FieldConfig) (x : FieldSt) : FieldSt := { x with
  unconf := false, config := some c, configSince := none, bar := x.bar.map fun b => { b with pages := [] } }

/-- The assembled record is applied. -/
def applyConfig (s : State) : State :=
  match assembled s with
  | some c => if s.field.unconf && fieldUp s then gateEval (modField s (configured c)) else s
  | none => s

theorem fieldConfigApply_eq (t : Time) (s : State) : exec (.fieldConfigApply t) s = at_ t s applyConfig := rfl

theorem applyConfig_applies {s : State} {c : FieldConfig} (record : assembled s = some c) (unconf : s.field.unconf = true)
    (up : fieldUp s = true) : applyConfig s = gateEval (modField s (configured c)) := by
  unfold applyConfig
  rw [record]
  exact if_pos (by rw [unconf, up]; rfl)

theorem applyConfig_idle {s : State} (h : assembled s = none ∨ s.field.unconf = false) : applyConfig s = s := by
  unfold applyConfig
  split
  next c record =>
    obtain none | done := h
    · rw [none] at record
      cases record
    · exact if_neg (by simp [done])
  · rfl

/-- What an evaluation of the field side's records leaves of them. -/
theorem gateEval_supply (s : State) : (gateEval s).field.config = s.field.config ∧ (gateEval s).field.unconf = s.field.unconf ∧
    (gateEval s).field.configSince = s.field.configSince ∧ (gateEval s).field.flost = s.field.flost ∧
    (gateEval s).field.epoch = s.field.epoch ∧ (gateEval s).field.flow = s.field.flow ∧
    (gateEval s).field.lostEvents = s.field.lostEvents ∧ (gateEval s).field.tick = s.field.tick :=
  ⟨rfl, rfl, rfl, rfl, rfl, rfl, rfl, rfl⟩

/-- The configuration has been awaited for its time. -/
def configLate (s : State) : State :=
  match s.field.configSince with
  | some since => if s.field.unconf ∧ since + ms 100 ≤ s.now then raiseFieldSide s 2 else s
  | none => s

theorem fieldConfigTimeout_eq (t : Time) (s : State) : exec (.fieldConfigTimeout t) s = at_ t s configLate := rfl

theorem configLate_due {s : State} {t x : Time} (since : s.field.configSince = some x) (unconf : s.field.unconf = true)
    (due : x + ms 100 ≤ t) : configLate (s.atTime t) = raise (s.atTime t) 79 2 none32 s.field.tick := by
  unfold configLate
  rw [show (s.atTime t).field.configSince = some x from since]
  exact if_pos ⟨unconf, due⟩

theorem configLate_idle {s : State} (h : s.field.configSince = none ∨ s.field.unconf = false) : configLate s = s := by
  unfold configLate
  split
  next since =>
    obtain none | done := h
    · rw [none] at since
      cases since
    · exact if_neg fun both => by rw [done] at both; exact absurd both.1 (by decide)
  · rfl

/-- The controller's power-up state. -/
def poweredField (x : FieldSt) : FieldSt := { x with
  bar := x.bar.map fun b => { b with latest := none, stale := true, resync := false, pages := [] }
  unconf := true, config := none, flost := true, epoch := 0, flow := false, kstuck := false,
  seq := 0, tick := 0, di := 0, diRun := [], keycnt := 0, aiflt := 0, aiRun := [], pairRun := [],
  cnt := [], aacc := [], configSince := none, iouSince := none, votedPrst := 0, votedOrst := 0,
  pairEdge := 0, outEdge := 0, pairSafe := 0, outSafe := 0, lowSince := none, okSince := none, keyOn := ⟨none, none⟩, keyOff := none }

/-- The controller begins afresh. -/
def sideReset (s : State) : State :=
  if fieldUp s = false then s else
  let s2 := gateEval (modField s fun _ => poweredField s.field)
  if cyclic s.modes.mode ∧ s.modes.mode ≠ .watch then raiseFieldSide s2 2 else s2

theorem fieldSideReset_eq (t : Time) (s : State) : exec (.fieldSideReset t) s = at_ t s sideReset := rfl

theorem sideReset_up {s : State} (up : fieldUp s = true) : sideReset s =
    if cyclic s.modes.mode ∧ s.modes.mode ≠ .watch then
      raise (gateEval (modField s fun _ => poweredField s.field)) 79 2 none32 0
    else gateEval (modField s fun _ => poweredField s.field) := if_neg (by rw [up]; decide)

/-- Without a configuration, or with the latch set, nothing is driven. -/
theorem gateEval_Dark {s : State} (h : s.field.config = none ∨ s.field.flost = true) (off : lanternRuns s = false) : Dark (gateEval s) := by
  refine ⟨gateEval_dark fun d _ => ?_, off⟩
  rw [Bool.eq_false_iff]
  intro on
  obtain ⟨c, config, -, live, -⟩ := (energised_iff s d).mp on
  obtain none | lost := h
  · rw [none] at config
    cases config
  · rw [lost] at live
    exact absurd live (by decide)

theorem lanternRuns_lost {s : State} (h : s.field.flost = true) : lanternRuns s = false := by simp [lanternRuns, h]

theorem gateEval_lost {s : State} (h : s.field.flost = true) : Dark (gateEval s) := gateEval_Dark (.inr h) (lanternRuns_lost h)

theorem poweredUp_of_field {r s' : State} (h : s'.field = r.field) (up : PoweredUp r) : PoweredUp s' := by
  unfold PoweredUp Dark at up ⊢
  rwa [h]

theorem sideReset_poweredUp (s : State) : PoweredUp (gateEval (modField s fun _ => poweredField s.field)) :=
  ⟨rfl, rfl, rfl, rfl, gateEval_lost rfl⟩

theorem fieldConfiguration (t : Time) (s : State) :
    (∀ c, assembled s = some c → s.field.unconf = true → fieldUp s = true →
      Answers (.fieldConfigApply t) s fun s' =>
        s'.field.config = some c ∧ s'.field.unconf = false ∧ s'.field.configSince = none ∧ s'.field.flost = s.field.flost ∧
          Frame [.now, .field] s s') ∧
    (assembled s = none ∨ s.field.unconf = false → Runs (.fieldConfigApply t) s (s.atTime t)) ∧
    (∀ x, s.field.configSince = some x → s.field.unconf = true → x + ms 100 ≤ t → On s → Raisable s t 79 →
      Answers (.fieldConfigTimeout t) s fun s' => ModuleStops s s' 79 2 none32 s.field.tick) ∧
    (s.field.configSince = none ∨ s.field.unconf = false → Runs (.fieldConfigTimeout t) s (s.atTime t)) ∧
    (fieldUp s = true →
      (cyclic s.modes.mode = true → s.modes.mode ≠ .watch → Raisable s t 79 →
        Answers (.fieldSideReset t) s fun s' => ModuleStops s s' 79 2 none32 0 ∧ PoweredUp s') ∧
      (cyclic s.modes.mode = false ∨ s.modes.mode = .watch →
        Answers (.fieldSideReset t) s fun s' => PoweredUp s' ∧ Frame [.now, .field] s s')) := by
  refine ⟨fun c record unconf up => ?_, fun idle => ?_, fun x since unconf due on hr => ?_, fun idle => ?_, fun up => ⟨fun cyc hm hr => ?_,
    fun quiet => ?_⟩⟩
  · have eq := applyConfig_applies (s := s.atTime t) ((assembled_atTime s t).trans record) unconf up
    have frame := (modField_frame (s.atTime t) (configured c)).trans (gateEval_frame _)
    refine answers_still (fieldConfigApply_eq t s) (eq ▸ frame) (by decide) (eq ▸ ⟨rfl, rfl, rfl, rfl, ?_⟩)
    exact ((frame_atTime s t).mono (by decide)).trans (frame.mono (by decide))
  · exact runs_idle (fieldConfigApply_eq t s) (applyConfig_idle (by rw [assembled_atTime]; exact idle))
  · exact (answers_moduleStops (fieldConfigTimeout_eq t s) (configLate_due since unconf due) on rfl rfl hr rfl (by decide)).imp
      fun _ h => h.1
  · exact runs_idle (fieldConfigTimeout_eq t s) (configLate_idle idle)
  · have eq := (sideReset_up (s := s.atTime t) up).trans (if_pos ⟨cyc, hm⟩)
    refine (answers_moduleStops (fieldSideReset_eq t s) eq (on_of_cyclic cyc) rfl rfl hr rfl (by decide)).imp fun s' ⟨stops, close⟩ => ?_
    exact ⟨stops, poweredUp_of_field (close.field.trans (by simp)) (sideReset_poweredUp (s.atTime t))⟩
  · have eq := (sideReset_up (s := s.atTime t) up).trans (if_neg fun both => by
      obtain off | watch := quiet
      · have on : cyclic s.modes.mode = true := both.1
        rw [off] at on
        exact absurd on (by decide)
      · exact both.2 watch)
    have frame := (modField_frame (s.atTime t) fun _ => poweredField s.field).trans (gateEval_frame _)
    refine answers_still (fieldSideReset_eq t s) (eq ▸ frame) (by decide) (eq ▸ ⟨sideReset_poweredUp (s.atTime t), ?_⟩)
    exact ((frame_atTime s t).mono (by decide)).trans (frame.mono (by decide))

/-! ### Field supply (R217) -/

/-- A reading below 19.2 V. -/
def lowVf (vf : Nat) (s : State) : State := if vf < 1920 ∧ fieldUp s then noteVf s vf else s

theorem fieldLow_eq (t : Time) (s : State) (vf : Nat) : exec (.fieldLow t vf) s = at_ t s (lowVf vf) := rfl

/-- What a low reading leaves in the field side's records. -/
def lowReading (vf : Nat) (now : Time) (x : FieldSt) : FieldSt := { readVf x vf now with flow := true }

theorem noteVf_low {s : State} {vf : Nat} (low : vf < 1920) :
    noteVf s vf = raise (modField s (lowReading vf s.now)) 70 (u32 vf) none32 none32 := if_pos low

theorem noteVf_good {s : State} {vf : Nat} (good : 1920 ≤ vf) : noteVf s vf = modField s fun x => readVf x vf s.now :=
  if_neg (Nat.not_lt.mpr good)

/-- A reading leaves the latch, the epoch and the counts, and times how long VF has been low or good. -/
theorem noteVf_field (s : State) (vf : Nat) : (noteVf s vf).field.flost = s.field.flost ∧ (noteVf s vf).field.epoch = s.field.epoch ∧
    (noteVf s vf).field.lostEvents = s.field.lostEvents ∧
    (noteVf s vf).field.lowSince = since s.field.lowSince (decide (vf < 1600)) s.now ∧
    (noteVf s vf).field.okSince = since s.field.okSince (decide (1920 < vf)) s.now ∧ (noteVf s vf).now = s.now := by
  by_cases low : vf < 1920
  · rw [noteVf_low low]
    simp [modField, lowReading, readVf]
  · rw [noteVf_good (Nat.not_lt.mp low)]
    exact ⟨rfl, rfl, rfl, rfl, rfl, rfl⟩

/-- A reading of a supply that has been low for 2 ms. -/
def lostVf (vf : Nat) (s : State) : State :=
  if fieldUp s = false then s else
  let s0 := noteVf s vf
  if heldSince s0 s0.field.lowSince (ms 2) ∧ s.field.flost = false then
    let s1 := modField s0 fun x => { x with flost := true, lostEvents := x.lostEvents + 1 }
    raise (gateEval s1) 71 (u32 s1.field.vfLow) (u32 s.field.epoch.toNat) s.cyc.number
  else s0

theorem fieldLost_eq (t : Time) (s : State) (vf : Nat) : exec (.fieldLost t vf) s = at_ t s (lostVf vf) := rfl

theorem heldSince_none (s : State) (n : Nat) : heldSince s none n = false := rfl

theorem heldSince_some (s : State) (x : Time) (n : Nat) : heldSince s (some x) n = decide (x + n ≤ s.now) := rfl

/-- A condition that has not held for its time before the reading has not at the reading. -/
theorem heldSince_since_early {s : State} {was : Option Time} {now : Time} {n : Nat} (hn : s.now = now) (pos : 0 < n)
    (h : ∀ x, was = some x → now < x + n) (holds : Bool) : heldSince s (since was holds now) n = false := by
  cases holds with
  | false => rfl
  | true =>
    cases was with
    | none =>
      have pos' : n ≠ 0 := by omega
      simp [since, heldSince, hn, pos']
    | some x =>
      have early := h x rfl
      simp [since, heldSince, hn, early]

theorem heldSince_since_due {s : State} {x now : Time} {n : Nat} (hn : s.now = now) (h : x + n ≤ now) :
    heldSince s (since (some x) true now) n = true := by
  simp [since, heldSince, hn, h]

theorem lostVf_notDue {s : State} {vf : Nat} (up : fieldUp s = true)
    (h : (∀ x, s.field.lowSince = some x → s.now < x + ms 2) ∨ s.field.flost = true) : lostVf vf s = noteVf s vf := by
  unfold lostVf
  rw [if_neg (by rw [up]; decide)]
  refine if_neg fun ⟨held, free⟩ => ?_
  obtain early | lost := h
  · obtain ⟨-, -, -, low, -, now⟩ := noteVf_field s vf
    rw [low, heldSince_since_early now (by decide) early] at held
    exact absurd held (by decide)
  · rw [lost] at free
    exact absurd free (by decide)

/-- The latch is set. -/
def lostField (x : FieldSt) : FieldSt := { x with flost := true, lostEvents := x.lostEvents + 1 }

/-- The reading that finds the loss, with source 70 raised before, and the evaluation after it. -/
def supplyLost (s : State) (vf : Nat) : State :=
  gateEval (modSource (modField s fun y => lostField (lowReading vf s.now y)) 70 fun z => { z with reported := true })

theorem supplyLost_field (s : State) (vf : Nat) : (supplyLost s vf).field.flost = true ∧ (supplyLost s vf).field.flow = true ∧
    (supplyLost s vf).field.lostEvents = s.field.lostEvents + 1 ∧ (supplyLost s vf).field.epoch = s.field.epoch ∧
    Dark (supplyLost s vf) := ⟨rfl, rfl, rfl, rfl, gateEval_lost rfl⟩

theorem supplyLost_source (s : State) (vf : Nat) : source (supplyLost s vf) 71 = source s 71 :=
  modSource_source_ne (n := 70) (m := 71) (modField s fun y => lostField (lowReading vf s.now y)) (fun z => { z with reported := true })
    (by decide)

theorem supplyLost_frame (s : State) (vf : Nat) : Frame [.field, .constable] s (supplyLost s vf) :=
  ((modField_frame _ _).mono (by decide)).trans (((modSource_frame _ _ _).mono (by decide)).trans ((gateEval_frame _).mono (by decide)))

/-- The loss of a supply whose source 70 has been raised before. -/
theorem lostVf_due {s : State} {vf : Nat} {x : Time} (up : fieldUp s = true) (sinceLow : s.field.lowSince = some x)
    (due : x + ms 2 ≤ s.now) (low : vf < 1600) (free : s.field.flost = false) (asserted : (source s 70).asserted = true) :
    lostVf vf s = raise (supplyLost s vf) 71 (u32 (if s.field.flow then min s.field.vfLow vf else vf)) (u32 s.field.epoch.toNat)
      s.cyc.number := by
  have note : noteVf s vf = modSource (modField s (lowReading vf s.now)) 70 fun z => { z with reported := true } :=
    (noteVf_low (by omega)).trans (if_pos ((Bool.and_eq_true _ _).mpr ⟨asserted, rfl⟩))
  obtain ⟨-, -, -, hlow, -, now⟩ := noteVf_field s vf
  unfold lostVf
  rw [if_neg (by rw [up]; decide)]
  dsimp only
  rw [if_pos ⟨by rw [hlow, sinceLow, decide_eq_true low]; exact heldSince_since_due now due, free⟩, note]
  rfl

theorem answers_lostVf {t : Time} {s : State} {vf : Nat} {x : Time} (up : fieldUp s = true) (sinceLow : s.field.lowSince = some x)
    (due : x + ms 2 ≤ t) (low : vf < 1600) (free : s.field.flost = false) (asserted : (source s 70).asserted = true)
    (quiet : Quiet s 71) : Answers (.fieldLost t vf) s fun s' =>
      s'.field.flost = true ∧ s'.field.flow = true ∧ s'.field.lostEvents = s.field.lostEvents + 1 ∧
        s'.field.epoch = s.field.epoch ∧ Dark s' ∧
        Raised s s' 71 (u32 (if s.field.flow then min s.field.vfLow vf else vf)) (u32 s.field.epoch.toNat) s.cyc.number ∧
        Frame [.now, .field, .constable] s s' := by
  have sources : source (supplyLost (s.atTime t) vf) 71 = source s 71 := supplyLost_source (s.atTime t) vf
  have eq := (lostVf_due (s := s.atTime t) (vf := vf) up sinceLow due low free asserted).trans
    (raise_minor (n := 71) (by simpa only [Quiet, sources] using quiet) (by decide) _ _ _)
  obtain ⟨flost, flow, events, epoch, dark⟩ := supplyLost_field (s.atTime t) vf
  have frame := supplyLost_frame (s.atTime t) vf
  generalize supplyLost (s.atTime t) vf = x at *
  have raised := recordRaise_frame x 71 false (u32 (if s.field.flow then min s.field.vfLow vf else vf)) (u32 s.field.epoch.toNat) s.cyc.number
  have all := frame.trans (raised.mono (by decide))
  have field : (recordRaise x 71 false (u32 (if s.field.flow then min s.field.vfLow vf else vf)) (u32 s.field.epoch.toNat)
    s.cyc.number).field = x.field := raised .field (by decide)
  refine answers_still (fieldLost_eq t s vf) (eq ▸ all) (by decide) (eq ▸ ?_)
  refine ⟨(congrArg FieldSt.flost field).trans flost, (congrArg FieldSt.flow field).trans flow,
    (congrArg FieldSt.lostEvents field).trans events, (congrArg FieldSt.epoch field).trans epoch, ?_, raised_recordRaise sources _ _ _,
    ((frame_atTime s t).mono (by decide)).trans (all.mono (by decide))⟩
  unfold Dark at dark ⊢
  exact field ▸ dark

/-- The supply has been good for its time. -/
def goodField (vf : Nat) (now : Time) (x : FieldSt) : FieldSt := { readVf x vf now with
  vfLow := vf, flow := false, flost := false, epoch := if x.flost then x.epoch + 1 else x.epoch }

/-- A state source that is reported ends. -/
def endReported (n : Nat) (s : State) : State := if (source s n).reported then withdraw s n else s

theorem endReported_frame (n : Nat) (s : State) : Frame [.constable] s (endReported n s) := by
  unfold endReported
  split
  · exact withdraw_frame s n
  · exact .refl _ _

/-- A reading of a supply that has been good for 100 ms. -/
def returnVf (vf : Nat) (s : State) : State :=
  if fieldUp s = false then s else
  let s0 := noteVf s vf
  if heldSince s0 s0.field.okSince (ms 100) then
    let s1 := modField s0 fun x => { x with
      vfLow := vf, flow := false, flost := false, epoch := if x.flost then x.epoch + 1 else x.epoch }
    let s2 := if (source s1 70).reported then withdraw s1 70 else s1
    gateEval (if (source s2 71).reported then withdraw s2 71 else s2)
  else s0

theorem fieldReturn_eq (t : Time) (s : State) (vf : Nat) : exec (.fieldReturn t vf) s = at_ t s (returnVf vf) := rfl

theorem returnVf_due {s : State} {vf : Nat} {x : Time} (up : fieldUp s = true) (sinceGood : s.field.okSince = some x)
    (due : x + ms 100 ≤ s.now) (good : 1920 < vf) :
    returnVf vf s = gateEval (endReported 71 (endReported 70 (modField s (goodField vf s.now)))) := by
  have note := noteVf_good (s := s) (vf := vf) (by omega)
  obtain ⟨-, -, -, -, hgood, now⟩ := noteVf_field s vf
  unfold returnVf
  rw [if_neg (by rw [up]; decide)]
  dsimp only
  rw [if_pos (by rw [hgood, sinceGood, decide_eq_true good]; exact heldSince_since_due now due), note]
  rfl

theorem returnVf_notDue {s : State} {vf : Nat} (up : fieldUp s = true) (early : ∀ x, s.field.okSince = some x → s.now < x + ms 100) :
    returnVf vf s = noteVf s vf := by
  obtain ⟨-, -, -, -, hgood, now⟩ := noteVf_field s vf
  unfold returnVf
  rw [if_neg (by rw [up]; decide)]
  refine if_neg ?_
  rw [hgood, heldSince_since_early now (by decide) early]
  decide

theorem answers_returnVf {t : Time} {s : State} {vf : Nat} {x : Time} (up : fieldUp s = true) (sinceGood : s.field.okSince = some x)
    (due : x + ms 100 ≤ t) (good : 1920 < vf) : Answers (.fieldReturn t vf) s fun s' =>
      s'.field.flow = false ∧ s'.field.flost = false ∧
        s'.field.epoch = (if s.field.flost then s.field.epoch + 1 else s.field.epoch) ∧
        s'.field.lostEvents = s.field.lostEvents ∧ Frame [.now, .field, .constable] s s' := by
  have eq := returnVf_due (s := s.atTime t) (vf := vf) up sinceGood due good
  generalize hx : modField (s.atTime t) (goodField vf (s.atTime t).now) = x1 at eq
  have frame : Frame [.field] (s.atTime t) x1 := hx ▸ modField_frame _ _
  have ended := (endReported_frame 70 x1).trans (endReported_frame 71 _)
  have field : (endReported 71 (endReported 70 x1)).field = x1.field := ended .field (by decide)
  have all := (frame.mono (by decide)).trans ((ended.mono (by decide)).trans
    ((gateEval_frame (endReported 71 (endReported 70 x1))).mono (m := [.field, .constable]) (by decide)))
  obtain ⟨-, -, -, flost, epoch, flow, events, -⟩ := gateEval_supply (endReported 71 (endReported 70 x1))
  have values : x1.field = goodField vf t s.field := by
    rw [← hx]
    rfl
  rw [field, values] at flost epoch flow events
  exact answers_still (fieldReturn_eq t s vf) (eq ▸ all) (by decide)
    (eq ▸ ⟨flow, flost, epoch, events, ((frame_atTime s t).mono (by decide)).trans (all.mono (by decide))⟩)

/-- Settles O37: `since` times the supply, and a reading before its time is up leaves latch and epoch. The reset of the field side as
source 79 with P1 2, and the times counted from the first reading, are log entry 28, the dashes of 70 and 79 log entry 34. -/
theorem fieldConfigurationAndSupply : Obligations.FieldConfigurationAndSupply := by
  refine ⟨fieldConfiguration, fun t s vf up => ⟨fun low quiet => ?_, fun good => ?_, fun x sinceLow due low free asserted quiet => ?_,
    fun idle => ?_, fun x sinceGood due good => ?_, fun early good => ?_⟩⟩
  · have eq : lowVf vf (s.atTime t) = recordRaise (modField (s.atTime t) (lowReading vf t)) 70 false (u32 vf) none32 none32 :=
      (if_pos ⟨low, up⟩).trans ((noteVf_low low).trans
        (raise_minor (s := modField (s.atTime t) (lowReading vf t)) quiet (by decide) _ _ _))
    have frame := fieldRaised_frame (s.atTime t) (lowReading vf t) 70 (u32 vf) none32 none32
    refine answers_still (fieldLow_eq t s vf) (eq ▸ frame) (by decide) (eq ▸ ?_)
    rw [show (recordRaise (modField (s.atTime t) (lowReading vf t)) 70 false (u32 vf) none32 none32).field = lowReading vf t s.field from
      (recordRaise_frame _ _ _ _ _ _) .field (by decide)]
    exact ⟨rfl, rfl, rfl, rfl, raised_recordRaise (x := modField (s.atTime t) (lowReading vf t)) rfl _ _ _,
      ((frame_atTime s t).mono (by decide)).trans (frame.mono (by decide))⟩
  · exact runs_idle (fieldLow_eq t s vf) (if_neg fun both => absurd both.1 (Nat.not_lt.mpr good))
  · exact answers_lostVf up sinceLow due low free asserted quiet
  · refine answers_at (fieldLost_eq t s vf) fun s' close => ?_
    rw [lostVf_notDue (s := s.atTime t) up idle] at close
    obtain ⟨flost, epoch, events, -⟩ := noteVf_field (s.atTime t) vf
    rw [close.field]
    exact ⟨flost, epoch, events⟩
  · exact answers_returnVf up sinceGood due good
  · have eq := (returnVf_notDue (s := s.atTime t) (vf := vf) up early).trans (noteVf_good good)
    exact answers_still (l := [.field]) (fieldReturn_eq t s vf) (eq ▸ modField_frame _ _) (by decide) (eq ▸ ⟨rfl, rfl, rfl⟩)

end Sys2Proof.Machine
end

section
/-!
PROOFS. Up frames, stale channels and dead kill lines (O34).
-/

namespace Sys2Proof.Machine

/-! ### Up frames (R196, R197) -/

/-- Every up frame of a period before its lane's number and its checksum. -/
def upBody (x : FieldSt) (stale : BitVec 3) : UpFrame :=
  { kind := 9, lane := 0, unconf := x.unconf, flost := x.flost, epoch := x.epoch, flow := x.flow, kstuck := x.kstuck, kill := x.kill,
    key := x.keyLevels, fsflt := x.fsflt, lant := x.lant, gstale := stale, seq := x.seq, tick := x.tick, di := x.di,
    keycnt := x.keycnt, aiflt := x.aiflt, pairf := x.pairf, dorb := x.dorb, doflt := x.doflt,
    cnt := (List.range 8).map fun k => x.cnt.getD k 0, aacc := (List.range 4).map fun k => x.aacc.getD k 0, vf := u16 x.vf,
    iout := u16 x.iout, crc := 0 }

/-- A frame of a lane with its checksum. -/
def ofLane (f : UpFrame) (lane : BitVec 2) (crc : U32) : UpFrame := { f with lane := lane, crc := crc }

theorem ofLane_stripped (f : UpFrame) (lane : BitVec 2) (crc : U32) : { ofLane f lane crc with lane := 0, crc := 0 } =
    ({ f with lane := 0, crc := 0 } : UpFrame) := rfl

theorem upFrame_eq (s : State) (ln : Lane) : ∃ crc, upFrame s ln = ofLane (upBody s.field (gstale s)) (BitVec.ofNat 2 (laneNo ln)) crc :=
  ⟨_, rfl⟩

/-- The three frames differ in lane and checksum alone. -/
theorem upFrame_stripped (s : State) (ln : Lane) : { upFrame s ln with lane := 0, crc := 0 } = upBody s.field (gstale s) := by
  obtain ⟨crc, eq⟩ := upFrame_eq s ln
  rw [eq, ofLane_stripped]
  rfl

theorem upFrame_congr {s x : State} (h : x.field = s.field) (ln : Lane) : upFrame x ln = upFrame s ln := by
  simp only [upFrame, gstale, h]

/-- The three frames of a period go out. -/
def upSent (s : State) : State := allLanes.foldl (fun st ln => emit st (.upFrame ln (upFrame s ln))) s

theorem upSent_rest (s : State) : (upSent s).field = s.field ∧
    (upSent s).out = s.out ++ [.upFrame .a (upFrame s .a), .upFrame .b (upFrame s .b), .upFrame .l (upFrame s .l)] := by
  simp [upSent, allLanes, emit]

theorem upSent_frame (s : State) : Frame [.out] s (upSent s) := by
  intro p hp
  cases p <;> simp [same, upSent, allLanes, emit] at hp ⊢

/-- A period of the field side. -/
def period (x : FieldSample) (s : State) : State :=
  if fieldUp s = false then s else
  let s2 := upSent (watchVf (modField s fun y => sampled y x s.now) x.vf)
  if x.fsflt then raiseFieldSide s2 0 else s2

theorem upFrameSend_eq (t : Time) (s : State) (x : FieldSample) : exec (.upFrameSend t x) s = at_ t s (period x) := rfl

theorem period_good {s : State} {x : FieldSample} (up : fieldUp s = true) (good : 1920 ≤ x.vf) : period x s =
    if x.fsflt then raiseFieldSide (upSent (modField s fun y => sampled y x s.now)) 0
    else upSent (modField s fun y => sampled y x s.now) := by
  have read : watchVf (modField s fun y => sampled y x s.now) x.vf = modField s fun y => sampled y x s.now :=
    if_neg (Nat.not_lt.mpr good)
  unfold period
  rw [if_neg (by rw [up]; decide), read]

theorem filterAll_count (x : FieldSt) (raw : BitVec 48) : (filterAll x raw).seq = x.seq ∧ (filterAll x raw).tick = x.tick := by
  unfold filterAll
  exact ⟨rfl, rfl⟩

/-- The filters of the inputs leave SEQ and TICK. -/
theorem foldl_filterAll (l : List (BitVec 48)) (x : FieldSt) : (l.foldl filterAll x).seq = x.seq ∧ (l.foldl filterAll x).tick = x.tick := by
  induction l generalizing x with
  | nil => exact ⟨rfl, rfl⟩
  | cons raw l ih =>
    obtain ⟨seq, tick⟩ := filterAll_count x raw
    obtain ⟨seqs, ticks⟩ := ih (filterAll x raw)
    rw [List.foldl_cons]
    exact ⟨seqs.trans seq, ticks.trans tick⟩

theorem sampled_count (y : FieldSt) (x : FieldSample) (now : Time) : (sampled y x now).seq = y.seq + 1 ∧
    (sampled y x now).tick = if x.tick then y.tick + 1 else y.tick := by
  obtain ⟨seq, tick⟩ := foldl_filterAll x.di y
  unfold sampled
  dsimp only
  generalize x.di.foldl filterAll y = z at seq tick ⊢
  rw [← seq, ← tick]
  split <;> exact ⟨rfl, rfl⟩

theorem answers_period {t : Time} {s : State} {x : FieldSample} (up : fieldUp s = true) (good : 1920 ≤ x.vf) (sound : x.fsflt = false) :
    Answers (.upFrameSend t x) s fun s' =>
      s'.out = s.out ++ [.upFrame .a (upFrame s' .a), .upFrame .b (upFrame s' .b), .upFrame .l (upFrame s' .l)] ∧
        (∀ k, { upFrame s' k with lane := 0, crc := 0 } = { upFrame s' .a with lane := 0, crc := 0 }) ∧
        s'.field.seq = s.field.seq + 1 ∧ s'.field.tick = (if x.tick then s.field.tick + 1 else s.field.tick) ∧
        Frame [.now, .field, .out] s s' := by
  have eq := period_good (s := s.atTime t) up good
  rw [sound, if_neg (by decide)] at eq
  generalize hx : modField (s.atTime t) (fun y => sampled y x (s.atTime t).now) = x1 at eq
  have first : Frame [.field] (s.atTime t) x1 := hx ▸ modField_frame _ _
  have frame := (first.mono (m := [.field, .out]) (by decide)).trans ((upSent_frame x1).mono (by decide))
  obtain ⟨field, out⟩ := upSent_rest x1
  have was : x1.out = s.out := first .out (by decide)
  obtain ⟨seq, tick⟩ := sampled_count s.field x t
  have values : x1.field = sampled s.field x t := by
    rw [← hx]
    rfl
  refine answers_still (upFrameSend_eq t s x) (eq ▸ frame) (by decide) (eq ▸ ⟨?_, fun k => ?_, ?_, ?_, ?_⟩)
  · simpa [was, upFrame_congr field] using out
  · exact (upFrame_stripped _ k).trans (upFrame_stripped _ .a).symm
  · exact (congrArg FieldSt.seq (field.trans values)).trans seq
  · exact (congrArg FieldSt.tick (field.trans values)).trans tick
  · exact ((frame_atTime s t).mono (by decide)).trans (frame.mono (by decide))

theorem answers_periodFault {t : Time} {s : State} {x : FieldSample} (up : fieldUp s = true) (good : 1920 ≤ x.vf) (fault : x.fsflt = true)
    (on : On s) (hr : Raisable s t 79) :
    Answers (.upFrameSend t x) s fun s' => ModuleStops s s' 79 0 none32 s'.field.tick := by
  have eq := period_good (s := s.atTime t) up good
  rw [fault, if_pos rfl] at eq
  generalize hx : modField (s.atTime t) (fun y => sampled y x (s.atTime t).now) = x1 at eq
  have frame : Frame [.field, .out] (s.atTime t) (upSent x1) := by
    have first : Frame [.field] (s.atTime t) x1 := hx ▸ modField_frame _ _
    exact (first.mono (by decide)).trans ((upSent_frame x1).mono (by decide))
  have modes : (upSent x1).modes = s.modes := frame .modes (by decide)
  refine (answers_moduleStops (upFrameSend_eq t s x) eq (by simpa only [On, modes] using on) (frame .constable (by decide))
    (frame .now (by decide)) hr rfl (by decide)).imp fun s' ⟨stops, close⟩ => ?_
  have field : s'.field = (upSent x1).field := close.field.trans (by simp)
  rw [field]
  exact stops

/-- What a lane's receiver does with an up frame. -/
def receiveUp (ln : Lane) (f : UpFrame) (s : State) : State :=
  let b := s.field.bar.get ln
  if crossRuns s 4 = false then s
  else if upIntact f = false then modBar s ln fun b => { b with crcErrors := b.crcErrors + 1 }
  else if b.upStale && !b.upResync then modBar s ln fun b => { b with upResync := true, upSeq := f.seq }
  else if f.kind = 9 ∧ f.lane.toNat = laneNo ln ∧ seqFollows b.upSeq f.seq then
    modBar s ln fun b => { b with
      up := some f, upAt := s.now, upPrev := b.up, upPrevAt := b.upAt, upSeq := f.seq, upValidSeq := f.seq, upStale := false,
      upResync := false, upValid := b.upValid + 1 }
  else modBar s ln fun b => { b with seqErrors := b.seqErrors + 1 }

theorem upFrameReceive_eq (t : Time) (s : State) (ln : Lane) (f : UpFrame) :
    exec (.upFrameReceive t ln f) s = at_ t s (receiveUp ln f) := rfl

theorem upIntact_iff (f : UpFrame) : upIntact f = true ↔ f.crc = u32 (crc32c (upBytes f)) := beq_iff_eq

theorem receiveUp_broken {s : State} {ln : Lane} {f : UpFrame} (runs : crossRuns s 4 = true) (crc : f.crc ≠ u32 (crc32c (upBytes f))) :
    receiveUp ln f s = modBar s ln fun b => { b with crcErrors := b.crcErrors + 1 } := by
  have broken : upIntact f = false := Bool.eq_false_iff.mpr fun h => crc ((upIntact_iff f).mp h)
  unfold receiveUp
  dsimp only
  rw [if_neg (by rw [runs]; decide), if_pos broken]

theorem receiveUp_intact {s : State} {ln : Lane} {f : UpFrame} (runs : crossRuns s 4 = true) (crc : f.crc = u32 (crc32c (upBytes f))) :
    receiveUp ln f s = if (s.field.bar.get ln).upStale && !(s.field.bar.get ln).upResync then
        modBar s ln fun b => { b with upResync := true, upSeq := f.seq }
      else if f.kind = 9 ∧ f.lane.toNat = laneNo ln ∧ seqFollows (s.field.bar.get ln).upSeq f.seq then
        modBar s ln fun b => { b with
          up := some f, upAt := s.now, upPrev := b.up, upPrevAt := b.upAt, upSeq := f.seq, upValidSeq := f.seq, upStale := false,
          upResync := false, upValid := b.upValid + 1 }
      else modBar s ln fun b => { b with seqErrors := b.seqErrors + 1 } := by
  have intact : upIntact f = true := (upIntact_iff f).mpr crc
  unfold receiveUp
  dsimp only
  rw [if_neg (by rw [runs]; decide), if_neg (by rw [intact]; decide)]

theorem runs_modBar {c : Instr} {t : Time} {s : State} {ln : Lane} {f : State → State} {g : BarrierSt → BarrierSt} (hc : exec c s = at_ t s f)
    (hr : f (s.atTime t) = modBar (s.atTime t) ln g) : Runs c s (modBar (s.atTime t) ln g) :=
  runs_still (l := [.field]) hc hr (modBar_frame _ _ _) (by decide)

/-- A channel that is fresh, or has its first frame, judges the next one. -/
theorem judges {b : BarrierSt} (h : b.upStale = false ∨ b.upResync = true) : ¬ (b.upStale && !b.upResync) = true := by
  obtain fresh | first := h
  · simp [fresh]
  · simp [first]

theorem upFrames (t : Time) (s : State) (ln : Lane) (x : FieldSample) (f : UpFrame) :
    (fieldUp s = false → Runs (.upFrameSend t x) s (s.atTime t)) ∧
    (fieldUp s = true → 1920 ≤ x.vf → x.fsflt = false →
      Answers (.upFrameSend t x) s fun s' =>
        s'.out = s.out ++ [.upFrame .a (upFrame s' .a), .upFrame .b (upFrame s' .b), .upFrame .l (upFrame s' .l)] ∧
          (∀ k, { upFrame s' k with lane := 0, crc := 0 } = { upFrame s' .a with lane := 0, crc := 0 }) ∧
          s'.field.seq = s.field.seq + 1 ∧ s'.field.tick = (if x.tick then s.field.tick + 1 else s.field.tick) ∧
          Frame [.now, .field, .out] s s') ∧
    (fieldUp s = true → 1920 ≤ x.vf → x.fsflt = true → On s → Raisable s t 79 →
      Answers (.upFrameSend t x) s fun s' => ModuleStops s s' 79 0 none32 s'.field.tick) ∧
    (crossRuns s 4 = false → Runs (.upFrameReceive t ln f) s (s.atTime t)) ∧
    (crossRuns s 4 = true → f.crc ≠ u32 (crc32c (upBytes f)) → Runs (.upFrameReceive t ln f) s
      (modBar (s.atTime t) ln fun b => { b with crcErrors := b.crcErrors + 1 })) ∧
    (crossRuns s 4 = true → f.crc = u32 (crc32c (upBytes f)) →
      ((s.field.bar.get ln).upStale = true → (s.field.bar.get ln).upResync = false → Runs (.upFrameReceive t ln f) s
        (modBar (s.atTime t) ln fun b => { b with upResync := true, upSeq := f.seq })) ∧
      ((s.field.bar.get ln).upStale = false ∨ (s.field.bar.get ln).upResync = true →
        f.kind = 9 → f.lane.toNat = laneNo ln → seqFollows (s.field.bar.get ln).upSeq f.seq = true →
        Runs (.upFrameReceive t ln f) s (modBar (s.atTime t) ln fun b => { b with
          up := some f, upAt := t, upPrev := b.up, upPrevAt := b.upAt, upSeq := f.seq, upValidSeq := f.seq, upStale := false,
          upResync := false, upValid := b.upValid + 1 })) ∧
      ((s.field.bar.get ln).upStale = false ∨ (s.field.bar.get ln).upResync = true →
        f.kind ≠ 9 ∨ f.lane.toNat ≠ laneNo ln ∨ seqFollows (s.field.bar.get ln).upSeq f.seq = false →
        Runs (.upFrameReceive t ln f) s (modBar (s.atTime t) ln fun b => { b with seqErrors := b.seqErrors + 1 }))) := by
  refine ⟨fun down => ?_, fun up good sound => answers_period up good sound, fun up good fault on hr => answers_periodFault up good fault on hr,
    fun stopped => ?_, fun runs crc => ?_, fun runs crc => ⟨fun stale first => ?_, fun fresh kind lane follows => ?_, fun fresh wrong => ?_⟩⟩
  · exact runs_idle (upFrameSend_eq t s x) (if_pos down)
  · exact runs_idle (upFrameReceive_eq t s ln f) (if_pos stopped)
  · exact runs_modBar (upFrameReceive_eq t s ln f) (receiveUp_broken runs crc)
  · refine runs_modBar (upFrameReceive_eq t s ln f) ((receiveUp_intact (s := s.atTime t) runs crc).trans (if_pos ?_))
    simpa using And.intro stale first
  · exact runs_modBar (upFrameReceive_eq t s ln f) ((receiveUp_intact (s := s.atTime t) runs crc).trans
      ((if_neg (judges (b := s.field.bar.get ln) fresh)).trans (if_pos ⟨kind, lane, follows⟩)))
  · refine runs_modBar (upFrameReceive_eq t s ln f) ((receiveUp_intact (s := s.atTime t) runs crc).trans
      ((if_neg (judges (b := s.field.bar.get ln) fresh)).trans (if_neg fun ⟨kind, lane, follows⟩ => ?_)))
    obtain h | h | h := wrong
    · exact h kind
    · exact h lane
    · exact absurd (follows : seqFollows (s.field.bar.get ln).upSeq f.seq = true) (by simp [h])

/-! ### Stale channels (R198) -/

/-- A channel that has gone stale, and is counted. -/
def outwardStale (b : BarrierSt) : BarrierSt := { b with stale := true, resync := false, staleCount := b.staleCount + 1 }

def inwardStale (b : BarrierSt) : BarrierSt := { b with upStale := true, upResync := false, staleCount := b.staleCount + 1 }

/-- The Gatehouse's receiver. -/
def staleOut (ln : Lane) (s : State) : State :=
  if (s.field.bar.get ln).stale = false ∧ (s.field.bar.get ln).downAt + us 500 ≤ s.now then
    gateEval (noteEdges (modBar s ln outwardStale))
  else s

/-- The lane's own receiver. -/
def staleIn (ln : Lane) (s : State) : State :=
  if (s.field.bar.get ln).upStale = false ∧ (s.field.bar.get ln).upAt + us 500 ≤ s.now then
    raiseBarrier (modBar s ln inwardStale) ln true
  else s

theorem barrierStale_outward (t : Time) (s : State) (ln : Lane) : exec (.barrierChannelStale t ln .outward) s = at_ t s (staleOut ln) := rfl

theorem barrierStale_inward (t : Time) (s : State) (ln : Lane) : exec (.barrierChannelStale t ln .inward) s = at_ t s (staleIn ln) := rfl

theorem srcLane_barrier (ln : Lane) : srcClass (64 + laneNo ln) = 2 ∧ srcLane (64 + laneNo ln) (u32 (laneNo ln)) = some ln := by
  cases ln <;> exact ⟨rfl, rfl⟩

theorem mem_allLanes (ln : Lane) : ln ∈ allLanes := by cases ln <;> decide

theorem inVote_of_allVoting {s : State} (all : AllVoting s) (ln : Lane) : inVote s ln = true := by
  have member : ln ∈ voters s := all.1 ▸ mem_allLanes ln
  exact (List.mem_filter.mp member).2

theorem answers_staleIn {t : Time} {s : State} {ln : Lane} (fresh : (s.field.bar.get ln).upStale = false)
    (due : (s.field.bar.get ln).upAt + us 500 ≤ t) (all : AllVoting s) (cyc : cyclic s.modes.mode = true)
    (hr : Raisable s t (64 + laneNo ln)) : Answers (.barrierChannelStale t ln .inward) s fun s' =>
      (s'.field.bar.get ln).upStale = true ∧ Excluded s s' ln (64 + laneNo ln) ∧
        Raised s s' (64 + laneNo ln) (u32 (laneNo ln)) 1 (s.field.bar.get ln).upValidSeq ∧
        Frame [.now, .lanes, .vote, .modes, .change, .constable, .host, .field] s s' := by
  have eq : staleIn ln (s.atTime t) = raise (modBar (s.atTime t) ln inwardStale) (64 + laneNo ln) (u32 (laneNo ln)) 1
      (s.field.bar.get ln).upValidSeq := by
    have seq : ((modBar (s.atTime t) ln inwardStale).field.bar.get ln).upValidSeq = (s.field.bar.get ln).upValidSeq := by
      simp [modBar, inwardStale]
    refine (if_pos ⟨fresh, due⟩).trans ((if_pos ⟨inVote_of_allVoting all ln, cyc⟩).trans ?_)
    rw [← seq]
    rfl
  refine answers_at (barrierStale_inward t s ln) fun s' close => ?_
  rw [eq] at close
  -- the receiver's record apart, the report is made from the command's state
  have lost := raise_laneLost (s := modBar s ln inwardStale) all (reports_atTime (modBar s ln inwardStale) t ln) rfl hr (srcLane_barrier ln) 1
    (s.field.bar.get ln).upValidSeq
  obtain ⟨excluded, raised, -, frame⟩ := lost.closed (by cases ln <;> decide)
    (⟨close.pending, close.rest, close.host, close.source, close.kill, close.grave⟩ : Closed (modBar s ln inwardStale) _ s')
  refine ⟨?_, excluded, raised, ((modBar_frame s ln inwardStale).mono (by decide)).trans (frame.mono (by decide))⟩
  have field : s'.field = (modBar s ln inwardStale).field := frame .field (by decide)
  rw [field]
  simp [modBar, inwardStale]

/-- The Lantern runs by what an evaluation leaves. -/
theorem gateEval_lantern (s : State) : (gateEval s).field.lant = lanternRuns (gateEval s) := rfl

/-! ### Kill lines (R200) -/

/-- A line without edges. -/
def lineDead (line : Nat) (s : State) : State :=
  let s1 := gateEval (modField s fun x => { x with kill := setBit x.kill line false })
  if s.constable.kill then raiseFieldSide s1 1 else s1

theorem killLineDead_eq (t : Time) (s : State) (line : Fin 2) : exec (.killLineDead t line) s = at_ t s (lineDead line.val) := rfl

theorem killed_bit (v : BitVec 2) (line : Fin 2) : (setBit v line.val false).getLsbD line.val = false := by
  rw [getLsbD_setBit]
  simp

/-- With a line dead nothing is driven. -/
theorem gateEval_killed {s : State} {line : Fin 2} (h : s.field.kill.getLsbD line.val = false) : Dark (gateEval s) := by
  have dead : s.field.kill ≠ 3 := by
    intro both
    rw [both] at h
    exact absurd h (by fin_cases line <;> decide)
  refine ⟨gateEval_dark fun d _ => ?_, ?_⟩
  · rw [Bool.eq_false_iff]
    intro on
    obtain ⟨c, -, -, -, kill, -⟩ := (energised_iff s d).mp on
    exact dead kill
  · have off : lanternRuns s = false := by
      unfold lanternRuns
      rw [beq_false_of_ne dead]
      rfl
    exact off

/-- Settles O34: a frame is judged by its own channel alone; a stale channel is a report of its lane, a dead line stops the outputs before
it is reported. A running line found dead as source 79 with P1 1 is log entry 28, its dash log entry 34, the resynchronising frame log
entries 27 and 128. -/
theorem upFramesAndStaleChannels : Obligations.UpFramesAndStaleChannels := by
  refine ⟨upFrames, fun t s ln line => ⟨fun fresh due => ?_, answers_staleIn, fun early => ?_, fun early => ?_, fun stopped => ?_,
    fun drives on hr => ?_⟩⟩
  · have eq : staleOut ln (s.atTime t) = gateEval (noteEdges (modBar (s.atTime t) ln outwardStale)) := if_pos ⟨fresh, due⟩
    have frame := (modBar_frame (s.atTime t) ln outwardStale).trans ((noteEdges_frame _).trans (gateEval_frame _))
    refine answers_still (barrierStale_outward t s ln) (eq ▸ frame) (by decide) (eq ▸ ?_)
    have bar : (gateEval (noteEdges (modBar (s.atTime t) ln outwardStale))).field.bar = (modBar (s.atTime t) ln outwardStale).field.bar :=
      (gateEval_bar _).trans (noteEdges_rest _).1
    refine ⟨?_, ?_, fun d => ?_, gateEval_lantern _, ((frame_atTime s t).mono (by decide)).trans (frame.mono (by decide))⟩
    · rw [bar]
      simp [modBar, outwardStale]
    · rw [bar]
      simp [modBar, outwardStale]
    · rw [gateEval_gate _ d.isLt, energised_gateEval]
  · exact runs_idle (barrierStale_outward t s ln) (if_neg fun both => by
      have due : (s.field.bar.get ln).downAt + us 500 ≤ t := both.2
      exact absurd due (Nat.not_le.mpr early))
  · exact runs_idle (barrierStale_inward t s ln) (if_neg fun both => by
      have due : (s.field.bar.get ln).upAt + us 500 ≤ t := both.2
      exact absurd due (Nat.not_le.mpr early))
  · have eq : lineDead line.val (s.atTime t) = gateEval (modField (s.atTime t) fun x => { x with kill := setBit x.kill line.val false }) :=
      if_neg (by rw [show (s.atTime t).constable.kill = false from stopped]; decide)
    have frame := (modField_frame (s.atTime t) fun x => { x with kill := setBit x.kill line.val false }).trans (gateEval_frame _)
    refine answers_still (killLineDead_eq t s line) (eq ▸ frame) (by decide) (eq ▸ ⟨?_, killed_bit _ line, ?_⟩)
    · exact gateEval_killed (line := line) (killed_bit _ line)
    · exact ((frame_atTime s t).mono (by decide)).trans (frame.mono (by decide))
  · have eq : lineDead line.val (s.atTime t) = raise (gateEval (modField (s.atTime t) fun x => { x with
        kill := setBit x.kill line.val false })) 79 1 none32 s.field.tick := if_pos drives
    refine (answers_moduleStops (killLineDead_eq t s line) eq on rfl rfl hr rfl (by decide)).imp fun s' ⟨stops, close⟩ => ?_
    have field : s'.field = (gateEval (modField (s.atTime t) fun x => { x with kill := setBit x.kill line.val false })).field :=
      close.field.trans (by simp)
    refine ⟨stops, ?_, ?_⟩
    · have dark := gateEval_killed (s := modField (s.atTime t) fun x => { x with kill := setBit x.kill line.val false }) (line := line)
        (killed_bit _ line)
      unfold Dark at dark ⊢
      exact field ▸ dark
    · rw [field]
      exact killed_bit _ line

end Sys2Proof.Machine
end

section
/-!
PROOFS. The delivery of a lane's proposal (O24).
-/

namespace Sys2Proof.Machine

theorem voters_congr {s r : State} (h : ∀ k, (r.lanes.get k).state = (s.lanes.get k).state) : voters r = voters s := by
  have hv : inVote r = inVote s := by
    funext k
    simp [inVote, h k]
  simp only [voters, hv]

/-- A Notice source records itself at most: it has no effect of its class. -/
theorem raise_notice_frame (s : State) {n : Nat} (notice : srcClass n = 0) (p1 p2 p3 : U32) :
    Frame [.constable] s (raise s n p1 p2 p3) := by
  unfold raise raiseWith
  split
  · exact modSource_frame _ _ _
  · split
    · exact .refl _ _
    · have cls : (source (recordRaise s n false p1 p2 p3) n).effective = 0 := by
        rw [recordRaise_effective, raiseClass, if_pos notice]
      dsimp only
      rw [cls]
      split <;> exact recordRaise_frame _ _ _ _ _ _

/-- The delivery of a lane that has its snapshot. -/
def delivered (ln : Lane) (p : Proposal) (s : State) : State :=
  let x := s.lanes.get ln
  if s.cyc.running = false ∨ runsCycles s ln = false ∨ x.complete = false ∨ x.delivered.isSome ∨ x.late ∨ cycleEnd s ≤ s.now then s
  else
    let d := deliveryOf s ln p
    let s1 := modLane (retireStores s ln) ln fun y =>
      { y with gdigest := d.gdigest.value, pdigest := d.pdigest.value, deliveredAt := s.now }
    if s.now ≤ votePoint s ∧ s.cyc.voted = false then
      let s2 := modLane s1 ln fun y => { y with delivered := some d }
      if inVote s ln then noteMargin s2 ln else s2
    else
      let s2 := modLane s1 ln fun y => { y with late := true }
      if s.cyc.voted = false then s2
      else if s.cyc.phase = 3 ∧ s.modes.mode ≠ .standby then loadReg (writeOutcome s2 ln) ln
      else writeOutcome s2 ln

theorem proposalDelivery_eq (t : Time) (s : State) (ln : Lane) (p : Proposal) :
    exec (.proposalDelivery t ln p) s = at_ t s (delivered ln p) := rfl

/-- The lane's own record of its delivery: its stores retired, the digests of what it holds. -/
def laneDelivers (s : State) (ln : Lane) (p : Proposal) (x : LaneSt) : LaneSt := { x with
  vars := x.stores.foldl (fun t w => setCell t w.1 w.2) x.vars, stores := []
  gdigest := (deliveryOf s ln p).gdigest.value, pdigest := (deliveryOf s ln p).pdigest.value, deliveredAt := s.now }

theorem modLane_modLane (s : State) (ln : Lane) (f g : LaneSt → LaneSt) :
    modLane (modLane s ln f) ln g = modLane s ln fun x => g (f x) := by
  cases ln <;> rfl

theorem noteMargin_frame (s : State) (ln : Lane) : Frame [.cyc, .constable] s (noteMargin s ln) := by
  have cyc : Frame [.cyc] s { s with cyc := { s.cyc with
      least := some ((s.cyc.least.map (min ((votePoint s - s.now) / 1000))).getD ((votePoint s - s.now) / 1000)) } } :=
    fun p hp => by cases p <;> simp [same] at hp ⊢
  unfold noteMargin
  dsimp only
  split
  · exact (cyc.mono (by decide)).trans ((raise_notice_frame _ (by decide) _ _ _).mono (by decide))
  · exact cyc.mono (by decide)

theorem loadReg_frame (s : State) (ln : Lane) : Frame [.field] s (loadReg s ln) := by
  intro p hp
  cases p <;> simp [same, loadReg, modBar] at hp ⊢

/-- A delivery that counts. -/
theorem delivered_inTime {s : State} {ln : Lane} {p : Proposal} (h : ¬ (s.cyc.running = false ∨ runsCycles s ln = false ∨
    (s.lanes.get ln).complete = false ∨ (s.lanes.get ln).delivered.isSome ∨ (s.lanes.get ln).late ∨ cycleEnd s ≤ s.now))
    (point : s.now ≤ votePoint s) (open_ : s.cyc.voted = false) : delivered ln p s =
      let s2 := modLane s ln fun x => { laneDelivers s ln p x with delivered := some (deliveryOf s ln p) }
      if inVote s ln then noteMargin s2 ln else s2 := by
  unfold delivered
  rw [if_neg h]
  dsimp only
  rw [if_pos ⟨point, open_⟩, retireStores, modLane_modLane, modLane_modLane]
  rfl

/-- A late one. -/
theorem delivered_late {s : State} {ln : Lane} {p : Proposal} (h : ¬ (s.cyc.running = false ∨ runsCycles s ln = false ∨
    (s.lanes.get ln).complete = false ∨ (s.lanes.get ln).delivered.isSome ∨ (s.lanes.get ln).late ∨ cycleEnd s ≤ s.now))
    (past : ¬ (s.now ≤ votePoint s ∧ s.cyc.voted = false)) : delivered ln p s =
      let s2 := modLane s ln fun x => { laneDelivers s ln p x with late := true }
      if s.cyc.voted = false then s2
      else if s.cyc.phase = 3 ∧ s.modes.mode ≠ .standby then loadReg (writeOutcome s2 ln) ln
      else writeOutcome s2 ln := by
  unfold delivered
  rw [if_neg h]
  dsimp only
  rw [if_neg past, retireStores, modLane_modLane, modLane_modLane]
  rfl

/-- An exit that leaves who votes, and touches the lanes' records and others that hold none of the attributes. -/
theorem answers_lanes {c : Instr} {t : Time} {s : State} {l : List Part} {f : State → State} {P : State → Prop}
    (hc : exec c s = at_ t s f) (hf : Frame l (s.atTime t) (f (s.atTime t)))
    (hl : ([Part.pending, .modes, .twin, .update, .change].all fun p => !l.contains p) = true)
    (states : ∀ k, ((f (s.atTime t)).lanes.get k).state = (s.lanes.get k).state) (h : P (f (s.atTime t))) : Answers c s P := by
  have kept (p : Part) (hp : p ∈ [Part.pending, .modes, .twin, .update, .change]) : same (s.atTime t) (f (s.atTime t)) p :=
    hf p (by simpa using List.all_eq_true.mp hl p hp)
  have modes : (f (s.atTime t)).modes = s.modes := kept .modes (by decide)
  have twin : (f (s.atTime t)).twin = s.twin := kept .twin (by decide)
  have update : (f (s.atTime t)).update = s.update := kept .update (by decide)
  have change : (f (s.atTime t)).change = s.change := kept .change (by decide)
  exact answers_plain hc (attrs_voters (by rw [modes]) (by rw [modes]) (by rw [modes]) (by rw [twin]) (by rw [update])
    (voters_congr states) (by rw [change])) (kept .pending (by decide)) h

theorem get_of_lanes {s r : State} (h : r.lanes = s.lanes) (k : Lane) : r.lanes.get k = s.lanes.get k := by rw [h]

theorem deliveryCounts {t : Time} {s : State} {ln : Lane} {p : Proposal} (h : ¬ (s.cyc.running = false ∨ runsCycles s ln = false ∨
    (s.lanes.get ln).complete = false ∨ (s.lanes.get ln).delivered.isSome ∨ (s.lanes.get ln).late ∨ cycleEnd s ≤ t))
    (point : t ≤ votePoint s) (open_ : s.cyc.voted = false) : Answers (.proposalDelivery t ln p) s fun s' =>
      (s'.lanes.get ln).delivered = some (deliveryOf s ln p) ∧ (s'.lanes.get ln).gdigest = (s.lanes.get ln).gsum ^^^ p.gerr ∧
        (s'.lanes.get ln).deliveredAt = t ∧ (s'.lanes.get ln).state = (s.lanes.get ln).state ∧
        (∀ k, k ≠ ln → s'.lanes.get k = s.lanes.get k) ∧ Frame [.now, .lanes, .cyc, .constable] s s' := by
  have eq := delivered_inTime (s := s.atTime t) (p := p) h point open_
  have frame : Frame [.cyc, .constable] (modLane (s.atTime t) ln fun x => { laneDelivers (s.atTime t) ln p x with
      delivered := some (deliveryOf (s.atTime t) ln p) }) (delivered ln p (s.atTime t)) := by
    rw [eq]
    dsimp only
    split
    · exact noteMargin_frame _ _
    · exact .refl _ _
  have lanes (k : Lane) := get_of_lanes (frame .lanes (by decide)) k
  have whole := ((modLane_frame (s.atTime t) ln fun x => { laneDelivers (s.atTime t) ln p x with
    delivered := some (deliveryOf (s.atTime t) ln p) }).mono (m := [.lanes, .cyc, .constable]) (by decide)).trans (frame.mono (by decide))
  have self : (delivered ln p (s.atTime t)).lanes.get ln = { laneDelivers (s.atTime t) ln p (s.lanes.get ln) with
      delivered := some (deliveryOf s ln p) } := by
    rw [lanes ln]
    exact PerLane.get_set_self _ _ _
  have others (k : Lane) (hk : k ≠ ln) : (delivered ln p (s.atTime t)).lanes.get k = s.lanes.get k := by
    rw [lanes k]
    exact modLane_others _ _ _ k hk
  refine answers_lanes (proposalDelivery_eq t s ln p) whole (by decide) (fun k => ?_) ⟨?_, ?_, ?_, ?_, others, ?_⟩
  · by_cases hk : k = ln
    · rw [hk, self]; rfl
    · rw [others k hk]
  · rw [self]
  · rw [self]; rfl
  · rw [self]; rfl
  · rw [self]; rfl
  · exact ((frame_atTime s t).mono (by decide)).trans (whole.mono (by decide))

theorem writeOutcome_lane (s : State) (ln : Lane) : (writeOutcome s ln).lanes.get ln = { s.lanes.get ln with
    claims := copyOf s, wrote := true, current := true, readback := readbackOf s ln } := PerLane.get_set_self _ _ _

theorem deliveryLate {t : Time} {s : State} {ln : Lane} {p : Proposal} (h : ¬ (s.cyc.running = false ∨ runsCycles s ln = false ∨
    (s.lanes.get ln).complete = false ∨ (s.lanes.get ln).delivered.isSome ∨ (s.lanes.get ln).late ∨ cycleEnd s ≤ t))
    (past : ¬ (t ≤ votePoint s ∧ s.cyc.voted = false)) (none_ : (s.lanes.get ln).delivered = none) :
    Answers (.proposalDelivery t ln p) s fun s' =>
      (s'.lanes.get ln).delivered = none ∧ (s'.lanes.get ln).late = true ∧ (s'.lanes.get ln).deliveredAt = t ∧
        (s'.lanes.get ln).wrote = (s.cyc.voted || (s.lanes.get ln).wrote) ∧ (∀ k, k ≠ ln → s'.lanes.get k = s.lanes.get k) ∧
        Frame [.now, .lanes, .field] s s' := by
  have eq := delivered_late (s := s.atTime t) (p := p) h past
  dsimp only at eq
  generalize hs2 : (modLane (s.atTime t) ln fun x => { laneDelivers (s.atTime t) ln p x with late := true }) = s2 at eq
  have self2 : s2.lanes.get ln = { laneDelivers (s.atTime t) ln p (s.lanes.get ln) with late := true } := by
    rw [← hs2]
    exact PerLane.get_set_self _ _ _
  have others2 (k : Lane) (hk : k ≠ ln) : s2.lanes.get k = s.lanes.get k := by
    rw [← hs2]
    exact modLane_others _ _ _ k hk
  have frame2 : Frame [.lanes, .field] (s.atTime t) s2 := by
    rw [← hs2]
    exact (modLane_frame _ _ _).mono (by decide)
  have settled (r : State) (hr : delivered ln p (s.atTime t) = r) (self : r.lanes.get ln = { s2.lanes.get ln with
      claims := (r.lanes.get ln).claims, wrote := s.cyc.voted || (s.lanes.get ln).wrote, current := (r.lanes.get ln).current,
      readback := (r.lanes.get ln).readback }) (others : ∀ k, k ≠ ln → r.lanes.get k = s2.lanes.get k)
      (frame : Frame [.lanes, .field] s2 r) : Answers (.proposalDelivery t ln p) s fun s' =>
        (s'.lanes.get ln).delivered = none ∧ (s'.lanes.get ln).late = true ∧ (s'.lanes.get ln).deliveredAt = t ∧
          (s'.lanes.get ln).wrote = (s.cyc.voted || (s.lanes.get ln).wrote) ∧ (∀ k, k ≠ ln → s'.lanes.get k = s.lanes.get k) ∧
          Frame [.now, .lanes, .field] s s' := by
    subst hr
    rw [self2] at self
    have others' (k : Lane) (hk : k ≠ ln) := (others k hk).trans (others2 k hk)
    refine answers_lanes (proposalDelivery_eq t s ln p) (frame2.trans frame) (by decide) (fun k => ?_) ⟨?_, ?_, ?_, ?_, others', ?_⟩
    · by_cases hk : k = ln
      · rw [hk, self]; rfl
      · rw [others' k hk]
    · rw [self]; exact none_
    · rw [self]
    · rw [self]; rfl
    · rw [self]
    · exact ((frame_atTime s t).mono (by decide)).trans ((frame2.trans frame).mono (by decide))
  have written (k : Lane) (hk : k ≠ ln) : (writeOutcome s2 ln).lanes.get k = s2.lanes.get k := modLane_others _ _ _ k hk
  have wroteFrame : Frame [.lanes, .field] s2 (writeOutcome s2 ln) := (modLane_frame _ _ _).mono (by decide)
  have voted : (s.atTime t).cyc.voted = s.cyc.voted := rfl
  rw [voted] at eq
  cases hv : s.cyc.voted with
  | false =>
    rw [hv, if_pos rfl] at eq
    refine hv ▸ settled s2 eq ?_ (fun _ _ => rfl) (.refl _ _)
    rw [self2, hv, Bool.false_or]
    rfl
  | true =>
    rw [hv, if_neg (by decide)] at eq
    have lane : (writeOutcome s2 ln).lanes.get ln = { s2.lanes.get ln with
        claims := copyOf s2, wrote := s.cyc.voted || (s.lanes.get ln).wrote, current := true, readback := readbackOf s2 ln } := by
      rw [writeOutcome_lane, hv, Bool.true_or]
    split at eq
    · exact hv ▸ settled _ eq (lane.trans (by rw [show (loadReg (writeOutcome s2 ln) ln).lanes = (writeOutcome s2 ln).lanes from rfl, lane]))
        written (wroteFrame.trans ((loadReg_frame _ _).mono (by decide)))
    · exact hv ▸ settled _ eq (lane.trans (by rw [lane])) written wroteFrame

/-- Settles O24: a delivery that comes by the vote point is kept with its digests; after it the lane is late, and writes the voted
outcome itself where there is one. -/
theorem deliveriesCountByTheVotePoint : Obligations.DeliveriesCountByTheVotePoint := by
  intro t s ln p running runs complete none_ early before
  have h : ¬ (s.cyc.running = false ∨ runsCycles s ln = false ∨ (s.lanes.get ln).complete = false ∨
      (s.lanes.get ln).delivered.isSome ∨ (s.lanes.get ln).late ∨ cycleEnd s ≤ t) := by
    rw [running, runs, complete, none_, early]
    simp [before]
  refine ⟨fun point open_ => deliveryCounts h point open_, fun past => deliveryLate h (fun ⟨point, open_⟩ => ?_) none_⟩
  exact past.elim (fun late => absurd point (Nat.not_le.mpr late)) fun voted => absurd (voted.symm.trans open_) (by decide)

end Sys2Proof.Machine
end

section
/-!
PROOFS. The timed transitions of a route, abandoned requests and emergency releases (O31).
-/

namespace Sys2Proof.Machine

/-! ### Routes, slots and the commands on them -/

theorem modRoute_frame (s : State) (r : Nat) (f : RouteSt → RouteSt) : Frame [.commons] s (modRoute s r f) := by
  intro p hp
  cases p <;> simp [same] at hp ⊢

theorem modSlot_frame (s : State) (k : Nat) (f : Slot → Slot) : Frame [.commons] s (modSlot s k f) := by
  intro p hp
  cases p <;> simp [same] at hp ⊢

theorem modSess_frame (s : State) (k : Nat) (f : Sess → Sess) : Frame [.sessions] s (modSess s k f) := by
  intro p hp
  cases p <;> simp [same, modSess] at hp ⊢

theorem modSlot_abandoned (s : State) (k : Nat) (f : Slot → Slot) : (modSlot s k f).commons.abandoned = s.commons.abandoned := rfl

theorem modRoute_self {s : State} {r : Nat} {f : RouteSt → RouteSt} (h : f (routeSt s r) ≠ {}) : routeSt (modRoute s r f) r = f (routeSt s r) :=
  tget_tput_self _ _ _ _ h

theorem modSlot_self {s : State} {k : Nat} {f : Slot → Slot} (h : f (slotSt s k) ≠ {}) : slotSt (modSlot s k f) k = f (slotSt s k) :=
  tget_tput_self _ _ _ _ h

/-- What the steps of a route leave of the Commons: the slots, and the two totals. -/
structure CommonsKept (s r : State) : Prop where
  slots : r.commons.slots = s.commons.slots
  abandoned : r.commons.abandoned = s.commons.abandoned
  emergency : r.commons.emergency = s.commons.emergency

theorem CommonsKept.refl (s : State) : CommonsKept s s := ⟨rfl, rfl, rfl⟩

theorem CommonsKept.trans {s x r : State} (h : CommonsKept s x) (h' : CommonsKept x r) : CommonsKept s r :=
  ⟨h'.slots.trans h.slots, h'.abandoned.trans h.abandoned, h'.emergency.trans h.emergency⟩

theorem CommonsKept.of_commons {s r : State} (h : r.commons = s.commons) : CommonsKept s r := ⟨by rw [h], by rw [h], by rw [h]⟩

theorem modRoute_kept (s : State) (r : Nat) (f : RouteSt → RouteSt) : CommonsKept s (modRoute s r f) := ⟨rfl, rfl, rfl⟩

theorem routeSt_of_commons {s r : State} (h : r.commons = s.commons) (n : Nat) : routeSt r n = routeSt s n := by
  unfold routeSt
  rw [h]

theorem slotSt_of_commons {s r : State} (h : r.commons = s.commons) (k : Nat) : slotSt r k = slotSt s k := by
  unfold slotSt
  rw [h]

theorem source_of_constable {s r : State} (h : r.constable = s.constable) (n : Nat) : source r n = source s n := by
  unfold source
  rw [h]

theorem slotSt_congr {s r : State} (h : r.commons.slots = s.commons.slots) (k : Nat) : slotSt r k = slotSt s k := by
  unfold slotSt
  rw [h]

theorem noteResult_effect (s : State) (c : Command) (code : U8) (ref : U32) :
    Frame [.commons] s (noteResult s c code ref) ∧ CommonsKept s (noteResult s c code ref) := by
  unfold noteResult
  split
  · exact ⟨modRoute_frame _ _ _, modRoute_kept _ _ _⟩
  · exact ⟨.refl _ _, .refl _⟩

theorem modCmd_frame (s : State) (c : Command) (f : Command → Command) : Frame [.cyc] s (modCmd s c f) := by
  intro p hp
  cases p <;> simp [same, modCmd] at hp ⊢

theorem answer_effect (s : State) (c : Command) (code : U8) (ref : U32) (final : Bool) :
    Frame [.cyc, .commons] s (answer s c code ref final) ∧ CommonsKept s (answer s c code ref final) := by
  unfold answer
  dsimp only
  generalize hs1 : ({ modCmd s c (fun d => { d with given := d.given + 1, final := d.final || final }) with
    cyc := { (modCmd s c fun d => { d with given := d.given + 1, final := d.final || final }).cyc with
      decided := (modCmd s c fun d => { d with given := d.given + 1, final := d.final || final }).cyc.decided ++
        [resultOf (modCmd s c fun d => { d with given := d.given + 1, final := d.final || final }) c code ref] } } : State) = s1
  have decided : Frame [.cyc, .commons] s s1 ∧ CommonsKept s s1 := by
    subst hs1
    exact ⟨fun p hp => by cases p <;> simp [same, modCmd] at hp ⊢, rfl, rfl, rfl⟩
  obtain ⟨frame, kept⟩ := noteResult_effect s1 c code ref
  exact ⟨decided.1.trans (frame.mono (by decide)), decided.2.trans kept⟩

theorem endSilently_frame (s : State) (c : Command) : Frame [.cyc] s (endSilently s c) := by
  intro p hp
  cases p <;> simp [same, endSilently, modCmd] at hp ⊢

theorem foldl_endSilently_frame (l : List Command) (s : State) : Frame [.cyc] s (l.foldl endSilently s) :=
  foldl_frame _ endSilently_frame l s

theorem answerAll_effect (s : State) (op target : Nat) (code : U8) :
    Frame [.cyc, .commons] s (answerAll s op target code) ∧ CommonsKept s (answerAll s op target code) := by
  unfold answerAll
  generalize pendingOf s op target = l
  induction l generalizing s with
  | nil => exact ⟨.refl _ _, .refl _⟩
  | cons c l ih =>
    obtain ⟨frame, kept⟩ := answer_effect s c code none32 true
    obtain ⟨frame', kept'⟩ := ih (answer s c code none32 true)
    exact ⟨frame.trans frame', kept.trans kept'⟩

theorem sendRecord_frame (s : State) (x : Route) (msg : Nat) (b : BoundaryRec) : Frame [.sessions] s (sendRecord s x msg b) := by
  unfold sendRecord
  split
  · exact modSess_frame _ _ _
  · exact .refl _ _

/-- A route's new state: the continuation's neighbour hears of it. -/
theorem setRouteState_effect (s : State) (r n : Nat) : Frame [.commons, .sessions] s (setRouteState s r n) ∧
    CommonsKept s (setRouteState s r n) ∧ routeSt (setRouteState s r n) r =
      { routeSt s r with state := n, changed := s.now, movedAt := some s.cyc.number } := by
  have self : routeSt (modRoute s r fun x => { x with state := n, changed := s.now, movedAt := some s.cyc.number }) r =
      { routeSt s r with state := n, changed := s.now, movedAt := some s.cyc.number } :=
    modRoute_self (f := fun x => { x with state := n, changed := s.now, movedAt := some s.cyc.number })
      fun same => Option.some_ne_none _ (congrArg RouteSt.movedAt same)
  have moved := (modRoute_frame s r fun x => { x with state := n, changed := s.now, movedAt := some s.cyc.number }).mono
    (m := [.commons, .sessions]) (by decide)
  unfold setRouteState
  dsimp only
  split
  · split
    · have sent := sendRecord_frame (modRoute s r fun x => { x with state := n, changed := s.now, movedAt := some s.cyc.number })
      refine ⟨moved.trans ((sent _ _ _).mono (by decide)), (modRoute_kept _ _ _).trans (.of_commons (sent _ _ _ .commons (by decide))), ?_⟩
      rw [← self]
      exact routeSt_of_commons (sent _ _ _ .commons (by decide)) r
    · exact ⟨moved, modRoute_kept _ _ _, self⟩
  · exact ⟨moved, modRoute_kept _ _ _, self⟩

theorem answerSet_effect (s : State) (r : Nat) (y : Slot) (code : U8) (ref : U32) (final : Bool) :
    Frame [.cyc, .commons] s (answerSet s r y code ref final) ∧ CommonsKept s (answerSet s r y code ref final) := by
  unfold answerSet
  split
  · exact answer_effect _ _ _ _ _
  · exact ⟨(modRoute_frame _ _ _).mono (by decide), modRoute_kept _ _ _⟩

/-- The commands of a route that goes Idle end: its own silently, cancels and releases with their answer. -/
def commandsEnded (s : State) (r k : Nat) : State :=
  let s1 := match setCommand s r (slotSt s k) with
    | some c => endSilently s c
    | none => s
  let arms := (pendingOf s1 3 r).filter fun c => c.param == 1
  answerAll (answerAll (arms.foldl endSilently s1) 2 r 1) 3 r 1

/-- Its slot is free. -/
def slotFreed (s : State) (r k : Nat) : State :=
  let s1 := modRoute s r fun x => { x with slot := none }
  { s1 with commons := { s1.commons with slots := tput {} s1.commons.slots k {}, freed := k :: s1.commons.freed } }

theorem toIdle_eq (s : State) (r k : Nat) : toIdle s r k = slotFreed (setRouteState (commandsEnded s r k) r 0) r k := by
  unfold toIdle slotFreed commandsEnded
  dsimp only <;> cases setCommand s r (slotSt s k) <;> rfl

theorem commandsEnded_effect (s : State) (r k : Nat) :
    Frame [.cyc, .commons] s (commandsEnded s r k) ∧ CommonsKept s (commandsEnded s r k) := by
  unfold commandsEnded
  dsimp only
  generalize hs1 : (match setCommand s r (slotSt s k) with
    | some c => endSilently s c
    | none => s) = s1
  have silent : Frame [.cyc] s s1 := by
    subst hs1
    split
    · exact endSilently_frame _ _
    · exact .refl _ _
  have silent2 := silent.trans (foldl_endSilently_frame ((pendingOf s1 3 r).filter fun c => c.param == 1) s1)
  generalize (((pendingOf s1 3 r).filter fun c => c.param == 1).foldl endSilently s1) = s2 at silent2 ⊢
  obtain ⟨frame3, kept3⟩ := answerAll_effect s2 2 r 1
  obtain ⟨frame4, kept4⟩ := answerAll_effect (answerAll s2 2 r 1) 3 r 1
  exact ⟨(silent2.mono (by decide)).trans (frame3.trans frame4),
    (CommonsKept.of_commons (silent2 .commons (by decide))).trans (kept3.trans kept4)⟩

theorem slotFreed_frame (s : State) (r k : Nat) : Frame [.commons] s (slotFreed s r k) := by
  intro p hp
  cases p <;> simp [same, slotFreed] at hp ⊢

theorem slotFreed_route {s : State} {r : Nat} (k : Nat) (moved : (routeSt s r).movedAt ≠ none) :
    routeSt (slotFreed s r k) r = { routeSt s r with slot := none } :=
  modRoute_self (f := fun x => { x with slot := none }) fun same => moved (congrArg RouteSt.movedAt same)

/-- A route that goes Idle: its commands end, and its slot is free. -/
theorem toIdle_effect (s : State) (r k : Nat) : Frame [.cyc, .commons, .sessions] s (toIdle s r k) ∧
    (toIdle s r k).commons.abandoned = s.commons.abandoned ∧ (toIdle s r k).commons.emergency = s.commons.emergency ∧
    (routeSt (toIdle s r k) r).state = 0 ∧ (routeSt (toIdle s r k) r).slot = none := by
  rw [toIdle_eq]
  obtain ⟨frame, kept⟩ := commandsEnded_effect s r k
  generalize commandsEnded s r k = x at frame kept ⊢
  obtain ⟨frame', kept', state⟩ := setRouteState_effect x r 0
  generalize setRouteState x r 0 = y at frame' kept' state ⊢
  have self := slotFreed_route (s := y) (r := r) k (by rw [state]; exact Option.some_ne_none _)
  have whole := kept.trans kept'
  refine ⟨(frame.mono (by decide)).trans ((frame'.mono (by decide)).trans ((slotFreed_frame _ _ _).mono (by decide))),
    whole.abandoned, whole.emergency, ?_, ?_⟩
  · rw [self, state]
  · rw [self]

theorem dropClaims_frame (s : State) (r k : Nat) (l : List Nat) : Frame [.commons, .constable] s (dropClaims s r k l) := by
  have dropped := (modSlot_frame s k fun y => { y with held := y.held.filter fun e => !l.contains e, relCycles := 0 }).mono
    (m := [.commons, .constable]) (by decide)
  unfold dropClaims
  dsimp only
  split
  · exact .refl _ _
  · split
    · exact dropped.trans ((withdraw_frame _ _).mono (by decide))
    · exact dropped

/-- Claims that are dropped end no other source than the stall's. -/
theorem dropClaims_source (s : State) (r k : Nat) (l : List Nat) {n : Nat} (h : n ≠ 63) : source (dropClaims s r k l) n = source s n := by
  unfold dropClaims
  dsimp only
  split
  · rfl
  · split
    · exact modSource_source_ne _ _ h
    · rfl

/-- Only the slot's claims and its stall count change. -/
theorem dropClaims_slot {s : State} (r : Nat) {k : Nat} (l : List Nat) (h : ∀ held cycles, { slotSt s k with held := held, relCycles := cycles } ≠ {}) :
    (slotSt (dropClaims s r k l) k).held = (slotSt s k).held.filter (fun e => !l.contains e) ∧
      ∃ held cycles, slotSt (dropClaims s r k l) k = { slotSt s k with held := held, relCycles := cycles } := by
  have self : slotSt (modSlot s k fun y => { y with held := y.held.filter fun e => !l.contains e, relCycles := 0 }) k =
      { slotSt s k with held := (slotSt s k).held.filter fun e => !l.contains e, relCycles := 0 } :=
    modSlot_self (f := fun y => { y with held := y.held.filter fun e => !l.contains e, relCycles := 0 }) (h _ _)
  unfold dropClaims
  dsimp only
  split
  next none_ =>
    refine ⟨(List.filter_eq_self.mpr fun e he => ?_).symm, _, _, rfl⟩
    have out := List.filter_eq_nil_iff.mp none_ e he
    simpa using out
  next =>
    split
    · exact ⟨(congrArg Slot.held self : _), _, _, self⟩
    · exact ⟨(congrArg Slot.held self : _), _, _, self⟩

theorem dropClaims_totals (s : State) (r k : Nat) (l : List Nat) : (dropClaims s r k l).commons.abandoned = s.commons.abandoned ∧
    (dropClaims s r k l).commons.emergency = s.commons.emergency ∧ (dropClaims s r k l).commons.routes = s.commons.routes := by
  unfold dropClaims
  dsimp only
  split
  · exact ⟨rfl, rfl, rfl⟩
  · split <;> exact ⟨rfl, rfl, rfl⟩

theorem idleWhenEmpty_effect (s : State) (r k : Nat) : Frame [.cyc, .commons, .sessions] s (idleWhenEmpty s r k) ∧
    (idleWhenEmpty s r k).commons.emergency = s.commons.emergency ∧
    ((slotSt s k).held ≠ [] → idleWhenEmpty s r k = s) ∧
    ((slotSt s k).held = [] → (routeSt (idleWhenEmpty s r k) r).state = 0 ∧ (routeSt (idleWhenEmpty s r k) r).slot = none) := by
  unfold idleWhenEmpty
  split
  next empty =>
    obtain ⟨frame, -, emergency, idle⟩ := toIdle_effect s r k
    exact ⟨frame, emergency, fun held => absurd empty held, fun _ => idle⟩
  next held => exact ⟨.refl _ _, rfl, fun _ => rfl, fun empty => absurd empty held⟩

/-! ### What a command of the vote leaves (R51, R215) -/

theorem noteClaims_frame (before after : State) : Frame [.points] after (noteClaims before after) := by
  unfold noteClaims
  exact foldl_frame _ (fun _ _ => modElem_frame _ _ _) _ _

theorem detectBoundaries_frame (s : State) : Frame [.points] s (detectBoundaries s) := by
  unfold detectBoundaries
  refine foldl_frame _ (fun st o => ?_) _ s
  split
  · exact modElem_frame _ _ _
  · exact .refl _ _

theorem settleClaims_frame (before after : State) : Frame [.points, .lanes] after (settleClaims before after) := by
  unfold settleClaims
  split
  · exact .refl _ _
  · refine (((noteClaims_frame before after).trans (detectBoundaries_frame _)).mono (by decide)).trans fun p hp => ?_
    cases p <;> simp [same] at hp ⊢

theorem settleClaims_states (before after : State) (k : Lane) :
    ((settleClaims before after).lanes.get k).state = (after.lanes.get k).state := by
  unfold settleClaims
  split
  · rfl
  · have lanes := ((noteClaims_frame before after).trans (detectBoundaries_frame _)) .lanes (by decide)
    rw [perLane_get_map, lanes]
    split <;> rfl

theorem settleClaims_self (s : State) : settleClaims s s = s := if_pos rfl

theorem atVote_eq (t : Time) (s : State) (f : State → State) : atVote t s f = at_ t s fun s => if s.cyc.voted then settleClaims s (f s) else s :=
  rfl

/-- Before a vote, or when nothing is due, nothing happens. -/
theorem runs_atVote_idle {c : Instr} {t : Time} {s : State} {f : State → State} (hc : exec c s = atVote t s f)
    (h : s.cyc.voted = false ∨ f (s.atTime t) = s.atTime t) : Runs c s (s.atTime t) := by
  refine runs_idle (hc.trans (atVote_eq t s f)) ?_
  obtain unvoted | idle := h
  · exact if_neg (by rw [State.atTime_cyc, unvoted]; decide)
  · rw [idle, settleClaims_self, ite_self]

/-- A step of the vote answers its effect, up to the elements and the lanes' claim copies that follow the claims. -/
theorem answers_atVote {c : Instr} {t : Time} {s r : State} {f : State → State} {l : List Part} {P : State → Prop}
    (hc : exec c s = atVote t s f) (voted : s.cyc.voted = true) (hr : f (s.atTime t) = r) (hf : Frame l (s.atTime t) r)
    (hl : still l = true) (h : ∀ s', Frame [.points, .lanes] r s' → P s') : Answers c s P := by
  have eq : (if (s.atTime t).cyc.voted then settleClaims (s.atTime t) (f (s.atTime t)) else s.atTime t) =
      settleClaims (s.atTime t) r := by
    rw [hr]
    exact if_pos voted
  have settled := settleClaims_frame (s.atTime t) r
  have lanes : r.lanes = s.lanes := hf .lanes (not_mem_of_still hl (by decide))
  have whole : Frame (.points :: .lanes :: l) (s.atTime t) (settleClaims (s.atTime t) r) :=
    (hf.mono fun p hp => by simp [hp]).trans (settled.mono fun p hp => by
      rcases List.mem_cons.mp hp with rfl | hp'
      · simp
      · rw [List.mem_singleton.mp hp']; simp)
  refine answers_lanes (l := .points :: .lanes :: l) (hc.trans (atVote_eq t s f)) (by rw [eq]; exact whole) ?_ (fun k => ?_)
    (by rw [eq]; exact h _ settled)
  · refine List.all_eq_true.mpr fun p hp => ?_
    have out := not_mem_of_still hl (p := p) (by revert p; decide)
    rcases List.mem_cons.mp hp with rfl | hp
    · simpa using out
    rcases List.mem_cons.mp hp with rfl | hp
    · simpa using out
    rcases List.mem_cons.mp hp with rfl | hp
    · simpa using out
    rcases List.mem_cons.mp hp with rfl | hp
    · simpa using out
    · rw [List.mem_singleton.mp hp] at out ⊢
      simpa using out
  · rw [eq, settleClaims_states, lanes]

theorem onRoute_of {s : State} {r k : Nat} {x : Route} (hx : route? s r = some x) (hk : slotOfRoute s r = some k)
    (f : Nat → Route → State) : onRoute s r f = f k x := by
  unfold onRoute
  rw [hx, hk]

theorem routeSt_settled {r s' : State} (h : Frame [.points, .lanes] r s') (n : Nat) : routeSt s' n = routeSt r n :=
  routeSt_of_commons (h .commons (by decide)) n

theorem slotSt_settled {r s' : State} (h : Frame [.points, .lanes] r s') (k : Nat) : slotSt s' k = slotSt r k :=
  slotSt_of_commons (h .commons (by decide)) k

theorem source_settled {r s' : State} (h : Frame [.points, .lanes] r s') (n : Nat) : source s' n = source r n :=
  source_of_constable (h .constable (by decide)) n

/-! ### The approach timer (R86) -/

/-- APPROACH_TIMER_EXPIRY. -/
def approachExpires (r : Nat) (s : State) : State := onRoute s r fun k _ =>
  let y := slotSt s k
  if (routeSt s r).state = 6 ∧ y.apprTimer = 0 ∧ movedNow s r = false then
    if y.cancelPend then cancelNow s r k
    else setRouteState (modSlot s k fun z => { z with approach := false }) r 4
  else s

theorem approachTimerExpiry_eq (t : Time) (s : State) (r : Nat) : exec (.approachTimerExpiry t r) s = atVote t s (approachExpires r) := rfl

/-- A change of the slot and the route's next state. -/
theorem routeMoves (s : State) (r k n : Nat) (f : Slot → Slot) : Frame [.commons, .sessions] s (setRouteState (modSlot s k f) r n) ∧
    (routeSt (setRouteState (modSlot s k f) r n) r).state = n ∧
    (routeSt (setRouteState (modSlot s k f) r n) r).movedAt = some s.cyc.number := by
  obtain ⟨frame, -, state⟩ := setRouteState_effect (modSlot s k f) r n
  exact ⟨((modSlot_frame _ _ _).mono (by decide)).trans frame, congrArg RouteSt.state state, congrArg RouteSt.movedAt state⟩

theorem approachExpires_due {s : State} {r k : Nat} {x : Route} (hx : route? s r = some x) (hk : slotOfRoute s r = some k)
    (state : (routeSt s r).state = 6) (timer : (slotSt s k).apprTimer = 0) (fresh : movedNow s r = false) :
    ∃ f : Slot → Slot, approachExpires r s = setRouteState (modSlot s k f) r (if (slotSt s k).cancelPend then 7 else 4) := by
  unfold approachExpires
  rw [onRoute_of hx hk]
  dsimp only
  rw [if_pos ⟨state, timer, fresh⟩]
  split
  · exact ⟨_, rfl⟩
  · exact ⟨_, rfl⟩

theorem approachExpires_idle {s : State} {r : Nat} (h : (routeSt s r).state ≠ 6) : approachExpires r s = s := by
  unfold approachExpires onRoute
  split
  · exact if_neg fun due => h due.1
  · rfl

theorem frame_now_of_settled {s r s' : State} {t : Time} {l m : List Part} (hf : Frame l (s.atTime t) r) (hs : Frame [.points, .lanes] r s')
    (hl : ∀ p ∈ l, p ∈ m) (hm : .now ∈ m ∧ .points ∈ m ∧ .lanes ∈ m) : Frame m s s' := by
  refine ((frame_atTime s t).mono ?_).trans ((hf.mono hl).trans (hs.mono ?_))
  · intro p hp
    rw [List.mem_singleton.mp hp]
    exact hm.1
  · intro p hp
    rcases List.mem_cons.mp hp with rfl | hp
    · exact hm.2.1
    · rw [List.mem_singleton.mp hp]
      exact hm.2.2

theorem approach {t : Time} {s : State} {r k : Nat} {x : Route} (hx : route? s r = some x) (hk : slotOfRoute s r = some k)
    (voted : s.cyc.voted = true) (state : (routeSt s r).state = 6) (timer : (slotSt s k).apprTimer = 0) (fresh : movedNow s r = false) :
    Answers (.approachTimerExpiry t r) s fun s' =>
      (routeSt s' r).state = (if (slotSt s k).cancelPend then 7 else 4) ∧ (routeSt s' r).movedAt = some s.cyc.number ∧
        Frame [.now, .commons, .points, .sessions, .lanes] s s' := by
  obtain ⟨f, eq⟩ := approachExpires_due (s := s.atTime t) hx hk state timer fresh
  obtain ⟨frame, moved, at_⟩ := routeMoves (s.atTime t) r k (if (slotSt s k).cancelPend then 7 else 4) f
  refine answers_atVote (approachTimerExpiry_eq t s r) voted eq frame (by decide) fun s' settled => ?_
  rw [routeSt_settled settled]
  exact ⟨moved, at_, frame_now_of_settled frame settled (by decide) (by decide)⟩

/-! ### The overlap timer (R91) -/

/-- OVERLAP_TIMER_EXPIRY. -/
def overlapExpires (r : Nat) (s : State) : State := onRoute s r fun k x =>
  if overlapDue s x (slotSt s k) ∧ frozenContinuation s x = false then idleWhenEmpty (dropOverlap s r k x) r k else s

theorem overlapTimerExpiry_eq (t : Time) (s : State) (r : Nat) : exec (.overlapTimerExpiry t r) s = atVote t s (overlapExpires r) := rfl

theorem setBit_self {w : Nat} (v : BitVec w) {k : Nat} (h : k < w) : (setBit v k true).getLsbD k = true := by
  rw [getLsbD_setBit v k k true]
  simp [h]

theorem dropOverlap_slot {s : State} (r : Nat) {k : Nat} (x : Route) (timer : (slotSt s k).ovlTimer = some 0) :
    (slotSt (dropOverlap s r k x) k).held = (slotSt s k).held.filter (fun n => !(overlapElems x).contains n) ∧
      (slotSt (dropOverlap s r k x) k).released.getLsbD 63 = true := by
  have timed {y : Slot} (h : y.ovlTimer = some 0) : y ≠ {} := fun same =>
    Option.some_ne_none 0 (h.symm.trans (congrArg Slot.ovlTimer same))
  obtain ⟨held, _, _, slot⟩ := dropClaims_slot r (overlapElems x) (s := s) (k := k) fun _ _ => timed timer
  have self : slotSt (dropOverlap s r k x) k = { slotSt (dropClaims s r k (overlapElems x)) k with
      released := setBit (slotSt (dropClaims s r k (overlapElems x)) k).released 63 true } :=
    modSlot_self (f := fun y => { y with released := setBit y.released 63 true }) (timed (by rw [slot]; exact timer))
  rw [self]
  exact ⟨held, setBit_self _ (by decide)⟩

theorem overlap {t : Time} {s : State} {r k : Nat} {x : Route} (hx : route? s r = some x) (hk : slotOfRoute s r = some k)
    (voted : s.cyc.voted = true) (due : overlapDue s x (slotSt s k) = true) (live : frozenContinuation s x = false) :
    Answers (.overlapTimerExpiry t r) s fun s' =>
      ((∃ n ∈ (slotSt s k).held, n ∉ overlapElems x) →
        (slotSt s' k).held = (slotSt s k).held.filter (fun n => !(overlapElems x).contains n) ∧
          (slotSt s' k).released.getLsbD 63 = true) ∧
      ((∀ n ∈ (slotSt s k).held, n ∈ overlapElems x) → (routeSt s' r).state = 0 ∧ (routeSt s' r).slot = none) := by
  have timer : (slotSt s k).ovlTimer = some 0 := by
    unfold overlapDue at due
    simp only [Bool.and_eq_true, beq_iff_eq] at due
    exact due.1.1
  obtain ⟨held, released⟩ := dropOverlap_slot r x (s := s.atTime t) (k := k) timer
  obtain ⟨frame, -, stays, ends⟩ := idleWhenEmpty_effect (dropOverlap (s.atTime t) r k x) r k
  have eq : overlapExpires r (s.atTime t) = idleWhenEmpty (dropOverlap (s.atTime t) r k x) r k :=
    (onRoute_of (s := s.atTime t) hx hk _).trans (if_pos ⟨due, live⟩)
  have dropped : Frame [.commons, .constable] (s.atTime t) (dropOverlap (s.atTime t) r k x) :=
    (dropClaims_frame _ _ _ _).trans ((modSlot_frame _ _ _).mono (by decide))
  refine answers_atVote (l := [.cyc, .commons, .sessions, .constable]) (overlapTimerExpiry_eq t s r) voted eq
    ((dropped.mono (by decide)).trans (frame.mono (by decide))) (by decide) fun s' settled => ⟨fun ⟨n, hn, other⟩ => ?_, fun all => ?_⟩
  · have kept : (slotSt (dropOverlap (s.atTime t) r k x) k).held ≠ [] := by
      rw [held]
      exact fun empty => absurd (List.filter_eq_nil_iff.mp empty n hn) (by simpa using other)
    rw [slotSt_settled settled, stays kept]
    exact ⟨held, released⟩
  · rw [routeSt_settled settled]
    refine ends ?_
    rw [held]
    exact List.filter_eq_nil_iff.mpr fun n hn => by simpa using all n hn

/-! ### The stall of a release (R93) -/

/-- RELEASE_STALL. -/
def releaseStalls (r : Nat) (s : State) : State := onRoute s r fun k x =>
  let y := slotSt s k
  if (routeSt s r).state = 7 ∧ cyclesOfSec s 600 ≤ y.relCycles then
    raise s 63 (u32 r) (u32 (lowestGroup x y)) (u32 ((s.now - (routeSt s r).changed) / sec 1))
  else s

theorem releaseStall_eq (t : Time) (s : State) (r : Nat) : exec (.releaseStall t r) s = at_ t s (releaseStalls r) := rfl

theorem stall {t : Time} {s : State} {r k : Nat} {x : Route} (hx : route? s r = some x) (hk : slotOfRoute s r = some k)
    (state : (routeSt s r).state = 7) (long : cyclesOfSec s 600 ≤ (slotSt s k).relCycles) (quiet : Quiet s 63) :
    Runs (.releaseStall t r) s (recordRaise (s.atTime t) 63 false (u32 r) (u32 (lowestGroup x (slotSt s k)))
      (u32 ((t - (routeSt s r).changed) / sec 1))) := by
  refine runs_still (releaseStall_eq t s r) ?_ (recordRaise_frame _ _ _ _ _ _) (by decide)
  refine ((onRoute_of (s := s.atTime t) hx hk _).trans (if_pos ⟨state, long⟩)).trans ?_
  exact raise_minor (s := s.atTime t) quiet (by decide) _ _ _

theorem noStall {t : Time} {s : State} {r : Nat} (state : (routeSt s r).state ≠ 7) : Runs (.releaseStall t r) s (s.atTime t) := by
  refine runs_idle (releaseStall_eq t s r) ?_
  unfold releaseStalls onRoute
  split
  · exact if_neg fun due => state due.1
  · rfl

/-! ### The proving of the entries (R83) -/

/-- PROVING_TIMEOUT. -/
def provingExpires (r e : Nat) (s : State) : State := onRoute s r fun k x =>
  if provingOpen s (slotSt s k) ∧ (x.list.any fun y => y.elem == e && provingLate s (slotSt s k) y) then failProving s r k e else s

theorem provingTimeout_eq (t : Time) (s : State) (r e : Nat) : exec (.provingTimeout t r e) s = atVote t s (provingExpires r e) := rfl

/-- An entry that is late is a signal or a detector: only those have a limit. -/
theorem not_movable_of_late {s : State} {y : Slot} {z : ListEntry} {x : Element} (late : provingLate s y z = true)
    (hx : elem? s z.elem = some x) : isMovable x.kind = false := by
  unfold provingLate at late
  rw [hx] at late
  simp only [Bool.and_eq_true, Option.bind_some] at late
  have limit := late.2
  unfold provingLimit at limit
  split at limit
  next kind => rw [kind]; rfl
  next kind => rw [kind]; rfl
  next => simp at limit

/-- The failed proving of a fixed entry, before its source is raised. -/
def provingFailed (s : State) (r k e : Nat) : State :=
  setRouteState (modSlot (answerSet s r (slotSt s k) 0x11 (u32 e) true) k fun y => { y with noTrain := true }) r 7

theorem failProving_fixed {s : State} {r k e : Nat} {z : Element} (hz : elem? s e = some z) (fixed : isMovable z.kind = false) :
    failProving s r k e = raise (provingFailed s r k e) 61 (u32 r) (u32 e) 0x11 := by
  have throw : (elem? s e).any (fun z => isMovable z.kind) = false := by
    rw [hz]
    exact fixed
  unfold failProving
  dsimp only
  rw [throw]
  rfl

theorem provingFailed_effect (s : State) (r k e : Nat) : Frame [.cyc, .commons, .sessions] s (provingFailed s r k e) ∧
    (routeSt (provingFailed s r k e) r).state = 7 ∧ (slotSt (provingFailed s r k e) k).noTrain = true := by
  obtain ⟨answered, -⟩ := answerSet_effect s r (slotSt s k) 0x11 (u32 e) true
  unfold provingFailed
  generalize answerSet s r (slotSt s k) 0x11 (u32 e) true = x at answered ⊢
  obtain ⟨frame, kept, state⟩ := setRouteState_effect (modSlot x k fun y => { y with noTrain := true }) r 7
  have self : slotSt (modSlot x k fun y => { y with noTrain := true }) k = { slotSt x k with noTrain := true } :=
    modSlot_self (f := fun y => { y with noTrain := true }) fun same => Bool.noConfusion (congrArg Slot.noTrain same)
  refine ⟨(answered.mono (by decide)).trans (((modSlot_frame _ _ _).mono (by decide)).trans (frame.mono (by decide))),
    congrArg RouteSt.state state, ?_⟩
  rw [slotSt_congr kept.slots, self]

/-- A Minor source that a step of the vote raises on what it has changed. -/
theorem answers_voteRaise {c : Instr} {t : Time} {s x : State} {f : State → State} {n : Nat} {p1 p2 p3 : U32} {P : State → Prop}
    (hc : exec c s = atVote t s f) (voted : s.cyc.voted = true) (hr : f (s.atTime t) = raise x n p1 p2 p3)
    (hx : Frame [.cyc, .commons, .sessions, .constable] (s.atTime t) x) (hn : source x n = source s n) (quiet : Quiet s n)
    (cls : srcClass n ≤ 1)
    (h : ∀ s', Raised s s' n p1 p2 p3 → Frame [.now, .cyc, .commons, .points, .sessions, .constable, .lanes] s s' →
      Frame [.points, .lanes, .constable] x s' → P s') : Answers c s P := by
  have quietx : Quiet x n := by
    unfold Quiet at quiet ⊢
    rw [hn]
    exact quiet
  have recorded := raise_minor quietx cls p1 p2 p3
  have frame := recordRaise_frame x n false p1 p2 p3
  refine answers_atVote hc voted (hr.trans recorded) (hx.trans (frame.mono (by decide))) (by decide) fun s' settled => ?_
  refine h s' ?_ (frame_now_of_settled (hx.trans (frame.mono (by decide))) settled (by decide) (by decide))
    ((frame.mono (by decide)).trans (settled.mono (by decide)))
  obtain ⟨raises, params, last⟩ := raised_recordRaise (s := s) hn p1 p2 p3
  have source_ := source_settled settled n
  exact ⟨by rw [source_]; exact raises, by rw [source_]; exact params, by rw [source_, last]; exact (settled .now (by decide)).symm⟩

theorem proving {t : Time} {s : State} {r k e : Nat} {x : Route} {z : Element} (hx : route? s r = some x) (hk : slotOfRoute s r = some k)
    (voted : s.cyc.voted = true) (proves : provingOpen s (slotSt s k) = true) (hz : elem? s e = some z)
    (late : ∃ y ∈ x.list, y.elem = e ∧ provingLate s (slotSt s k) y = true) (quiet : Quiet s 61) :
    Answers (.provingTimeout t r e) s fun s' =>
      (routeSt s' r).state = 7 ∧ (slotSt s' k).noTrain = true ∧ Raised s s' 61 (u32 r) (u32 e) 0x11 ∧
        Frame [.now, .cyc, .commons, .points, .sessions, .constable, .lanes] s s' := by
  obtain ⟨y, hy, rfl, hlate⟩ := late
  have any : (x.list.any fun z => z.elem == y.elem && provingLate s (slotSt s k) z) = true :=
    List.any_eq_true.mpr ⟨y, hy, by rw [hlate, beq_self_eq_true]; rfl⟩
  obtain ⟨frame, state, noTrain⟩ := provingFailed_effect (s.atTime t) r k y.elem
  have eq : provingExpires r y.elem (s.atTime t) = raise (provingFailed (s.atTime t) r k y.elem) 61 (u32 r) (u32 y.elem) 0x11 :=
    ((onRoute_of (s := s.atTime t) hx hk _).trans (if_pos ⟨proves, any⟩)).trans
      (failProving_fixed (s := s.atTime t) hz (not_movable_of_late hlate hz))
  refine answers_voteRaise (provingTimeout_eq t s r y.elem) voted eq (frame.mono (by decide))
    (source_of_constable (frame .constable (by decide)) 61) quiet (by decide) fun s' raised whole rest => ?_
  have commons := rest .commons (by decide)
  refine ⟨?_, ?_, raised, whole⟩
  · rw [← state]
    exact congrArg RouteSt.state (routeSt_of_commons commons r)
  · rw [← noTrain]
    exact congrArg Slot.noTrain (slotSt_of_commons commons k)

/-! ### A request without its grant (R100) -/

/-- CROSS_ZONE_TIMEOUT. -/
def crossZoneExpires (r : Nat) (s : State) : State := onRoute s r fun k x =>
  let y := slotSt s k
  if (routeSt s r).state = 1 ∧ 4 ≤ cyclesSince y.reqCycle s.cyc.number ∧ movedNow s r = false then
    let s1 := answerSet s r y 0x13 none32 true
    noteAbandoned (abandonRequest s1 r k x true) r y.token 0
  else s

theorem crossZoneTimeout_eq (t : Time) (s : State) (r : Nat) : exec (.crossZoneTimeout t r) s = atVote t s (crossZoneExpires r) := rfl

theorem crossZoneExpires_idle {s : State} {r : Nat} (h : (routeSt s r).state ≠ 1) : crossZoneExpires r s = s := by
  unfold crossZoneExpires onRoute
  split
  · exact if_neg fun due => h due.1
  · rfl

theorem abandonRequest_effect (s : State) (r k : Nat) (x : Route) (cancel : Bool) :
    Frame [.cyc, .commons, .sessions] s (abandonRequest s r k x cancel) ∧
      (abandonRequest s r k x cancel).commons.abandoned = s.commons.abandoned ∧
      (routeSt (abandonRequest s r k x cancel) r).state = 0 ∧ (routeSt (abandonRequest s r k x cancel) r).slot = none := by
  unfold abandonRequest
  dsimp only
  generalize hs1 : (if cancel ∧ boundaryType s x = some 1 then sendRecord s x 5 (homeRecord s r x (slotSt s k)) else s) = s1
  have sent : Frame [.sessions] s s1 := by
    subst hs1
    split
    · exact sendRecord_frame _ _ _ _
    · exact .refl _ _
  obtain ⟨frame, abandoned, -, idle⟩ := toIdle_effect (modSlot s1 k fun y => { y with held := [] }) r k
  refine ⟨(sent.mono (by decide)).trans (((modSlot_frame _ _ _).mono (by decide)).trans frame), ?_, idle⟩
  have commons : s1.commons = s.commons := sent .commons (by decide)
  rw [abandoned, modSlot_abandoned, commons]

theorem crossZone {t : Time} {s : State} {r k : Nat} {x : Route} (hx : route? s r = some x) (hk : slotOfRoute s r = some k)
    (voted : s.cyc.voted = true) (state : (routeSt s r).state = 1) (long : 4 ≤ cyclesSince (slotSt s k).reqCycle s.cyc.number)
    (fresh : movedNow s r = false) (quiet : Quiet s 60) :
    Answers (.crossZoneTimeout t r) s fun s' =>
      (routeSt s' r).state = 0 ∧ (routeSt s' r).slot = none ∧ s'.commons.abandoned = s.commons.abandoned + 1 ∧
        Raised s s' 60 (u32 r) (u32 (slotSt s k).token.toNat) 0 ∧
        Frame [.now, .cyc, .commons, .points, .sessions, .constable, .lanes] s s' := by
  obtain ⟨answered, kept⟩ := answerSet_effect (s.atTime t) r (slotSt s k) 0x13 none32 true
  obtain ⟨frame, abandoned, idle, free⟩ := abandonRequest_effect (answerSet (s.atTime t) r (slotSt s k) 0x13 none32 true) r k x true
  have eq : crossZoneExpires r (s.atTime t) = noteAbandoned (abandonRequest (answerSet (s.atTime t) r (slotSt s k) 0x13 none32 true) r k x true)
      r (slotSt s k).token 0 := (onRoute_of (s := s.atTime t) hx hk _).trans (if_pos ⟨state, long, fresh⟩)
  generalize abandonRequest (answerSet (s.atTime t) r (slotSt s k) 0x13 none32 true) r k x true = z at frame abandoned idle free eq
  have whole : Frame [.cyc, .commons, .sessions, .constable] (s.atTime t)
      { z with commons := { z.commons with abandoned := z.commons.abandoned + 1 } } :=
    ((answered.mono (by decide)).trans (frame.mono (by decide))).trans fun p hp => by cases p <;> simp [same] at hp ⊢
  have constable : z.constable = s.constable := (frame .constable (by decide)).trans (answered .constable (by decide))
  refine answers_voteRaise (x := { z with commons := { z.commons with abandoned := z.commons.abandoned + 1 } })
    (crossZoneTimeout_eq t s r) voted eq whole (source_of_constable constable 60) quiet (by decide)
    fun s' raised whole rest => ?_
  have commons := rest .commons (by decide)
  refine ⟨?_, ?_, ?_, raised, whole⟩
  · rw [← idle]
    exact congrArg RouteSt.state (routeSt_of_commons commons r)
  · rw [← free]
    exact congrArg RouteSt.slot (routeSt_of_commons commons r)
  · have total : z.commons.abandoned = s.commons.abandoned := abandoned.trans kept.abandoned
    rw [commons, ← total]

/-! ### The emergency timer (R94) -/

/-- EMERGENCY_TIMER_EXPIRY. -/
def emergencyExpires (r : Nat) (s : State) : State := onRoute s r fun k x =>
  let y := slotSt s k
  if emergencyDue y then
    let by_ := ((pendingOf s 3 r).find? fun c => c.param == 2).map fun c => c.opid
    let s1 := modSlot s k fun z => { z with emergency := false, noTrain := true, approach := false, apprTimer := 0 }
    let s2 := releaseAll { s1 with commons := { s1.commons with emergency := s1.commons.emergency + 1 } } r k x
    let left := (slotSt s2 k).held.length
    let s3 := if left ≠ 0 ∧ (routeSt s2 r).state ≠ 7 then setRouteState s2 r 7 else s2
    raise s3 62 (u32 r) (by_.getD y.armBy) (u32 (y.held.length - left))
  else s

theorem emergencyTimerExpiry_eq (t : Time) (s : State) (r : Nat) : exec (.emergencyTimerExpiry t r) s = atVote t s (emergencyExpires r) := rfl

theorem emergencyExpires_idle {s : State} {r k : Nat} {x : Route} (hx : route? s r = some x) (hk : slotOfRoute s r = some k)
    (off : (slotSt s k).emergency = false) : emergencyExpires r s = s := by
  refine (onRoute_of hx hk _).trans (if_neg ?_)
  simp [emergencyDue, off]

/-- The route's claims are released at once; where claims remain, the release goes on (R94). -/
def emergencyReleased (s : State) (r k : Nat) (x : Route) : State :=
  let s1 := modSlot s k fun z => { z with emergency := false, noTrain := true, approach := false, apprTimer := 0 }
  let s2 := releaseAll { s1 with commons := { s1.commons with emergency := s1.commons.emergency + 1 } } r k x
  if (slotSt s2 k).held.length ≠ 0 ∧ (routeSt s2 r).state ≠ 7 then setRouteState s2 r 7 else s2

theorem emergencyExpires_due {s : State} {r k : Nat} {x : Route} (hx : route? s r = some x) (hk : slotOfRoute s r = some k)
    (on : (slotSt s k).emergency = true) (timer : (slotSt s k).emrgTimer = 0) :
    ∃ p2 p3, emergencyExpires r s = raise (emergencyReleased s r k x) 62 (u32 r) p2 p3 :=
  ⟨_, _, (onRoute_of hx hk _).trans (if_pos (by simp [emergencyDue, on, timer]))⟩

/-- The claims that a route inside the zone releases, before it may go Idle. -/
theorem releaseAll_effect {s : State} {r k : Nat} {x : Route} (inside : x.xzone = false) :
    ∃ z, releaseAll s r k x = idleWhenEmpty z r k ∧ Frame [.commons, .constable] s z ∧ z.commons.emergency = s.commons.emergency ∧
      source z 62 = source s 62 := by
  have eq (l : List Nat) : releaseElems s r k x l = dropClaims s r k l := by
    unfold releaseElems
    rw [inside]
    rfl
  unfold releaseAll
  dsimp only
  rw [eq]
  exact ⟨_, rfl, (dropClaims_frame _ _ _ _).trans ((modSlot_frame _ _ _).mono (by decide)), (dropClaims_totals _ _ _ _).2.1,
    dropClaims_source s r k _ (by decide)⟩

theorem emergencyReleased_effect {s : State} {r k : Nat} {x : Route} (inside : x.xzone = false) :
    Frame [.cyc, .commons, .sessions, .constable] s (emergencyReleased s r k x) ∧
      (emergencyReleased s r k x).commons.emergency = s.commons.emergency + 1 ∧
      source (emergencyReleased s r k x) 62 = source s 62 ∧
      ((slotSt (emergencyReleased s r k x) k).held = [] →
        (routeSt (emergencyReleased s r k x) r).state = 0 ∧ (routeSt (emergencyReleased s r k x) r).slot = none) := by
  unfold emergencyReleased
  dsimp only
  generalize hs1 : ({ modSlot s k (fun z => { z with emergency := false, noTrain := true, approach := false, apprTimer := 0 }) with
    commons := { (modSlot s k fun z => { z with emergency := false, noTrain := true, approach := false, apprTimer := 0 }).commons with
      emergency := (modSlot s k fun z => { z with emergency := false, noTrain := true, approach := false, apprTimer := 0 }).commons.emergency
        + 1 } } : State) = s1
  have counted : Frame [.commons] s s1 ∧ s1.commons.emergency = s.commons.emergency + 1 := by
    subst hs1
    exact ⟨fun p hp => by cases p <;> simp [same] at hp ⊢, rfl⟩
  obtain ⟨z, eq, dropped, total, source_⟩ := releaseAll_effect (s := s1) (r := r) (k := k) inside
  rw [eq]
  obtain ⟨idle, total', stays, ends⟩ := idleWhenEmpty_effect z r k
  have frame : Frame [.cyc, .commons, .sessions, .constable] s (idleWhenEmpty z r k) :=
    (counted.1.mono (by decide)).trans ((dropped.mono (by decide)).trans (idle.mono (by decide)))
  have emergency : (idleWhenEmpty z r k).commons.emergency = s.commons.emergency + 1 := (total'.trans total).trans counted.2
  have kept : source (idleWhenEmpty z r k) 62 = source s 62 :=
    ((source_of_constable (idle .constable (by decide)) 62).trans source_).trans
      (source_of_constable (counted.1 .constable (by decide)) 62)
  split
  next goes =>
    obtain ⟨moved, totals, -⟩ := setRouteState_effect (idleWhenEmpty z r k) r 7
    refine ⟨frame.trans (moved.mono (by decide)), totals.emergency.trans emergency,
      (source_of_constable (moved .constable (by decide)) 62).trans kept, fun empty => ?_⟩
    rw [slotSt_congr totals.slots] at empty
    exact absurd (congrArg List.length empty) goes.1
  next =>
    refine ⟨frame, emergency, kept, fun empty => ends ?_⟩
    by_contra held
    rw [stays held] at empty
    exact held empty

theorem emergency {t : Time} {s : State} {r k : Nat} {x : Route} (hx : route? s r = some x) (hk : slotOfRoute s r = some k)
    (voted : s.cyc.voted = true) (on : (slotSt s k).emergency = true) (timer : (slotSt s k).emrgTimer = 0) (inside : x.xzone = false)
    (quiet : Quiet s 62) : Answers (.emergencyTimerExpiry t r) s fun s' =>
      ((slotSt s' k).held = [] → (routeSt s' r).state = 0 ∧ (routeSt s' r).slot = none) ∧
        s'.commons.emergency = s.commons.emergency + 1 ∧ (source s' 62).raises = (source s 62).raises + 1 ∧
          (source s' 62).params.head? = some (u32 r) ∧
        Frame [.now, .cyc, .commons, .points, .sessions, .constable, .lanes] s s' := by
  obtain ⟨p2, p3, eq⟩ := emergencyExpires_due (s := s.atTime t) hx hk on timer
  obtain ⟨frame, total, source_, idle⟩ := emergencyReleased_effect (s := s.atTime t) (r := r) (k := k) inside
  refine answers_voteRaise (emergencyTimerExpiry_eq t s r) voted eq frame source_ quiet (by decide) fun s' raised whole rest => ?_
  have commons := rest .commons (by decide)
  obtain ⟨raises, params, -⟩ := raised
  refine ⟨fun empty => ?_, by rw [commons]; exact total, raises, by rw [params]; rfl, whole⟩
  have slot : slotSt s' k = slotSt (emergencyReleased (s.atTime t) r k x) k :=
    slotSt_of_commons commons k
  have route : routeSt s' r = routeSt (emergencyReleased (s.atTime t) r k x) r :=
    routeSt_of_commons commons r
  rw [route]
  exact idle (slot ▸ empty)

/-! ### An arm that is not confirmed (R97) -/

/-- EMERGENCY_ARM_LAPSE. -/
def armLapses (r : Nat) (s : State) : State := onRoute s r fun k _ =>
  let y := slotSt s k
  if y.armed ∧ 60000 / s.cyc.c + 1 ≤ y.armVotes then
    let arms := (pendingOf s 3 r).filter fun c => c.param == 1
    let s1 := arms.foldl endSilently (modSlot s k fun z => { z with armed := false })
    bookEvent s1 0x3040 (u32 r) y.armBy y.armCycle
  else s

theorem emergencyArmLapse_eq (t : Time) (s : State) (r : Nat) : exec (.emergencyArmLapse t r) s = afterVote t s (armLapses r) := rfl

theorem armLapses_idle {s : State} {r k : Nat} {x : Route} (hx : route? s r = some x) (hk : slotOfRoute s r = some k)
    (off : (slotSt s k).armed = false) : armLapses r s = s :=
  (onRoute_of hx hk _).trans (if_neg fun due => Bool.noConfusion (off.symm.trans due.1))

theorem bookEvent_room {s : State} (room : s.constable.queue.length < 64) (code : Nat) (p1 p2 p3 : U32) :
    (bookEvent s code p1 p2 p3).constable.queue = s.constable.queue ++ [bookRec s code 0xFF 0xF false p1 p2 p3] := by
  unfold bookEvent bookPush
  rw [if_pos room]

theorem bookRec_congr {s r : State} (now : r.now = s.now) (bus : r.bus = s.bus) (code source cls : Nat) (forced : Bool) (p1 p2 p3 : U32) :
    bookRec r code source cls forced p1 p2 p3 = bookRec s code source cls forced p1 p2 p3 := by
  unfold bookRec synchronised
  rw [now, bus]

theorem armLapse {t : Time} {s : State} {r k : Nat} {x : Route} (hx : route? s r = some x) (hk : slotOfRoute s r = some k)
    (voted : s.cyc.voted = true) (armed : (slotSt s k).armed = true) (route : (slotSt s k).route = some r)
    (long : 60000 / s.cyc.c + 1 ≤ (slotSt s k).armVotes) (room : s.constable.queue.length < 64) :
    Answers (.emergencyArmLapse t r) s fun s' =>
      (slotSt s' k).armed = false ∧ s'.constable.queue = s.constable.queue ++
        [bookRec (s.atTime t) 0x3040 0xFF 0xF false (u32 r) (slotSt s k).armBy (slotSt s k).armCycle] ∧
        Frame [.now, .cyc, .commons, .constable] s s' := by
  have eq : armLapses r (s.atTime t) = bookEvent (((pendingOf (s.atTime t) 3 r).filter fun c => c.param == 1).foldl endSilently
      (modSlot (s.atTime t) k fun z => { z with armed := false })) 0x3040 (u32 r) (slotSt s k).armBy (slotSt s k).armCycle :=
    (onRoute_of (s := s.atTime t) hx hk _).trans (if_pos ⟨armed, long⟩)
  have self : slotSt (modSlot (s.atTime t) k fun z => { z with armed := false }) k = { slotSt s k with armed := false } :=
    modSlot_self (f := fun z => { z with armed := false }) fun same =>
      Option.some_ne_none r (route.symm.trans (congrArg Slot.route same))
  have ended := foldl_endSilently_frame ((pendingOf (s.atTime t) 3 r).filter fun c => c.param == 1)
    (modSlot (s.atTime t) k fun z => { z with armed := false })
  generalize ((pendingOf (s.atTime t) 3 r).filter fun c => c.param == 1).foldl endSilently
    (modSlot (s.atTime t) k fun z => { z with armed := false }) = z at eq ended
  have booked := bookEvent_frame z 0x3040 (u32 r) (slotSt s k).armBy (slotSt s k).armCycle
  have frame : Frame [.cyc, .commons, .constable] (s.atTime t) (bookEvent z 0x3040 (u32 r) (slotSt s k).armBy (slotSt s k).armCycle) :=
    ((modSlot_frame _ _ _).mono (by decide)).trans ((ended.mono (by decide)).trans (booked.mono (by decide)))
  have queue : z.constable = s.constable := ended .constable (by decide)
  refine answers_voted (emergencyArmLapse_eq t s r) voted eq frame (by decide) ⟨?_, ?_, ((frame_atTime s t).mono (by decide)).trans
    (frame.mono (by decide))⟩
  · have slot : slotSt (bookEvent z 0x3040 (u32 r) (slotSt s k).armBy (slotSt s k).armCycle) k =
        slotSt (modSlot (s.atTime t) k fun z => { z with armed := false }) k :=
      slotSt_of_commons ((booked .commons (by decide)).trans (ended .commons (by decide))) k
    rw [slot, self]
  · rw [bookEvent_room (by rw [queue]; exact room), queue, bookRec_congr (s := s.atTime t) (ended .now (by decide)) (ended .bus (by decide))]

/-- Settles O31: each timer acts at a vote on the route's own slot; what a route drops or gives up leaves the totals and the sources of the
other rules. -/
theorem routeTimersAndAbandonedRequests : Obligations.RouteTimersAndAbandonedRequests := by
  refine ⟨fun t s r k e x z hx hk => ⟨?_, fun h => ?_, ?_, ?_, ?_, ?_⟩, fun t s r k x hx hk => ⟨?_, fun h => ?_, ?_, fun h => ?_, ?_,
    fun h => ?_⟩⟩
  · exact approach hx hk
  · exact runs_atVote_idle (approachTimerExpiry_eq t s r) (h.imp_right fun other => approachExpires_idle (s := s.atTime t) other)
  · exact overlap hx hk
  · exact stall hx hk
  · exact noStall
  · exact proving hx hk
  · exact crossZone hx hk
  · exact runs_atVote_idle (crossZoneTimeout_eq t s r) (h.imp_right fun other => crossZoneExpires_idle (s := s.atTime t) other)
  · exact emergency hx hk
  · exact runs_atVote_idle (emergencyTimerExpiry_eq t s r) (h.imp_right fun off => emergencyExpires_idle (s := s.atTime t) hx hk off)
  · exact armLapse hx hk
  · exact h.elim (runs_unvoted (emergencyArmLapse_eq t s r)) fun off =>
      runs_notDue (emergencyArmLapse_eq t s r) (armLapses_idle (s := s.atTime t) hx hk off)

end Sys2Proof.Machine
end

section
/-!
PROOFS. The bus: its ports and channels, what its operations change, and the frames that it takes (R225 to R251).
-/

namespace Sys2Proof.Machine

/-! ### What the rules of the bus read -/

/-- What says which engine serves a channel, and with which configuration: the mode, the station, the node, the rank, and the time. -/
structure Bearing (s r : State) : Prop where
  modes : r.modes = s.modes
  station : r.station = s.station
  node : r.bus.node = s.bus.node
  rank : r.bus.rank = s.bus.rank
  now : r.now = s.now

theorem Bearing.refl (s : State) : Bearing s s := ⟨rfl, rfl, rfl, rfl, rfl⟩

theorem Bearing.trans {s x r : State} (h : Bearing s x) (h' : Bearing x r) : Bearing s r :=
  ⟨h'.modes.trans h.modes, h'.station.trans h.station, h'.node.trans h.node, h'.rank.trans h.rank, h'.now.trans h.now⟩

section
variable {s r : State} (h : Bearing s r)
include h

theorem Bearing.inSplit : inSplit r = inSplit s := by simp [Machine.inSplit, h.modes]
theorem Bearing.cluster? : cluster? r = cluster? s := by simp [Machine.cluster?, h.station]
theorem Bearing.portOf (c : Chan) : portOf r c = portOf s c := by simp [Machine.portOf, h.inSplit]
theorem Bearing.portChans (c : Chan) : portChans r c = portChans s c := by simp [Machine.portChans, h.inSplit]
theorem Bearing.nodeOn (c : Chan) : nodeOn r c = nodeOn s c := by cases c <;> simp [Machine.nodeOn, h.inSplit, h.cluster?, h.node]
theorem Bearing.rankOn (c : Chan) : rankOn r c = rankOn s c := by cases c <;> simp [Machine.rankOn, h.inSplit, h.cluster?, h.rank]
theorem Bearing.dmaxNs : dmaxNs r = dmaxNs s := by simp [Machine.dmaxNs, h.cluster?]
theorem Bearing.ownSched : ownSched r = ownSched s := by simp [Machine.ownSched, h.cluster?]
theorem Bearing.schedAt (c : Chan) (b p : Nat) : schedAt r c b p = schedAt s c b p := by simp [Machine.schedAt, h.cluster?]
theorem Bearing.rateOn (c : Chan) : rateOn r c = rateOn s c := by cases c <;> simp [Machine.rateOn, h.station, h.inSplit]
theorem Bearing.linkBad (f : BusFrame) : linkBad r f = linkBad s f := by
  simp [Machine.linkBad, lengthFits, h.rateOn, h.ownSched, h.schedAt]

end

theorem portOf_of_mem {s : State} {c x : Chan} (h : x ∈ portChans s c) : portOf s x = portOf s c := by
  unfold portChans at h
  unfold portOf
  split at h
  · rw [List.mem_singleton.mp h]
  · next whole => rw [if_neg whole, if_neg whole]

theorem port_of_mem {s : State} {c x : Chan} (h : x ∈ portChans s c) : port s x = port s c := by
  unfold port
  rw [portOf_of_mem h]

theorem mem_portChans_self (s : State) (c : Chan) : c ∈ portChans s c := by
  unfold portChans
  split
  · exact List.mem_singleton.mpr rfl
  · cases c <;> decide

/-! ### Changes of a port -/

theorem modPort_bearing (s : State) (c : Chan) (f : PortSt → PortSt) : Bearing s (modPort s c f) := by
  unfold modPort
  split <;> exact ⟨rfl, rfl, rfl, rfl, rfl⟩

theorem modPort_frame (s : State) (c : Chan) (f : PortSt → PortSt) : Frame [.bus] s (modPort s c f) := by
  intro p hp
  unfold modPort
  split <;> cases p <;> simp [same] at hp ⊢

@[simp] theorem port_modPort (s : State) (c : Chan) (f : PortSt → PortSt) : port (modPort s c f) c = f (port s c) := by
  have which : portOf (modPort s c f) c = portOf s c := (modPort_bearing s c f).portOf c
  unfold port
  rw [which]
  unfold modPort
  split <;> rfl

@[simp] theorem chanBus_modPort (s : State) (c : Chan) (f : PortSt → PortSt) (x : Chan) : chanBus (modPort s c f) x = chanBus s x := by
  unfold modPort
  split <;> rfl

/-! ### Changes of a channel -/

theorem modBus_bearing (s : State) (c : Chan) (f : ChanSt → ChanSt) : Bearing s (modBus s c f) := ⟨rfl, rfl, rfl, rfl, rfl⟩

theorem modBus_frame (s : State) (c : Chan) (f : ChanSt → ChanSt) : Frame [.bus] s (modBus s c f) := by
  intro p hp
  cases p <;> simp [same, modBus] at hp ⊢

@[simp] theorem chanBus_modBus (s : State) (c : Chan) (f : ChanSt → ChanSt) : chanBus (modBus s c f) c = f (chanBus s c) := by
  simp [chanBus, modBus]

theorem chanBus_modBus_ne (s : State) {c x : Chan} (f : ChanSt → ChanSt) (h : x ≠ c) : chanBus (modBus s c f) x = chanBus s x := by
  simp [chanBus, modBus, h]

theorem modBus_modBus (s : State) (c : Chan) (f g : ChanSt → ChanSt) : modBus (modBus s c f) c g = modBus s c fun x => g (f x) := by
  unfold modBus chanBus
  cases c <;> rfl

@[simp] theorem port_modBus (s : State) (c : Chan) (f : ChanSt → ChanSt) (x : Chan) : port (modBus s c f) x = port s x := rfl

/-- A change of each channel of a port leaves the others, and the ports. -/
theorem foldl_modBus {l : List Chan} (nodup : l.Nodup) (g : Chan → ChanSt → ChanSt) (s : State) :
    Frame [.bus] s (l.foldl (fun st x => modBus st x (g x)) s) ∧ Bearing s (l.foldl (fun st x => modBus st x (g x)) s) ∧
      (∀ x, port (l.foldl (fun st x => modBus st x (g x)) s) x = port s x) ∧
      (∀ x ∈ l, chanBus (l.foldl (fun st x => modBus st x (g x)) s) x = g x (chanBus s x)) ∧
      (∀ x, x ∉ l → chanBus (l.foldl (fun st x => modBus st x (g x)) s) x = chanBus s x) := by
  induction l generalizing s with
  | nil => exact ⟨.refl _ _, .refl _, fun _ => rfl, fun x hx => absurd hx (by simp), fun _ _ => rfl⟩
  | cons y l ih =>
    obtain ⟨fresh, nodup⟩ := List.nodup_cons.mp nodup
    obtain ⟨frame, bearing, ports, own, others⟩ := ih nodup (modBus s y (g y))
    refine ⟨(modBus_frame _ _ _).trans frame, (modBus_bearing _ _ _).trans bearing, fun x => (ports x).trans (port_modBus _ _ _ _),
      fun x hx => ?_, fun x hx => ?_⟩
    · obtain rfl | later := List.mem_cons.mp hx
      · exact (others x fresh).trans (chanBus_modBus _ _ _)
      · have ne : x ≠ y := fun same => fresh (same ▸ later)
        exact (own x later).trans (congrArg (g x) (chanBus_modBus_ne _ _ ne))
    · exact (others x fun later => hx (List.mem_cons_of_mem _ later)).trans
        (chanBus_modBus_ne _ _ fun same => hx (same ▸ List.mem_cons_self))

theorem portChans_nodup (s : State) (c : Chan) : (portChans s c).Nodup := by
  unfold portChans
  split
  · exact List.nodup_singleton c
  · decide

/-! ### The engine and the master -/

/-- What a change of the engine or the master leaves. -/
structure PortOnly (s r : State) (c : Chan) (f : PortSt → PortSt) : Prop where
  frame : Frame [.bus] s r
  bearing : Bearing s r
  port : port r c = f (port s c)
  chan : ∀ x, chanBus r x = chanBus s x

theorem PortOnly.trans {s x r : State} {c : Chan} {f g : PortSt → PortSt} (h : PortOnly s x c f) (h' : PortOnly x r c g) :
    PortOnly s r c fun p => g (f p) :=
  ⟨h.frame.trans h'.frame, h.bearing.trans h'.bearing, by rw [h'.port, h.port], fun y => (h'.chan y).trans (h.chan y)⟩

theorem modPort_only (s : State) (c : Chan) (f : PortSt → PortSt) : PortOnly s (modPort s c f) c f :=
  ⟨modPort_frame _ _ _, modPort_bearing _ _ _, port_modPort _ _ _, chanBus_modPort _ _ _⟩

/-- The node's own notes of its time and its masters are no part of a port. -/
theorem bookkeeping_only (s : State) (c : Chan) (since : Time) (takeovers : U32) (steer : Int) : PortOnly s
    { s with bus := { s.bus with unsyncFrom := since, takeovers := takeovers, steer := steer } } c id := by
  refine ⟨fun p hp => ?_, ⟨rfl, rfl, rfl, rfl, rfl⟩, ?_, fun _ => rfl⟩
  · cases p <;> simp [same] at hp ⊢
  · have which : portOf { s with bus := { s.bus with unsyncFrom := since, takeovers := takeovers, steer := steer } } c = portOf s c := rfl
    unfold port
    rw [which]
    cases portOf s c <;> rfl

theorem setEngine_only (s : State) (c : Chan) (n : Nat) : PortOnly s (setEngine s c n) c fun p => { p with engine := n } := by
  unfold setEngine
  dsimp only
  split
  · exact (bookkeeping_only s c _ _ _).trans (modPort_only _ c fun p => { p with engine := n })
  · exact modPort_only _ _ _

theorem setMaster_only (s : State) (c : Chan) (n : Nat) : PortOnly s (setMaster s c n) c fun p => { p with master := some n } := by
  unfold setMaster
  dsimp only
  split
  · exact (bookkeeping_only s c _ _ _).trans (modPort_only _ c fun p => { p with master := some n })
  · exact modPort_only _ _ _

/-! ### Sending -/

theorem noteBusy_effect (s : State) (c : Chan) (p len : Nat) : ∃ n, noteBusy s c p len = modBus s c fun x => { x with busy := n } := by
  unfold noteBusy
  split
  · exact ⟨(chanBus s c).busy + frameSpan (rateOn s c) len, rfl⟩
  · refine ⟨(chanBus s c).busy, ?_⟩
    unfold modBus chanBus
    cases c <;> rfl

/-- What a frame sent changes: the channel's count and load, and the output. -/
structure Sent (s r : State) (c : Chan) (f : BusFrame) : Prop where
  frame : Frame [.bus, .out] s r
  bearing : Bearing s r
  port : ∀ x, port r x = port s x
  chan : ∃ n, chanBus r c = { chanBus s c with sent := (chanBus s c).sent + 1, busy := n }
  others : ∀ x, x ≠ c → chanBus r x = chanBus s x
  out : r.out = s.out ++ [.busFrame c f]

theorem sendBus_sent (s : State) (c : Chan) (b p : Nat) (f : BusFrame) : Sent s (sendBus s c b p f) c (dress s c b p f) := by
  obtain ⟨n, busy⟩ := noteBusy_effect (modBus s c fun x => { x with sent := x.sent + 1 }) c p f.body.length
  unfold sendBus
  rw [busy, modBus_modBus]
  refine ⟨fun q hq => ?_, ⟨rfl, rfl, rfl, rfl, rfl⟩, fun _ => rfl, ⟨n, ?_⟩, fun x hx => ?_, rfl⟩
  · cases q <;> simp [same, modBus, emit] at hq ⊢
  · exact chanBus_modBus s c fun x => { x with sent := x.sent + 1, busy := n }
  · exact chanBus_modBus_ne s (fun x => { x with sent := x.sent + 1, busy := n }) hx

/-- What frames sent on the channels of a list leave. -/
structure SentOn (s r : State) (l : List Chan) : Prop where
  frame : Frame [.bus, .out] s r
  bearing : Bearing s r
  port : ∀ x, port r x = port s x
  chan : ∀ x, ∃ n m, chanBus r x = { chanBus s x with sent := n, busy := m }
  out : r.out.length = s.out.length + l.length

theorem foldl_sentOn (g : State → Chan → State) (hg : ∀ st x, ∃ f, Sent st (g st x) x f) (l : List Chan) (s : State) :
    SentOn s (l.foldl g s) l := by
  induction l generalizing s with
  | nil => exact ⟨.refl _ _, .refl _, fun _ => rfl, fun x => ⟨(chanBus s x).sent, (chanBus s x).busy, rfl⟩, rfl⟩
  | cons y l ih =>
    obtain ⟨f, first⟩ := hg s y
    obtain ⟨frame, bearing, ports, chans, out⟩ := ih (g s y)
    refine ⟨first.frame.trans frame, first.bearing.trans bearing, fun x => (ports x).trans (first.port x), fun x => ?_, ?_⟩
    · obtain ⟨n, m, chan⟩ := chans x
      by_cases hx : x = y
      · subst hx
        obtain ⟨k, own⟩ := first.chan
        exact ⟨n, m, by rw [List.foldl_cons, chan, own]⟩
      · exact ⟨n, m, by rw [List.foldl_cons, chan, first.others x hx]⟩
    · rw [List.foldl_cons, out, first.out, List.length_append, List.length_singleton, List.length_cons]
      omega

/-! ### Receiving (R226, R228, R232) -/

theorem notePeer_effect (s : State) : ∃ q twin, notePeer s = { s with bus := { s.bus with peerSeen := q }, twin := twin } ∧
    twin.role = s.twin.role := ⟨_, _, rfl, rfl⟩

/-- What a valid frame leaves: its channel's counts, the peer's last sign, and no lost channel. -/
structure Heard (s r : State) (f : BusFrame) : Prop where
  frame : Frame [.bus, .twin, .constable] s r
  bus : ∃ n q, r.bus = { s.bus with
    ch := s.bus.ch.set f.chan { chanBus s f.chan with valid := (chanBus s f.chan).valid + 1, silent := 0, link := true, busy := n }
    peerSeen := q }
  role : r.twin.role = s.twin.role
  source : ∀ n, n ≠ 80 + chanNo f.chan → source r n = source s n

theorem receive_valid {s : State} {f : BusFrame} {timed : Bool} (link : linkBad s f = false) (sched : f.sched = ownSched s)
    (timely : timed = true → Timely s f) : ∃ r, receive s f timed = (r, true) ∧ Heard s r f := by
  obtain ⟨n, busy⟩ := noteBusy_effect (modBus s f.chan fun x => { x with valid := x.valid + 1, silent := 0, link := true }) f.chan f.pos
    f.body.length
  have inside : ¬ (timed = true ∧ expects s f.chan = true ∧ inWindow f = false) := by
    rintro ⟨judged, expected, out⟩
    exact Bool.noConfusion (out.symm.trans (timely judged expected))
  have counted : ∃ q twin, (if (schedAt s f.chan f.bcyc f.pos).pair && (zoneNodes s).contains (schedAt s f.chan f.bcyc f.pos).node &&
      f.node != s.bus.node && f.pos < 160 then
        notePeer (modBus (modBus s f.chan fun x => { x with valid := x.valid + 1, silent := 0, link := true }) f.chan fun x => { x with busy := n })
      else modBus (modBus s f.chan fun x => { x with valid := x.valid + 1, silent := 0, link := true }) f.chan fun x => { x with busy := n }) =
      ({ s with
        bus := { s.bus with
          ch := s.bus.ch.set f.chan { chanBus s f.chan with valid := (chanBus s f.chan).valid + 1, silent := 0, link := true, busy := n }
          peerSeen := q }
        twin := twin } : State) ∧ twin.role = s.twin.role := by
    have twice : modBus (modBus s f.chan fun x => { x with valid := x.valid + 1, silent := 0, link := true }) f.chan (fun x => { x with busy := n }) =
        modBus s f.chan fun x => { x with valid := x.valid + 1, silent := 0, link := true, busy := n } := modBus_modBus _ _ _ _
    rw [twice]
    split
    · exact ⟨_, _, rfl, rfl⟩
    · exact ⟨_, _, rfl, rfl⟩
  obtain ⟨q, twin, eq, role⟩ := counted
  unfold receive
  dsimp only
  rw [link, if_neg Bool.false_ne_true, if_neg (not_not_intro sched), if_neg inside, busy, eq]
  refine ⟨_, rfl, ?_⟩
  split
  · refine ⟨fun p hp => ?_, ⟨n, q, rfl⟩, role, fun m hm => ?_⟩
    · cases p <;> simp [same, withdraw, modSource] at hp ⊢
    · exact modSource_source_ne _ _ hm
  · exact ⟨fun p hp => by cases p <;> simp [same] at hp ⊢, ⟨n, q, rfl⟩, role, fun _ _ => rfl⟩

section
variable {s r : State} {f : BusFrame} (h : Heard s r f)
include h

theorem Heard.bearing : Bearing s r := by
  obtain ⟨n, q, bus⟩ := h.bus
  exact ⟨h.frame .modes (by decide), h.frame .station (by decide), by rw [bus], by rw [bus], h.frame .now (by decide)⟩

theorem Heard.port (x : Chan) : port r x = port s x := by
  obtain ⟨n, q, bus⟩ := h.bus
  unfold Machine.port
  rw [h.bearing.portOf, bus]

theorem Heard.chan : ∃ n, chanBus r f.chan =
    { chanBus s f.chan with valid := (chanBus s f.chan).valid + 1, silent := 0, link := true, busy := n } := by
  obtain ⟨n, q, bus⟩ := h.bus
  exact ⟨n, by simp [chanBus, bus]⟩

theorem Heard.others {x : Chan} (hx : x ≠ f.chan) : chanBus r x = chanBus s x := by
  obtain ⟨n, q, bus⟩ := h.bus
  simp [chanBus, bus, hx]

end

theorem receive_broken {s : State} {f : BusFrame} (timed : Bool) (link : linkBad s f = true) :
    receive s f timed = (modBus s f.chan fun x => { x with crcErrors := x.crcErrors + 1 }, false) := by
  unfold receive
  dsimp only
  rw [if_pos link]

theorem receive_foreign {s : State} {f : BusFrame} (timed : Bool) (link : linkBad s f = false) (sched : f.sched ≠ ownSched s) :
    receive s f timed = (modPort (modBus s f.chan fun x => { x with foreign := x.foreign + 1 }) f.chan fun p => { p with
      foreignSeen := true, matrixOk := false }, false) := by
  unfold receive
  dsimp only
  rw [if_neg (by rw [link]; exact Bool.false_ne_true), if_pos sched]

theorem receive_late {s : State} {f : BusFrame} (link : linkBad s f = false) (sched : f.sched = ownSched s)
    (expected : expects s f.chan = true) (out : inWindow f = false) :
    receive s f true = (modBus s f.chan fun x => { x with window := x.window + 1 }, false) := by
  unfold receive
  dsimp only
  rw [if_neg (by rw [link]; exact Bool.false_ne_true), if_neg (not_not_intro sched), if_pos ⟨rfl, expected, out⟩]

theorem hear_on {s : State} {f : BusFrame} (on : engineOn s f.chan ≠ 0) (timed : Bool) : hear s f timed = receive s f timed := if_neg on

theorem hear_off {s : State} {f : BusFrame} (off : engineOn s f.chan = 0) (timed : Bool) : hear s f timed = (s, false) := if_pos off

/-! ### Exits -/

/-- An effect that leaves the role answers exactly itself, whatever else of the Twin it notes. -/
theorem answers_role {c : Instr} {t : Time} {s : State} {l : List Part} {f : State → State} {P : State → Prop}
    (hc : exec c s = at_ t s f) (hf : Frame l (s.atTime t) (f (s.atTime t)))
    (hl : ([Part.pending, .modes, .update, .lanes, .change].all fun p => !l.contains p) = true)
    (role : (f (s.atTime t)).twin.role = s.twin.role) (h : P (f (s.atTime t))) : Answers c s P := by
  have kept (p : Part) (hp : p ∈ [Part.pending, .modes, .update, .lanes, .change]) : same (s.atTime t) (f (s.atTime t)) p :=
    hf p (by simpa using List.all_eq_true.mp hl p hp)
  have modes : (f (s.atTime t)).modes = s.modes := kept .modes (by decide)
  have update : (f (s.atTime t)).update = s.update := kept .update (by decide)
  have change : (f (s.atTime t)).change = s.change := kept .change (by decide)
  exact answers_plain hc (attrs_voters (by rw [modes]) (by rw [modes]) (by rw [modes]) role (by rw [update])
    (voters_of_lanes (kept .lanes (by decide))) (by rw [change])) (kept .pending (by decide)) h

theorem atTime_bearing_port (s : State) (t : Time) (c : Chan) : port (s.atTime t) c = port s c := rfl

end Sys2Proof.Machine
end

section
/-!
PROOFS. Coldstart and the time master (O39).
-/

namespace Sys2Proof.Machine

/-! ### The coldstart frame and its readback (R233, R234) -/

/-- The node's own coldstart frame, on each channel of its port. -/
def coldstartSent (s : State) (c : Chan) : State :=
  sendColdstart (modPort (setEngine s c 2) c fun p => { p with listenFrom := s.now }) c

theorem coldstart_eq (s : State) (c : Chan) (read : Chan → Option Nat) : coldstart s c read =
    if (portChans s c).all fun x => (read x).isSome then becomeMaster (coldstartSent s c) c read
    else if 3 ≤ (port (modPort (coldstartSent s c) c fun p => { p with collided := p.collided + 1 }) c).collided then
      enterMute (modPort (coldstartSent s c) c fun p => { p with collided := p.collided + 1 }) c 0 0x3FF
    else modPort (coldstartSent s c) c fun p => { p with collided := p.collided + 1 } := rfl

/-- The port's record once its coldstart frames are out. -/
def coldPort (p : PortSt) (now : Time) : PortSt := { p with engine := 2, listenFrom := now, matrix := 0xFFFF }

theorem coldstartSent_effect (s : State) (c : Chan) : Frame [.bus, .out] s (coldstartSent s c) ∧ Bearing s (coldstartSent s c) ∧
    port (coldstartSent s c) c = coldPort (port s c) s.now ∧
    (∀ x, (chanBus (coldstartSent s c) x).delay = (chanBus s x).delay) ∧
    (coldstartSent s c).out.length = s.out.length + (portChans s c).length := by
  have listens := (setEngine_only s c 2).trans (modPort_only (setEngine s c 2) c fun p => { p with listenFrom := s.now })
  generalize hx : modPort (setEngine s c 2) c (fun p => { p with listenFrom := s.now }) = x at listens
  have dated := listens.trans (modPort_only x c fun p => { p with matrix := 0xFFFF })
  have sent := foldl_sentOn (fun st y => sendBus st y 63 160 (ownFrame 1 (leBytes 8 x.now ++ List.replicate 8 0)))
    (fun st y => ⟨_, sendBus_sent _ _ _ _ _⟩) (portChans x c) (modPort x c fun p => { p with matrix := 0xFFFF })
  have eq : coldstartSent s c = (portChans x c).foldl
      (fun st y => sendBus st y 63 160 (ownFrame 1 (leBytes 8 x.now ++ List.replicate 8 0))) (modPort x c fun p => { p with matrix := 0xFFFF }) := by
    unfold coldstartSent sendColdstart
    rw [hx]
  rw [eq]
  refine ⟨(dated.frame.mono (by decide)).trans sent.frame, dated.bearing.trans sent.bearing, ?_, fun y => ?_, ?_⟩
  · rw [sent.port, dated.port]
    rfl
  · obtain ⟨n, m, chan⟩ := sent.chan y
    rw [chan, dated.chan]
  · rw [sent.out, listens.bearing.portChans]
    have out : (modPort x c fun p => { p with matrix := 0xFFFF }).out = s.out := dated.frame .out (by decide)
    rw [out]

/-! ### The node becomes time master (R234) -/

/-- A channel whose readback has given its delay. -/
def delayKnown (read : Chan → Option Nat) (c : Chan) (x : ChanSt) : ChanSt :=
  { x with delay := (read c).map fun n => n / 2, measured := [], asked := none }

theorem masterDelay_known {s : State} {c : Chan} {read : Chan → Option Nat} (h : ((read c).any fun n => decide (n / 2 ≤ dmaxNs s)) = true) :
    masterDelay s c (read c) = modBus s c (delayKnown read c) := by
  unfold masterDelay delayKnown
  cases hr : read c with
  | none => rw [hr] at h; exact absurd h (by simp)
  | some n =>
    rw [hr] at h
    have fits : ¬ dmaxNs s < n / 2 := by simpa using h
    dsimp only
    rw [if_neg fits]
    rfl

theorem foldl_masterDelay {read : Chan → Option Nat} (l : List Chan) {s : State}
    (h : ∀ x ∈ l, ((read x).any fun n => decide (n / 2 ≤ dmaxNs s)) = true) :
    l.foldl (fun st x => masterDelay st x (read x)) s = l.foldl (fun st x => modBus st x (delayKnown read x)) s := by
  induction l generalizing s with
  | nil => rfl
  | cons y l ih =>
    rw [List.foldl_cons, List.foldl_cons, masterDelay_known (h y (by simp))]
    refine ih fun x hx => ?_
    rw [(modBus_bearing s y (delayKnown read y)).dmaxNs]
    exact h x (by simp [hx])

theorem stretchCycle_frame (s : State) (off : Int) : Frame [.cyc] s (stretchCycle s off) := by
  unfold stretchCycle
  split
  · exact fun p hp => by cases p <;> simp [same] at hp ⊢
  · exact .refl _ _

/-- The port's record of a new time master. -/
def masterPort (p : PortSt) (node : Nat) (now : Time) : PortSt := { p with
  engine := 5, master := some node, matrix := 0xFFFF, bcyc := 63, turnAt := 0, collided := 0, noSync := 0, missedRun := 0, limitRun := 0
  clusterOff := 0, origin := (now + us 200 : Nat) }

theorem becomeMaster_effect {s : State} {c : Chan} {read : Chan → Option Nat}
    (h : ∀ x ∈ portChans s c, ((read x).any fun n => decide (n / 2 ≤ dmaxNs s)) = true) :
    Frame [.bus, .cyc] s (becomeMaster s c read) ∧ port (becomeMaster s c read) c = masterPort (port s c) (nodeOn s c) s.now ∧
      (∀ x ∈ portChans s c, (chanBus (becomeMaster s c read) x).delay = (read x).map fun n => n / 2) := by
  have crowned := (setEngine_only s c 5).trans (setMaster_only (setEngine s c 5) c (nodeOn s c))
  unfold becomeMaster
  dsimp only
  generalize setMaster (setEngine s c 5) c (nodeOn s c) = x at crowned ⊢
  have known := foldl_masterDelay (read := read) (portChans s c) (s := x) (by rw [crowned.bearing.dmaxNs]; exact h)
  rw [known]
  obtain ⟨frame, bearing, ports, own, -⟩ := foldl_modBus (portChans_nodup s c) (delayKnown read) x
  generalize (portChans s c).foldl (fun st y => modBus st y (delayKnown read y)) x = y at frame bearing ports own ⊢
  have dated := modPort_only y c fun p => { p with
    matrix := 0xFFFF, bcyc := 63, turnAt := 0, collided := 0, noSync := 0, missedRun := 0, limitRun := 0, clusterOff := 0
    origin := (s.now + us 200 : Nat) }
  generalize modPort y c (fun p => { p with
    matrix := 0xFFFF, bcyc := 63, turnAt := 0, collided := 0, noSync := 0, missedRun := 0, limitRun := 0, clusterOff := 0
    origin := (s.now + us 200 : Nat) }) = z at dated ⊢
  have whole : Frame [.bus, .cyc] s z := ((crowned.frame.trans frame).trans dated.frame).mono (by decide)
  have record : port z c = masterPort (port s c) (nodeOn s c) s.now := by
    rw [dated.port, ports, crowned.port]
    rfl
  have delays (k : Chan) (hk : k ∈ portChans s c) : (chanBus z k).delay = (read k).map fun n => n / 2 := by
    rw [dated.chan, own k hk]
    rfl
  split
  · have stretched := stretchCycle_frame z 0
    have bus : (stretchCycle z 0).bus = z.bus := stretched .bus (by decide)
    have modes : (stretchCycle z 0).modes = z.modes := stretched .modes (by decide)
    refine ⟨whole.trans (stretched.mono (by decide)), ?_, fun k hk => ?_⟩
    · rw [← record]
      unfold port portOf inSplit
      rw [bus, modes]
    · rw [← delays k hk]
      unfold chanBus
      rw [bus]
  · exact ⟨whole, record, delays⟩

/-! ### The attempts of a node with a rank -/

/-- LISTEN_END. -/
def listenEnds (p : PortTime) (a b : Option Nat) (s : State) : State :=
  match rankOn s p.chan with
  | some r => if engineOn s p.chan = 1 ∧ (port s p.chan).listenFrom + ms (128 + r) ≤ s.now then coldstart s p.chan (readOf a b) else s
  | none => s

/-- COLDSTART_RETRY. -/
def coldstartRetries (p : PortTime) (a b : Option Nat) (s : State) : State :=
  match rankOn s p.chan with
  | some r =>
    if engineOn s p.chan = 2 ∧ 1 ≤ (port s p.chan).collided ∧ (port s p.chan).listenFrom + ms (1 + r) ≤ s.now then
      coldstart s p.chan (readOf a b)
    else s
  | none => s

theorem listenEnd_eq (p : PortTime) (s : State) (a b : Option Nat) : exec (.listenEnd p a b) s = at_ p.t s (listenEnds p a b) := rfl

theorem coldstartRetry_eq (p : PortTime) (s : State) (a b : Option Nat) :
    exec (.coldstartRetry p a b) s = at_ p.t s (coldstartRetries p a b) := rfl

/-- Each of the two, when it is due, is an attempt. -/
theorem attempts {t : Time} {s : State} {c : Chan} {a b : Option Nat} {r : Nat} (rank : rankOn s c = some r) {i : Instr}
    (h : (i = Instr.listenEnd ⟨t, c⟩ a b ∧ engineOn s c = 1 ∧ (port s c).listenFrom + ms (128 + r) ≤ t) ∨
      (i = Instr.coldstartRetry ⟨t, c⟩ a b ∧ engineOn s c = 2 ∧ 1 ≤ (port s c).collided ∧ (port s c).listenFrom + ms (1 + r) ≤ t)) :
    ∃ f, exec i s = at_ t s f ∧ f (s.atTime t) = coldstart (s.atTime t) c (readOf a b) := by
  have rank' : rankOn (s.atTime t) c = some r := rank
  obtain ⟨rfl, listens, due⟩ | ⟨rfl, colds, again, due⟩ := h
  · refine ⟨_, listenEnd_eq _ s a b, ?_⟩
    unfold listenEnds
    dsimp only
    rw [rank']
    exact if_pos ⟨listens, due⟩
  · refine ⟨_, coldstartRetry_eq _ s a b, ?_⟩
    unfold coldstartRetries
    dsimp only
    rw [rank']
    exact if_pos ⟨colds, again, due⟩

theorem enterMute_minor {s : State} {c : Chan} {why other r : Nat} (quiet : Quiet s 83) (rank : rankOn s c = some r) :
    enterMute s c why other = recordRaise (setEngine s c 7) 83 false (u32 r) (u32 why) (u32 other) ∧
      Frame [.bus, .constable] s (enterMute s c why other) ∧ engineOn (enterMute s c why other) c = 7 := by
  have only := setEngine_only s c 7
  have constable : (setEngine s c 7).constable = s.constable := only.frame .constable (by decide)
  have silent : Quiet (setEngine s c 7) 83 := by
    unfold Quiet at quiet ⊢
    rw [source_of_constable constable]
    exact quiet
  have eq : enterMute s c why other = recordRaise (setEngine s c 7) 83 false (u32 r) (u32 why) (u32 other) := by
    unfold enterMute
    rw [rank]
    exact raise_minor silent (by decide) _ _ _
  have recorded := recordRaise_frame (setEngine s c 7) 83 false (u32 r) (u32 why) (u32 other)
  rw [eq]
  refine ⟨rfl, (only.frame.mono (by decide)).trans (recorded.mono (by decide)), ?_⟩
  have bus : (recordRaise (setEngine s c 7) 83 false (u32 r) (u32 why) (u32 other)).bus = (setEngine s c 7).bus := recorded .bus (by decide)
  have modes : (recordRaise (setEngine s c 7) 83 false (u32 r) (u32 why) (u32 other)).modes = (setEngine s c 7).modes :=
    recorded .modes (by decide)
  have same : port (recordRaise (setEngine s c 7) 83 false (u32 r) (u32 why) (u32 other)) c = port (setEngine s c 7) c := by
    unfold port portOf inSplit
    rw [bus, modes]
  rw [engineOn, same, only.port]

theorem frame_with_now {s r : State} {t : Time} {l : List Part} (h : Frame l (s.atTime t) r) : Frame (.now :: l) s r :=
  ((frame_atTime s t).mono (by simp)).trans (h.mono fun _ hp => List.mem_cons_of_mem _ hp)

theorem coldstarts {t : Time} {s : State} {c : Chan} {a b : Option Nat} {r : Nat} (rank : rankOn s c = some r) {i : Instr}
    (h : (i = Instr.listenEnd ⟨t, c⟩ a b ∧ engineOn s c = 1 ∧ (port s c).listenFrom + ms (128 + r) ≤ t) ∨
      (i = Instr.coldstartRetry ⟨t, c⟩ a b ∧ engineOn s c = 2 ∧ 1 ≤ (port s c).collided ∧ (port s c).listenFrom + ms (1 + r) ≤ t)) :
    ((∀ x ∈ portChans s c, ((readOf a b x).any fun n => decide (n / 2 ≤ dmaxNs s)) = true) → Answers i s fun s' =>
        engineOn s' c = 5 ∧ masterOn s' c = some (nodeOn s c) ∧ (port s' c).matrix = 0xFFFF ∧ (port s' c).bcyc = 63 ∧
          (port s' c).collided = 0 ∧ (∀ x ∈ portChans s c, (chanBus s' x).delay = (readOf a b x).map fun n => n / 2) ∧
          s'.out.length = s.out.length + (portChans s c).length ∧ Frame [.now, .bus, .cyc, .out] s s') ∧
      ((∃ x ∈ portChans s c, readOf a b x = none) → (port s c).collided < 2 → Answers i s fun s' =>
        engineOn s' c = 2 ∧ (port s' c).collided = (port s c).collided + 1 ∧ (port s' c).listenFrom = t ∧
          (port s' c).matrix = 0xFFFF ∧ s'.out.length = s.out.length + (portChans s c).length ∧ Frame [.now, .bus, .out] s s') ∧
      ((∃ x ∈ portChans s c, readOf a b x = none) → 2 ≤ (port s c).collided → Quiet s 83 → Answers i s fun s' =>
        engineOn s' c = 7 ∧ Raised s s' 83 (u32 r) 0 0x3FF ∧ Frame [.now, .bus, .out, .constable] s s') := by
  obtain ⟨f, hc, hf⟩ := attempts rank h
  obtain ⟨frame, bearing, record, delays, out⟩ := coldstartSent_effect (s.atTime t) c
  rw [coldstart_eq] at hf
  generalize coldstartSent (s.atTime t) c = x at frame bearing record delays out hf
  have chans : portChans x c = portChans s c := bearing.portChans c
  have lost {k : Chan} (hk : k ∈ portChans s c) (silent : readOf a b k = none) :
      ¬ ((portChans (s.atTime t) c).all fun x => (readOf a b x).isSome) = true := fun all => by
    have read := List.all_eq_true.mp all k hk
    rw [silent] at read
    exact absurd read (by decide)
  have count : (port (modPort x c fun p => { p with collided := p.collided + 1 }) c).collided = (port s c).collided + 1 := by
    rw [port_modPort, record]; rfl
  refine ⟨fun clean => ?_, fun ⟨k, hk, silent⟩ few => ?_, fun ⟨k, hk, silent⟩ third quiet => ?_⟩
  · have all : ((portChans (s.atTime t) c).all fun x => (readOf a b x).isSome) = true := List.all_eq_true.mpr fun k hk => by
      have read := clean k hk
      revert read
      cases readOf a b k <;> simp
    rw [if_pos all] at hf
    obtain ⟨mastered, port_, known⟩ := becomeMaster_effect (s := x) (c := c) (read := readOf a b) (by
      rw [chans, bearing.dmaxNs]
      exact clean)
    have whole : Frame [.bus, .cyc, .out] (s.atTime t) (f (s.atTime t)) := by
      rw [hf]
      exact (frame.mono (by decide)).trans (mastered.mono (by decide))
    refine answers_still hc whole (by decide) ?_
    have outs : (becomeMaster x c (readOf a b)).out = x.out := mastered .out (by decide)
    rw [hf] at whole ⊢
    refine ⟨?_, ?_, ?_, ?_, ?_, fun y hy => ?_, ?_, frame_with_now (l := [.bus, .cyc, .out]) whole⟩
    · rw [engineOn, port_]; rfl
    · rw [masterOn, port_, bearing.nodeOn]; rfl
    · rw [port_]; rfl
    · rw [port_]; rfl
    · rw [port_]; rfl
    · exact known y (by rw [chans]; exact hy)
    · rw [outs, out]; rfl
  · rw [if_neg (lost hk silent), if_neg (by rw [count]; omega)] at hf
    have whole : Frame [.bus, .out] (s.atTime t) (f (s.atTime t)) := by
      rw [hf]
      exact frame.trans ((modPort_frame _ _ _).mono (by decide))
    refine answers_still hc whole (by decide) ?_
    have outs : (modPort x c fun p => { p with collided := p.collided + 1 }).out = x.out := modPort_frame _ _ _ .out (by decide)
    rw [hf] at whole ⊢
    refine ⟨?_, count, ?_, ?_, ?_, frame_with_now (l := [.bus, .out]) whole⟩
    · rw [engineOn, port_modPort, record]; rfl
    · rw [port_modPort, record]; rfl
    · rw [port_modPort, record]; rfl
    · rw [outs, out]; rfl
  · rw [if_neg (lost hk silent), if_pos (by rw [count]; omega)] at hf
    have counted := modPort_only x c fun p => { p with collided := p.collided + 1 }
    generalize modPort x c (fun p => { p with collided := p.collided + 1 }) = y at counted hf
    have constable : y.constable = s.constable := (counted.frame .constable (by decide)).trans (frame .constable (by decide))
    have quiety : Quiet y 83 := by
      unfold Quiet at quiet ⊢
      rw [source_of_constable constable]
      exact quiet
    obtain ⟨eq, muted, engine⟩ := enterMute_minor (s := y) (c := c) (why := 0) (other := 0x3FF) (r := r) quiety (by
      rw [counted.bearing.rankOn, bearing.rankOn]
      exact rank)
    have whole : Frame [.bus, .out, .constable] (s.atTime t) (f (s.atTime t)) := by
      rw [hf]
      exact ((frame.mono (by decide)).trans (counted.frame.mono (by decide))).trans (muted.mono (by decide))
    refine answers_still hc whole (by decide) ?_
    rw [hf] at whole ⊢
    refine ⟨engine, ?_, frame_with_now (l := [.bus, .out, .constable]) whole⟩
    rw [eq]
    exact raised_recordRaise ((source_of_constable ((setEngine_only y c 7).frame .constable (by decide)) 83).trans
      (source_of_constable constable 83)) _ _ _

/-! ### Another node's coldstart frame (R234) -/

/-- COLDSTART_FRAME. -/
def hearsColdstart (f : BusFrame) (s : State) : State :=
  if f.ftype ≠ 1 then s else
  match hear s f true with
  | (s1, true) => hearMaster s1 f
  | (s1, false) => s1

theorem coldstartFrame_eq (t : Time) (s : State) (f : BusFrame) : exec (.coldstartFrame t f) s = at_ t s (hearsColdstart f) := rfl

theorem hearsColdstart_heard {s r : State} {f : BusFrame} {ok : Bool} (cold : f.ftype = 1) (on : engineOn s f.chan ≠ 0)
    (h : receive s f true = (r, ok)) : hearsColdstart f s = if ok then hearMaster r f else r := by
  unfold hearsColdstart
  rw [if_neg (not_not_intro cold), hear_on on, h]
  cases ok <;> rfl

theorem enterIntegrate_effect (s : State) (c : Chan) : Frame [.bus] s (enterIntegrate s c) ∧
    port (enterIntegrate s c) c = { port s c with engine := 3, noSync := 0, missedRun := 0, limitRun := 0, observing := false } ∧
    ∀ x ∈ portChans s c, chanBus (enterIntegrate s c) x = unmeasured (chanBus s x) := by
  have only := setEngine_only s c 3
  obtain ⟨frame, bearing, ports, own, -⟩ := foldl_modBus (portChans_nodup s c) (fun _ => unmeasured) (setEngine s c 3)
  unfold enterIntegrate
  dsimp only
  generalize (portChans s c).foldl (fun st x => modBus st x unmeasured) (setEngine s c 3) = y at frame bearing ports own ⊢
  have reset := modPort_only y c fun p => { p with noSync := 0, missedRun := 0, limitRun := 0, observing := false }
  refine ⟨(only.frame.trans frame).trans reset.frame, ?_, fun x hx => ?_⟩
  · rw [reset.port, ports, only.port]
  · rw [reset.chan, own x hx, only.chan]

theorem hearMaster_joins {s : State} {f : BusFrame} (other : f.node ≠ nodeOn s f.chan) (waits : engineOn s f.chan = 1 ∨ engineOn s f.chan = 2) :
    hearMaster s f = enterIntegrate (setMaster s f.chan f.node) f.chan := by
  unfold hearMaster
  dsimp only
  rw [if_neg other]
  obtain h | h := waits <;> simp only [h]

theorem hearMaster_rival {s : State} {f : BusFrame} {r : Nat} (other : f.node ≠ nodeOn s f.chan) (active : engineOn s f.chan = 5)
    (rank : rankOn s f.chan = some r) (same : f.rank.toNat = r) : hearMaster s f = enterMute s f.chan 1 f.node := by
  unfold hearMaster
  dsimp only
  rw [if_neg other]
  simp only [active, rank]
  exact if_pos same

theorem Timely.atTime {s : State} {f : BusFrame} (h : Timely s f) (t : Time) : Timely (s.atTime t) f := h

theorem otherColdstart {t : Time} {s : State} {f : BusFrame} {r : Nat} (rank : rankOn s f.chan = some r) (cold : f.ftype = 1)
    (on : engineOn s f.chan ≠ 0) (link : linkBad s f = false) (sched : f.sched = ownSched s) (timely : Timely s f)
    (other : f.node ≠ nodeOn s f.chan) :
    (engineOn s f.chan = 1 ∨ engineOn s f.chan = 2 → Answers (.coldstartFrame t f) s fun s' =>
        engineOn s' f.chan = 3 ∧ masterOn s' f.chan = some f.node ∧ (∀ x ∈ portChans s f.chan, (chanBus s' x).delay = none) ∧
          Frame [.now, .bus, .twin, .constable] s s') ∧
      (engineOn s f.chan = 5 → f.rank.toNat = r → Quiet s 83 → Answers (.coldstartFrame t f) s fun s' =>
        engineOn s' f.chan = 7 ∧ Raised s s' 83 (u32 r) 1 (u32 f.node) ∧ Frame [.now, .bus, .twin, .constable] s s') := by
  obtain ⟨x, got, heard⟩ := receive_valid (s := s.atTime t) (timed := true) link sched fun _ => timely.atTime t
  have eq : hearsColdstart f (s.atTime t) = hearMaster x f := hearsColdstart_heard (s := s.atTime t) cold on got
  have node : nodeOn x f.chan = nodeOn s f.chan := heard.bearing.nodeOn f.chan
  have engine : engineOn x f.chan = engineOn s f.chan := congrArg PortSt.engine (heard.port f.chan)
  have role : x.twin.role = s.twin.role := heard.role
  refine ⟨fun waits => ?_, fun active same quiet => ?_⟩
  · rw [hearMaster_joins (by rw [node]; exact other) (by rw [engine]; exact waits)] at eq
    have crowned := setMaster_only x f.chan f.node
    obtain ⟨joined, port_, chans⟩ := enterIntegrate_effect (setMaster x f.chan f.node) f.chan
    generalize enterIntegrate (setMaster x f.chan f.node) f.chan = z at joined port_ chans eq
    have whole : Frame [.bus, .twin, .constable] (s.atTime t) z :=
      heard.frame.trans ((crowned.frame.trans joined).mono (by decide))
    have twin : z.twin = x.twin := (crowned.frame.trans joined) .twin (by decide)
    refine answers_role (coldstartFrame_eq t s f) (by rw [eq]; exact whole) (by decide) (by rw [eq, twin]; exact role) ?_
    rw [eq]
    refine ⟨?_, ?_, fun k hk => ?_, frame_with_now (l := [.bus, .twin, .constable]) whole⟩
    · rw [engineOn, port_]
    · rw [masterOn, port_, crowned.port]
    · rw [chans k (by rw [crowned.bearing.portChans, heard.bearing.portChans]; exact hk)]
      rfl
  · rw [hearMaster_rival (by rw [node]; exact other) (by rw [engine]; exact active) (by rw [heard.bearing.rankOn]; exact rank) same] at eq
    have quietx : Quiet x 83 := by
      unfold Quiet at quiet ⊢
      rw [heard.source 83 (by cases f.chan <;> decide)]
      exact quiet
    obtain ⟨recorded, muted, engine7⟩ := enterMute_minor (s := x) (c := f.chan) (why := 1) (other := f.node) quietx (by
      rw [heard.bearing.rankOn]
      exact rank)
    have whole : Frame [.bus, .twin, .constable] (s.atTime t) (enterMute x f.chan 1 f.node) := heard.frame.trans (muted.mono (by decide))
    have twin : (enterMute x f.chan 1 f.node).twin = x.twin := muted .twin (by decide)
    refine answers_role (coldstartFrame_eq t s f) (by rw [eq]; exact whole) (by decide) (by rw [eq, twin]; exact role) ?_
    rw [eq]
    refine ⟨engine7, ?_, frame_with_now (l := [.bus, .twin, .constable]) whole⟩
    rw [recorded]
    exact raised_recordRaise ((source_of_constable ((setEngine_only x f.chan 7).frame .constable (by decide)) 83).trans
      (heard.source 83 (by cases f.chan <;> decide))) _ _ _

/-- Settles O39: an attempt sends its frames first, and their readback decides; that a time master takes its delays from its own coldstart
frames is log entry 124. -/
theorem coldstartMakesOneTimeMaster : Obligations.ColdstartMakesOneTimeMaster := by
  intro t s c a b r f rank
  have rank' : rankOn (s.atTime t) c = some r := rank
  refine ⟨fun i h => coldstarts rank h, fun wait => ?_, fun wait => ?_, ?_, fun off => ?_⟩
  · refine runs_idle (listenEnd_eq ⟨t, c⟩ s a b) ?_
    unfold listenEnds
    dsimp only
    rw [rank']
    exact if_neg fun due => wait.elim (fun other => other due.1) fun early => absurd due.2 (Nat.not_le.mpr early)
  · refine runs_idle (coldstartRetry_eq ⟨t, c⟩ s a b) ?_
    unfold coldstartRetries
    dsimp only
    rw [rank']
    exact if_neg fun due => wait.elim (fun other => other due.1) fun early => absurd due.2.2 (Nat.not_le.mpr early)
  · rintro rfl cold on
    refine ⟨fun link => ?_, fun link sched timely other => otherColdstart rank cold on link sched timely other⟩
    refine runs_still (coldstartFrame_eq t s f) ?_ (modBus_frame _ _ _) (by decide)
    exact hearsColdstart_heard (s := s.atTime t) cold on (receive_broken (s := s.atTime t) true link)
  · refine runs_idle (coldstartFrame_eq t s f) ?_
    unfold hearsColdstart
    rw [hear_off (s := s.atTime t) off, ite_self]

end Sys2Proof.Machine
end

section
/-!
PROOFS. The delay to the time master (O41).
-/

namespace Sys2Proof.Machine

theorem queueOn_eq (s : State) (c : Chan) (f : BusFrame) :
    queueOn s c f = modBus s c fun x => { x with queue := x.queue ++ [⟨s.now, f⟩] } := rfl

/-! ### Requests (R230) -/

/-- DELAY_REQUEST. -/
def requested (f : BusFrame) (tpass : Time) (s : State) : State :=
  match hear s f false with
  | (s1, true) =>
    if f.ftype = 5 ∧ isMaster s1 f.chan then
      queueOn s1 f.chan (ownFrame 6 (leBytes 8 tpass ++ leBytes 2 f.node ++ List.replicate 6 0))
    else s1
  | (s1, false) => s1

theorem delayRequest_eq (t tpass : Time) (s : State) (f : BusFrame) : exec (.delayRequest t f tpass) s = at_ t s (requested f tpass) := rfl

theorem isMaster_iff (s : State) (c : Chan) : isMaster s c = true ↔ engineOn s c = 5 ∧ masterOn s c = some (nodeOn s c) := by
  simp [isMaster]

theorem isMaster_congr {s r : State} (bearing : Bearing s r) {c : Chan} (h : port r c = port s c) : isMaster r c = isMaster s c := by
  unfold isMaster engineOn masterOn
  rw [h, bearing.nodeOn]

theorem requested_heard {s r : State} {f : BusFrame} {tpass : Time} (on : engineOn s f.chan ≠ 0) (got : receive s f false = (r, true)) :
    requested f tpass s = if f.ftype = 5 ∧ isMaster r f.chan then
      queueOn r f.chan (ownFrame 6 (leBytes 8 tpass ++ leBytes 2 f.node ++ List.replicate 6 0)) else r := by
  unfold requested
  rw [hear_on on, got]

theorem requested_off {s : State} {f : BusFrame} {tpass : Time} (off : engineOn s f.chan = 0) : requested f tpass s = s := by
  unfold requested
  rw [hear_off off]

theorem masterAnswers {t tpass : Time} {s : State} {f : BusFrame} (five : f.ftype = 5) (link : linkBad s f = false)
    (sched : f.sched = ownSched s) (master : isMaster s f.chan = true) : Answers (.delayRequest t f tpass) s fun s' =>
      (chanBus s' f.chan).queue = (chanBus s f.chan).queue ++
          [⟨t, ownFrame 6 (leBytes 8 tpass ++ leBytes 2 f.node ++ List.replicate 6 0)⟩] ∧
        Frame [.now, .bus, .twin, .constable] s s' := by
  have on : engineOn s f.chan ≠ 0 := by
    rw [((isMaster_iff s f.chan).mp master).1]
    decide
  obtain ⟨x, got, heard⟩ := receive_valid (s := s.atTime t) (timed := false) link sched fun h => Bool.noConfusion h
  have eq := requested_heard (s := s.atTime t) (tpass := tpass) on got
  rw [if_pos ⟨five, by rw [isMaster_congr heard.bearing (heard.port f.chan)]; exact master⟩, queueOn_eq] at eq
  have whole : Frame [.bus, .twin, .constable] (s.atTime t) (requested f tpass (s.atTime t)) := by
    rw [eq]
    exact heard.frame.trans ((modBus_frame _ _ _).mono (by decide))
  refine answers_role (delayRequest_eq t tpass s f) whole (by decide) (by rw [eq]; exact heard.role) ⟨?_, frame_with_now (l := [.bus, .twin,
    .constable]) whole⟩
  obtain ⟨n, chan⟩ := heard.chan
  rw [eq, chanBus_modBus, chan, heard.bearing.now]
  rfl

/-! ### Responses (R230) -/

/-- DELAY_RESPONSE. -/
def responded (chan : Chan) (f : BusFrame) (s : State) : State :=
  if f.chan ≠ chan then s else
  match hear s f true with
  | (s1, true) =>
    match (chanBus s1 f.chan).sentAt with
    | some (tsend, trip) =>
      if f.ftype = 6 ∧ field f.body 8 2 = nodeOn s1 f.chan ∧ (chanBus s1 f.chan).asked.isSome then
        measure (takeOffset s1 f.chan (field f.body 0 8) tsend (trip / 2)) f.chan (trip / 2)
      else s1
    | none => s1
  | (s1, false) => s1

theorem delayResponse_eq (t : Time) (s : State) (c : Chan) (f : BusFrame) : exec (.delayResponse t c f) s = at_ t s (responded c f) := rfl

theorem responded_elsewhere {s : State} {f : BusFrame} {c : Chan} (h : f.chan ≠ c) : responded c f s = s := if_pos h

theorem responded_off {s : State} {f : BusFrame} (off : engineOn s f.chan = 0) : responded f.chan f s = s := by
  unfold responded
  rw [hear_off off, ite_self]

theorem responded_heard {s r : State} {f : BusFrame} {tsend trip : Nat} (on : engineOn s f.chan ≠ 0) (got : receive s f true = (r, true))
    (sent : (chanBus r f.chan).sentAt = some (tsend, trip)) (six : f.ftype = 6) (ours : field f.body 8 2 = nodeOn r f.chan)
    (asked : (chanBus r f.chan).asked.isSome = true) :
    responded f.chan f s = measure (takeOffset r f.chan (field f.body 0 8) tsend (trip / 2)) f.chan (trip / 2) := by
  unfold responded
  rw [if_neg (not_not_intro rfl), hear_on on, got]
  dsimp only
  rw [sent]
  exact if_pos ⟨six, ours, asked⟩

/-- The offset that a joining port takes from the response. -/
def offsetTaken (tpass tsend d : Nat) (p : PortSt) : PortSt :=
  if p.engine = 3 then { p with clusterOff := (tpass : Int) - (tsend + d : Nat) } else p

theorem takeOffset_only (s : State) (c : Chan) (tpass tsend d : Nat) :
    PortOnly s (takeOffset s c tpass tsend d) c (offsetTaken tpass tsend d) := by
  unfold takeOffset offsetTaken
  by_cases h : engineOn s c = 3
  · have h' : (port s c).engine = 3 := h
    rw [if_pos h]
    refine ⟨modPort_frame _ _ _, modPort_bearing _ _ _, ?_, chanBus_modPort _ _ _⟩
    rw [port_modPort, if_pos h']
  · have h' : ¬ (port s c).engine = 3 := h
    rw [if_neg h]
    exact ⟨.refl _ _, .refl _, (if_neg h').symm, fun _ => rfl⟩

/-- A measurement within the limit, when fewer than three have been made. -/
theorem measure_adds {s : State} {c : Chan} {d : Nat} (fits : d ≤ dmaxNs s) (few : (chanBus s c).measured.length < 3) :
    measure s c d = modBus s c fun x => { x with asked := none, sentAt := none, measured := (chanBus s c).measured ++ [d] } := by
  unfold measure
  dsimp only
  rw [if_neg (Nat.not_lt.mpr fits), if_pos (by rw [List.length_append, List.length_singleton]; omega), modBus_modBus]

/-- The fourth measurement of a joining port. -/
theorem measure_completes {s : State} {c : Chan} {d : Nat} (fits : d ≤ dmaxNs s) (three : (chanBus s c).measured.length = 3)
    (joins : engineOn s c = 3) : measure s c d =
      modPort (setEngine (modBus s c fun x => { x with
        asked := none, sentAt := none, delay := some (middleMean ((chanBus s c).measured ++ [d])), measured := [] }) c 4) c
        fun p => { p with observing := false, matrixOk := false } := by
  unfold measure
  dsimp only
  rw [if_neg (Nat.not_lt.mpr fits), if_neg (by rw [List.length_append, List.length_singleton]; omega), modBus_modBus]
  exact if_pos joins

/-- A measurement beyond the limit. -/
theorem measure_refuses {s : State} {c : Chan} {d : Nat} (far : dmaxNs s < d) :
    measure s c d = raise (modBus s c fun x => { x with asked := none, sentAt := none }) 82 (i32 (port s c).deviation) 1 (u32 (chanNo c)) :=
  if_pos far

theorem offsetTaken_engine (tpass tsend d : Nat) (p : PortSt) : (offsetTaken tpass tsend d p).engine = p.engine := by
  unfold offsetTaken
  split <;> rfl

theorem offsetTaken_deviation (tpass tsend d : Nat) (p : PortSt) : (offsetTaken tpass tsend d p).deviation = p.deviation := by
  unfold offsetTaken
  split <;> rfl

/-- A response that answers this node's request is measured, on a state that has heard it. -/
theorem response_measured {t : Time} {s : State} {f : BusFrame} {tsend trip : Nat} (six : f.ftype = 6) (on : engineOn s f.chan ≠ 0)
    (link : linkBad s f = false) (sched : f.sched = ownSched s) (timely : Timely s f) (ours : field f.body 8 2 = nodeOn s f.chan)
    (asked : (chanBus s f.chan).asked.isSome = true) (sent : (chanBus s f.chan).sentAt = some (tsend, trip)) :
    ∃ x, responded f.chan f (s.atTime t) = measure x f.chan (trip / 2) ∧ Frame [.bus, .twin, .constable] (s.atTime t) x ∧ Bearing (s.atTime t) x ∧
      x.twin.role = s.twin.role ∧ (∀ n, n ≠ 80 + chanNo f.chan → source x n = source s n) ∧
      port x f.chan = offsetTaken (field f.body 0 8) tsend (trip / 2) (port s f.chan) ∧
      (chanBus x f.chan).measured = (chanBus s f.chan).measured := by
  obtain ⟨y, got, heard⟩ := receive_valid (s := s.atTime t) (timed := true) link sched fun _ => timely.atTime t
  obtain ⟨n, chan⟩ := heard.chan
  have only := takeOffset_only y f.chan (field f.body 0 8) tsend (trip / 2)
  have twin : (takeOffset y f.chan (field f.body 0 8) tsend (trip / 2)).twin = y.twin := only.frame .twin (by decide)
  have constable : (takeOffset y f.chan (field f.body 0 8) tsend (trip / 2)).constable = y.constable := only.frame .constable (by decide)
  refine ⟨_, responded_heard (s := s.atTime t) on got (by rw [chan]; exact sent) six ?_ (by rw [chan]; exact asked),
    heard.frame.trans (only.frame.mono (by decide)), heard.bearing.trans only.bearing, ?_, fun m hm => ?_, ?_, ?_⟩
  · rw [heard.bearing.nodeOn]
    exact ours
  · rw [twin]
    exact heard.role
  · exact (source_of_constable constable m).trans (heard.source m hm)
  · rw [only.port, heard.port]
    rfl
  · rw [only.chan, chan]
    rfl

theorem responses {t : Time} {s : State} {f : BusFrame} {tsend trip d : Nat} (six : f.ftype = 6) (on : engineOn s f.chan ≠ 0)
    (link : linkBad s f = false) (sched : f.sched = ownSched s) (timely : Timely s f) (ours : field f.body 8 2 = nodeOn s f.chan)
    (asked : (chanBus s f.chan).asked.isSome = true) (sent : (chanBus s f.chan).sentAt = some (tsend, trip)) (half : d = trip / 2) :
    (d ≤ dmaxNs s → (chanBus s f.chan).measured.length < 3 → Answers (.delayResponse t f.chan f) s fun s' =>
        (chanBus s' f.chan).measured = (chanBus s f.chan).measured ++ [d] ∧ (chanBus s' f.chan).asked = none ∧
          engineOn s' f.chan = engineOn s f.chan ∧
          (port s' f.chan).clusterOff = (if engineOn s f.chan = 3 then (field f.body 0 8 : Int) - (tsend + d : Nat)
            else (port s f.chan).clusterOff) ∧ Frame [.now, .bus, .twin, .constable] s s') ∧
      (d ≤ dmaxNs s → (chanBus s f.chan).measured.length = 3 → engineOn s f.chan = 3 → Answers (.delayResponse t f.chan f) s fun s' =>
        (chanBus s' f.chan).delay = some (middleMean ((chanBus s f.chan).measured ++ [d])) ∧ engineOn s' f.chan = 4 ∧
          (port s' f.chan).observing = false ∧ Frame [.now, .bus, .twin, .constable] s s') ∧
      (dmaxNs s < d → Quiet s 82 → Answers (.delayResponse t f.chan f) s fun s' =>
        (chanBus s' f.chan).measured = (chanBus s f.chan).measured ∧ (chanBus s' f.chan).asked = none ∧
          Raised s s' 82 (i32 (port s f.chan).deviation) 1 (u32 (chanNo f.chan)) ∧ Frame [.now, .bus, .twin, .constable] s s') := by
  subst half
  obtain ⟨x, eq, frame, bearing, role, source_, port_, measured⟩ := response_measured (t := t) six on link sched timely ours asked sent
  have dmax : dmaxNs x = dmaxNs s := bearing.dmaxNs
  refine ⟨fun fits few => ?_, fun fits three joins => ?_, fun far quiet => ?_⟩
  · rw [measure_adds (by rw [dmax]; exact fits) (by rw [measured]; exact few)] at eq
    have whole : Frame [.bus, .twin, .constable] (s.atTime t) (responded f.chan f (s.atTime t)) := by
      rw [eq]
      exact frame.trans ((modBus_frame _ _ _).mono (by decide))
    refine answers_role (delayResponse_eq t s f.chan f) whole (by decide) (by rw [eq]; exact role) ?_
    rw [eq] at whole ⊢
    refine ⟨?_, ?_, ?_, ?_, frame_with_now (l := [.bus, .twin, .constable]) whole⟩
    · rw [chanBus_modBus, measured]
    · rw [chanBus_modBus]
    · rw [engineOn, port_modBus, port_, offsetTaken_engine]; rfl
    · rw [port_modBus, port_, offsetTaken, engineOn]
      split <;> rfl
  · rw [measure_completes (by rw [dmax]; exact fits) (by rw [measured]; exact three) (by
      rw [engineOn, port_, offsetTaken_engine]
      exact joins)] at eq
    have only := (setEngine_only (modBus x f.chan fun y => { y with
      asked := none, sentAt := none, delay := some (middleMean ((chanBus x f.chan).measured ++ [trip / 2])), measured := [] }) f.chan 4).trans
      (modPort_only _ f.chan fun p => { p with observing := false, matrixOk := false })
    have whole : Frame [.bus, .twin, .constable] (s.atTime t) (responded f.chan f (s.atTime t)) := by
      rw [eq]
      exact frame.trans (((modBus_frame _ _ _).trans only.frame).mono (by decide))
    have role' : (responded f.chan f (s.atTime t)).twin.role = s.twin.role := by
      rw [eq, show _ = _ from only.frame .twin (by decide)]
      exact role
    refine answers_role (delayResponse_eq t s f.chan f) whole (by decide) role' ?_
    rw [eq] at whole ⊢
    refine ⟨?_, ?_, ?_, frame_with_now (l := [.bus, .twin, .constable]) whole⟩
    · rw [only.chan, chanBus_modBus, measured]
    · rw [engineOn, only.port]
    · rw [only.port]
  · rw [measure_refuses (by rw [dmax]; exact far)] at eq
    have quietx : Quiet (modBus x f.chan fun y => { y with asked := none, sentAt := none }) 82 := by
      unfold Quiet at quiet ⊢
      rw [show source (modBus x f.chan fun y => { y with asked := none, sentAt := none }) 82 = source s 82 from
        source_ 82 (by cases f.chan <;> decide)]
      exact quiet
    rw [raise_minor quietx (by decide)] at eq
    have recorded := recordRaise_frame (modBus x f.chan fun y => { y with asked := none, sentAt := none }) 82 false
      (i32 (port x f.chan).deviation) 1 (u32 (chanNo f.chan))
    have whole : Frame [.bus, .twin, .constable] (s.atTime t) (responded f.chan f (s.atTime t)) := by
      rw [eq]
      exact frame.trans (((modBus_frame _ _ _).mono (by decide)).trans (recorded.mono (by decide)))
    have chans : (responded f.chan f (s.atTime t)).bus = (modBus x f.chan fun y => { y with asked := none, sentAt := none }).bus := by
      rw [eq]
      exact recorded .bus (by decide)
    have chan : chanBus (responded f.chan f (s.atTime t)) f.chan = { chanBus x f.chan with asked := none, sentAt := none } :=
      (congrArg (fun b : BusSt => b.ch.get f.chan) chans).trans (chanBus_modBus x f.chan fun y => { y with asked := none, sentAt := none })
    have role' : (responded f.chan f (s.atTime t)).twin.role = s.twin.role := by
      rw [eq, show _ = _ from recorded .twin (by decide)]
      exact role
    refine answers_role (delayResponse_eq t s f.chan f) whole (by decide) role' ⟨?_, ?_, ?_, frame_with_now (l := [.bus, .twin, .constable]) whole⟩
    · rw [chan, measured]
    · rw [chan]
    · have deviation : (port x f.chan).deviation = (port s f.chan).deviation := by rw [port_, offsetTaken_deviation]
      rw [eq, ← deviation]
      exact raised_recordRaise (x := modBus x f.chan fun y => { y with asked := none, sentAt := none })
        (source_ 82 (by cases f.chan <;> decide)) _ _ _

/-! ### Asking again (R230) -/

/-- DELAY_REQUEST_RETRY. -/
def asksAgain (chan : Chan) (s : State) : State :=
  if (chanBus s chan).asked.any (fun n => 2 ≤ n) ∧ (engineOn s chan = 3 ∨ engineOn s chan = 5) then askDelay s chan else s

theorem delayRequestRetry_eq (t : Time) (s : State) (c : Chan) : exec (.delayRequestRetry t c) s = at_ t s (asksAgain c) := rfl

theorem askDelay_eq (s : State) (c : Chan) : askDelay s c = modBus s c fun x => { x with
    queue := x.queue ++ [⟨s.now, ownFrame 5 (List.replicate 16 0)⟩], asked := none, sentAt := none } :=
  modBus_modBus _ _ _ _

theorem retries {t : Time} {s : State} {c : Chan} {n : Nat} (asked : (chanBus s c).asked = some n) :
    (2 ≤ n → engineOn s c = 3 ∨ engineOn s c = 5 → Answers (.delayRequestRetry t c) s fun s' =>
        (chanBus s' c).asked = none ∧
          (chanBus s' c).queue = (chanBus s c).queue ++ [⟨t, ownFrame 5 (List.replicate 16 0)⟩] ∧ Frame [.now, .bus] s s') ∧
      (n < 2 → Runs (.delayRequestRetry t c) s (s.atTime t)) := by
  have asked' : (chanBus (s.atTime t) c).asked = some n := asked
  refine ⟨fun long engine => ?_, fun short => ?_⟩
  · have eq : asksAgain c (s.atTime t) = _ := (if_pos ⟨by rw [asked']; simpa using long, engine⟩).trans (askDelay_eq (s.atTime t) c)
    have whole : Frame [.bus] (s.atTime t) (asksAgain c (s.atTime t)) := by
      rw [eq]
      exact modBus_frame _ _ _
    refine answers_still (delayRequestRetry_eq t s c) whole (by decide) ⟨?_, ?_, frame_with_now (l := [.bus]) whole⟩
    · rw [eq, chanBus_modBus]
    · rw [eq, chanBus_modBus]
      rfl
  · refine runs_idle (delayRequestRetry_eq t s c) (if_neg fun due => ?_)
    have long := due.1
    rw [asked'] at long
    exact absurd (by simpa using long) (Nat.not_le.mpr short)

/-- Settles O41: a request is answered by the time master; a response is measured where it answers this node's own request. That one whose
header names the other channel does nothing is log entry 143. -/
theorem delaysComeFromFourMeasurements : Obligations.DelaysComeFromFourMeasurements := by
  intro t tpass s f tsend trip d ch
  refine ⟨masterAnswers, fun off => ⟨?_, ?_⟩, fun other => ?_, responses, fun n asked => retries asked⟩
  · exact runs_idle (delayRequest_eq t tpass s f) (requested_off (s := s.atTime t) off)
  · exact runs_idle (delayResponse_eq t s f.chan f) (responded_off (s := s.atTime t) off)
  · exact runs_idle (delayResponse_eq t s ch f) (responded_elsewhere other)

end Sys2Proof.Machine
end

section
/-!
PROOFS. Sync frames and the Belfry (O40).
-/

namespace Sys2Proof.Machine

/-! ### A basic cycle's position (R231, R235) -/

/-- The frames of a sync position that belong to the port's channels. -/
def framesOf (fa fb : Option BusFrame) (l : List Chan) : List BusFrame :=
  l.flatMap fun x => ((if x = .a then fa else fb).filter fun f => f.chan == x).toList

/-- What the frames of a position leave, and those that count. -/
def heardOf (l : List BusFrame) (s : State) : State × List BusFrame :=
  l.foldl (fun (a : State × List BusFrame) f =>
    let r := hearSync a.1 f
    (r.1, a.2 ++ r.2)) (s, [])

/-- SYNC_FRAME. -/
def synced (c : Chan) (fa fb : Option BusFrame) (s : State) : State :=
  if engineOn s c = 0 then s else
  takeSync (heardOf (framesOf fa fb (portChans s c)) (tickBasic s c)).1 c (heardOf (framesOf fa fb (portChans s c)) (tickBasic s c)).2

theorem syncFrame_eq (t : Time) (s : State) (c : Chan) (fa fb : Option BusFrame) :
    exec (.syncFrame ⟨t, c⟩ fa fb) s = at_ t s (synced c fa fb) := rfl

/-- The one frame of a channel of the port. -/
theorem framesOf_one {s : State} {c : Chan} {x : BusFrame} (h : x.chan ∈ portChans s c) :
    framesOf (if x.chan = .a then some x else none) (if x.chan = .b then some x else none) (portChans s c) = [x] := by
  unfold portChans at h ⊢
  unfold framesOf
  split at h
  · next split_ =>
    rw [if_pos split_, ← List.mem_singleton.mp h]
    cases hx : x.chan <;> simp [hx]
  · next whole =>
    rw [if_neg whole]
    cases hx : x.chan <;> simp [hx]

theorem framesOf_two {x y : BusFrame} (hx : x.chan = .a) (hy : y.chan = .b) : framesOf (some x) (some y) [.a, .b] = [x, y] := by
  simp [framesOf, Option.filter, hx, hy]

theorem framesOf_none (l : List Chan) : framesOf none none l = [] := by
  unfold framesOf
  rw [List.flatMap_eq_nil_iff]
  intro x _
  split <;> rfl

/-- The port's record when a basic cycle has ended. -/
def ticked (p : PortSt) (now : Time) : PortSt := { p with
  bcyc := (p.bcyc + 1) % 64, turnAt := now + us 200, foreignRun := if p.foreignSeen then p.foreignRun + 1 else 0, foreignSeen := false }

theorem foldl_modBus_missed (g : Chan → ChanSt → ChanSt) (l : List Chan) (s : State) :
    (l.foldl (fun st x => modBus st x (g x)) s).bus.missed = s.bus.missed := by
  induction l generalizing s with
  | nil => rfl
  | cons y l ih => exact ih (modBus s y (g y))

theorem modPort_missed (s : State) (c : Chan) (f : PortSt → PortSt) : (modPort s c f).bus.missed = s.bus.missed := by
  unfold modPort
  split <;> rfl

/-- What the end of a basic cycle leaves. -/
structure Ticked (s r : State) (c : Chan) : Prop where
  frame : Frame [.bus] s r
  bearing : Bearing s r
  port : port r c = ticked (port s c) s.now
  delay : ∀ k, (chanBus r k).delay = (chanBus s k).delay
  window : ∀ k, (chanBus r k).window = (chanBus s k).window
  missed : r.bus.missed = s.bus.missed

theorem tickBasic_ticked (s : State) (c : Chan) : Ticked s (tickBasic s c) c := by
  obtain ⟨frame, bearing, ports, own, others⟩ := foldl_modBus (portChans_nodup s c) (fun _ => tickChan) s
  have missed := foldl_modBus_missed (fun _ => tickChan) (portChans s c) s
  unfold tickBasic
  dsimp only
  generalize (portChans s c).foldl (fun st x => modBus st x tickChan) s = y at frame bearing ports own others missed ⊢
  have only := modPort_only y c fun p => { p with
    bcyc := (p.bcyc + 1) % 64, turnAt := s.now + us 200, foreignRun := if p.foreignSeen then p.foreignRun + 1 else 0, foreignSeen := false }
  have chan (k : Chan) : (chanBus y k).delay = (chanBus s k).delay ∧ (chanBus y k).window = (chanBus s k).window := by
    by_cases hk : k ∈ portChans s c
    · rw [own k hk]
      exact ⟨rfl, rfl⟩
    · rw [others k hk]
      exact ⟨rfl, rfl⟩
  refine ⟨frame.trans only.frame, bearing.trans only.bearing, ?_, fun k => ?_, fun k => ?_, (modPort_missed _ _ _).trans missed⟩
  · rw [only.port, ports]
    rfl
  · rw [only.chan, (chan k).1]
  · rw [only.chan, (chan k).2]

theorem Ticked.engine {s r : State} {c : Chan} (h : Ticked s r c) : engineOn r c = engineOn s c := by
  rw [engineOn, h.port]
  rfl

theorem Ticked.master {s r : State} {c : Chan} (h : Ticked s r c) : isMaster r c = isMaster s c := by
  unfold isMaster masterOn
  rw [h.engine, h.port, h.bearing.nodeOn]
  rfl

/-! ### Deviations (R237) -/

theorem noteDeviation_only (s : State) (c : Chan) (d : Int) : PortOnly s (noteDeviation s c d) c id := by
  unfold noteDeviation
  split
  · exact ⟨.refl _ _, .refl _, rfl, fun _ => rfl⟩
  · refine ⟨fun p hp => ?_, ⟨rfl, rfl, rfl, rfl, rfl⟩, ?_, fun _ => rfl⟩
    · cases p <;> simp [same] at hp ⊢
    · unfold port portOf inSplit
      dsimp only
      cases (if (s.modes.mode == Mode.split || s.modes.splitRun) = true then c else Chan.a) <;> rfl

/-- The port's record of a deviation. -/
def deviated (d : Int) (p : PortSt) : PortSt :=
  { p with deviation := d, correction := correction d, limitRun := if beyondLimit d then p.limitRun + 1 else 0 }

theorem deviated_only (s : State) (c : Chan) (d : Int) : PortOnly s (modPort (noteDeviation s c d) c (deviated d)) c (deviated d) :=
  (noteDeviation_only s c d).trans (modPort_only _ c (deviated d))

theorem applyDeviation_eq (s : State) (c : Chan) (l : List BusFrame) : applyDeviation s c l =
    if 2 ≤ (port (modPort (noteDeviation s c (deviation l)) c (deviated (deviation l))) c).limitRun then
      raise (setEngine (draw (modPort (noteDeviation s c (deviation l)) c (deviated (deviation l)))) c 6) 82 (i32 (deviation l)) 0
        (limitChannel s l)
    else modPort (noteDeviation s c (deviation l)) c (deviated (deviation l)) := rfl

/-- The first deviation beyond the limit, or one within it, only steers. -/
theorem applyDeviation_steers {s : State} {c : Chan} {l : List BusFrame} (h : (deviated (deviation l) (port s c)).limitRun < 2) :
    PortOnly s (applyDeviation s c l) c (deviated (deviation l)) := by
  have only := deviated_only s c (deviation l)
  rw [applyDeviation_eq, only.port, if_neg (Nat.not_le.mpr h)]
  exact only

theorem not_beyond {d : Int} (low : -500 ≤ d) (high : d ≤ 500) : beyondLimit d = false := by
  simp [beyondLimit, low, high]

theorem correction_within {d : Int} (low : -500 ≤ d) (high : d ≤ 500) : correction d = -d := by
  unfold correction
  omega

theorem inWindow_iff (f : BusFrame) : inWindow f = true ↔ -400 ≤ f.off ∧ f.off ≤ 400 := by
  simp [inWindow]

/-- A step of the port that only steers. -/
def Steers (f : PortSt → PortSt) : Prop :=
  ∀ p, f p = { p with deviation := (f p).deviation, correction := (f p).correction, limitRun := (f p).limitRun }

/-! ### Which frame gives the time (R231, R232) -/

/-- The port's record of a valid sync frame. -/
def timed (x : BusFrame) (d now : Nat) (p : PortSt) : PortSt := { p with
  master := some x.node, bcyc := (x.bcyc + 1) % 64, matrix := x.matrix, noSync := 0, missedRun := 0, ownSync := false
  synced := if p.engine = 4 then p.synced + 1 else p.synced
  clusterOff := (field x.body 0 8 : Int) + d - now, origin := (field x.body 0 8 : Int) - us 800 - ms x.bcyc }

theorem takeSync_timed {s : State} {c : Chan} {l : List BusFrame} {x : BusFrame}
    (h : timeFrame s (l.filter fun f => !expects s f.chan || inWindow f) = some x) :
    ∃ r, takeSync s c l = takeDeviation r c (measuredOn s l) ∧ PortOnly s r c (timed x ((chanBus s x.chan).delay.getD 0) s.now) := by
  unfold takeSync
  rw [h]
  refine ⟨_, rfl, ?_⟩
  have crowned := setMaster_only s c x.node
  refine ⟨crowned.frame.trans (modPort_frame _ _ _), crowned.bearing.trans (modPort_bearing _ _ _), ?_, fun k =>
    (chanBus_modPort _ _ _ _).trans (crowned.chan k)⟩
  rw [port_modPort, crowned.port]
  rfl

theorem takeSync_untimed {s : State} {c : Chan} {l : List BusFrame}
    (h : timeFrame s (l.filter fun f => !expects s f.chan || inWindow f) = none) : takeSync s c l =
      if isMaster s c then masterSync s c else if l = [] then missSync s c else takeDeviation (lackSync s c) c (measuredOn s l) := by
  unfold takeSync
  rw [h]

theorem takeDeviation_none {s : State} (c : Chan) : takeDeviation s c [] = modPort s c fun p => { p with correction := 0 } := by
  unfold takeDeviation
  split <;> rfl

theorem takeDeviation_active {s : State} {c : Chan} {x : BusFrame} {l : List BusFrame} (h : engineOn s c = 5) :
    takeDeviation s c (x :: l) = applyDeviation s c (x :: l) := by
  unfold takeDeviation
  simp only [h]

theorem expects_active {s : State} {k : Chan} (h : engineOn s k = 5) : expects s k = (chanBus s k).delay.isSome := by
  simp [expects, hasTime, h]

theorem hearMaster_lower {s : State} {f : BusFrame} {r : Nat} (other : f.node ≠ nodeOn s f.chan) (active : engineOn s f.chan = 5)
    (rank : rankOn s f.chan = some r) (differs : f.rank.toNat ≠ r) : hearMaster s f = s := by
  unfold hearMaster
  dsimp only
  rw [if_neg other]
  simp only [active, rank]
  exact if_neg differs

/-! ### A sync position of an active port -/

section
variable {t : Time} {s : State} {c : Chan} {r : Nat} {x : BusFrame}

/-- What the frame of another master meets at an active port: a channel of it, a valid link, another node and another rank. -/
structure Meets (s : State) (c : Chan) (r : Nat) (x : BusFrame) : Prop where
  chan : x.chan ∈ portChans s c
  sync : x.ftype = 0
  link : linkBad s x = false
  sched : x.sched = ownSched s
  node : x.node ≠ nodeOn s c
  rank : x.rank.toNat ≠ r

/-- The node and the rank of a channel are its port's. -/
theorem nodeOn_of_mem {s : State} {c k : Chan} (h : k ∈ portChans s c) : nodeOn s k = nodeOn s c ∧ rankOn s k = rankOn s c := by
  unfold portChans at h
  by_cases split_ : inSplit s = true
  · rw [if_pos split_] at h
    rw [List.mem_singleton.mp h]
    exact ⟨rfl, rfl⟩
  · cases k <;> cases c <;> simp [nodeOn, rankOn, split_]

/-- A state of the same port, on which the frame is judged as on the first one. -/
structure Judges (s y : State) (c : Chan) : Prop where
  bearing : Bearing s y
  engine : engineOn y c = 5
  delay : ∀ k, (chanBus y k).delay = (chanBus s k).delay

theorem Judges.engineOn {y : State} (h : Judges s y c) {k : Chan} (hk : k ∈ portChans s c) : engineOn y k = 5 := by
  have hk' : k ∈ portChans y c := by
    rw [h.bearing.portChans]
    exact hk
  rw [Machine.engineOn, port_of_mem hk']
  exact h.engine

theorem Judges.expects {y : State} (h : Judges s y c) {k : Chan} (hk : k ∈ portChans s c) :
    expects y k = (chanBus s k).delay.isSome := by
  rw [expects_active (h.engineOn hk), h.delay]

theorem hearSync_valid {y : State} (h : Judges s y c) (rank : rankOn s c = some r) (m : Meets s c r x)
    (inside : (chanBus s x.chan).delay.isSome = true → inWindow x = true) : ∃ z, hearSync y x = (z, [x]) ∧ Heard y z x := by
  obtain ⟨z, got, heard⟩ := receive_valid (s := y) (f := x) (timed := true) (by rw [h.bearing.linkBad]; exact m.link)
    (by rw [h.bearing.ownSched]; exact m.sched) fun _ => by
      rw [Timely, h.expects m.chan]
      exact inside
  have keeps : hearMaster z x = z := by
    refine hearMaster_lower (r := r) ?_ ?_ ?_ m.rank
    · rw [heard.bearing.nodeOn, h.bearing.nodeOn, (nodeOn_of_mem m.chan).1]
      exact m.node
    · rw [Machine.engineOn, heard.port]
      exact h.engineOn m.chan
    · rw [heard.bearing.rankOn, h.bearing.rankOn, (nodeOn_of_mem m.chan).2]
      exact rank
  refine ⟨z, ?_, heard⟩
  unfold hearSync
  rw [if_neg (by rw [h.engineOn m.chan, m.sync]; decide), got]
  dsimp only
  rw [keeps]

theorem hearSync_outside {y : State} (h : Judges s y c) (m : Meets s c r x) (known : (chanBus s x.chan).delay.isSome = true)
    (out : inWindow x = false) : hearSync y x = (modBus y x.chan fun z => { z with window := z.window + 1 }, [x]) := by
  have link : linkBad (modBus y x.chan fun z => { z with window := z.window + 1 }) x = false := by
    rw [((h.bearing.trans (modBus_bearing y x.chan _))).linkBad]
    exact m.link
  have sched : x.sched = ownSched (modBus y x.chan fun z => { z with window := z.window + 1 }) := by
    rw [(h.bearing.trans (modBus_bearing y x.chan _)).ownSched]
    exact m.sched
  have got := receive_late (s := y) (f := x) (by rw [h.bearing.linkBad]; exact m.link) (by rw [h.bearing.ownSched]; exact m.sched)
    (by rw [h.expects m.chan]; exact known) out
  have link' : linkBad y x = false := by rw [h.bearing.linkBad]; exact m.link
  have sched' : x.sched = ownSched y := by rw [h.bearing.ownSched]; exact m.sched
  unfold hearSync
  rw [if_neg (by rw [h.engineOn m.chan, m.sync]; decide), got]
  dsimp only
  rw [if_pos ⟨link', sched'⟩]

theorem judges_ticked {y : State} (active : engineOn s c = 5) (h : Ticked (s.atTime t) y c) : Judges (s.atTime t) y c :=
  ⟨h.bearing, h.engine.trans active, h.delay⟩

theorem Judges.heard {y z : State} (h : Judges s y c) (heard : Heard y z x) : Judges s z c := by
  refine ⟨h.bearing.trans heard.bearing, ?_, fun k => ?_⟩
  · rw [Machine.engineOn, heard.port]
    exact h.engine
  · by_cases hk : k = x.chan
    · obtain ⟨n, chan⟩ := heard.chan
      rw [hk, chan]
      exact h.delay x.chan
    · rw [heard.others hk, h.delay]

theorem synced_active {fa fb : Option BusFrame} (active : engineOn s c = 5) : synced c fa fb s =
    takeSync (heardOf (framesOf fa fb (portChans s c)) (tickBasic s c)).1 c (heardOf (framesOf fa fb (portChans s c)) (tickBasic s c)).2 :=
  if_neg (by rw [active]; decide)

theorem heardOf_one {y z : State} {l : List BusFrame} (h : hearSync y x = (z, l)) : heardOf [x] y = (z, l) := by
  unfold heardOf
  rw [List.foldl_cons, List.foldl_nil, h]
  rfl

theorem heardOf_two {y z w : State} {x' : BusFrame} (h : hearSync y x = (z, [x])) (h' : hearSync z x' = (w, [x'])) :
    heardOf [x, x'] y = (w, [x, x']) := by
  unfold heardOf
  rw [List.foldl_cons, List.foldl_cons, List.foldl_nil]
  dsimp only
  rw [h]
  dsimp only
  rw [h']
  rfl

theorem measuredOn_known {y : State} (h : Judges s y c) (known : (chanBus s x.chan).delay.isSome = true) : measuredOn y [x] = [x] := by
  have delay : (chanBus y x.chan).delay.isSome = true := by
    rw [h.delay]
    exact known
  unfold measuredOn
  cases hw : inWindow x <;> simp [delay, hw]

theorem measuredOn_unknown {y : State} (h : Judges s y c) (unknown : (chanBus s x.chan).delay.isSome = false) : measuredOn y [x] = [] := by
  have delay : (chanBus y x.chan).delay.isSome = false := by
    rw [h.delay]
    exact unknown
  unfold measuredOn
  simp [delay]

/-- The one frame that a position brings. -/
def oneSync (t : Time) (c : Chan) (x : BusFrame) : Instr :=
  .syncFrame ⟨t, c⟩ (if x.chan = .a then some x else none) (if x.chan = .b then some x else none)

/-- The effect of a position that brings one frame. -/
def syncedOne (c : Chan) (x : BusFrame) (s : State) : State :=
  synced c (if x.chan = .a then some x else none) (if x.chan = .b then some x else none) s

theorem oneSync_eq (t : Time) (s : State) (c : Chan) (x : BusFrame) : exec (oneSync t c x) s = at_ t s (syncedOne c x) := rfl

/-- A valid sync frame gives position and master; its deviation counts where the channel's delay is known. -/
theorem syncedOne_timed (active : engineOn s c = 5) (rank : rankOn s c = some r) (m : Meets s c r x) (timely : Timely s x) :
    ∃ w d now, syncedOne c x (s.atTime t) = takeDeviation w c (if (chanBus s x.chan).delay.isSome then [x] else []) ∧
      Frame [.bus, .twin, .constable] (s.atTime t) w ∧ w.twin.role = s.twin.role ∧ port w c = timed x d now (ticked (port s c) t) := by
  have tick := tickBasic_ticked (s.atTime t) c
  have judges := judges_ticked (t := t) active tick
  have inside : (chanBus s x.chan).delay.isSome = true → inWindow x = true := fun known => timely (by
    have engine : engineOn s x.chan = 5 := by
      rw [engineOn, port_of_mem m.chan]
      exact active
    rw [expects_active engine]
    exact known)
  obtain ⟨z, got, heard⟩ := hearSync_valid (s := s.atTime t) judges rank ⟨m.chan, m.sync, m.link, m.sched, m.node, m.rank⟩ inside
  have judges' := judges.heard heard
  have eq := synced_active (s := s.atTime t) (fa := if x.chan = .a then some x else none) (fb := if x.chan = .b then some x else none) active
  rw [framesOf_one (s := s.atTime t) m.chan, heardOf_one got] at eq
  dsimp only at eq
  have kept : ([x].filter fun f => !expects z f.chan || inWindow f) = [x] := by
    have expected := judges'.expects (s := s.atTime t) m.chan
    cases hd : (chanBus s x.chan).delay.isSome with
    | false => simp [expected.trans hd]
    | true => simp [inside hd]
  have time : timeFrame z ([x].filter fun f => !expects z f.chan || inWindow f) = some x := by
    rw [kept]
    unfold timeFrame
    cases hd : (chanBus z x.chan).delay.isSome <;> simp [hd]
  obtain ⟨w, taken, only⟩ := takeSync_timed (c := c) time
  refine ⟨w, (chanBus z x.chan).delay.getD 0, z.now, (eq.trans taken).trans ?_, ((tick.frame.mono (by decide)).trans heard.frame).trans (only.frame.mono (by decide)), ?_, ?_⟩
  · cases hd : (chanBus s x.chan).delay.isSome with
    | false => rw [measuredOn_unknown (s := s.atTime t) judges' hd, if_neg Bool.false_ne_true]
    | true => rw [measuredOn_known (s := s.atTime t) judges' hd, if_pos rfl]
  · have kept : w.twin = z.twin := only.frame .twin (by decide)
    have ticks : (tickBasic (s.atTime t) c).twin = s.twin := tick.frame .twin (by decide)
    rw [kept, heard.role, ticks]
  · rw [only.port, heard.port, tick.port]
    rfl

/-- A position whose time is taken, once it has steered. -/
theorem answers_steered {w q : State} {f : PortSt → PortSt} {d now : Nat} (active : engineOn s c = 5) (hq : syncedOne c x (s.atTime t) = q)
    (start : Frame [.bus, .twin, .constable] (s.atTime t) w) (role : w.twin.role = s.twin.role)
    (port_ : port w c = timed x d now (ticked (port s c) t)) (end_ : PortOnly w q c f) (steers : Steers f) :
    Answers (oneSync t c x) s fun s' => engineOn s' c = 5 ∧ masterOn s' c = some x.node ∧ (port s' c).matrix = x.matrix ∧
      (port s' c).bcyc = (x.bcyc + 1) % 64 ∧ (port s' c).noSync = 0 ∧ (port s' c).missedRun = 0 ∧ port s' c = f (port w c) ∧
      Frame [.now, .bus, .twin, .constable] s s' := by
  have whole : Frame [.bus, .twin, .constable] (s.atTime t) q := start.trans (end_.frame.mono (by decide))
  have twin : q.twin = w.twin := end_.frame .twin (by decide)
  refine answers_role (oneSync_eq t s c x) (by rw [hq]; exact whole) (by decide) (by rw [hq, twin]; exact role) ?_
  rw [hq]
  refine ⟨?_, ?_, ?_, ?_, ?_, ?_, end_.port, frame_with_now (l := [.bus, .twin, .constable]) whole⟩
  · rw [engineOn, end_.port, steers, port_]; exact active
  · rw [masterOn, end_.port, steers, port_]; rfl
  · rw [end_.port, steers, port_]; rfl
  · rw [end_.port, steers, port_]; rfl
  · rw [end_.port, steers, port_]; rfl
  · rw [end_.port, steers, port_]; rfl

/-- A valid sync frame: position and master, and a correction where the delay is known (R231, R237). -/
theorem validSync (active : engineOn s c = 5) (rank : rankOn s c = some r) (m : Meets s c r x) (timely : Timely s x) :
    Answers (oneSync t c x) s fun s' =>
      engineOn s' c = 5 ∧ masterOn s' c = some x.node ∧ (port s' c).matrix = x.matrix ∧ (port s' c).bcyc = (x.bcyc + 1) % 64 ∧
        (port s' c).noSync = 0 ∧ (port s' c).missedRun = 0 ∧
        (if (chanBus s x.chan).delay.isSome then
          (port s' c).deviation = x.off ∧ (port s' c).correction = -x.off ∧ (port s' c).limitRun = 0
        else (port s' c).deviation = (port s c).deviation ∧ (port s' c).correction = 0) ∧
        Frame [.now, .bus, .twin, .constable] s s' := by
  obtain ⟨w, d, now, eq, start, role, port_⟩ := syncedOne_timed (t := t) active rank m timely
  have engine : engineOn w c = 5 := by
    rw [engineOn, port_]
    exact active
  cases hd : (chanBus s x.chan).delay.isSome with
  | true =>
    have on : engineOn s x.chan = 5 := by
      rw [engineOn, port_of_mem m.chan]
      exact active
    obtain ⟨low, high⟩ := (inWindow_iff x).mp (timely (by rw [expects_active on]; exact hd))
    have steered : (deviated (deviation [x]) (port w c)).limitRun = 0 := by
      have within : beyondLimit x.off = false := not_beyond (by omega) (by omega)
      simp [deviated, deviation, within]
    rw [hd, if_pos rfl, takeDeviation_active engine] at eq
    obtain ⟨s', runs, five, master, matrix, bcyc, noSync, missed, record, frame⟩ := answers_steered active eq start role port_
      (applyDeviation_steers (l := [x]) (by rw [steered]; decide)) fun _ => rfl
    refine ⟨s', runs, five, master, matrix, bcyc, noSync, missed, (if_pos rfl).mpr ⟨?_, ?_, ?_⟩, frame⟩
    · rw [record]; rfl
    · rw [record]
      exact correction_within (d := x.off) (by omega) (by omega)
    · rw [record]; exact steered
  | false =>
    rw [hd, if_neg Bool.false_ne_true, takeDeviation_none] at eq
    obtain ⟨s', runs, five, master, matrix, bcyc, noSync, missed, record, frame⟩ := answers_steered active eq start role port_
      (modPort_only w c fun p => { p with correction := 0 }) fun _ => rfl
    refine ⟨s', runs, five, master, matrix, bcyc, noSync, missed, (if_neg Bool.false_ne_true).mpr ⟨?_, ?_⟩, frame⟩
    · rw [record, port_]; rfl
    · rw [record]

/-! ### A frame outside the acceptance window (R232) -/

/-- The port's record of a position without a valid frame. -/
def lacking (p : PortSt) : PortSt := { p with matrixOk := false, missedRun := p.missedRun + 1, noSync := p.noSync + 1 }

theorem noteMissed_only (s : State) (c : Chan) : PortOnly s (noteMissed s c) c id ∧
    (noteMissed s c).bus.missed = s.bus.missed + (if portOf s c = .a then 1 else 0) := by
  unfold noteMissed
  split
  · refine ⟨⟨fun p hp => ?_, ⟨rfl, rfl, rfl, rfl, rfl⟩, ?_, fun _ => rfl⟩, rfl⟩
    · cases p <;> simp [same] at hp ⊢
    · unfold port portOf inSplit
      dsimp only
      cases (if (s.modes.mode == Mode.split || s.modes.splitRun) = true then c else Chan.a) <;> rfl
  · exact ⟨⟨.refl _ _, .refl _, rfl, fun _ => rfl⟩, (BitVec.add_zero _).symm⟩

theorem lackSync_only (s : State) (c : Chan) : PortOnly s (lackSync s c) c lacking ∧
    (lackSync s c).bus.missed = s.bus.missed + (if portOf s c = .a then 1 else 0) := by
  obtain ⟨only, missed⟩ := noteMissed_only s c
  exact ⟨only.trans (modPort_only _ c lacking), (modPort_missed _ _ _).trans missed⟩

/-- A late frame counts as none for the time, and still measures the deviation. -/
theorem syncedOne_late (active : engineOn s c = 5) (m : Meets s c r x) (known : (chanBus s x.chan).delay.isSome = true)
    (follows : isMaster s c = false) (out : inWindow x = false) :
    ∃ w, syncedOne c x (s.atTime t) = applyDeviation w c [x] ∧ Frame [.bus] (s.atTime t) w ∧ Bearing (s.atTime t) w ∧
      port w c = lacking (ticked (port s c) t) ∧ (chanBus w x.chan).window = (chanBus s x.chan).window + 1 := by
  have tick := tickBasic_ticked (s.atTime t) c
  have judges := judges_ticked (t := t) active tick
  have got := hearSync_outside (s := s.atTime t) judges ⟨m.chan, m.sync, m.link, m.sched, m.node, m.rank⟩ known out
  have eq := synced_active (s := s.atTime t) (fa := if x.chan = .a then some x else none) (fb := if x.chan = .b then some x else none) active
  rw [framesOf_one (s := s.atTime t) m.chan, heardOf_one got] at eq
  dsimp only at eq
  have frame := modBus_frame (tickBasic (s.atTime t) c) x.chan fun z => { z with window := z.window + 1 }
  have counted : (chanBus (modBus (tickBasic (s.atTime t) c) x.chan fun z => { z with window := z.window + 1 }) x.chan).window =
      (chanBus s x.chan).window + 1 := by
    rw [chanBus_modBus]
    exact congrArg (· + 1) (tick.window x.chan)
  have judges' : Judges (s.atTime t) (modBus (tickBasic (s.atTime t) c) x.chan fun z => { z with window := z.window + 1 }) c := by
    refine ⟨judges.bearing.trans (modBus_bearing _ _ _), judges.engine, fun k => ?_⟩
    by_cases hk : k = x.chan
    · rw [hk, chanBus_modBus]
      exact tick.delay x.chan
    · rw [chanBus_modBus_ne _ _ hk, tick.delay]
  have master : isMaster (modBus (tickBasic (s.atTime t) c) x.chan fun z => { z with window := z.window + 1 }) c = false := by
    rw [isMaster_congr (modBus_bearing _ _ _) (port_modBus _ _ _ _), tick.master]
    exact follows
  have portz : port (modBus (tickBasic (s.atTime t) c) x.chan fun z => { z with window := z.window + 1 }) c = ticked (port s c) t :=
    (port_modBus _ _ _ _).trans tick.port
  generalize modBus (tickBasic (s.atTime t) c) x.chan (fun z => { z with window := z.window + 1 }) = z at eq frame counted judges' master portz
  have dropped : ([x].filter fun f => !expects z f.chan || inWindow f) = [] := by
    have expected : expects z x.chan = true := (judges'.expects (s := s.atTime t) m.chan).trans known
    simp [expected, out]
  obtain ⟨only, -⟩ := lackSync_only z c
  refine ⟨lackSync z c, ?_, (tick.frame.trans frame).trans only.frame, judges'.bearing.trans only.bearing, ?_, ?_⟩
  · refine (show syncedOne c x (s.atTime t) = _ from eq).trans ?_
    have engine : engineOn (lackSync z c) c = 5 := by
      rw [engineOn, only.port]
      exact judges'.engine
    rw [takeSync_untimed (by rw [dropped]; rfl), master, if_neg Bool.false_ne_true, if_neg (List.cons_ne_nil _ _),
      measuredOn_known (s := s.atTime t) judges' known, takeDeviation_active engine]
  · rw [only.port, portz]
  · rw [only.chan, counted]

/-- A late frame's deviation that only steers. -/
theorem lateSteers (active : engineOn s c = 5) (m : Meets s c r x) (known : (chanBus s x.chan).delay.isSome = true)
    (follows : isMaster s c = false) (out : inWindow x = false) (few : (deviated x.off (port s c)).limitRun < 2) :
    Answers (oneSync t c x) s fun s' => engineOn s' c = 5 ∧ port s' c = deviated x.off (lacking (ticked (port s c) t)) ∧
      masterOn s' c = masterOn s c ∧ (chanBus s' x.chan).window = (chanBus s x.chan).window + 1 ∧ Frame [.now, .bus] s s' := by
  obtain ⟨w, eq, frame, bearing, port_, window⟩ := syncedOne_late (t := t) active m known follows out
  have only := applyDeviation_steers (s := w) (c := c) (l := [x]) (by rw [port_]; exact few)
  have whole : Frame [.bus] (s.atTime t) (applyDeviation w c [x]) := frame.trans only.frame
  refine answers_still (oneSync_eq t s c x) (by rw [eq]; exact whole) (by decide) ?_
  rw [eq]
  refine ⟨?_, ?_, ?_, ?_, frame_with_now (l := [.bus]) whole⟩
  · rw [engineOn, only.port, port_]; exact active
  · rw [only.port, port_]; rfl
  · rw [masterOn, only.port, port_]; rfl
  · rw [only.chan, window]

theorem not_inWindow {x : BusFrame} (h : x.off < -400 ∨ 400 < x.off) : inWindow x = false := by
  rw [← Bool.not_eq_true, inWindow_iff]
  omega

theorem beyondLimit_iff (d : Int) : beyondLimit d = true ↔ d < -500 ∨ 500 < d := by
  simp [beyondLimit]

theorem deviated_beyond {d : Int} (h : d < -500 ∨ 500 < d) (p : PortSt) : (deviated d p).limitRun = p.limitRun + 1 := by
  simp [deviated, (beyondLimit_iff d).mpr h]

/-- The second deviation running beyond the limit: the node turns Passive (R237). -/
theorem lateTurnsPassive (active : engineOn s c = 5) (m : Meets s c r x) (known : (chanBus s x.chan).delay.isSome = true)
    (follows : isMaster s c = false) (far : x.off < -500) (again : 1 ≤ (port s c).limitRun) (quiet : Quiet s 82) :
    Answers (oneSync t c x) s fun s' => engineOn s' c = 6 ∧ (port s' c).correction = 500 ∧
      Raised s s' 82 (i32 x.off) 0 (u32 (chanNo x.chan)) ∧ Frame [.now, .bus, .constable, .draws] s s' := by
  obtain ⟨w, eq, frame, bearing, port_, -⟩ := syncedOne_late (t := t) active m known follows (not_inWindow (.inl (by omega)))
  have only := deviated_only w c x.off
  have count : (port (modPort (noteDeviation w c x.off) c (deviated x.off)) c).limitRun = (port s c).limitRun + 1 := by
    rw [only.port, deviated_beyond (.inl far), port_]
    rfl
  have eq' : applyDeviation w c [x] = raise (setEngine (draw (modPort (noteDeviation w c x.off) c (deviated x.off))) c 6) 82 (i32 x.off) 0
      (u32 (chanNo x.chan)) := (applyDeviation_eq w c [x]).trans (if_pos (by
    rw [show deviation [x] = x.off from rfl, count]
    omega))
  rw [eq'] at eq
  generalize modPort (noteDeviation w c x.off) c (deviated x.off) = y at only eq
  have passive := setEngine_only (draw y) c 6
  have drawn : Frame [.draws] y (draw y) := fun p hp => by cases p <;> simp [same, draw] at hp ⊢
  have start : Frame [.bus, .constable, .draws] (s.atTime t) (setEngine (draw y) c 6) :=
    (((frame.trans only.frame).mono (by decide)).trans (drawn.mono (by decide))).trans (passive.frame.mono (by decide))
  have constable : (setEngine (draw y) c 6).constable = s.constable :=
    (passive.frame .constable (by decide)).trans ((drawn .constable (by decide)).trans ((frame.trans only.frame) .constable (by decide)))
  have quietx : Quiet (setEngine (draw y) c 6) 82 := by
    unfold Quiet at quiet ⊢
    rw [source_of_constable constable]
    exact quiet
  rw [raise_minor quietx (by decide)] at eq
  have recorded := recordRaise_frame (setEngine (draw y) c 6) 82 false (i32 x.off) 0 (u32 (chanNo x.chan))
  have whole : Frame [.bus, .constable, .draws] (s.atTime t) (recordRaise (setEngine (draw y) c 6) 82 false (i32 x.off) 0 (u32 (chanNo x.chan))) :=
    start.trans (recorded.mono (by decide))
  have port6 : port (recordRaise (setEngine (draw y) c 6) 82 false (i32 x.off) 0 (u32 (chanNo x.chan))) c = port (setEngine (draw y) c 6) c := by
    have bus := recorded .bus (by decide)
    have modes := recorded .modes (by decide)
    unfold port portOf inSplit
    rw [show _ = (setEngine (draw y) c 6).bus from bus, show _ = (setEngine (draw y) c 6).modes from modes]
  have drawnPort : port (draw y) c = port y c := rfl
  refine answers_still (oneSync_eq t s c x) (by rw [eq]; exact whole) (by decide) ?_
  rw [eq]
  refine ⟨?_, ?_, raised_recordRaise (source_of_constable constable 82) _ _ _, frame_with_now (l := [.bus, .constable, .draws]) whole⟩
  · rw [engineOn, port6, passive.port]
  · rw [port6, passive.port, drawnPort, only.port]
    show correction x.off = 500
    unfold correction
    omega

/-! ### Two frames of one master (R231) -/

theorem twoFrames {y : BusFrame} (active : engineOn s c = 5) (rank : rankOn s c = some r) (m : Meets s c r x)
    (both : portChans s c = [.a, .b]) (hx : x.chan = .a) (hy : y.chan = .b) (sync : y.ftype = 0) (link : linkBad s y = false)
    (sched : y.sched = ownSched s) (node : y.node = x.node) (rank_ : y.rank = x.rank) (inx : inWindow x = true) (iny : inWindow y = true)
    (knowna : (chanBus s .a).delay.isSome = true) (knownb : (chanBus s .b).delay.isSome = true) :
    Answers (.syncFrame ⟨t, c⟩ (some x) (some y)) s fun s' =>
      engineOn s' c = 5 ∧ (port s' c).deviation = (x.off + y.off) / 2 ∧ (port s' c).correction = -((x.off + y.off) / 2) := by
  have tick := tickBasic_ticked (s.atTime t) c
  have judges := judges_ticked (t := t) active tick
  have m' : Meets (s.atTime t) c r x := ⟨m.chan, m.sync, m.link, m.sched, m.node, m.rank⟩
  have my : Meets (s.atTime t) c r y := by
    refine ⟨?_, sync, link, sched, ?_, ?_⟩
    · rw [show portChans (s.atTime t) c = [.a, .b] from both, hy]
      decide
    · rw [node]
      exact m.node
    · rw [rank_]
      exact m.rank
  obtain ⟨z, gotx, heardx⟩ := hearSync_valid (s := s.atTime t) judges rank m' fun _ => inx
  have judgesz := judges.heard heardx
  obtain ⟨w, goty, heardy⟩ := hearSync_valid (s := s.atTime t) judgesz rank my fun _ => iny
  have judgesw := judgesz.heard heardy
  have eq := synced_active (s := s.atTime t) (fa := some x) (fb := some y) active
  rw [show portChans (s.atTime t) c = [.a, .b] from both, framesOf_two hx hy, heardOf_two gotx goty] at eq
  dsimp only at eq
  have knownx : (chanBus w x.chan).delay.isSome = true := by
    rw [judgesw.delay, hx]
    exact knowna
  have knowny : (chanBus w y.chan).delay.isSome = true := by
    rw [judgesw.delay, hy]
    exact knownb
  have time : timeFrame w ([x, y].filter fun f => !expects w f.chan || inWindow f) = some x := by
    simp [timeFrame, inx, iny, knownx]
  have measured : measuredOn w [x, y] = [x, y] := by
    simp [measuredOn, inx, iny, knownx, knowny]
  obtain ⟨v, taken, only⟩ := takeSync_timed (c := c) time
  have engine : engineOn v c = 5 := by
    rw [engineOn, only.port]
    exact judgesw.engine
  obtain ⟨lowx, highx⟩ := (inWindow_iff x).mp inx
  obtain ⟨lowy, highy⟩ := (inWindow_iff y).mp iny
  have within : beyondLimit ((x.off + y.off) / 2) = false := not_beyond (by omega) (by omega)
  rw [taken, measured, takeDeviation_active engine] at eq
  have steers := applyDeviation_steers (s := v) (c := c) (l := [x, y]) (by simp [deviated, deviation, within])
  have whole : Frame [.bus, .twin, .constable] (s.atTime t) (applyDeviation v c [x, y]) :=
    ((tick.frame.mono (by decide)).trans (heardx.frame.trans heardy.frame)).trans ((only.frame.trans steers.frame).mono (by decide))
  have role : (applyDeviation v c [x, y]).twin.role = s.twin.role := by
    have kept : (applyDeviation v c [x, y]).twin = w.twin := (only.frame.trans steers.frame) .twin (by decide)
    have ticks : (tickBasic (s.atTime t) c).twin = s.twin := tick.frame .twin (by decide)
    rw [kept, heardy.role, heardx.role, ticks]
  refine answers_role (syncFrame_eq t s c _ _) (by rw [eq]; exact whole) (by decide) (by rw [eq]; exact role) ?_
  rw [eq]
  refine ⟨?_, ?_, ?_⟩
  · rw [engineOn, steers.port]; exact engine
  · rw [steers.port]; rfl
  · rw [steers.port]
    exact correction_within (d := (x.off + y.off) / 2) (by omega) (by omega)

/-! ### A position without a frame (R235, R240) -/

theorem synced_nothing (active : engineOn s c = 5) : ∃ y, Ticked s y c ∧ synced c none none s =
    if isMaster y c then masterSync y c else missSync y c := by
  refine ⟨tickBasic s c, tickBasic_ticked s c, ?_⟩
  rw [synced_active active, framesOf_none, show heardOf [] (tickBasic s c) = (tickBasic s c, []) from rfl]
  dsimp only
  rw [takeSync_untimed rfl, if_pos rfl]

theorem noFrame_follows (active : engineOn s c = 5) (follows : isMaster s c = false) :
    Answers (.syncFrame ⟨t, c⟩ none none) s fun s' =>
      (port s' c).correction = 0 ∧ (port s' c).missedRun = (port s c).missedRun + 1 ∧ (port s' c).noSync = (port s c).noSync + 1 ∧
        s'.bus.missed = s.bus.missed + (if portOf s c = .a then 1 else 0) ∧ (port s' c).bcyc = ((port s c).bcyc + 1) % 64 ∧
        engineOn s' c = 5 ∧ Frame [.now, .bus] s s' := by
  obtain ⟨y, tick, eq⟩ := synced_nothing (s := s.atTime t) (c := c) active
  obtain ⟨lack, missed⟩ := lackSync_only y c
  have only := lack.trans (modPort_only _ c fun p => { p with correction := 0, limitRun := 0 })
  rw [tick.master, show isMaster (s.atTime t) c = false from follows, if_neg Bool.false_ne_true] at eq
  have total : (missSync y c).bus.missed = s.bus.missed + (if portOf s c = .a then 1 else 0) :=
    (modPort_missed _ _ _).trans (missed.trans (by
      rw [tick.missed, tick.bearing.portOf]
      rfl))
  have whole : Frame [.bus] (s.atTime t) (missSync y c) := tick.frame.trans only.frame
  have port_ : port (missSync y c) c = { lacking (ticked (port s c) t) with correction := 0, limitRun := 0 } := by
    rw [show port (missSync y c) c = _ from only.port, tick.port]
    rfl
  refine answers_still (syncFrame_eq t s c _ _) (by rw [eq]; exact whole) (by decide) ?_
  rw [eq]
  refine ⟨?_, ?_, ?_, total, ?_, ?_, frame_with_now (l := [.bus]) whole⟩
  · rw [port_]
  · rw [port_]; rfl
  · rw [port_]; rfl
  · rw [port_]; rfl
  · rw [engineOn, port_]; exact active

theorem noFrame_leads (active : engineOn s c = 5) (leads : isMaster s c = true) :
    Answers (.syncFrame ⟨t, c⟩ none none) s fun s' =>
      (port s' c).noSync = (if (port s c).ownSync then 0 else (port s c).noSync + 1) ∧ (port s' c).ownSync = false ∧
        s'.bus.missed = s.bus.missed ∧ engineOn s' c = 5 ∧ Frame [.now, .bus] s s' := by
  obtain ⟨y, tick, eq⟩ := synced_nothing (s := s.atTime t) (c := c) active
  have only := modPort_only y c fun p => { p with ownSync := false, noSync := if p.ownSync then 0 else p.noSync + 1 }
  rw [tick.master, show isMaster (s.atTime t) c = true from leads, if_pos rfl] at eq
  have whole : Frame [.bus] (s.atTime t) (masterSync y c) := tick.frame.trans only.frame
  have missed : (masterSync y c).bus.missed = s.bus.missed := (modPort_missed _ _ _).trans tick.missed
  refine answers_still (syncFrame_eq t s c _ _) (by rw [eq]; exact whole) (by decide) ?_
  rw [eq]
  refine ⟨?_, ?_, missed, ?_, frame_with_now (l := [.bus]) whole⟩
  · rw [show port (masterSync y c) c = _ from only.port, tick.port]; rfl
  · rw [show port (masterSync y c) c = _ from only.port]
  · rw [engineOn, show port (masterSync y c) c = _ from only.port, tick.port]; exact active

/-! ### The engine's own limits (R235, R237, Table 08-4) -/

/-- NO_SYNC_TIMEOUT. -/
def syncLost (c : Chan) (s : State) : State :=
  if 3 ≤ engineOn s c ∧ engineOn s c ≤ 5 ∧ 8 ≤ (port s c).noSync then modPort (enterListen s c) c fun x => { x with master := none } else s

theorem noSyncTimeout_eq (t : Time) (s : State) (c : Chan) : exec (.noSyncTimeout ⟨t, c⟩) s = at_ t s (syncLost c) := rfl

theorem noSync_listens (active : engineOn s c = 5) (eight : 8 ≤ (port s c).noSync) : Answers (.noSyncTimeout ⟨t, c⟩) s fun s' =>
    engineOn s' c = 1 ∧ masterOn s' c = none ∧ (port s' c).listenFrom = t ∧ (port s' c).noSync = 0 ∧ Frame [.now, .bus] s s' := by
  have only := ((setEngine_only (s.atTime t) c 1).trans (modPort_only _ c fun p => { p with
    listenFrom := (s.atTime t).now, collided := 0, noSync := 0, missedRun := 0, limitRun := 0, observing := false })).trans
    (modPort_only _ c fun x => { x with master := none })
  have eq : syncLost c (s.atTime t) = modPort (enterListen (s.atTime t) c) c fun x => { x with master := none } :=
    if_pos ⟨by rw [show engineOn (s.atTime t) c = 5 from active]; decide, by rw [show engineOn (s.atTime t) c = 5 from active], eight⟩
  have port_ := only.port
  refine answers_still (noSyncTimeout_eq t s c) (by rw [eq]; exact only.frame) (by decide) ?_
  rw [eq]
  refine ⟨?_, ?_, ?_, ?_, frame_with_now (l := [.bus]) only.frame⟩
  · rw [engineOn, show port (modPort (enterListen (s.atTime t) c) c fun x => { x with master := none }) c = _ from port_]
  · rw [masterOn, show port (modPort (enterListen (s.atTime t) c) c fun x => { x with master := none }) c = _ from port_]
  · rw [show port (modPort (enterListen (s.atTime t) c) c fun x => { x with master := none }) c = _ from port_]; rfl
  · rw [show port (modPort (enterListen (s.atTime t) c) c fun x => { x with master := none }) c = _ from port_]

/-- SYNC_TAKEOVER. -/
def takesOver (c : Chan) (s : State) : State :=
  match rankOn s c with
  | some r =>
    if engineOn s c = 5 ∧ isMaster s c = false ∧ (port s c).missedRun = 2 + r then
      let old := (masterOn s c).getD 0x3FF
      let s1 := modPort (setMaster s c (nodeOn s c)) c fun y => { y with missedRun := 0, noSync := 0, ownSync := true }
      let s2 := ((portChans s c).filter fun x => (chanBus s x).delay.isSome).foldl (fun st x =>
        sendBus st x (port st c).bcyc 160 (syncBody st x)) s1
      raise s2 87 (u32 (nodeOn s c)) (u32 old) (u32 (port s c).matrix.toNat)
    else s
  | none => s

theorem syncTakeover_eq (t : Time) (s : State) (c : Chan) : exec (.syncTakeover ⟨t, c⟩) s = at_ t s (takesOver c) := rfl

theorem takesOver_ranked (rank : rankOn s c = some r) : takesOver c s =
    if engineOn s c = 5 ∧ isMaster s c = false ∧ (port s c).missedRun = 2 + r then
      raise (((portChans s c).filter fun x => (chanBus s x).delay.isSome).foldl (fun st x =>
        sendBus st x (port st c).bcyc 160 (syncBody st x)) (modPort (setMaster s c (nodeOn s c)) c fun y => { y with
          missedRun := 0, noSync := 0, ownSync := true })) 87 (u32 (nodeOn s c)) (u32 ((masterOn s c).getD 0x3FF))
        (u32 (port s c).matrix.toNat)
    else s := by
  unfold takesOver
  rw [rank]

theorem takeover_leads (active : engineOn s c = 5) (rank : rankOn s c = some r) (follows : isMaster s c = false)
    (turn : (port s c).missedRun = 2 + r) (quiet : Quiet s 87) : Answers (.syncTakeover ⟨t, c⟩) s fun s' =>
      masterOn s' c = some (nodeOn s c) ∧ engineOn s' c = 5 ∧ (port s' c).missedRun = 0 ∧
        s'.out.length = s.out.length + ((portChans s c).filter fun k => (chanBus s k).delay.isSome).length ∧
        Raised s s' 87 (u32 (nodeOn s c)) (u32 ((masterOn s c).getD 0x3FF)) (u32 (port s c).matrix.toNat) ∧
        Frame [.now, .bus, .out, .constable] s s' := by
  have eq := (takesOver_ranked (s := s.atTime t) rank).trans (if_pos ⟨active, follows, turn⟩)
  have only := (setMaster_only (s.atTime t) c (nodeOn s c)).trans (modPort_only _ c fun y => { y with missedRun := 0, noSync := 0, ownSync := true })
  have sent := foldl_sentOn (fun st x => sendBus st x (port st c).bcyc 160 (syncBody st x)) (fun st x => ⟨_, sendBus_sent _ _ _ _ _⟩)
    ((portChans s c).filter fun x => (chanBus s x).delay.isSome)
    (modPort (setMaster (s.atTime t) c (nodeOn s c)) c fun y => { y with missedRun := 0, noSync := 0, ownSync := true })
  have eq : takesOver c (s.atTime t) = raise (((portChans s c).filter fun x => (chanBus s x).delay.isSome).foldl (fun st x =>
        sendBus st x (port st c).bcyc 160 (syncBody st x)) (modPort (setMaster (s.atTime t) c (nodeOn s c)) c fun y => { y with
          missedRun := 0, noSync := 0, ownSync := true })) 87 (u32 (nodeOn s c)) (u32 ((masterOn s c).getD 0x3FF))
        (u32 (port s c).matrix.toNat) := eq
  generalize ((portChans s c).filter fun x => (chanBus s x).delay.isSome).foldl (fun st x =>
    sendBus st x (port st c).bcyc 160 (syncBody st x)) (modPort (setMaster (s.atTime t) c (nodeOn s c)) c fun y => { y with
      missedRun := 0, noSync := 0, ownSync := true }) = y at sent eq
  have start : Frame [.bus, .out] (s.atTime t) y := (only.frame.mono (by decide)).trans sent.frame
  have constable : y.constable = s.constable := start .constable (by decide)
  have quiety : Quiet y 87 := by
    unfold Quiet at quiet ⊢
    rw [source_of_constable constable]
    exact quiet
  rw [raise_minor quiety (by decide)] at eq
  have recorded := recordRaise_frame y 87 false (u32 (nodeOn s c)) (u32 ((masterOn s c).getD 0x3FF)) (u32 (port s c).matrix.toNat)
  have whole : Frame [.bus, .out, .constable] (s.atTime t) (takesOver c (s.atTime t)) := by
    rw [eq]
    exact (start.mono (by decide)).trans (recorded.mono (by decide))
  have bus : (takesOver c (s.atTime t)).bus = y.bus := by rw [eq]; exact recorded .bus (by decide)
  have modes : (takesOver c (s.atTime t)).modes = y.modes := by rw [eq]; exact recorded .modes (by decide)
  have port_ : port (takesOver c (s.atTime t)) c = { port s c with
      master := some (nodeOn s c), missedRun := 0, noSync := 0, ownSync := true } := by
    have same : port (takesOver c (s.atTime t)) c = port y c := by
      unfold port portOf inSplit
      rw [bus, modes]
    rw [same, sent.port, only.port]
    rfl
  have outs : (takesOver c (s.atTime t)).out = y.out := by rw [eq]; exact recorded .out (by decide)
  have before : (modPort (setMaster (s.atTime t) c (nodeOn s c)) c fun y => { y with missedRun := 0, noSync := 0, ownSync := true }).out =
    s.out := only.frame .out (by decide)
  refine answers_still (syncTakeover_eq t s c) whole (by decide) ⟨?_, ?_, ?_, ?_, ?_, frame_with_now (l := [.bus, .out, .constable]) whole⟩
  · rw [masterOn, port_]
  · rw [engineOn, port_]; exact active
  · rw [port_]
  · rw [outs, sent.out, before]
  · rw [eq]
    exact raised_recordRaise (source_of_constable constable 87) _ _ _

theorem takeover_waits (rank : rankOn s c = some r) (h : isMaster s c = true ∨ (port s c).missedRun ≠ 2 + r) :
    Runs (.syncTakeover ⟨t, c⟩) s (s.atTime t) := by
  refine runs_idle (syncTakeover_eq t s c) ((takesOver_ranked (s := s.atTime t) rank).trans (if_neg fun due => ?_))
  exact h.elim (fun leads => Bool.noConfusion (leads.symm.trans due.2.1)) fun other => other due.2.2

/-- PASSIVE_REJOIN. -/
def rejoins (c : Chan) (s : State) : State := if engineOn s c = 6 then enterIntegrate s c else s

theorem passiveRejoin_eq (t : Time) (s : State) (c : Chan) : exec (.passiveRejoin ⟨t, c⟩) s = at_ t s (rejoins c) := rfl

theorem rejoin_integrates : Answers (.passiveRejoin ⟨t, c⟩) (setEngine s c 6) fun s' =>
    engineOn s' c = 3 ∧ (∀ k ∈ portChans s c, (chanBus s' k).delay = none) ∧ Frame [.now, .bus] (setEngine s c 6) s' := by
  have only := setEngine_only s c 6
  have six : engineOn ((setEngine s c 6).atTime t) c = 6 := congrArg PortSt.engine only.port
  obtain ⟨frame, port_, chans⟩ := enterIntegrate_effect ((setEngine s c 6).atTime t) c
  have eq : rejoins c ((setEngine s c 6).atTime t) = enterIntegrate ((setEngine s c 6).atTime t) c := if_pos six
  refine answers_still (passiveRejoin_eq t (setEngine s c 6) c) (by rw [eq]; exact frame) (by decide) ?_
  rw [eq]
  refine ⟨congrArg PortSt.engine port_, fun k hk => ?_, frame_with_now (l := [.bus]) frame⟩
  rw [chans k (by
    rw [show portChans ((setEngine s c 6).atTime t) c = portChans (setEngine s c 6) c from rfl, only.bearing.portChans]
    exact hk)]
  rfl

end

/-- Settles O40: the deviation of a position is judged once its frames have been heard. That a late frame is no valid one and still measures
is log entries 111 and 41; that the time master's own frame is the valid one of its basic cycle is log entry 124. -/
theorem syncFramesSteerTheBelfry : Obligations.SyncFramesSteerTheBelfry := by
  intro t s c x y r active rank
  refine ⟨fun chan sync link sched node rank_ i hi => ?_, noFrame_follows active, noFrame_leads active, noSync_listens active,
    fun few => ?_, fun follows turn quiet => takeover_leads active rank follows turn quiet, takeover_waits rank, ?_, rejoin_integrates⟩
  · subst hi
    have m : Meets s c r x := ⟨chan, sync, link, sched, node, rank_⟩
    refine ⟨validSync active rank m, fun known follows => ⟨fun late near => ?_, fun far first => ?_, fun far again quiet => ?_⟩,
      fun both hx hy sync' link' sched' node' rank' inx iny knowna knownb =>
        twoFrames active rank m both hx hy sync' link' sched' node' rank' inx iny knowna knownb⟩
    · have steered : (deviated x.off (port s c)).limitRun = 0 := by
        simp [deviated, not_beyond (d := x.off) (by omega) near]
      obtain ⟨s', runs, five, record, master, window, frame⟩ :=
        lateSteers (t := t) active m known follows (not_inWindow (.inr late)) (by rw [steered]; decide)
      refine ⟨s', runs, five, ?_, ?_, ?_, master, window, frame⟩
      · rw [record]; exact correction_within (by omega) near
      · rw [record]; rfl
      · rw [record]; rfl
    · have counted : (deviated x.off (port s c)).limitRun = 1 := by rw [deviated_beyond (.inr far), first]
      obtain ⟨s', runs, five, record, -, -, frame⟩ :=
        lateSteers (t := t) active m known follows (not_inWindow (.inr (by omega))) (by rw [counted]; decide)
      refine ⟨s', runs, five, ?_, ?_, frame⟩
      · rw [record]
        show correction x.off = -500
        unfold correction
        omega
      · rw [record]; exact counted
    · exact lateTurnsPassive active m known follows far again quiet
  · exact runs_idle (noSyncTimeout_eq t s c) (if_neg fun due => absurd due.2.2 (Nat.not_le.mpr few))
  · exact runs_idle (passiveRejoin_eq t s c) (if_neg (by rw [show engineOn (s.atTime t) c = 5 from active]; decide))

end Sys2Proof.Machine
end

section
/-!
PROOFS. What a node does with the frames, the pulses and the boundaries that it receives (O43).
-/

namespace Sys2Proof.Machine

/-! ### Frames that are only counted (R226, R228, R251) -/

/-- What a received frame is judged as: not at all, broken, foreign, late, or valid. -/
theorem hear_heard {s r : State} {f : BusFrame} (h : hear s f true = (r, true)) : Heard s r f := by
  by_cases off : engineOn s f.chan = 0
  · rw [hear_off off] at h
    exact absurd (congrArg Prod.snd h) Bool.false_ne_true
  rw [hear_on off] at h
  cases link : linkBad s f with
  | true =>
    rw [receive_broken true link] at h
    exact absurd (congrArg Prod.snd h) Bool.false_ne_true
  | false =>
    by_cases sched : f.sched = ownSched s
    · by_cases timely : Timely s f
      · obtain ⟨x, got, heard⟩ := receive_valid (timed := true) link sched fun _ => timely
        rw [got] at h
        obtain rfl : x = r := congrArg Prod.fst h
        exact heard
      · obtain ⟨expected, out⟩ := Classical.not_imp.mp timely
        rw [receive_late link sched expected (Bool.eq_false_iff.mpr out)] at h
        exact absurd (congrArg Prod.snd h) Bool.false_ne_true
    · rw [receive_foreign true link sched] at h
      exact absurd (congrArg Prod.snd h) Bool.false_ne_true

/-- FORWARD_FRAME. -/
def forwards (f : BusFrame) (s : State) : State :=
  match hear s f true with
  | (s1, true) =>
    let l := ((cluster? s1).map fun x => x.fwd).getD []
    let mine := (List.range l.length).filter fun k =>
      (l[k]?).any fun e => e.inport == f.chan && e.ibcyc == f.bcyc && e.ipos == f.pos
    if inSplit s1 = false ∨ engineOn s1 f.chan ≠ 5 then s1 else
    mine.foldl (fun st k =>
      let older := (tget none st.bus.fwdHeld k).isSome
      { st with bus := { st.bus with
          replaced := if older then st.bus.replaced + 1 else st.bus.replaced
          fwdHeld := tput none st.bus.fwdHeld k (some ⟨st.now, f.ftype, f.body⟩) } }) s1
  | (s1, false) => s1

theorem forwardFrame_eq (t : Time) (s : State) (f : BusFrame) : exec (.forwardFrame t f) s = at_ t s (forwards f) := rfl

theorem forwards_whole {s : State} {f : BusFrame} (whole : inSplit s = false) : forwards f s = (hear s f true).1 := by
  unfold forwards
  split
  next r h =>
    have kept : inSplit r = false := by
      rw [(hear_heard h).bearing.inSplit]
      exact whole
    rw [h]
    exact if_pos (.inl kept)
  next r h => rw [h]

/-- Each of the three only hears the frame. -/
theorem framesHeard {t : Time} {s : State} {f : BusFrame} {c : Instr}
    (h : c = Instr.nonVitalFrame t f ∨ c = Instr.multiPartnerDownFrame t f ∨ (c = Instr.forwardFrame t f ∧ inSplit s = false)) :
    ∃ g, exec c s = at_ t s g ∧ g (s.atTime t) = (hear (s.atTime t) f true).1 := by
  obtain rfl | rfl | ⟨rfl, whole⟩ := h
  · exact ⟨fun s => (hear s f true).1, rfl, rfl⟩
  · exact ⟨fun s => (hear s f true).1, rfl, rfl⟩
  · exact ⟨forwards f, rfl, forwards_whole (s := s.atTime t) whole⟩

theorem foreign_only (s : State) (c : Chan) : Frame [.bus] s (modPort (modBus s c fun x => { x with foreign := x.foreign + 1 }) c fun p => { p with
      foreignSeen := true, matrixOk := false }) ∧
    (chanBus (modPort (modBus s c fun x => { x with foreign := x.foreign + 1 }) c fun p => { p with foreignSeen := true, matrixOk := false })
      c).foreign = (chanBus s c).foreign + 1 ∧
    (port (modPort (modBus s c fun x => { x with foreign := x.foreign + 1 }) c fun p => { p with foreignSeen := true, matrixOk := false })
      c).foreignSeen = true := by
  refine ⟨(modBus_frame _ _ _).trans (modPort_frame _ _ _), ?_, ?_⟩
  · rw [chanBus_modPort, chanBus_modBus]
  · rw [port_modPort]

theorem framesCounted {t : Time} {s : State} {f : BusFrame} {c : Instr}
    (h : c = Instr.nonVitalFrame t f ∨ c = Instr.multiPartnerDownFrame t f ∨ (c = Instr.forwardFrame t f ∧ inSplit s = false)) :
    (engineOn s f.chan = 0 → Runs c s (s.atTime t)) ∧
      (engineOn s f.chan ≠ 0 →
        (linkBad s f = true → Runs c s (modBus (s.atTime t) f.chan fun x => { x with crcErrors := x.crcErrors + 1 })) ∧
        (linkBad s f = false → f.sched ≠ ownSched s → Answers c s fun s' =>
          (chanBus s' f.chan).foreign = (chanBus s f.chan).foreign + 1 ∧ (port s' f.chan).foreignSeen = true ∧
            Frame [.now, .bus] s s') ∧
        (linkBad s f = false → f.sched = ownSched s → expects s f.chan = true → inWindow f = false →
          Runs c s (modBus (s.atTime t) f.chan fun x => { x with window := x.window + 1 })) ∧
        (linkBad s f = false → f.sched = ownSched s → Timely s f → Answers c s fun s' =>
          (chanBus s' f.chan).valid = (chanBus s f.chan).valid + 1 ∧ (chanBus s' f.chan).link = true ∧
            (chanBus s' f.chan).silent = 0 ∧ s'.bus.fwdHeld = s.bus.fwdHeld ∧ Frame [.now, .bus, .twin, .constable] s s')) := by
  obtain ⟨g, hc, hg⟩ := framesHeard h
  refine ⟨fun off => ?_, fun on => ⟨fun link => ?_, fun link sched => ?_, fun link sched expected out => ?_, fun link sched timely => ?_⟩⟩
  · refine runs_idle hc (hg.trans ?_)
    rw [hear_off (s := s.atTime t) off]
  · refine runs_still hc (hg.trans ?_) (modBus_frame _ _ _) (by decide)
    rw [hear_on (s := s.atTime t) on, receive_broken (s := s.atTime t) true link]
  · rw [hear_on (s := s.atTime t) on, receive_foreign (s := s.atTime t) true link sched] at hg
    obtain ⟨frame, count, seen⟩ := foreign_only (s.atTime t) f.chan
    refine answers_still hc (by rw [hg]; exact frame) (by decide) ?_
    rw [hg]
    exact ⟨count, seen, frame_with_now (l := [.bus]) frame⟩
  · refine runs_still hc (hg.trans ?_) (modBus_frame _ _ _) (by decide)
    rw [hear_on (s := s.atTime t) on, receive_late (s := s.atTime t) link sched expected out]
  · obtain ⟨x, got, heard⟩ := receive_valid (s := s.atTime t) (timed := true) link sched fun _ => timely.atTime t
    rw [hear_on (s := s.atTime t) on, got] at hg
    obtain ⟨n, chan⟩ := heard.chan
    obtain ⟨m, q, bus⟩ := heard.bus
    refine answers_role hc (by rw [hg]; exact heard.frame) (by decide) (by rw [hg]; exact heard.role) ?_
    rw [hg]
    refine ⟨?_, ?_, ?_, ?_, frame_with_now (l := [.bus, .twin, .constable]) heard.frame⟩
    · rw [chan]; rfl
    · rw [chan]
    · rw [chan]
    · rw [bus]; rfl

/-! ### Forwarding positions (R250) -/

/-- A frame of the one forwarding entry is held in its place. -/
theorem forwards_held {s r : State} {f : BusFrame} {e : FwdEntry} (on : engineOn s f.chan = 5) (got : receive s f true = (r, true))
    (heard : Heard s r f) (split_ : inSplit s = true) (fwd : (cluster? s).map (fun x => x.fwd) = some [e]) (inport : e.inport = f.chan)
    (ibcyc : e.ibcyc = f.bcyc) (ipos : e.ipos = f.pos) : forwards f s = { r with bus := { r.bus with
      replaced := if (tget none r.bus.fwdHeld 0).isSome then r.bus.replaced + 1 else r.bus.replaced
      fwdHeld := tput none r.bus.fwdHeld 0 (some ⟨r.now, f.ftype, f.body⟩) } } := by
  have l : ((cluster? r).map fun x => x.fwd).getD [] = [e] := by
    rw [heard.bearing.cluster?, fwd]
    rfl
  have active : ¬ (inSplit r = false ∨ engineOn r f.chan ≠ 5) := by
    rw [heard.bearing.inSplit, split_, engineOn, heard.port]
    rintro (whole | other)
    · exact absurd whole (by decide)
    · exact other on
  have mine : ((List.range [e].length).filter fun k =>
      ([e][k]?).any fun e => e.inport == f.chan && e.ibcyc == f.bcyc && e.ipos == f.pos) = [0] := by
    simp [inport, ibcyc, ipos]
  unfold forwards
  rw [hear_on (by rw [on]; decide), got]
  dsimp only
  rw [l, if_neg active, mine]
  rfl

theorem forwarding {t : Time} {s : State} {f : BusFrame} {e : FwdEntry} (split_ : inSplit s = true) (on : engineOn s f.chan = 5)
    (link : linkBad s f = false) (sched : f.sched = ownSched s) (timely : Timely s f)
    (fwd : (cluster? s).map (fun x => x.fwd) = some [e]) (inport : e.inport = f.chan) (ibcyc : e.ibcyc = f.bcyc) (ipos : e.ipos = f.pos) :
    Answers (.forwardFrame t f) s fun s' =>
      tget none s'.bus.fwdHeld 0 = some ⟨t, f.ftype, f.body⟩ ∧
        s'.bus.replaced = s.bus.replaced + (if (tget none s.bus.fwdHeld 0).isSome then 1 else 0) ∧
        Frame [.now, .bus, .twin, .constable] s s' := by
  obtain ⟨x, got, heard⟩ := receive_valid (s := s.atTime t) (timed := true) link sched fun _ => timely.atTime t
  have eq := forwards_held (s := s.atTime t) on got heard split_ fwd inport ibcyc ipos
  obtain ⟨m, q, bus⟩ := heard.bus
  have held : x.bus.fwdHeld = s.bus.fwdHeld := by rw [bus]; rfl
  have replaced : x.bus.replaced = s.bus.replaced := by rw [bus]; rfl
  have now : x.now = t := heard.bearing.now
  have whole : Frame [.bus, .twin, .constable] (s.atTime t) (forwards f (s.atTime t)) := by
    rw [eq]
    exact heard.frame.trans fun p hp => by cases p <;> simp [same] at hp ⊢
  refine answers_role (forwardFrame_eq t s f) whole (by decide) (by rw [eq]; exact heard.role) ⟨?_, ?_,
    frame_with_now (l := [.bus, .twin, .constable]) whole⟩
  · rw [eq, ← now]
    exact tget_tput_self _ _ _ _ (Option.some_ne_none _)
  · rw [eq, ← held, ← replaced]
    dsimp only
    split
    · rfl
    · exact (BitVec.add_zero _).symm

/-! ### Another schedule (R228) -/

/-- FOREIGN_SCHEDULE_DETECTED. -/
def foreignDetected (f : BusFrame) (s : State) : State :=
  let s1 := (hear s f false).1
  if engineOn s f.chan ≠ 0 ∧ linkBad s f = false ∧ f.sched ≠ ownSched s ∧ 63 ≤ (port s f.chan).foreignRun then
    raise (modPort s1 f.chan fun p => { p with foreignRun := 0 }) 86 (u32 f.node) (u32 f.sched.toNat)
      (u32 (ownSched s).toNat)
  else s1

theorem foreignScheduleDetected_eq (t : Time) (s : State) (f : BusFrame) :
    exec (.foreignScheduleDetected t f) s = at_ t s (foreignDetected f) := rfl

theorem foreignSchedule {t : Time} {s : State} {f : BusFrame} (on : engineOn s f.chan ≠ 0) (link : linkBad s f = false)
    (sched : f.sched ≠ ownSched s) :
    (63 ≤ (port s f.chan).foreignRun → Quiet s 86 → Answers (.foreignScheduleDetected t f) s fun s' =>
        Raised s s' 86 (u32 f.node) (u32 f.sched.toNat) (u32 (ownSched s).toNat) ∧ (port s' f.chan).foreignRun = 0 ∧
          Frame [.now, .bus, .constable] s s') ∧
      ((port s f.chan).foreignRun < 63 → Answers (.foreignScheduleDetected t f) s fun s' =>
        (chanBus s' f.chan).foreign = (chanBus s f.chan).foreign + 1 ∧ Frame [.now, .bus] s s') := by
  have heard : (hear (s.atTime t) f false).1 = modPort (modBus (s.atTime t) f.chan fun x => { x with foreign := x.foreign + 1 }) f.chan
      fun p => { p with foreignSeen := true, matrixOk := false } := by
    rw [hear_on (s := s.atTime t) on, receive_foreign (s := s.atTime t) false link sched]
  obtain ⟨frame, count, -⟩ := foreign_only (s.atTime t) f.chan
  refine ⟨fun long quiet => ?_, fun short => ?_⟩
  · have eq : foreignDetected f (s.atTime t) = raise (modPort (hear (s.atTime t) f false).1 f.chan fun p => { p with foreignRun := 0 }) 86
        (u32 f.node) (u32 f.sched.toNat) (u32 (ownSched s).toNat) := if_pos ⟨on, link, sched, long⟩
    rw [heard] at eq
    generalize modPort (modBus (s.atTime t) f.chan fun x => { x with foreign := x.foreign + 1 }) f.chan
      (fun p => { p with foreignSeen := true, matrixOk := false }) = x at frame eq
    have only := modPort_only x f.chan fun p => { p with foreignRun := 0 }
    generalize modPort x f.chan (fun p => { p with foreignRun := 0 }) = y at only eq
    have constable : y.constable = s.constable := (only.frame .constable (by decide)).trans (frame .constable (by decide))
    have quiety : Quiet y 86 := by
      unfold Quiet at quiet ⊢
      rw [source_of_constable constable]
      exact quiet
    rw [raise_minor quiety (by decide)] at eq
    have recorded := recordRaise_frame y 86 false (u32 f.node) (u32 f.sched.toNat) (u32 (ownSched s).toNat)
    have whole : Frame [.bus, .constable] (s.atTime t) (foreignDetected f (s.atTime t)) := by
      rw [eq]
      exact ((frame.trans only.frame).mono (by decide)).trans (recorded.mono (by decide))
    have port_ : port (foreignDetected f (s.atTime t)) f.chan = port y f.chan := by
      have bus : (foreignDetected f (s.atTime t)).bus = y.bus := by rw [eq]; exact recorded .bus (by decide)
      have modes : (foreignDetected f (s.atTime t)).modes = y.modes := by rw [eq]; exact recorded .modes (by decide)
      unfold port portOf inSplit
      rw [bus, modes]
    refine answers_still (foreignScheduleDetected_eq t s f) whole (by decide) ⟨?_, ?_, frame_with_now (l := [.bus, .constable]) whole⟩
    · rw [eq]
      exact raised_recordRaise (source_of_constable constable 86) _ _ _
    · rw [port_, only.port]
  · have eq : foreignDetected f (s.atTime t) = (hear (s.atTime t) f false).1 :=
      if_neg fun due => absurd due.2.2.2 (Nat.not_le.mpr short)
    rw [heard] at eq
    refine answers_still (foreignScheduleDetected_eq t s f) (by rw [eq]; exact frame) (by decide) ?_
    rw [eq]
    exact ⟨count, frame_with_now (l := [.bus]) frame⟩

/-! ### A silent channel (R239) -/

/-- CHANNEL_DOWN. -/
def channelLost (c : Chan) (s : State) : State :=
  if engineOn s c = 5 ∧ 8 ≤ (chanBus s c).silent then
    raise (modBus s c fun x => { x with link := false }) (80 + chanNo c) (u32 (nodeOn s c)) (u32 (engineOn s c))
      (u32 (port s c).matrix.toNat)
  else s

theorem channelDown_eq (t : Time) (s : State) (c : Chan) : exec (.channelDown t c) s = at_ t s (channelLost c) := rfl

theorem silentChannel {t : Time} {s : State} {c : Chan} (active : engineOn s c = 5) :
    (8 ≤ (chanBus s c).silent → Quiet s (80 + chanNo c) → Answers (.channelDown t c) s fun s' =>
        (chanBus s' c).link = false ∧
          Raised s s' (80 + chanNo c) (u32 (nodeOn s c)) 5 (u32 (port s c).matrix.toNat) ∧
          Frame [.now, .bus, .constable] s s') ∧
      ((chanBus s c).silent < 8 → Runs (.channelDown t c) s (s.atTime t)) := by
  refine ⟨fun silent quiet => ?_, fun heard => runs_idle (channelDown_eq t s c) (if_neg fun due => absurd due.2 (Nat.not_le.mpr heard))⟩
  have eq : channelLost c (s.atTime t) = raise (modBus (s.atTime t) c fun x => { x with link := false }) (80 + chanNo c) (u32 (nodeOn s c)) 5
      (u32 (port s c).matrix.toNat) := by
    refine (if_pos ⟨active, silent⟩).trans ?_
    rw [show engineOn (s.atTime t) c = 5 from active]
    rfl
  rw [raise_minor (s := modBus (s.atTime t) c fun x => { x with link := false }) quiet (by cases c <;> decide)] at eq
  have recorded := recordRaise_frame (modBus (s.atTime t) c fun x => { x with link := false }) (80 + chanNo c) false (u32 (nodeOn s c)) 5
    (u32 (port s c).matrix.toNat)
  have whole : Frame [.bus, .constable] (s.atTime t) (channelLost c (s.atTime t)) := by
    rw [eq]
    exact ((modBus_frame _ _ _).mono (by decide)).trans (recorded.mono (by decide))
  have chan : chanBus (channelLost c (s.atTime t)) c = { chanBus s c with link := false } := by
    have bus : (channelLost c (s.atTime t)).bus = (modBus (s.atTime t) c fun x => { x with link := false }).bus := by
      rw [eq]
      exact recorded .bus (by decide)
    exact (congrArg (fun b : BusSt => b.ch.get c) bus).trans (chanBus_modBus (s.atTime t) c fun x => { x with link := false })
  refine answers_still (channelDown_eq t s c) whole (by decide) ⟨?_, ?_, frame_with_now (l := [.bus, .constable]) whole⟩
  · rw [chan]
  · rw [eq]
    exact raised_recordRaise (x := modBus (s.atTime t) c fun x => { x with link := false }) (s := s) rfl _ _ _

/-! ### Pulses (R236) -/

/-- SYNC_IN_PULSE. -/
def pulsed_in (s : State) : State :=
  let s1 := { s with bus := { s.bus with pulses := s.bus.pulses + 1 } }
  if isMaster s1 .a ∧ ((cluster? s1).any fun x => x.syncin) then steerTo s1 else s1

theorem syncInPulse_eq (t : Time) (s : State) : exec (.syncInPulse t) s = at_ t s pulsed_in := rfl

theorem pulsed_in_eq (s : State) : pulsed_in s = if isMaster s .a ∧ ((cluster? s).any fun x => x.syncin) then
    steerTo (modEngine s fun b => { b with pulses := b.pulses + 1 }) else modEngine s fun b => { b with pulses := b.pulses + 1 } := by
  have bearing : Bearing s (modEngine s fun b => { b with pulses := b.pulses + 1 }) := ⟨rfl, rfl, rfl, rfl, rfl⟩
  have master : isMaster (modEngine s fun b => { b with pulses := b.pulses + 1 }) .a = isMaster s .a := isMaster_congr bearing (by
    unfold port
    rw [bearing.portOf]
    cases portOf s .a <;> rfl)
  unfold pulsed_in
  dsimp only
  rw [show ({ s with bus := { s.bus with pulses := s.bus.pulses + 1 } } : State) = modEngine s fun b => { b with pulses := b.pulses + 1 } from rfl,
    master, bearing.cluster?]

theorem modEngine_frame (s : State) (f : BusSt → BusSt) : Frame [.bus] s (modEngine s f) := by
  intro p hp
  cases p <;> simp [same, modEngine] at hp ⊢

theorem pulseCounted {t : Time} {s : State} (h : isMaster s .a = false ∨ ((cluster? s).any fun x => x.syncin) = false) :
    Runs (.syncInPulse t) s (modEngine (s.atTime t) fun b => { b with pulses := b.pulses + 1 }) := by
  refine runs_still (syncInPulse_eq t s) ((pulsed_in_eq (s.atTime t)).trans (if_neg fun due => ?_)) (modEngine_frame _ _) (by decide)
  exact h.elim (fun follows => Bool.noConfusion (follows.symm.trans due.1)) fun free => Bool.noConfusion (free.symm.trans due.2)

/-- The rate that a pulse leads to: 0 on the second, against its phase otherwise, and within 200 parts in 10^9. -/
theorem steerTo_effect (s : State) : Frame [.bus, .draws] s (steerTo s) ∧ (steerTo s).bus.pulses = s.bus.pulses ∧
    (steerTo s).bus.steer.natAbs ≤ 200 ∧ (s.now % sec 1 = 0 → (steerTo s).bus.steer = 0) ∧
    (s.now % sec 1 < ms 500 → (steerTo s).bus.steer ≤ 0) ∧ (ms 500 ≤ s.now % sec 1 → 0 ≤ (steerTo s).bus.steer) := by
  have steer : (steerTo s).bus.steer = if s.now % sec 1 = 0 then 0 else if s.now % sec 1 < ms 500 then
      -((Config.free s.draws % 201 : Nat) : Int) else ((Config.free s.draws % 201 : Nat) : Int) := rfl
  have small : Config.free s.draws % 201 < 201 := Nat.mod_lt _ (by decide)
  rw [steer]
  generalize Config.free s.draws % 201 = rate at small
  clear steer
  refine ⟨fun p hp => ?_, rfl, ?_, fun zero => if_pos zero, fun before => ?_, fun after => ?_⟩
  · cases p <;> simp [same, steerTo, draw] at hp ⊢
  · split
    · exact Nat.zero_le _
    · split <;> omega
  · rw [if_pos before]
    split <;> omega
  · rw [if_neg (Nat.not_lt.mpr after)]
    split <;> omega

theorem pulseSteers {t : Time} {s : State} (master : isMaster s .a = true) (free : ((cluster? s).any fun x => x.syncin) = true) :
    Answers (.syncInPulse t) s fun s' =>
      s'.bus.pulses = s.bus.pulses + 1 ∧ s'.bus.steer.natAbs ≤ 200 ∧ (t % sec 1 = 0 → s'.bus.steer = 0) ∧
        (t % sec 1 < ms 500 → s'.bus.steer ≤ 0) ∧ (ms 500 ≤ t % sec 1 → 0 ≤ s'.bus.steer) ∧ Frame [.now, .bus, .draws] s s' := by
  have eq : pulsed_in (s.atTime t) = steerTo (modEngine (s.atTime t) fun b => { b with pulses := b.pulses + 1 }) :=
    (pulsed_in_eq (s.atTime t)).trans (if_pos ⟨master, free⟩)
  obtain ⟨frame, pulses, small, zero, before, after⟩ := steerTo_effect (modEngine (s.atTime t) fun b => { b with pulses := b.pulses + 1 })
  have whole : Frame [.bus, .draws] (s.atTime t) (pulsed_in (s.atTime t)) := by
    rw [eq]
    exact ((modEngine_frame _ _).mono (by decide)).trans frame
  refine answers_still (syncInPulse_eq t s) whole (by decide) ?_
  rw [eq] at whole ⊢
  exact ⟨pulses, small, zero, before, after, frame_with_now (l := [.bus, .draws]) whole⟩

/-! ### Matrix boundaries (R227, R232, R264) -/

/-- The port's counts at a boundary. -/
def boundaryCounted (s : State) (c : Chan) : State :=
  (portChans s c).foldl (fun st x => modBus st x boundaryChan) (modPort s c fun y => { y with matrix := y.matrix + 1, bcyc := 0, turnAt := 0 })

/-- MATRIX_BOUNDARY. -/
def boundary (c : Chan) (s : State) : State :=
  if engineOn s c = 0 then s else
  boundaryEngine (if portOf s c = .a then boundarySessions (noteRate (boundaryCounted s c)) else boundaryCounted s c) c

theorem matrixBoundary_eq (t : Time) (s : State) (c : Chan) : exec (.matrixBoundary ⟨t, c⟩) s = at_ t s (boundary c) := rfl

/-- The port's record at a boundary. -/
def bounded (p : PortSt) : PortSt := { p with matrix := p.matrix + 1, bcyc := 0, turnAt := 0 }

theorem boundaryCounted_effect (s : State) (c : Chan) : Frame [.bus] s (boundaryCounted s c) ∧ Bearing s (boundaryCounted s c) ∧
    port (boundaryCounted s c) c = bounded (port s c) := by
  have only := modPort_only s c bounded
  obtain ⟨frame, bearing, ports, -, -⟩ := foldl_modBus (portChans_nodup s c) (fun _ => boundaryChan) (modPort s c bounded)
  exact ⟨only.frame.trans frame, only.bearing.trans bearing, (ports c).trans only.port⟩

theorem boundarySess_effect (s : State) (k : Nat) (y : Sess) : Frame [.sessions] s (boundarySess s k y) ∧
    (boundarySess s k y).sessions.quiet = s.sessions.quiet ∧ (boundarySess s k y).sessions.waiting = s.sessions.waiting := by
  unfold boundarySess
  split
  · exact ⟨fun p hp => by cases p <;> simp [same, modSess] at hp ⊢, rfl, rfl⟩
  · split
    · exact ⟨modSess_frame _ _ _, rfl, rfl⟩
    · exact ⟨.refl _ _, rfl, rfl⟩

theorem boundarySessions_effect (s : State) : Frame [.sessions] s (boundarySessions s) ∧
    (boundarySessions s).sessions.quiet = [] ∧ (boundarySessions s).sessions.waiting = [] := by
  unfold boundarySessions
  dsimp only
  generalize hx : ({ s with sessions := { s.sessions with quiet := [], waiting := [] } } : State) = x
  have start : Frame [.sessions] s x ∧ x.sessions.quiet = [] ∧ x.sessions.waiting = [] := by
    subst hx
    exact ⟨fun p hp => by cases p <;> simp [same] at hp ⊢, rfl, rfl⟩
  generalize slotsInUse x = l
  obtain ⟨frame, quiet, waiting⟩ := start
  clear hx
  induction l generalizing x with
  | nil => exact ⟨frame, quiet, waiting⟩
  | cons e l ih =>
    obtain ⟨step, quiet', waiting'⟩ := boundarySess_effect x e.1 e.2
    exact ih (boundarySess x e.1 e.2) (frame.trans step) (quiet'.trans quiet) (waiting'.trans waiting)

theorem noteRate_frame (s : State) : Frame [.bus, .modes] s (noteRate s) := by
  intro p hp
  cases p <;> simp [same, noteRate] at hp ⊢

theorem noteRate_modes (s : State) : (noteRate s).modes.mode = s.modes.mode ∧ (noteRate s).modes.lanesAtEntry = s.modes.lanesAtEntry ∧
    (noteRate s).modes.previous = s.modes.previous := ⟨rfl, rfl, rfl⟩

theorem port_of_bus {s r : State} (bus : r.bus = s.bus) (modes : r.modes = s.modes) (c : Chan) : port r c = port s c := by
  unfold port portOf inSplit
  rw [bus, modes]

theorem port_noteRate (s : State) (c : Chan) : port (noteRate s) c = port s c := by
  have which : portOf (noteRate s) c = portOf s c := rfl
  unfold port
  rw [which]
  cases portOf s c <;> rfl

/-- The boundary, before the engine's own step. -/
theorem boundary_sessions (s : State) (c : Chan) :
    ∃ r, (if portOf s c = .a then boundarySessions (noteRate (boundaryCounted s c)) else boundaryCounted s c) = r ∧
      Frame (if portOf s c = .a then [.bus, .sessions, .modes] else [.bus]) s r ∧ port r c = bounded (port s c) ∧
      r.modes.mode = s.modes.mode ∧ r.modes.lanesAtEntry = s.modes.lanesAtEntry ∧ r.modes.previous = s.modes.previous ∧
      (portOf s c = .a → r.sessions.quiet = [] ∧ r.sessions.waiting = []) := by
  obtain ⟨frame, bearing, port_⟩ := boundaryCounted_effect s c
  by_cases which : portOf s c = .a
  · obtain ⟨settled, quiet, waiting⟩ := boundarySessions_effect (noteRate (boundaryCounted s c))
    have modes : (boundarySessions (noteRate (boundaryCounted s c))).modes = (noteRate (boundaryCounted s c)).modes := settled .modes (by decide)
    refine ⟨_, rfl, ?_, ?_, ?_, ?_, ?_, fun _ => ?_⟩
    · rw [if_pos which, if_pos which]
      exact (frame.mono (by decide)).trans (((noteRate_frame _).mono (by decide)).trans (settled.mono (by decide)))
    · rw [if_pos which, ← port_, ← port_noteRate]
      exact port_of_bus (settled .bus (by decide)) modes c
    · rw [if_pos which, modes, (noteRate_modes _).1, bearing.modes]
    · rw [if_pos which, modes, (noteRate_modes _).2.1, bearing.modes]
    · rw [if_pos which, modes, (noteRate_modes _).2.2, bearing.modes]
    · rw [if_pos which]
      exact ⟨quiet, waiting⟩
  · refine ⟨_, rfl, ?_, ?_, ?_, ?_, ?_, fun first => absurd first which⟩
    · rw [if_neg which, if_neg which]
      exact frame
    · rw [if_neg which, port_]
    · rw [if_neg which, bearing.modes]
    · rw [if_neg which, bearing.modes]
    · rw [if_neg which, bearing.modes]

theorem boundary_on {s : State} {c : Chan} (on : engineOn s c ≠ 0) : boundary c s =
    boundaryEngine (if portOf s c = .a then boundarySessions (noteRate (boundaryCounted s c)) else boundaryCounted s c) c := if_neg on

theorem activeBoundary {t : Time} {s : State} {c : Chan} (active : engineOn s c = 5) : Answers (.matrixBoundary ⟨t, c⟩) s fun s' =>
    (port s' c).matrix = (port s c).matrix + 1 ∧ (port s' c).bcyc = 0 ∧ engineOn s' c = 5 ∧
      (portOf s c = .a → s'.sessions.quiet = [] ∧ s'.sessions.waiting = []) ∧
      Frame (if portOf s c = .a then [.now, .bus, .sessions, .modes] else [.now, .bus]) s s' := by
  obtain ⟨x, hx, frame, port_, mode, entry, previous, freed⟩ := boundary_sessions (s.atTime t) c
  have engine : (port x c).engine = 5 := by
    rw [port_]
    exact active
  have eq : boundary c (s.atTime t) = x := by
    rw [boundary_on (s := s.atTime t) (by rw [show engineOn (s.atTime t) c = 5 from active]; decide), hx]
    exact if_pos (by rw [engine]; decide)
  have wide : Frame [.bus, .sessions, .modes] (s.atTime t) x := frame.mono fun p hp => by
    split at hp
    · exact hp
    · rw [List.mem_singleton.mp hp]; decide
  have twin : x.twin = s.twin := wide .twin (by decide)
  have update : x.update = s.update := wide .update (by decide)
  have change : x.change = s.change := wide .change (by decide)
  refine answers_plain (matrixBoundary_eq t s c) ?_ ?_ ?_
  · rw [eq]
    exact attrs_voters mode entry previous (by rw [twin]) (by rw [update]) (voters_of_lanes (wide .lanes (by decide))) (by rw [change])
  · rw [eq]
    exact wide .pending (by decide)
  · rw [eq]
    refine ⟨?_, ?_, ?_, freed, ?_⟩
    · rw [port_]; rfl
    · rw [port_]; rfl
    · rw [engineOn, engine]
    · refine ((frame_atTime s t).mono fun p hp => ?_).trans (frame.mono fun p hp => ?_)
      · rw [List.mem_singleton.mp hp]
        split <;> decide
      · have which : portOf (s.atTime t) c = portOf s c := rfl
        rw [which] at hp
        split at hp
        · next first => rw [if_pos first]; exact List.mem_cons_of_mem _ hp
        · next other => rw [if_neg other]; exact List.mem_cons_of_mem _ hp

/-- The step in time of a node that has found its offset leaves the port's record but for that offset. -/
theorem admitTime_engine (s : State) (c : Chan) : engineOn (admitTime s) c = engineOn s c := by
  have stretched := stretchCycle_frame s s.bus.clusterOff
  have kept : engineOn (stretchCycle s s.bus.clusterOff) c = engineOn s c :=
    congrArg PortSt.engine (port_of_bus (stretched .bus (by decide)) (stretched .modes (by decide)) c)
  unfold admitTime
  dsimp only
  split
  · exact kept
  · rw [← kept]
    generalize stretchCycle s s.bus.clusterOff = y
    unfold engineOn port portOf inSplit
    dsimp only
    cases (if (y.modes.mode == Mode.split || y.modes.splitRun) = true then c else Chan.a) <;> rfl

theorem observedBoundary {t : Time} {s : State} {c : Chan} (observes : engineOn s c = 4) :
    ((port s c).observing = true → (port s c).matrixOk = true → (port s c).synced = 64 →
        Answers (.matrixBoundary ⟨t, c⟩) s fun s' => engineOn s' c = 5) ∧
      ((port s c).observing = false ∨ (port s c).matrixOk = false ∨ (port s c).synced ≠ 64 →
        Answers (.matrixBoundary ⟨t, c⟩) s fun s' => engineOn s' c = 4 ∧ (port s' c).observing = true ∧ (port s' c).synced = 0) := by
  obtain ⟨x, hx, -, port_, -, -, -, -⟩ := boundary_sessions (s.atTime t) c
  have eq : boundary c (s.atTime t) = boundaryEngine x c := by
    rw [boundary_on (s := s.atTime t) (by rw [show engineOn (s.atTime t) c = 4 from observes]; decide), hx]
  have engine : (port x c).engine = 4 := by
    rw [port_]
    exact observes
  have closed {s' : State} (close : Closed s (boundary c (s.atTime t)) s') : port s' c = port (boundaryEngine x c) c := by
    rw [eq] at close
    exact port_of_bus (close.rest .bus (by decide)) (close.rest .modes (by decide)) c
  refine ⟨fun observing ok full => answers_at (matrixBoundary_eq t s c) fun s' close => ?_,
    fun lacks => answers_at (matrixBoundary_eq t s c) fun s' close => ?_⟩
  · have good : (port x c).observing ∧ (port x c).matrixOk ∧ (port x c).synced = 64 := by
      rw [port_]
      exact ⟨observing, ok, full⟩
    have active : engineOn (boundaryEngine x c) c = 5 := by
      have set5 : engineOn (setEngine x c 5) c = 5 := congrArg PortSt.engine (setEngine_only x c 5).port
      unfold boundaryEngine
      dsimp only
      rw [if_neg (not_not_intro engine), if_pos good]
      split
      · rw [admitTime_engine, set5]
      · exact set5
    rw [engineOn, closed close]
    exact active
  · have bad : ¬ ((port x c).observing ∧ (port x c).matrixOk ∧ (port x c).synced = 64) := by
      rw [port_]
      rintro ⟨observing, ok, full⟩
      obtain h | h | h := lacks
      · exact Bool.noConfusion (h.symm.trans observing)
      · exact Bool.noConfusion (h.symm.trans ok)
      · exact h full
    have again : port (boundaryEngine x c) c = { port x c with observing := true, matrixOk := true, synced := 0 } := by
      unfold boundaryEngine
      dsimp only
      rw [if_neg (not_not_intro engine), if_neg bad, port_modPort]
    rw [engineOn, closed close, again]
    exact ⟨engine, rfl, rfl⟩

/-- Settles O43: a frame is judged before anything else of it counts; a boundary counts first, and then ends what it has observed. That a
pulse steers against its phase, and within 0.2 ppm, is log entry 45. -/
theorem receivedFramesAreCheckedAndCounted : Obligations.ReceivedFramesAreCheckedAndCounted := by
  intro t s ch f
  refine ⟨fun c h => framesCounted h, fun e split_ on link sched timely fwd inport ibcyc ipos =>
    forwarding split_ on link sched timely fwd inport ibcyc ipos, foreignSchedule, silentChannel, pulseCounted, pulseSteers, fun off => ?_,
    activeBoundary, observedBoundary⟩
  exact runs_idle (matrixBoundary_eq t s ch) (if_pos off)

end Sys2Proof.Machine
end

section
/-!
PROOFS. What a node sends, and in which positions (O42).
-/

namespace Sys2Proof.Machine

/-! ### The position (R236, R241) -/

/-- What follows from a position that the node has reached. -/
def sentAtPosition (c : Chan) (b p : Nat) (back : Option Nat) (s : State) : State :=
  if p < 160 then
    if engineOn s c ≠ 5 ∨ (chanBus s c).delay.isNone then s
    else if inSplit s then forwardOut s c b p
    else sendExclusive s c b p back.isSome
  else if p = 160 then sendSync s c b back
  else if arbitratingTop s c = 0 then s
  else arbitrate s c b p back

/-- The state at a position, with what has been handed over by then. -/
def placed (c : Chan) (b p : Nat) (l : List (List Byte)) (s : State) : State := modPort (takeOffered s l) c (placeAt s b p)

/-- TRANSMIT_POSITION. -/
def positioned (c : Chan) (b p : Nat) (x : Sending) (s : State) : State :=
  if engineOn s c = 0 then s else sentAtPosition c b p x.readback (placed c b p x.offered s)

theorem transmitPosition_eq (t : Time) (s : State) (c : Chan) (b : Fin 64) (p : Fin 200) (x : Sending) :
    exec (.transmitPosition t c b p x) s = at_ t s (positioned c b.val p.val x) := rfl

theorem positioned_active {s : State} {c : Chan} {b p : Nat} {x : Sending} (h : engineOn s c = 5) :
    positioned c b p x s = sentAtPosition c b p x.readback (placed c b p x.offered s) := if_neg (by rw [h]; decide)

theorem placeAt_kept (s : State) (b p : Nat) (x : PortSt) : ∃ n m, placeAt s b p x = { x with bcyc := n, turnAt := m } := by
  unfold placeAt
  split
  · exact ⟨b, 0, rfl⟩
  · split
    · split
      · exact ⟨x.bcyc, x.turnAt, rfl⟩
      · exact ⟨b, 0, rfl⟩
    · exact ⟨(b + 1) % 64, s.now + us (5 * (200 - p)), rfl⟩

theorem takeOffered_none (s : State) : takeOffered s [] = s := ite_self s

/-- With nothing handed over, reaching a position changes where the port stands. -/
theorem placed_only (s : State) (c : Chan) (b p : Nat) : PortOnly s (placed c b p [] s) c (placeAt s b p) := by
  unfold placed
  rw [takeOffered_none]
  exact modPort_only _ _ _

theorem placed_matrix (s : State) (c : Chan) (b p : Nat) : (placed c b p [] s).bus.matrix = s.bus.matrix := by
  obtain ⟨n, m, kept⟩ := placeAt_kept s b p s.bus.toPortSt
  unfold placed
  rw [takeOffered_none]
  unfold modPort
  split
  · have matrix := congrArg PortSt.matrix kept
    exact matrix
  · rfl

theorem modPort_ch (s : State) (c : Chan) (f : PortSt → PortSt) : (modPort s c f).bus.ch = s.bus.ch := by
  unfold modPort
  split <;> rfl

theorem modPort_telegrams (s : State) (c : Chan) (f : PortSt → PortSt) : (modPort s c f).bus.telegrams = s.bus.telegrams := by
  unfold modPort
  split <;> rfl

/-! ### What the rules of sending read -/

section
variable {s r : State} (bearing : Bearing s r) (twin : r.twin = s.twin) {c : Chan}

section
include bearing

theorem arbitratingFits_congr (engine : engineOn r c = engineOn s c) (p len : Nat) :
    arbitratingFits r c p len = arbitratingFits s c p len := by
  unfold arbitratingFits arbitratingTop
  rw [bearing.rateOn, engine]

theorem sessionSilent_congr (role : r.twin.role = s.twin.role) : sessionSilent r = sessionSilent s := by
  simp [sessionSilent, role, bearing.modes]

include twin

theorem ownsEntry_congr (e : SchedEntry) : ownsEntry r c e = ownsEntry s c e := by
  unfold ownsEntry zoneNodes pairedZone header?
  rw [bearing.cluster?, bearing.station, bearing.node, bearing.nodeOn, twin]

theorem nextArbitrating_congr (engine : engineOn r c = engineOn s c) (chan : chanBus r c = chanBus s c) :
    nextArbitrating r c = nextArbitrating s c := by
  have opens (f : BusFrame) : opensNow r f = opensNow s f := by
    simp [opensNow, sessionSilent_congr bearing (congrArg TwinSt.role twin), bearing.modes]
  have owns : ownsNonVital r c = ownsNonVital s c := by
    simp only [ownsNonVital, bearing.cluster?, ownsEntry_congr bearing twin]
  unfold nextArbitrating
  simp only [chan, engine, opens, owns]

end

theorem clusterTime_port (h : portOf s c = .b) : clusterTime s c = ((s.now : Int) + (port s c).clusterOff).toNat := by
  unfold clusterTime port
  rw [h]

include bearing in
theorem clusterTime_congr (offset : (port r c).clusterOff = (port s c).clusterOff) : clusterTime r c = clusterTime s c := by
  cases h : portOf s c with
  | a =>
    unfold clusterTime
    rw [bearing.portOf, h, bearing.now]
  | b => rw [clusterTime_port h, clusterTime_port ((bearing.portOf c).trans h), bearing.now, offset]

end

section
variable {s r : State} {c : Chan} {b p : Nat} (h : PortOnly s r c (placeAt s b p))
include h

theorem placed_engine : engineOn r c = engineOn s c := by
  obtain ⟨n, m, kept⟩ := placeAt_kept s b p (port s c)
  rw [engineOn, h.port, kept]
  rfl

theorem placed_isMaster : isMaster r c = isMaster s c := by
  obtain ⟨n, m, kept⟩ := placeAt_kept s b p (port s c)
  unfold isMaster
  rw [placed_engine h, h.bearing.nodeOn, masterOn, h.port, kept]
  rfl

end

/-! ### Frames handed over (R251) -/

/-- What `n` frames queued for the bus change. -/
structure Handed (s r : State) (n : Nat) : Prop where
  frame : Frame [.bus] s r
  bearing : Bearing s r
  port : ∀ x, port r x = port s x
  delay : ∀ x, (chanBus r x).delay = (chanBus s x).delay
  lengths : (chanBus r .a).queue.length + (chanBus r .b).queue.length = (chanBus s .a).queue.length + (chanBus s .b).queue.length + n

theorem queueOn_handed (s : State) (c : Chan) (f : BusFrame) : Handed s (queueOn s c f) 1 := by
  rw [queueOn_eq]
  refine ⟨modBus_frame _ _ _, modBus_bearing _ _ _, fun _ => rfl, fun x => ?_, ?_⟩
  · by_cases h : x = c
    · rw [h, chanBus_modBus]
    · rw [chanBus_modBus_ne s _ h]
  · cases c
    · rw [chanBus_modBus, chanBus_modBus_ne s _ (by decide), List.length_append, List.length_singleton]
      omega
    · rw [chanBus_modBus, chanBus_modBus_ne s _ (by decide), List.length_append, List.length_singleton]
      omega

theorem Handed.trans {s x r : State} {n m : Nat} (h : Handed s x n) (h' : Handed x r m) : Handed s r (n + m) :=
  ⟨h.frame.trans h'.frame, h.bearing.trans h'.bearing, fun y => (h'.port y).trans (h.port y), fun y => (h'.delay y).trans (h.delay y), by
    rw [h'.lengths, h.lengths, Nat.add_assoc]⟩

theorem foldl_queueFrame (l : List (List Byte)) (s : State) :
    Handed s (l.foldl (fun st x => queueFrame st (ownFrame 4 x)) s) l.length := by
  induction l generalizing s with
  | nil => exact ⟨.refl _ _, .refl _, fun _ => rfl, fun _ => rfl, rfl⟩
  | cons x l ih =>
    have both := (queueOn_handed s (if s.bus.ch.b.queue.length < s.bus.ch.a.queue.length then .b else .a) (ownFrame 4 x)).trans (ih _)
    rw [List.length_cons, Nat.add_comm]
    exact both

/-- What has been handed over is queued, but in Split nothing is. -/
theorem takeOffered_taken (s : State) (l : List (List Byte)) :
    ∃ n, Handed s (takeOffered s l) n ∧ (inSplit s = false → n = l.length) := by
  unfold takeOffered
  split
  · next split_ => exact ⟨0, ⟨.refl _ _, .refl _, fun _ => rfl, fun _ => rfl, rfl⟩, fun whole => absurd (whole.symm.trans split_) (by decide)⟩
  · exact ⟨l.length, foldl_queueFrame l s, fun _ => rfl⟩

/-- What a node puts on the wire carries its own heading, and the CRC over it. -/
theorem dress_heading (s : State) (c : Chan) (b p : Nat) (f : BusFrame) : (dress s c b p f).ftype = f.ftype ∧
    (dress s c b p f).node = nodeOn s c ∧ (dress s c b p f).pos = p ∧ (dress s c b p f).bcyc = b ∧
    (dress s c b p f).matrix = (port s c).matrix ∧ (dress s c b p f).crc = u32 (busCrc (dress s c b p f)) :=
  ⟨rfl, rfl, rfl, rfl, rfl, rfl⟩

theorem dress_body {f : BusFrame} (h : f.ftype ≠ 5) (s : State) (c : Chan) (b p : Nat) : (dress s c b p f).body = f.body := if_neg h

section
variable {t : Time} {s : State} {ch : Chan} {b : Fin 64} {p : Fin 200} {back : Option Nat} (active : engineOn s ch = 5)
include active

/-! ### Exclusive positions (R236, R237) -/

/-- A position of another node. -/
theorem silentElsewhere (low : p.val < 160) (other : ownsEntry s ch (schedAt s ch b.val p.val) = false) :
    Answers (.transmitPosition t ch b p ⟨back, []⟩) s fun s' =>
      s'.out = s.out ∧ s'.bus.ch = s.bus.ch ∧ (port s' ch).bcyc = b.val ∧ Frame [.now, .bus] s s' := by
  have only := placed_only (s.atTime t) ch b.val p.val
  have channels : (placed ch b.val p.val [] (s.atTime t)).bus.ch = s.bus.ch := by
    unfold placed
    rw [takeOffered_none]
    exact modPort_ch _ _ _
  have eq : positioned ch b.val p.val ⟨back, []⟩ (s.atTime t) = placed ch b.val p.val [] (s.atTime t) := by
    rw [positioned_active (s := s.atTime t) active]
    dsimp only
    generalize placed ch b.val p.val [] (s.atTime t) = y at only
    have unowned : ownsEntry y ch (schedAt y ch b.val p.val) = false := by
      rw [only.bearing.schedAt, ownsEntry_congr only.bearing (only.frame .twin (by decide))]
      exact other
    unfold sentAtPosition
    rw [if_pos low]
    split
    · rfl
    · split
      · unfold forwardOut
        exact if_pos unowned
      · unfold sendExclusive
        dsimp only
        rw [unowned]
        rfl
  refine answers_still (transmitPosition_eq t s ch b p ⟨back, []⟩) (by rw [eq]; exact only.frame) (by decide) ?_
  rw [eq]
  refine ⟨only.frame .out (by decide), channels, ?_, frame_with_now (l := [.bus]) only.frame⟩
  rw [only.port, placeAt, if_pos low]

omit active in
theorem ownsEntry_single {e : SchedEntry} (single : e.pair = false) (ours : e.node = nodeOn s ch) : ownsEntry s ch e = true := by
  unfold ownsEntry
  rw [single, ours]
  exact beq_self_eq_true _

omit active in
/-- The down frame that is ready for an entry of a multi-partner. -/
theorem readyFor_down {y : State} {e : SchedEntry} (kind : e.kind = 2) (speaks : sessionSilent y = false)
    (ready : tget [] y.bus.telegrams (512 + e.peer) ≠ []) :
    readyFor y ch e = some (ownFrame 3 (tget [] y.bus.telegrams (512 + e.peer))) := by
  unfold readyFor
  rw [if_neg (by rw [speaks]; simp)]
  simp only [kind]
  exact if_neg ready

theorem positioned_exclusive (low : p.val < 160) (whole : inSplit s = false) (known : (chanBus s ch).delay.isSome = true) :
    positioned ch b.val p.val ⟨back, []⟩ (s.atTime t) = sendExclusive (placed ch b.val p.val [] (s.atTime t)) ch b.val p.val back.isSome := by
  have only := placed_only (s.atTime t) ch b.val p.val
  rw [positioned_active (s := s.atTime t) active]
  dsimp only
  generalize placed ch b.val p.val [] (s.atTime t) = y at only
  have fine : ¬ (engineOn y ch ≠ 5 ∨ (chanBus y ch).delay.isNone = true) := by
    rintro (off | unknown)
    · exact off ((placed_engine only).trans active)
    · rw [only.chan] at unknown
      exact absurd (Option.isNone_iff_eq_none.mp unknown) (Option.isSome_iff_ne_none.mp known)
  unfold sentAtPosition
  rw [if_pos low, if_neg fine, only.bearing.inSplit, show inSplit (s.atTime t) = false from whole]
  rfl

omit active in
theorem sendExclusive_ready {y : State} {ok : Bool} {e : SchedEntry} {f : BusFrame} (entry : schedAt y ch b.val p.val = e)
    (ours : ownsEntry y ch e = true) (ready : readyFor y ch e = some f) (vital : f.ftype ≠ 4) (single : e.pair = false) :
    sendExclusive y ch b.val p.val ok =
      if guardianCuts (rateOn y ch) f.body.length e.span then modBus y ch fun x => { x with cuts := x.cuts + 1 }
      else sendBus y ch b.val p.val f := by
  unfold sendExclusive
  rw [entry]
  dsimp only
  rw [if_pos ours, ready]
  dsimp only
  rw [if_neg vital, single]
  rfl

/-- The down frame of a multi-partner. -/
theorem downFrame_exclusive {e : SchedEntry} (entry : schedAt s ch b.val p.val = e) (low : p.val < 160) (kind : e.kind = 2)
    (single : e.pair = false) (node : e.node = nodeOn s ch) (whole : inSplit s = false) (known : (chanBus s ch).delay.isSome = true)
    (speaks : sessionSilent s = false) (ready : tget [] s.bus.telegrams (512 + e.peer) ≠ []) :
    (guardianCuts (rateOn s ch) (tget [] s.bus.telegrams (512 + e.peer)).length e.span = false →
        Answers (.transmitPosition t ch b p ⟨back, []⟩) s fun s' =>
          (∃ f, s'.out = s.out ++ [.busFrame ch f] ∧ f.ftype = 3 ∧ f.body = tget [] s.bus.telegrams (512 + e.peer) ∧
            f.pos = p.val ∧ f.bcyc = b.val ∧ f.crc = u32 (busCrc f)) ∧ Frame [.now, .bus, .out] s s') ∧
      (guardianCuts (rateOn s ch) (tget [] s.bus.telegrams (512 + e.peer)).length e.span = true →
        Answers (.transmitPosition t ch b p ⟨back, []⟩) s fun s' =>
          s'.out = s.out ∧ (chanBus s' ch).cuts = (chanBus s ch).cuts + 1 ∧ Frame [.now, .bus] s s') := by
  have only := placed_only (s.atTime t) ch b.val p.val
  have telegrams : (placed ch b.val p.val [] (s.atTime t)).bus.telegrams = s.bus.telegrams := by
    unfold placed
    rw [takeOffered_none]
    exact modPort_telegrams _ _ _
  have eq := positioned_exclusive (t := t) (b := b) (back := back) active low whole known
  generalize placed ch b.val p.val [] (s.atTime t) = y at only telegrams eq
  have twin : y.twin = s.twin := only.frame .twin (by decide)
  rw [sendExclusive_ready ((only.bearing.schedAt ch b.val p.val).trans entry)
    ((ownsEntry_congr only.bearing twin e).trans (ownsEntry_single single node))
    (readyFor_down kind ((sessionSilent_congr only.bearing (congrArg TwinSt.role twin)).trans speaks) (by rw [telegrams]; exact ready)) (show 3 ≠ 4 by decide) single,
    telegrams, only.bearing.rateOn] at eq
  change _ = if guardianCuts (rateOn s ch) (tget [] s.bus.telegrams (512 + e.peer)).length e.span then _ else _ at eq
  refine ⟨fun fits => ?_, fun cuts => ?_⟩
  · rw [if_neg (Bool.eq_false_iff.mp fits)] at eq
    have sent := sendBus_sent y ch b.val p.val (ownFrame 3 (tget [] s.bus.telegrams (512 + e.peer)))
    have frame : Frame [.bus, .out] (s.atTime t) _ := (only.frame.mono (by decide)).trans sent.frame
    refine answers_still (transmitPosition_eq t s ch b p ⟨back, []⟩) (by rw [eq]; exact frame) (by decide) ?_
    rw [eq]
    obtain ⟨ftype, -, pos, bcyc, -, crc⟩ := dress_heading y ch b.val p.val (ownFrame 3 (tget [] s.bus.telegrams (512 + e.peer)))
    refine ⟨⟨_, ?_, ftype, dress_body (show 3 ≠ 5 by decide) _ _ _ _, pos, bcyc, crc⟩, frame_with_now (l := [.bus, .out]) frame⟩
    rw [sent.out, show y.out = s.out from only.frame .out (by decide)]
  · rw [if_pos cuts] at eq
    have frame : Frame [.bus] (s.atTime t) _ := only.frame.trans (modBus_frame y ch fun x => { x with cuts := x.cuts + 1 })
    refine answers_still (transmitPosition_eq t s ch b p ⟨back, []⟩) (by rw [eq]; exact frame) (by decide) ?_
    rw [eq]
    refine ⟨frame .out (by decide), ?_, frame_with_now (l := [.bus]) frame⟩
    rw [chanBus_modBus, only.chan]
    rfl

/-! ### The sync position (R229, R233) -/

omit active in
theorem sentAtPosition_sync (y : State) (c : Chan) (b : Nat) (back : Option Nat) :
    sentAtPosition c b 160 back y = sendSync y c b back := by
  unfold sentAtPosition
  rw [if_neg (by decide), if_pos rfl]

/-- The master's own sync frame, and its readback. -/
theorem syncFrame_sent (sync : p.val = 160) (master : isMaster s ch = true) (known : (chanBus s ch).delay.isSome = true)
    (near : (back.all fun n => decide (n / 2 ≤ dmaxNs s)) = true) : Answers (.transmitPosition t ch b p ⟨back, []⟩) s fun s' =>
      (∃ f, s'.out = s.out ++ [.busFrame ch f] ∧ f.ftype = 0 ∧ f.node = nodeOn s ch ∧ f.pos = 160 ∧ f.bcyc = b.val ∧
        f.matrix = (port s ch).matrix ∧ f.crc = u32 (busCrc f) ∧ f.body = leBytes 8 (clusterTime (s.atTime t) ch) ++ List.replicate 8 0) ∧
        (chanBus s' ch).sent = (chanBus s ch).sent + 1 ∧
        (chanBus s' ch).delay = (if back.isSome then back.map fun n => n / 2 else (chanBus s ch).delay) ∧
        (port s' ch).ownSync = ((port s ch).ownSync || back.isSome) ∧ Frame [.now, .bus, .out] s s' := by
  have only := placed_only (s.atTime t) ch b.val 160
  obtain ⟨n, m, place⟩ := placeAt_kept (s.atTime t) b.val 160 (port s ch)
  have port_ := only.port
  rw [show port (s.atTime t) ch = port s ch from rfl, place] at port_
  have eq : positioned ch b.val p.val ⟨back, []⟩ (s.atTime t) = sendSync (placed ch b.val 160 [] (s.atTime t)) ch b.val back := by
    rw [positioned_active (s := s.atTime t) active, sync]
    exact sentAtPosition_sync _ _ _ _
  have leads := placed_isMaster only
  generalize placed ch b.val 160 [] (s.atTime t) = y at only port_ eq leads
  have sent := sendBus_sent y ch b.val 160 (syncBody y ch)
  have time : clusterTime y ch = clusterTime (s.atTime t) ch := clusterTime_congr only.bearing (by rw [port_]; rfl)
  unfold sendSync at eq
  rw [if_pos ⟨leads.trans master, by rw [only.chan]; exact known⟩] at eq
  dsimp only at eq
  have shown (z : State) (outs : z.out = (sendBus y ch b.val 160 (syncBody y ch)).out) :
      ∃ f, z.out = s.out ++ [.busFrame ch f] ∧ f.ftype = 0 ∧ f.node = nodeOn s ch ∧ f.pos = 160 ∧ f.bcyc = b.val ∧
        f.matrix = (port s ch).matrix ∧ f.crc = u32 (busCrc f) ∧
        f.body = leBytes 8 (clusterTime (s.atTime t) ch) ++ List.replicate 8 0 := by
    obtain ⟨ftype, node, pos, bcyc, matrix, crc⟩ := dress_heading y ch b.val 160 (syncBody y ch)
    refine ⟨_, by rw [outs, sent.out, show y.out = s.out from only.frame .out (by decide)], ftype, node.trans (only.bearing.nodeOn ch), pos,
      bcyc, matrix.trans (by rw [port_]), crc, ?_⟩
    rw [dress_body (show 0 ≠ 5 by decide), ← time]
    rfl
  have frame : Frame [.bus, .out] (s.atTime t) (sendBus y ch b.val 160 (syncBody y ch)) := (only.frame.mono (by decide)).trans sent.frame
  obtain ⟨busy, chan⟩ := sent.chan
  rw [only.chan] at chan
  cases back with
  | none =>
    refine answers_still (transmitPosition_eq t s ch b p ⟨none, []⟩) (by rw [eq]; exact frame) (by decide) ?_
    rw [eq]
    refine ⟨shown _ rfl, ?_, ?_, ?_, frame_with_now (l := [.bus, .out]) frame⟩
    · exact (congrArg ChanSt.sent chan).trans rfl
    · exact (congrArg ChanSt.delay chan).trans rfl
    · refine (congrArg PortSt.ownSync ((sent.port ch).trans port_)).trans ?_
      exact (Bool.or_false _).symm
  | some trip =>
    have delays := masterDelay_known (s := sendBus y ch b.val 160 (syncBody y ch)) (c := ch) (read := fun _ => some trip) (by
      rw [sent.bearing.dmaxNs, only.bearing.dmaxNs]
      exact near)
    rw [delays, if_pos (by rfl)] at eq
    have marked := modPort_only (modBus (sendBus y ch b.val 160 (syncBody y ch)) ch (delayKnown (fun _ => some trip) ch)) ch fun p =>
      { p with ownSync := true }
    have whole := frame.trans (((modBus_frame _ _ _).trans marked.frame).mono (by decide))
    refine answers_still (transmitPosition_eq t s ch b p ⟨some trip, []⟩) (by rw [eq]; exact whole) (by decide) ?_
    rw [eq]
    refine ⟨shown _ (marked.frame .out (by decide)), ?_, ?_, ?_, frame_with_now (l := [.bus, .out]) whole⟩
    · rw [marked.chan, chanBus_modBus, delayKnown, chan]
      rfl
    · rw [marked.chan, chanBus_modBus, delayKnown]
      rfl
    · rw [marked.port]
      exact (Bool.or_true _).symm

/-- A node that cannot send the sync frame takes what has been handed over, and sends nothing. -/
theorem sync_silent {l : List (List Byte)} (sync : p.val = 160) (silent : isMaster s ch = false ∨ (chanBus s ch).delay = none) :
    Answers (.transmitPosition t ch b p ⟨back, l⟩) s fun s' =>
      s'.out = s.out ∧ (inSplit s = false → (chanBus s' .a).queue.length + (chanBus s' .b).queue.length =
        (chanBus s .a).queue.length + (chanBus s .b).queue.length + l.length) ∧ Frame [.now, .bus] s s' := by
  have eq : positioned ch b.val p.val ⟨back, l⟩ (s.atTime t) = sendSync (placed ch b.val 160 l (s.atTime t)) ch b.val back := by
    rw [positioned_active (s := s.atTime t) active, sync]
    exact sentAtPosition_sync _ _ _ _
  obtain ⟨n, taken, all⟩ := takeOffered_taken (s.atTime t) l
  unfold placed at eq
  generalize takeOffered (s.atTime t) l = y at taken eq
  have only := modPort_only y ch (placeAt (s.atTime t) b.val 160)
  obtain ⟨i, j, place⟩ := placeAt_kept (s.atTime t) b.val 160 (port y ch)
  have leads : isMaster (modPort y ch (placeAt (s.atTime t) b.val 160)) ch = isMaster s ch := by
    unfold isMaster engineOn masterOn
    rw [only.bearing.nodeOn, taken.bearing.nodeOn, only.port, place, taken.port]
    rfl
  have delay : (chanBus (modPort y ch (placeAt (s.atTime t) b.val 160)) ch).delay = (chanBus s ch).delay := by
    rw [only.chan]
    exact taken.delay ch
  generalize modPort y ch (placeAt (s.atTime t) b.val 160) = z at only leads delay eq
  unfold sendSync at eq
  rw [if_neg (by
    rw [leads, delay]
    rintro ⟨master, known⟩
    obtain follows | unknown := silent
    · exact Bool.false_ne_true (follows.symm.trans master)
    · exact absurd unknown (Option.isSome_iff_ne_none.mp known))] at eq
  have frame : Frame [.bus] (s.atTime t) z := taken.frame.trans only.frame
  refine answers_still (transmitPosition_eq t s ch b p ⟨back, l⟩) (by rw [eq]; exact frame) (by decide) ?_
  rw [eq]
  refine ⟨frame .out (by decide), fun whole => ?_, frame_with_now (l := [.bus]) frame⟩
  rw [only.chan, only.chan, taken.lengths, all whole]
  rfl

/-! ### The arbitrating span (R238 to R240) -/

omit active in
theorem sentAtPosition_arbitrate {y : State} {c : Chan} {b p : Nat} (high : 161 ≤ p) (on : engineOn y c = 5) :
    sentAtPosition c b p back y = arbitrate y c b p back := by
  unfold sentAtPosition arbitratingTop
  rw [if_neg (by omega), if_neg (by omega), on]
  rfl

omit active in
theorem arbitrate_known {y : State} {c : Chan} {b p : Nat} (known : (chanBus y c).delay.isSome = true) : arbitrate y c b p back =
    if 0 < (chanBus y c).tries then modBus y c fun x => { x with backoff := x.backoff - 1 }
    else match nextArbitrating y c with
      | some f => if arbitratingFits y c p f.body.length then sendArbitrating y c b p f back else y
      | none => y := by
  have asks : ((chanBus y c).delay.isNone && (chanBus y c).asked.isNone && (chanBus y c).queue.all fun q => q.frame.ftype != 5) = false := by
    rw [Option.isNone_eq_false_iff.mpr known]
    rfl
  unfold arbitrate
  dsimp only
  rw [asks]
  rfl

/-- A collided frame waits: each position of the span is one step of its back-off. -/
theorem backoff_counts (high : 161 ≤ p.val) (waits : 0 < (chanBus s ch).tries) (known : (chanBus s ch).delay.isSome = true) :
    Answers (.transmitPosition t ch b p ⟨back, []⟩) s fun s' =>
      s'.out = s.out ∧ (chanBus s' ch).backoff = (chanBus s ch).backoff - 1 ∧ Frame [.now, .bus] s s' := by
  have only := placed_only (s.atTime t) ch b.val p.val
  have eq := positioned_active (s := s.atTime t) (c := ch) (b := b.val) (p := p.val) (x := ⟨back, []⟩) active
  dsimp only at eq
  generalize placed ch b.val p.val [] (s.atTime t) = y at only eq
  rw [sentAtPosition_arbitrate high ((placed_engine only).trans active), arbitrate_known (by rw [only.chan]; exact known),
    if_pos (by rw [only.chan]; exact waits)] at eq
  have frame : Frame [.bus] (s.atTime t) _ := only.frame.trans (modBus_frame y ch fun x => { x with backoff := x.backoff - 1 })
  refine answers_still (transmitPosition_eq t s ch b p ⟨back, []⟩) (by rw [eq]; exact frame) (by decide) ?_
  rw [eq]
  refine ⟨frame .out (by decide), ?_, frame_with_now (l := [.bus]) frame⟩
  rw [chanBus_modBus, only.chan]
  rfl

/-- ARBITRATION_RETRY. -/
def retried (c : Chan) (b p : Nat) (back : Option Nat) (s : State) : State :=
  match if 0 < (chanBus s c).tries ∧ (chanBus s c).backoff = 0 then nextArbitrating s c else none with
  | some f => if arbitratingFits s c p f.body.length then sendArbitrating s c b p f back else s
  | none => s

omit active in
theorem arbitrationRetry_eq : exec (.arbitrationRetry t ch b p back) s = at_ t s (retried ch b.val p.val back) := rfl

omit active in
theorem retry_waits (waits : 0 < (chanBus s ch).backoff) : Runs (.arbitrationRetry t ch b p back) s (s.atTime t) := by
  refine runs_idle arbitrationRetry_eq ?_
  unfold retried
  rw [if_neg fun due => absurd due.2 (Nat.ne_of_gt waits)]

/-- Either command, when a frame may go, sends it from a state that differs in where the port stands. -/
theorem sends_next {f : BusFrame} (next : nextArbitrating s ch = some f) (fits : arbitratingFits s ch p.val f.body.length = true)
    (known : (chanBus s ch).delay.isSome = true) {c : Instr}
    (h : (c = Instr.transmitPosition t ch b p ⟨back, []⟩ ∧ (chanBus s ch).tries = 0) ∨
      (c = Instr.arbitrationRetry t ch b p back ∧ 0 < (chanBus s ch).tries ∧ (chanBus s ch).backoff = 0)) :
    ∃ g y, exec c s = at_ t s g ∧ Frame [.bus] (s.atTime t) y ∧ chanBus y ch = chanBus s ch ∧ y.bus.matrix = s.bus.matrix ∧
      g (s.atTime t) = sendArbitrating y ch b.val p.val f back := by
  obtain ⟨rfl, first⟩ | ⟨rfl, again, due⟩ := h
  · have high : 161 ≤ p.val := by
      unfold arbitratingFits at fits
      simp only [Bool.and_eq_true, decide_eq_true_eq] at fits
      exact fits.1
    have only := placed_only (s.atTime t) ch b.val p.val
    have matrix := placed_matrix (s.atTime t) ch b.val p.val
    have eq := positioned_active (s := s.atTime t) (c := ch) (b := b.val) (p := p.val) (x := ⟨back, []⟩) active
    dsimp only at eq
    generalize placed ch b.val p.val [] (s.atTime t) = y at only matrix eq
    have engine := placed_engine only
    rw [sentAtPosition_arbitrate high (engine.trans active), arbitrate_known (by rw [only.chan]; exact known),
      if_neg (by rw [only.chan]; exact Nat.not_lt.mpr (Nat.le_of_eq first)),
      nextArbitrating_congr only.bearing (only.frame .twin (by decide)) engine (only.chan ch)] at eq
    rw [show nextArbitrating (s.atTime t) ch = some f from next] at eq
    dsimp only at eq
    rw [arbitratingFits_congr only.bearing engine, if_pos (show arbitratingFits (s.atTime t) ch p.val f.body.length = true from fits)] at eq
    exact ⟨_, y, transmitPosition_eq t s ch b p ⟨back, []⟩, only.frame, only.chan ch, matrix, eq⟩
  · refine ⟨_, s.atTime t, arbitrationRetry_eq, .refl _ _, rfl, rfl, ?_⟩
    unfold retried
    rw [if_pos ⟨again, due⟩, show nextArbitrating (s.atTime t) ch = some f from next]
    exact if_pos fits

omit active in
theorem draw_frame (s : State) : Frame [.draws] s (draw s) := fun q hq => by cases q <;> simp [same, draw] at hq ⊢

omit active in
/-- No frame but an ACCEPT is stamped with its slot's matrix. -/
theorem acceptSlot_none {f : BusFrame} (h : f.ftype ≠ 7) : acceptSlot f = none := if_neg fun accept => h accept.1

omit active in
theorem stampAccept_plain {y : State} {n m : Nat} {f : BusFrame} {ok : Bool} (h : f.ftype ≠ 7) : stampAccept y n m f ok = (y, f) := by
  unfold stampAccept
  rw [acceptSlot_none h]

omit active in
theorem sendArbitrating_clean {y w : State} {c : Chan} {n m trip : Nat} {f g : BusFrame} (h : stampAccept y n m f true = (w, g)) :
    sendArbitrating y c n m f (some trip) = sentClean (sendBus w c n m g) c f trip := by
  unfold sendArbitrating
  rw [show (some trip).isSome = true from rfl, h]

/-- A channel whose frame has just collided. -/
def collided (n : Nat) (x : ChanSt) : ChanSt := { x with collisions := x.collisions + 1, tries := n }

omit active in
theorem sendArbitrating_collided {y : State} {c : Chan} {n m : Nat} {f : BusFrame} (h : f.ftype ≠ 7) :
    sendArbitrating y c n m f none =
      let z := sendBus y c n m f
      let d := modBus z c (collided ((chanBus z c).tries + 1))
      if 16 ≤ (chanBus z c).tries + 1 then dropFrame d c f
      else modBus (draw d) c fun x => { x with backoff := backoffDraw d c % 2 ^ min ((chanBus z c).tries + 1) 6 } := by
  unfold sendArbitrating
  rw [stampAccept_plain h]
  rfl

omit active in
theorem sentClean_plain {y : State} {c : Chan} {trip : Nat} {f : BusFrame} (h : f.ftype ≠ 5) : ∃ wait, sentClean y c f trip =
    modBus (dropSent y c f) c fun x => { x with tries := 0, backoff := 0, waitSum := x.waitSum + wait, waits := x.waits + 1 } :=
  ⟨_, if_pos h⟩

/-- What an attempt to send the next frame of the queue leads to. -/
theorem arbitrates {f : BusFrame} (next : nextArbitrating s ch = some f) (open_ : f.ftype ≠ 7) (asks : f.ftype ≠ 5)
    (fits : arbitratingFits s ch p.val f.body.length = true) (known : (chanBus s ch).delay.isSome = true) {c : Instr}
    (h : (c = Instr.transmitPosition t ch b p ⟨back, []⟩ ∧ (chanBus s ch).tries = 0) ∨
      (c = Instr.arbitrationRetry t ch b p back ∧ 0 < (chanBus s ch).tries ∧ (chanBus s ch).backoff = 0)) :
    (back.isSome = true → Answers c s fun s' =>
        (chanBus s' ch).queue = (chanBus s ch).queue.eraseP (fun q => q.frame == f) ∧ (chanBus s' ch).tries = 0 ∧
          (chanBus s' ch).sent = (chanBus s ch).sent + 1 ∧ s'.out.length = s.out.length + 1 ∧ Frame [.now, .bus, .out] s s') ∧
      (back = none → (chanBus s ch).tries < 15 → Answers c s fun s' =>
        (chanBus s' ch).queue = (chanBus s ch).queue ∧ (chanBus s' ch).tries = (chanBus s ch).tries + 1 ∧
          (chanBus s' ch).backoff < 2 ^ min ((chanBus s ch).tries + 1) 6 ∧
          (chanBus s' ch).collisions = (chanBus s ch).collisions + 1 ∧ Frame [.now, .bus, .out, .draws] s s') ∧
      (back = none → (chanBus s ch).tries = 15 → Answers c s fun s' =>
        (chanBus s' ch).queue = (chanBus s ch).queue.eraseP (fun q => q.frame == f) ∧ (chanBus s' ch).tries = 0 ∧
          (chanBus s' ch).drops = (chanBus s ch).drops + 1 ∧ Frame [.now, .bus, .out] s s') := by
  obtain ⟨g, y, hc, placed, chan, -, eq⟩ := sends_next active next fits known h
  have sent := sendBus_sent y ch b.val p.val f
  have sends (trip : Nat) := sendArbitrating_clean (c := ch) (trip := trip) (stampAccept_plain (y := y) (n := b.val) (m := p.val) open_)
  have collides := sendArbitrating_collided (y := y) (c := ch) (n := b.val) (m := p.val) open_
  generalize sendBus y ch b.val p.val f = z at sent sends collides
  obtain ⟨busy, wire⟩ := sent.chan
  rw [chan] at wire
  have tries : (chanBus z ch).tries = (chanBus s ch).tries := (congrArg ChanSt.tries wire).trans rfl
  have frame : Frame [.bus, .out] (s.atTime t) z := (placed.mono (by decide)).trans sent.frame
  refine ⟨fun clean => ?_, fun lost few => ?_, fun lost last => ?_⟩
  · obtain ⟨trip, rfl⟩ := Option.isSome_iff_exists.mp clean
    obtain ⟨wait, done⟩ := sentClean_plain (y := z) (c := ch) (trip := trip) asks
    unfold dropSent at done
    rw [sends, done, modBus_modBus] at eq
    have whole : Frame [.bus, .out] (s.atTime t) (g (s.atTime t)) := by
      rw [eq]
      exact frame.trans ((modBus_frame _ _ _).mono (by decide))
    refine answers_still hc whole (by decide) ?_
    have out : (g (s.atTime t)).out.length = s.out.length + 1 := by
      rw [eq, show (modBus z ch _).out = z.out from rfl, sent.out, List.length_append, placed .out (by decide)]
      rfl
    rw [eq] at whole out
    rw [eq]
    refine ⟨?_, ?_, ?_, ?_, frame_with_now (l := [.bus, .out]) whole⟩
    · rw [chanBus_modBus, wire]
    · rw [chanBus_modBus]
    · rw [chanBus_modBus, wire]
    · exact out
  · subst lost
    rw [collides] at eq
    dsimp only at eq
    rw [if_neg (by rw [tries]; omega), tries] at eq
    generalize hd : modBus z ch (collided ((chanBus s ch).tries + 1)) = d at eq
    have counted : Frame [.bus] z d := hd ▸ modBus_frame _ _ _
    have drawn : Frame [.bus, .out, .draws] (s.atTime t) (g (s.atTime t)) := by
      rw [eq]
      exact (frame.mono (by decide)).trans ((counted.mono (by decide)).trans
        (((draw_frame d).mono (by decide)).trans ((modBus_frame _ _ _).mono (by decide))))
    have last : chanBus (g (s.atTime t)) ch = { chanBus z ch with
        collisions := (chanBus z ch).collisions + 1, tries := (chanBus s ch).tries + 1
        backoff := backoffDraw d ch % 2 ^ min ((chanBus s ch).tries + 1) 6 } := by
      rw [eq, chanBus_modBus, show chanBus (draw d) ch = chanBus d ch from rfl, ← hd, chanBus_modBus]
      rfl
    refine answers_still hc drawn (by decide) ?_
    rw [last, wire]
    exact ⟨rfl, rfl, Nat.mod_lt _ (Nat.two_pow_pos _), rfl, frame_with_now (l := [.bus, .out, .draws]) drawn⟩
  · subst lost
    rw [collides] at eq
    dsimp only at eq
    rw [if_pos (by rw [tries]; omega), dropFrame, dropSent, modBus_modBus, modBus_modBus, acceptSlot_none open_] at eq
    have whole : Frame [.bus, .out] (s.atTime t) (g (s.atTime t)) := by
      rw [eq]
      exact frame.trans ((modBus_frame _ _ _).mono (by decide))
    refine answers_still hc whole (by decide) ?_
    rw [eq] at whole
    rw [eq]
    refine ⟨?_, ?_, ?_, frame_with_now (l := [.bus, .out]) whole⟩
    · dsimp only
      rw [chanBus_modBus, wire]
      rfl
    · dsimp only
      rw [chanBus_modBus]
    · dsimp only
      rw [chanBus_modBus, wire]
      rfl

/-! ### The guardian (R242) -/

/-- GUARDIAN_SUPPRESSION. -/
def suppressed (c : Chan) (b p : Nat) (s : State) : State :=
  if engineOn s c = 0 then s else
  raise (if 2 ≤ engineOn s c ∧ engineOn s c ≤ 5 then setEngine s c 6 else s) 84 (u32 p) (u32 b) (u32 (chanNo c))

omit active in
theorem guardianSuppression_eq : exec (.guardianSuppression t ch b p) s = at_ t s (suppressed ch b.val p.val) := rfl

theorem guardian_turnsPassive (quiet : Quiet s 84) : Answers (.guardianSuppression t ch b p) s fun s' =>
    engineOn s' ch = 6 ∧ Raised s s' 84 (u32 p.val) (u32 b.val) (u32 (chanNo ch)) ∧ Frame [.now, .bus, .constable] s s' := by
  have only := setEngine_only (s.atTime t) ch 6
  have constable : (setEngine (s.atTime t) ch 6).constable = s.constable := only.frame .constable (by decide)
  have eq : suppressed ch b.val p.val (s.atTime t) =
      recordRaise (setEngine (s.atTime t) ch 6) 84 false (u32 p.val) (u32 b.val) (u32 (chanNo ch)) := by
    unfold suppressed
    rw [show engineOn (s.atTime t) ch = 5 from active]
    rw [if_neg (by decide), if_pos (by decide)]
    refine raise_minor ?_ (by decide) _ _ _
    unfold Quiet at quiet ⊢
    rw [source_of_constable constable]
    exact quiet
  have recorded := recordRaise_frame (setEngine (s.atTime t) ch 6) 84 false (u32 p.val) (u32 b.val) (u32 (chanNo ch))
  have whole : Frame [.bus, .constable] (s.atTime t) _ := (only.frame.mono (by decide)).trans (recorded.mono (by decide))
  refine answers_still guardianSuppression_eq (by rw [eq]; exact whole) (by decide) ?_
  rw [eq]
  refine ⟨?_, raised_recordRaise (source_of_constable constable 84) _ _ _, frame_with_now (l := [.bus, .constable]) whole⟩
  have bus := recorded .bus (by decide)
  have modes := recorded .modes (by decide)
  have which : port (recordRaise (setEngine (s.atTime t) ch 6) 84 false (u32 p.val) (u32 b.val) (u32 (chanNo ch))) ch =
      port (setEngine (s.atTime t) ch 6) ch := by
    unfold port portOf inSplit
    rw [bus, modes]
  rw [engineOn, which, only.port]

end

/-- Settles O42: every command reaches its position, or its retry, and then sends, cuts or waits. That the time master takes its delay and its
valid sync from its own readback is log entry 124; that handed-over bodies join one channel's queue is log entry 125. -/
theorem positionsAreSentByTheSchedule : Obligations.PositionsAreSentByTheSchedule := by
  intro t s ch b p back l active
  refine ⟨fun low other => silentElsewhere active low other, ?_, ?_, ?_, ?_, ?_, fun waits => retry_waits waits,
    fun quiet => guardian_turnsPassive active quiet⟩
  · intro e entry low kind single node whole known speaks ready
    exact downFrame_exclusive active entry low kind single node whole known speaks ready
  · exact fun sync master known near => syncFrame_sent active sync master known near
  · exact fun sync silent => sync_silent active sync silent
  · exact fun f next open_ asks fits known c h => arbitrates active next open_ asks fits known h
  · exact fun high waits known => backoff_counts active high waits known

end Sys2Proof.Machine
end

section
/-!
PROOFS. Vital telegrams, and the sessions at a matrix boundary (O44).
-/

namespace Sys2Proof.Machine

/-! ### The two copies (R246, R253) -/

/-- What a telegram is judged by, once both copies are taken. -/
def combined (wrong : List Lane) : State × Option BusFrame → State
  | (s1, some f) =>
    match telegramSlot s1 f with
    | some k => judgeTelegram s1 k f.body wrong
    | none => s1
  | (s1, none) => s1

/-- VITAL_TELEGRAM. -/
def telegramTaken (fa fb : Option BusFrame) (wrong : List Lane) (s : State) : State :=
  if s.bus.engine = 0 ∨ inSplit s then s else
  let a := takeCopy s .a fa
  let b := takeCopy a.1 .b fb
  if s.bus.engine ≠ 5 then b.1 else combined wrong (combineCopies b.1 (scheduledHere s fa fb) a.2 b.2)

theorem vitalTelegram_eq (t : Time) (s : State) (fa fb : Option BusFrame) (l : List Lane) :
    exec (.vitalTelegram t fa fb l) s = at_ t s (telegramTaken fa fb l) := rfl

/-- What the taking of telegrams leaves: the bus but for its channels, and every source but the two of the lost channels. -/
structure Copied (s r : State) : Prop where
  frame : Frame [.bus, .twin, .constable] s r
  bearing : Bearing s r
  bus : ∃ ch q, r.bus = { s.bus with ch := ch, peerSeen := q }
  role : r.twin.role = s.twin.role
  source : ∀ n, n ≠ 80 → n ≠ 81 → source r n = source s n

theorem Heard.copied {s r : State} {f : BusFrame} (h : Heard s r f) : Copied s r := by
  obtain ⟨n, q, bus⟩ := h.bus
  exact ⟨h.frame, h.bearing, ⟨_, q, bus⟩, h.role, fun m first second => h.source m (by cases f.chan <;> assumption)⟩

theorem Copied.trans {s x r : State} (h : Copied s x) (h' : Copied x r) : Copied s r := by
  obtain ⟨ch, q, bus⟩ := h.bus
  obtain ⟨ch', q', bus'⟩ := h'.bus
  exact ⟨h.frame.trans h'.frame, h.bearing.trans h'.bearing, ⟨ch', q', by rw [bus', bus]⟩, h'.role.trans h.role,
    fun n first second => (h'.source n first second).trans (h.source n first second)⟩

theorem takeCopy_valid {s : State} {x : BusFrame} (vital : x.ftype = 2) (cross : crossRuns s (6 + chanNo x.chan) = true)
    (link : linkBad s x = false) (sched : x.sched = ownSched s) (timely : Timely s x) (entry : (telegramEntry s x).isSome = true) :
    ∃ r, takeCopy s x.chan (some x) = (r, some x) ∧ Heard s r x := by
  obtain ⟨r, got, heard⟩ := receive_valid (timed := true) link sched fun _ => timely
  refine ⟨r, ?_, heard⟩
  have fine : ¬ (x.chan ≠ x.chan ∨ x.ftype ≠ 2 ∨ crossRuns s (6 + chanNo x.chan) = false) := by
    rintro (other | other | stopped)
    · exact other rfl
    · exact other vital
    · exact Bool.false_ne_true (stopped.symm.trans cross)
  unfold takeCopy
  dsimp only
  rw [if_neg fine, got, if_pos entry]

theorem telegramEntry_congr {s r : State} (bearing : Bearing s r) (f : BusFrame) : telegramEntry r f = telegramEntry s f := by
  unfold telegramEntry zoneNodes pairedZone header?
  rw [bearing.schedAt, bearing.cluster?, bearing.station, bearing.node]

theorem sessType_congr {s r : State} (station : r.station = s.station) (y : Sess) : sessType r y = sessType s y := by
  unfold sessType partner?
  rw [station]

theorem telegramSlot_congr {s r : State} (bearing : Bearing s r) (sessions : r.sessions = s.sessions) (f : BusFrame) :
    telegramSlot r f = telegramSlot s f := by
  unfold telegramSlot slotsInUse
  rw [telegramEntry_congr bearing, sessions]
  simp only [sessType_congr bearing.station]

/-- Two copies that the node takes. -/
structure Copies (s : State) (f g : BusFrame) : Prop where
  first : f.chan = .a
  second : g.chan = .b
  vital : f.ftype = 2 ∧ g.ftype = 2
  link : linkBad s f = false ∧ linkBad s g = false
  sched : f.sched = ownSched s ∧ g.sched = ownSched s
  timely : Timely s f ∧ Timely s g
  cross : crossRuns s 6 = true ∧ crossRuns s 7 = true
  entry : (telegramEntry s f).isSome = true ∧ (telegramEntry s g).isSome = true

theorem timely_heard {s r : State} {f g : BusFrame} (heard : Heard s r f) (other : g.chan ≠ f.chan) (timely : Timely s g) : Timely r g := by
  unfold Timely expects hasTime engineOn at timely ⊢
  rw [heard.port, heard.others other]
  exact timely

theorem takeCopies {s : State} {f g : BusFrame} (h : Copies s f g) :
    ∃ x r, takeCopy s .a (some f) = (x, some f) ∧ takeCopy x .b (some g) = (r, some g) ∧ Copied s r := by
  obtain ⟨first, second, ⟨vital, vital'⟩, ⟨link, link'⟩, ⟨sched, sched'⟩, ⟨timely, timely'⟩, ⟨cross, cross'⟩, ⟨entry, entry'⟩⟩ := h
  obtain ⟨x, took, heard⟩ := takeCopy_valid vital (by rw [first]; exact cross) link sched timely entry
  have crossing : crossRuns x (6 + chanNo g.chan) = true := by
    unfold crossRuns at cross' ⊢
    rw [heard.frame .stiles (by decide), second]
    exact cross'
  obtain ⟨r, took', heard'⟩ := takeCopy_valid vital' crossing (by rw [heard.bearing.linkBad]; exact link')
    (by rw [heard.bearing.ownSched]; exact sched') (timely_heard heard (by rw [first, second]; decide) timely')
    (by rw [telegramEntry_congr heard.bearing]; exact entry')
  rw [first] at took
  rw [second] at took'
  exact ⟨x, r, took, took', heard.copied.trans heard'.copied⟩

theorem telegramTaken_copies {s : State} {f g : BusFrame} (active : s.bus.engine = 5) (whole : inSplit s = false) (h : Copies s f g)
    (wrong : List Lane) : ∃ r, Copied s r ∧ telegramTaken (some f) (some g) wrong s =
      combined wrong (combineCopies r (scheduledHere s (some f) (some g)) (some f) (some g)) := by
  obtain ⟨x, r, took, took', copied⟩ := takeCopies h
  refine ⟨r, copied, ?_⟩
  unfold telegramTaken
  rw [if_neg (by rw [active, whole]; simp)]
  dsimp only
  rw [took]
  dsimp only
  rw [took', if_neg (not_not_intro active)]

theorem combineCopies_differ (s : State) (ours : Bool) {f g : BusFrame} (h : f.body ≠ g.body) : combineCopies s ours (some f) (some g) =
    (raise { s with bus := { s.bus with mismatched := s.bus.mismatched + 1 } } 85 (u32 f.node) (u32 f.pos) (u32 g.pos), none) :=
  if_neg h

theorem combineCopies_agree (s : State) (ours : Bool) {f g : BusFrame} (h : f.body = g.body) :
    combineCopies s ours (some f) (some g) = ({ s with bus := { s.bus with both := s.bus.both + 1 } }, some f) := if_pos h

/-! ### Exits -/

/-- An exit after which the role and who votes are as they were. -/
theorem answers_voting {c : Instr} {t : Time} {s : State} {l : List Part} {f : State → State} {P : State → Prop}
    (hc : exec c s = at_ t s f) (hf : Frame l (s.atTime t) (f (s.atTime t)))
    (hl : ([Part.pending, .modes, .update, .change].all fun p => !l.contains p) = true)
    (role : (f (s.atTime t)).twin.role = s.twin.role) (voting : voters (f (s.atTime t)) = voters s) (h : P (f (s.atTime t))) :
    Answers c s P := by
  have kept (p : Part) (hp : p ∈ [Part.pending, .modes, .update, .change]) : same (s.atTime t) (f (s.atTime t)) p :=
    hf p (by simpa using List.all_eq_true.mp hl p hp)
  have modes : (f (s.atTime t)).modes = s.modes := kept .modes (by decide)
  have update : (f (s.atTime t)).update = s.update := kept .update (by decide)
  have change : (f (s.atTime t)).change = s.change := kept .change (by decide)
  exact answers_plain hc (attrs_voters (by rw [modes]) (by rw [modes]) (by rw [modes]) role (by rw [update]) voting (by rw [change]))
    (kept .pending (by decide)) h

section
variable {t : Time} {s : State} {f g : BusFrame} {l : List Lane} (active : s.bus.engine = 5) (whole : inSplit s = false)
include active whole

theorem noTelegram : Runs (.vitalTelegram t none none l) s (modEngine (s.atTime t) fun b => { b with noCopy := b.noCopy + 1 }) := by
  refine runs_still (vitalTelegram_eq t s none none l) ?_ (modEngine_frame _ _) (by decide)
  unfold telegramTaken
  rw [if_neg (by rw [show (s.atTime t).bus.engine = 5 from active, show inSplit (s.atTime t) = false from whole]; simp)]
  exact if_neg (not_not_intro active)

theorem copiesDiffer (h : Copies s f g) (differ : f.body ≠ g.body) (quiet : Quiet s 85) :
    Answers (.vitalTelegram t (some f) (some g) l) s fun s' =>
      s'.bus.mismatched = s.bus.mismatched + 1 ∧ s'.sessions = s.sessions ∧ Raised s s' 85 (u32 f.node) (u32 f.pos) (u32 g.pos) := by
  obtain ⟨r, copied, eq⟩ := telegramTaken_copies (s := s.atTime t) active whole
    ⟨h.first, h.second, h.vital, h.link, h.sched, h.timely, h.cross, h.entry⟩ l
  have constable := copied.source 85 (by decide) (by decide)
  rw [combineCopies_differ _ _ differ] at eq
  change _ = raise _ 85 _ _ _ at eq
  generalize hx : ({ r with bus := { r.bus with mismatched := r.bus.mismatched + 1 } } : State) = x at eq
  have counted : Frame [.bus] r x := by
    subst hx
    exact fun p hp => by cases p <;> simp [same] at hp ⊢
  have kept : source x 85 = source s 85 := (source_of_constable (counted .constable (by decide)) 85).trans constable
  have silent : Quiet x 85 := by
    unfold Quiet at quiet ⊢
    rw [kept]
    exact quiet
  rw [raise_minor silent (by decide)] at eq
  have recorded := recordRaise_frame x 85 false (u32 f.node) (u32 f.pos) (u32 g.pos)
  have frame : Frame [.bus, .twin, .constable] (s.atTime t) _ :=
    copied.frame.trans ((counted.mono (by decide)).trans (recorded.mono (by decide)))
  have twin : (recordRaise x 85 false (u32 f.node) (u32 f.pos) (u32 g.pos)).twin = r.twin :=
    (recorded .twin (by decide)).trans (counted .twin (by decide))
  refine answers_role (vitalTelegram_eq t s (some f) (some g) l) (by rw [eq]; exact frame) (by decide)
    (by rw [eq, twin]; exact copied.role) ?_
  rw [eq]
  refine ⟨?_, frame .sessions (by decide), raised_recordRaise kept _ _ _⟩
  obtain ⟨ch, q, bus⟩ := copied.bus
  rw [recorded .bus (by decide), ← hx, bus]
  rfl

end

/-! ### The verdicts of the lanes (R275 to R277) -/

section
variable {s r : State} (station : r.station = s.station)
include station

theorem tmoOf_congr (y : Sess) : tmoOf r y = tmoOf s y := by
  unfold tmoOf policy?
  rw [sessType_congr station, station]

theorem tryCodes_congr (q : Partner) (y : Sess) (body : List Byte) : tryCodes r q y body = tryCodes s q y body := by
  have code (n : Nat) (m : List Byte) : codeOf r n m = codeOf s n m := by
    unfold codeOf sc?
    rw [station]
  have addr : addrUp r q = addrUp s q := by
    unfold addrUp ownSession sysAddr header?
    rw [station]
  unfold tryCodes
  simp only [code, addr, tmoOf_congr station]

theorem verifyTelegram_congr (q : Partner) (y : Sess) (body : List Byte) : verifyTelegram r q y body = verifyTelegram s q y body := by
  have format : formatOk r y body = formatOk s y body := by
    unfold formatOk mtypeOf scWidth sc?
    rw [sessType_congr station, station]
  unfold verifyTelegram
  rw [format, tmoOf_congr station, tryCodes_congr station]

end

/-- A telegram that passes has both its codes right. -/
theorem tryCodes_right {s : State} {q : Partner} {y : Sess} {body : List Byte} {j : Nat} (h : verifyTelegram s q y body = .ok j) :
    (tryCodes s q y body).codeA = true ∧ (tryCodes s q y body).codeB = true ∧ (tryCodes s q y body).step = some j := by
  have step : (tryCodes s q y body).step = some j := by
    unfold verifyTelegram at h
    dsimp only at h
    split at h
    · exact absurd h (by simp)
    · split at h
      · exact absurd h (by simp)
      · split at h
        · next found => rw [found, Except.ok.inj h]
        · exact absurd h (by simp)
  have found := List.find?_some step
  have tried := List.mem_of_find?_eq_some step
  rw [Bool.and_eq_true] at found
  exact ⟨List.any_eq_true.mpr ⟨j, tried, found.1⟩, List.any_eq_true.mpr ⟨j, tried, found.2⟩, step⟩

/-- Every lane that is not contrary accepts a telegram that passes. -/
theorem verdictOf_right {v : Verified} {j : Nat} (h : v.codeA = true ∧ v.codeB = true ∧ v.step = some j) (ln : Lane) :
    verdictOf v true ln = true := by
  obtain ⟨a, b, step⟩ := h
  cases ln
  · exact a
  · exact b
  · exact congrArg Option.isSome step

/-- What the noting of verdicts leaves: the Loom's check units, the lanes' records and the draws apart. -/
structure Verdicts (s r : State) : Prop where
  frame : Frame [.sessions, .lanes, .draws] s r
  sessions : ∃ u, r.sessions = { s.sessions with units := u }
  states : ∀ k, (r.lanes.get k).state = (s.lanes.get k).state

theorem Verdicts.trans {s x r : State} (h : Verdicts s x) (h' : Verdicts x r) : Verdicts s r := by
  obtain ⟨u, sessions⟩ := h.sessions
  obtain ⟨u', sessions'⟩ := h'.sessions
  exact ⟨h.frame.trans h'.frame, ⟨u', by rw [sessions', sessions]⟩, fun k => (h'.states k).trans (h.states k)⟩

theorem noteUnit_verdicts (s : State) (u k n : Nat) (wrong : Bool) : Verdicts s (noteUnit s u k n wrong) := by
  unfold noteUnit
  split
  · exact ⟨.refl _ _, ⟨s.sessions.units, rfl⟩, fun _ => rfl⟩
  · exact ⟨fun p hp => by cases p <;> simp [same] at hp ⊢, ⟨_, rfl⟩, fun _ => rfl⟩

theorem noteReceiveUnits_verdicts (s : State) (k : Nat) (v : Verified) (contrary : Bool) :
    Verdicts s (noteReceiveUnits s k v contrary) := by
  have drawn : Verdicts s (draw s) := ⟨(draw_frame s).mono (by decide), ⟨s.sessions.units, rfl⟩, fun _ => rfl⟩
  unfold noteReceiveUnits
  dsimp only
  split
  · exact (noteUnit_verdicts _ _ _ _ _).trans (noteUnit_verdicts _ _ _ _ _)
  · split
    · exact (noteUnit_verdicts _ _ _ _ _).trans (noteUnit_verdicts _ _ _ _ _)
    · exact drawn.trans ((noteUnit_verdicts _ _ _ _ _).trans (noteUnit_verdicts _ _ _ _ _))

theorem noteVerdicts_verdicts (s : State) (verdict : Lane → Bool) : Verdicts s (noteVerdicts s verdict) := by
  have one (x : State) (ln : Lane) : Verdicts x (modLane x ln fun y => { y with verdicts := y.verdicts ++ [verdict ln] }) := by
    refine ⟨(modLane_frame _ _ _).mono (by decide), ⟨x.sessions.units, rfl⟩, fun k => ?_⟩
    cases k <;> cases ln <;> rfl
  exact (one s .a).trans ((one _ .b).trans (one _ .l))

/-- The lanes of the vote that reject a telegram which passes. -/
def contrary (s : State) (l : List Lane) : List Lane := (voters s).filter fun x => l.contains x

/-- The judgement of a telegram that passes, by the lanes that reject it. -/
theorem judgeTelegram_passes {s : State} {k : Nat} {q : Partner} {body : List Byte} {l : List Lane} {j : Nat}
    (partner : (sess s k).partner.bind (partner? s) = some q) (passes : verifyTelegram s q (sess s k) body = .ok j)
    (fine : ¬ (testGiven (sess s k) body = true ∧ s.modes.mode ≠ .testTrack)) : ∃ x, Verdicts s x ∧ judgeTelegram s k body l =
      if contrary s l = [] then acceptTelegram x k j (body.take (sess s k).payload)
      else if contrary s l ≠ [] ∧ (contrary s l).length ≠ (voters s).length then
        raise (rejectTelegram x k) 92 (u32 k) (u32 (laneMap (contrary s l))) s.cyc.number
      else rejectTelegram x k := by
  have right := tryCodes_right passes
  refine ⟨noteVerdicts (noteReceiveUnits s k (tryCodes s q (sess s k) body) (l.contains .l)) fun ln => !l.contains ln,
    (noteReceiveUnits_verdicts _ _ _ _).trans (noteVerdicts_verdicts _ _), ?_⟩
  have verdict (ln : Lane) : (verdictOf (tryCodes s q (sess s k) body) true ln != l.contains ln) = !l.contains ln := by
    rw [verdictOf_right right ln]
    cases l.contains ln <;> rfl
  unfold judgeTelegram
  dsimp only
  rw [partner]
  dsimp only
  rw [if_neg fine, passes]
  dsimp only
  simp only [verdict, Bool.not_not]
  rfl

theorem judgeTelegram_test {s : State} {k : Nat} {q : Partner} {body : List Byte} {l : List Lane}
    (partner : (sess s k).partner.bind (partner? s) = some q) (test : testGiven (sess s k) body = true) (mode : s.modes.mode ≠ .testTrack) :
    judgeTelegram s k body l = raise (rejectTelegram s k) 93 (u32 k) 1 s.cyc.number := by
  unfold judgeTelegram
  dsimp only
  rw [partner]
  exact if_pos ⟨test, mode⟩

/-! ### Telegrams that pass (R275 to R277) -/

/-- A session with its partner is no free slot's record. -/
theorem sess_used {y : Sess} (h : y.partner.isSome = true) : y ≠ {} := fun free => by rw [free] at h; exact absurd h (by decide)

theorem modSess_self {s : State} {k : Nat} {f : Sess → Sess} (h : f (sess s k) ≠ {}) : sess (modSess s k f) k = f (sess s k) := by
  unfold sess modSess at *
  exact tget_tput_self _ _ _ _ h

/-- What a rejected telegram leaves. -/
structure Rejects (s r : State) (k : Nat) : Prop where
  frame : Frame [.sessions] s r
  record : sess r k = { sess s k with rejected := (sess s k).rejected + 1 }
  mailbox : r.sessions.mailbox = s.sessions.mailbox

theorem rejectTelegram_rejects {s : State} {k : Nat} (used : (sess s k).partner.isSome = true) : Rejects s (rejectTelegram s k) k :=
  ⟨modSess_frame _ _ _, modSess_self (sess_used used), rfl⟩

/-- What an accepted one leaves. -/
structure Accepts (s r : State) (k j : Nat) (payload : List Byte) : Prop where
  frame : Frame [.sessions, .age] s r
  record : sess r k = { sess s k with rseq := (sess s k).rseq + u32 j, accepted := (sess s k).accepted + 1 }
  mailbox : r.sessions.mailbox = s.sessions.mailbox ++ [⟨k, (sess s k).rseq + u32 j, payload, s.now⟩]

theorem acceptTelegram_accepts {s : State} {k : Nat} (used : (sess s k).partner.isSome = true) (j : Nat) (payload : List Byte) :
    Accepts s (acceptTelegram s k j payload) k j payload := by
  refine ⟨fun p hp => ?_, ?_, rfl⟩
  · cases p <;> simp [same, acceptTelegram, countUp, modSess] at hp ⊢
  · exact modSess_self (f := fun x => { x with rseq := (sess s k).rseq + u32 j, accepted := x.accepted + 1 }) (sess_used used)

theorem Verdicts.sess {s r : State} (h : Verdicts s r) (k : Nat) : sess r k = sess s k := by
  obtain ⟨u, sessions⟩ := h.sessions
  unfold Machine.sess
  rw [sessions]

/-- The taking of two copies that agree. -/
structure Agreed (s r : State) : Prop where
  frame : Frame [.bus, .twin, .constable] s r
  bearing : Bearing s r
  role : r.twin.role = s.twin.role
  both : r.bus.both = s.bus.both + 1
  source : ∀ n, n ≠ 80 → n ≠ 81 → source r n = source s n

section
variable {t : Time} {s : State} {f g : BusFrame} {l : List Lane} (active : s.bus.engine = 5) (whole : inSplit s = false)
  (h : Copies s f g) (agree : f.body = g.body) {k : Nat} (slot : telegramSlot s f = some k)
include active whole h agree slot

theorem telegramTaken_agreed : ∃ r, Agreed (s.atTime t) r ∧
    telegramTaken (some f) (some g) l (s.atTime t) = judgeTelegram r k f.body l := by
  obtain ⟨r, copied, eq⟩ := telegramTaken_copies (s := s.atTime t) active whole
    ⟨h.first, h.second, h.vital, h.link, h.sched, h.timely, h.cross, h.entry⟩ l
  rw [combineCopies_agree _ _ agree] at eq
  generalize hx : ({ r with bus := { r.bus with both := r.bus.both + 1 } } : State) = x at eq
  have counted : Frame [.bus] r x := by
    subst hx
    exact fun p hp => by cases p <;> simp [same] at hp ⊢
  have bearing : Bearing r x := by
    subst hx
    exact ⟨rfl, rfl, rfl, rfl, rfl⟩
  have frame : Frame [.bus, .twin, .constable] (s.atTime t) x := copied.frame.trans (counted.mono (by decide))
  refine ⟨x, ⟨frame, copied.bearing.trans bearing, ?_, ?_, fun n first second => ?_⟩, ?_⟩
  · rw [counted .twin (by decide)]
    exact copied.role
  · obtain ⟨ch, q, bus⟩ := copied.bus
    rw [← hx, bus]
  · exact (source_of_constable (counted .constable (by decide)) n).trans (copied.source n first second)
  · have found : telegramSlot x f = some k := (telegramSlot_congr (copied.bearing.trans bearing) (frame .sessions (by decide)) f).trans slot
    rw [eq, combined, found]

variable {q : Partner} (partner : (sess s k).partner.bind (partner? s) = some q)
include partner

omit active whole h agree slot in
theorem partner_used : (sess s k).partner.isSome = true := by
  cases named : (sess s k).partner with
  | none =>
    rw [named] at partner
    exact absurd partner (by simp)
  | some _ => rfl

omit active whole h agree slot in
theorem partner_agreed {r : State} (agreed : Agreed (s.atTime t) r) :
    sess r k = sess s k ∧ (sess r k).partner.bind (partner? r) = some q := by
  have same : sess r k = sess s k := by
    unfold sess
    rw [agreed.frame .sessions (by decide)]
    rfl
  refine ⟨same, ?_⟩
  have known : partner? r = partner? s := by
    unfold partner?
    rw [agreed.bearing.station]
    rfl
  rw [same, known]
  exact partner

/-- Outside Test Track a telegram with TEST is rejected. -/
theorem testTelegram (test : testGiven (sess s k) f.body = true) (mode : s.modes.mode ≠ .testTrack) (quiet : Quiet s 93) :
    Answers (.vitalTelegram t (some f) (some g) l) s fun s' =>
      (sess s' k).rejected = (sess s k).rejected + 1 ∧ (sess s' k).rseq = (sess s k).rseq ∧
        s'.sessions.mailbox = s.sessions.mailbox ∧ Raised s s' 93 (u32 k) 1 s.cyc.number := by
  obtain ⟨r, agreed, eq⟩ := telegramTaken_agreed (t := t) (l := l) active whole h agree slot
  obtain ⟨record, known⟩ := partner_agreed (t := t) partner agreed
  rw [judgeTelegram_test known (by rw [record]; exact test) (by rw [agreed.bearing.modes]; exact mode)] at eq
  have rejects := rejectTelegram_rejects (s := r) (k := k) (by rw [record]; exact partner_used partner)
  generalize rejectTelegram r k = x at rejects eq
  have kept : source x 93 = source s 93 :=
    (source_of_constable (rejects.frame .constable (by decide)) 93).trans (agreed.source 93 (by decide) (by decide))
  have silent : Quiet x 93 := by
    unfold Quiet at quiet ⊢
    rw [kept]
    exact quiet
  have cycle : r.cyc.number = s.cyc.number := by
    rw [agreed.frame .cyc (by decide)]
    rfl
  rw [raise_minor silent (by decide), cycle] at eq
  have recorded := recordRaise_frame x 93 false (u32 k) 1 s.cyc.number
  generalize hw : recordRaise x 93 false (u32 k) 1 s.cyc.number = w at recorded eq
  have frame : Frame [.bus, .twin, .constable, .sessions] (s.atTime t) w :=
    (agreed.frame.mono (by decide)).trans ((rejects.frame.mono (by decide)).trans (recorded.mono (by decide)))
  have sessions : w.sessions = x.sessions := recorded .sessions (by decide)
  have own : sess w k = { sess s k with rejected := (sess s k).rejected + 1 } := by
    rw [← record, ← rejects.record]
    unfold sess
    rw [sessions]
  refine answers_role (vitalTelegram_eq t s (some f) (some g) l) (by rw [eq]; exact frame) (by decide) ?_ ?_
  · rw [eq, recorded .twin (by decide), rejects.frame .twin (by decide)]
    exact agreed.role
  · rw [eq]
    refine ⟨by rw [own], by rw [own], ?_, hw ▸ raised_recordRaise kept _ _ _⟩
    rw [sessions, rejects.mailbox, agreed.frame .sessions (by decide)]
    rfl

variable {j : Nat} (passes : verifyTelegram s q (sess s k) f.body = .ok j)
  (fine : testGiven (sess s k) f.body = false ∨ s.modes.mode = .testTrack)
include passes fine

/-- A telegram that passes is judged by the lanes of the vote, from a state with both its copies taken. -/
theorem telegramTaken_passes : ∃ r x, Agreed (s.atTime t) r ∧ Verdicts r x ∧ sess x k = sess s k ∧
    telegramTaken (some f) (some g) l (s.atTime t) =
      if contrary s l = [] then acceptTelegram x k j (f.body.take (sess s k).payload)
      else if contrary s l ≠ [] ∧ (contrary s l).length ≠ (voters s).length then
        raise (rejectTelegram x k) 92 (u32 k) (u32 (laneMap (contrary s l))) s.cyc.number
      else rejectTelegram x k := by
  obtain ⟨r, agreed, eq⟩ := telegramTaken_agreed (t := t) (l := l) active whole h agree slot
  obtain ⟨record, known⟩ := partner_agreed (t := t) partner agreed
  obtain ⟨x, verdicts, judged⟩ := judgeTelegram_passes (s := r) (k := k) (body := f.body) (l := l) (j := j) known (by
    rw [record, verifyTelegram_congr agreed.bearing.station]
    exact passes) (by
    rw [record, agreed.bearing.modes]
    rintro ⟨test, mode⟩
    obtain clean | track := fine
    · exact Bool.false_ne_true (clean.symm.trans test)
    · exact mode track)
  have voting : voters r = voters s := voters_of_lanes (agreed.frame .lanes (by decide))
  have cycle : r.cyc.number = s.cyc.number := by
    rw [agreed.frame .cyc (by decide)]
    rfl
  refine ⟨r, x, agreed, verdicts, (verdicts.sess k).trans record, ?_⟩
  rw [eq, judged, record, cycle]
  unfold contrary
  rw [voting]

theorem telegramAccepted (all : contrary s l = []) : Answers (.vitalTelegram t (some f) (some g) l) s fun s' =>
    s'.bus.both = s.bus.both + 1 ∧ (sess s' k).rseq = (sess s k).rseq + u32 j ∧ (sess s' k).accepted = (sess s k).accepted + 1 ∧
      s'.sessions.mailbox = s.sessions.mailbox ++ [⟨k, (sess s k).rseq + u32 j, f.body.take (sess s k).payload, t⟩] := by
  obtain ⟨r, x, agreed, verdicts, record, eq⟩ := telegramTaken_passes (t := t) (l := l) active whole h agree slot partner passes fine
  rw [if_pos all] at eq
  have accepts := acceptTelegram_accepts (s := x) (k := k) (by rw [record]; exact partner_used partner) j (f.body.take (sess s k).payload)
  generalize acceptTelegram x k j (f.body.take (sess s k).payload) = w at accepts eq
  have frame : Frame [.bus, .twin, .constable, .sessions, .lanes, .draws, .age] (s.atTime t) w :=
    (agreed.frame.mono (by decide)).trans ((verdicts.frame.mono (by decide)).trans (accepts.frame.mono (by decide)))
  have now : x.now = t := (verdicts.frame .now (by decide)).trans (agreed.frame .now (by decide))
  obtain ⟨u, sessions⟩ := verdicts.sessions
  refine answers_voting (vitalTelegram_eq t s (some f) (some g) l) (by rw [eq]; exact frame) (by decide) ?_ ?_ ?_
  · rw [eq, accepts.frame .twin (by decide), verdicts.frame .twin (by decide)]
    exact agreed.role
  · rw [eq]
    refine (voters_of_lanes (accepts.frame .lanes (by decide))).trans ((voters_congr verdicts.states).trans
      (voters_of_lanes (agreed.frame .lanes (by decide))))
  · rw [eq]
    refine ⟨?_, ?_, ?_, ?_⟩
    · rw [accepts.frame .bus (by decide), verdicts.frame .bus (by decide), agreed.both]
      rfl
    · rw [accepts.record, record]
    · rw [accepts.record, record]
    · rw [accepts.mailbox, record, now, sessions, agreed.frame .sessions (by decide)]
      rfl

theorem telegramRejected (some_ : contrary s l ≠ []) (differ : contrary s l ≠ voters s) (quiet : Quiet s 92) :
    Answers (.vitalTelegram t (some f) (some g) l) s fun s' =>
      (sess s' k).rejected = (sess s k).rejected + 1 ∧ (sess s' k).rseq = (sess s k).rseq ∧
        s'.sessions.mailbox = s.sessions.mailbox ∧ Raised s s' 92 (u32 k) (u32 (laneMap (contrary s l))) s.cyc.number := by
  obtain ⟨r, x, agreed, verdicts, record, eq⟩ := telegramTaken_passes (t := t) (l := l) active whole h agree slot partner passes fine
  have fewer : (contrary s l).length ≠ (voters s).length := fun same =>
    differ (List.filter_sublist.eq_of_length same)
  rw [if_neg some_, if_pos ⟨some_, fewer⟩] at eq
  have rejects := rejectTelegram_rejects (s := x) (k := k) (by rw [record]; exact partner_used partner)
  generalize rejectTelegram x k = y at rejects eq
  have kept : source y 92 = source s 92 :=
    (source_of_constable (rejects.frame .constable (by decide)) 92).trans
      ((source_of_constable (verdicts.frame .constable (by decide)) 92).trans (agreed.source 92 (by decide) (by decide)))
  have silent : Quiet y 92 := by
    unfold Quiet at quiet ⊢
    rw [kept]
    exact quiet
  rw [raise_minor silent (by decide)] at eq
  have recorded := recordRaise_frame y 92 false (u32 k) (u32 (laneMap (contrary s l))) s.cyc.number
  generalize hw : recordRaise y 92 false (u32 k) (u32 (laneMap (contrary s l))) s.cyc.number = w at recorded eq
  have frame : Frame [.bus, .twin, .constable, .sessions, .lanes, .draws] (s.atTime t) w :=
    (agreed.frame.mono (by decide)).trans ((verdicts.frame.mono (by decide)).trans
      ((rejects.frame.mono (by decide)).trans (recorded.mono (by decide))))
  have sessions : w.sessions = y.sessions := recorded .sessions (by decide)
  have own : sess w k = { sess s k with rejected := (sess s k).rejected + 1 } := by
    rw [← record, ← rejects.record]
    unfold sess
    rw [sessions]
  refine answers_voting (vitalTelegram_eq t s (some f) (some g) l) (by rw [eq]; exact frame) (by decide) ?_ ?_ ?_
  · rw [eq, recorded .twin (by decide), rejects.frame .twin (by decide), verdicts.frame .twin (by decide)]
    exact agreed.role
  · rw [eq]
    exact (voters_of_lanes (recorded .lanes (by decide))).trans ((voters_of_lanes (rejects.frame .lanes (by decide))).trans
      ((voters_congr verdicts.states).trans (voters_of_lanes (agreed.frame .lanes (by decide)))))
  · rw [eq]
    obtain ⟨u, before⟩ := verdicts.sessions
    refine ⟨by rw [own], by rw [own], ?_, hw ▸ raised_recordRaise kept _ _ _⟩
    rw [sessions, rejects.mailbox, before, agreed.frame .sessions (by decide)]
    rfl

end

/-! ### A session at a matrix boundary (R253, R264) -/

theorem activeBoundary_answers {t : Time} {s : State} {P : State → Prop} (active : s.bus.engine = 5)
    (h : P (boundarySessions (noteRate (boundaryCounted (s.atTime t) .a)))) : Answers (.matrixBoundary ⟨t, .a⟩) s P := by
  have first : portOf (s.atTime t) .a = .a := ite_self _
  have engine : engineOn (s.atTime t) .a = 5 := by
    unfold engineOn port
    rw [first]
    exact active
  obtain ⟨x, hx, frame, port_, mode, entry, previous, -⟩ := boundary_sessions (s.atTime t) .a
  rw [if_pos first] at hx frame
  have eq : boundary .a (s.atTime t) = x := by
    rw [boundary_on (by rw [engine]; decide), if_pos first, hx]
    refine if_pos ?_
    rw [port_]
    exact fun four => absurd (engine.symm.trans four) (by decide)
  have twin : x.twin = s.twin := frame .twin (by decide)
  have update : x.update = s.update := frame .update (by decide)
  have change : x.change = s.change := frame .change (by decide)
  refine answers_plain (matrixBoundary_eq t s .a) ?_ ?_ ?_
  · rw [eq]
    exact attrs_voters mode entry previous (by rw [twin]) (by rw [update]) (voters_of_lanes (frame .lanes (by decide))) (by rw [change])
  · rw [eq]
    exact frame .pending (by decide)
  · rw [eq, ← hx]
    exact h

/-- What a boundary's own session is judged from. -/
def boundaryStart (s : State) : State :=
  let x := noteRate (boundaryCounted s .a)
  { x with sessions := { x.sessions with quiet := [], waiting := [] } }

theorem boundaryStart_effect (s : State) : (boundaryStart s).sessions =
      { s.sessions with quiet := [], waiting := [] } ∧ (boundaryStart s).bus.matrix = s.bus.matrix + 1 ∧ (boundaryStart s).now = s.now := by
  obtain ⟨frame, bearing, port_⟩ := boundaryCounted_effect s .a
  have sessions : (boundaryCounted s .a).sessions = s.sessions := frame .sessions (by decide)
  have which : portOf s .a = .a := ite_self _
  refine ⟨?_, ?_, bearing.now⟩
  · unfold boundaryStart
    dsimp only [noteRate]
    rw [sessions]
  · have matrix := congrArg PortSt.matrix port_
    unfold port at matrix
    rw [bearing.portOf, which] at matrix
    exact matrix

section
variable {t : Time} {s : State} {k : Nat} {y : Sess} (active : s.bus.engine = 5) (slots : s.sessions.slots = [(k, y)])
include active slots

theorem oneBoundary {P : State → Prop} (used : y.state ≠ 0) (h : P (boundarySess (boundaryStart (s.atTime t)) k y)) :
    Answers (.matrixBoundary ⟨t, .a⟩) s P := by
  refine activeBoundary_answers active ?_
  have inUse : slotsInUse (boundaryStart (s.atTime t)) = [(k, y)] := by
    unfold slotsInUse
    rw [(boundaryStart_effect (s.atTime t)).1]
    dsimp only
    rw [show (s.atTime t).sessions.slots = [(k, y)] from slots]
    simp [used]
  have one : boundarySessions (noteRate (boundaryCounted (s.atTime t) .a)) = boundarySess (boundaryStart (s.atTime t)) k y := by
    unfold boundarySessions
    change (slotsInUse (boundaryStart (s.atTime t))).foldl _ (boundaryStart (s.atTime t)) = _
    rw [inUse]
    rfl
  rw [one]
  exact h

omit active in
theorem boundaryStart_sess : sess (boundaryStart (s.atTime t)) k = y := by
  unfold sess
  rw [(boundaryStart_effect (s.atTime t)).1]
  dsimp only
  rw [show (s.atTime t).sessions.slots = [(k, y)] from slots]
  exact if_pos rfl

theorem sessionOpens (opening : y.state = 1) (stamped : y.stamped = true) (due : y.opensAt = s.bus.matrix + 1) :
    Answers (.matrixBoundary ⟨t, .a⟩) s fun s' =>
      (sess s' k).state = 2 ∧ (sess s' k).opened = t ∧ s'.sessions.events = s.sessions.events ++ [.opened k t] := by
  refine oneBoundary active slots (by rw [opening]; decide) ?_
  obtain ⟨sessions, matrix, now⟩ := boundaryStart_effect (s.atTime t)
  have record := boundaryStart_sess (t := t) slots
  generalize boundaryStart (s.atTime t) = x at sessions matrix now record ⊢
  unfold boundarySess
  rw [if_pos ⟨opening, stamped, due.trans matrix.symm⟩]
  have opened : sess (modSess x k fun z => { z with state := 2, opened := x.now }) k = { y with state := 2, opened := x.now } := by
    rw [modSess_self, record]
    exact fun free => absurd (congrArg Sess.state free) (show (2 : Nat) ≠ 0 by decide)
  refine ⟨(congrArg Sess.state opened).trans rfl, (congrArg Sess.opened opened).trans now, ?_⟩
  dsimp only [modSess]
  rw [sessions, now]
  rfl

theorem sessionStays (h : y.state = 2 ∨ (y.state = 1 ∧ (y.stamped = false ∨ y.opensAt ≠ s.bus.matrix + 1))) :
    Answers (.matrixBoundary ⟨t, .a⟩) s fun s' => s'.sessions.slots = s.sessions.slots ∧ s'.sessions.events = s.sessions.events := by
  refine oneBoundary active slots (by obtain open_ | ⟨opening, -⟩ := h <;> omega) ?_
  obtain ⟨sessions, matrix, -⟩ := boundaryStart_effect (s.atTime t)
  have waits : ¬ (y.state = 1 ∧ y.stamped = true ∧ y.opensAt = (boundaryStart (s.atTime t)).bus.matrix) := by
    rintro ⟨opening, stamped, due⟩
    obtain open_ | ⟨-, unstamped | other⟩ := h
    · omega
    · exact Bool.false_ne_true (unstamped.symm.trans stamped)
    · exact other (due.trans matrix)
  unfold boundarySess
  rw [if_neg waits, if_neg (by obtain open_ | ⟨opening, -⟩ := h <;> omega), sessions]
  exact ⟨rfl, rfl⟩

theorem closedSlot_freed (closed : y.state = 3) : Answers (.matrixBoundary ⟨t, .a⟩) s fun s' =>
    s'.sessions.slots = tput {} s.sessions.slots k { reason := y.reason } := by
  refine oneBoundary active slots (by omega) ?_
  have record := boundaryStart_sess (t := t) slots
  unfold boundarySess
  rw [if_neg (by omega), if_pos closed]
  dsimp only [modSess]
  rw [record, (boundaryStart_effect (s.atTime t)).1]
  rfl

end

/-- Settles O44: both copies are taken first, then combined, then judged by the lanes of the vote; a boundary judges the one slot in use. That
a freed slot keeps its last reason is log entry 79. -/
theorem vitalTelegramsAreVerifiedByEveryLane : Obligations.VitalTelegramsAreVerifiedByEveryLane := by
  intro t s f g l active whole
  refine ⟨noTelegram active whole, ?_, fun k y slots => ⟨sessionOpens active slots, sessionStays active slots,
    closedSlot_freed active slots⟩⟩
  intro first second vital vital' link link' sched sched' timely timely' cross cross' entry entry'
  have copies : Copies s f g := ⟨first, second, ⟨vital, vital'⟩, ⟨link, link'⟩, ⟨sched, sched'⟩, ⟨timely, timely'⟩, ⟨cross, cross'⟩,
    ⟨entry, entry'⟩⟩
  refine ⟨copiesDiffer active whole copies, fun k q j agree slot partner passes => ⟨testTelegram active whole copies agree slot partner,
    fun fine => ⟨telegramAccepted active whole copies agree slot partner passes fine,
      telegramRejected active whole copies agree slot partner passes fine⟩⟩⟩

end Sys2Proof.Machine
end

section
/-!
PROOFS. Opening frames, strangers, and how sessions end (O46).
-/

namespace Sys2Proof.Machine

/-! ### An opening frame arrives (R226, R261) -/

/-- What each command of an opening frame does: nothing without a valid frame with its OP, and its own act with one. -/
def opened (c : Chan) (op : Nat) (f : BusFrame) (o : OpenFrame) (act : State → State) (s : State) : State :=
  match hearOpening s c op f o with
  | (s1, true) => act s1
  | (s1, false) => s1

section
variable {t : Time} {s : State} {c : Chan} {f : BusFrame} {o : OpenFrame} {op : Nat} {act : State → State}

theorem hearOpening_off (h : f.chan ≠ c ∨ engineOn s c = 0) : hearOpening s c op f o = (s, false) := by
  unfold hearOpening
  split
  · rfl
  · next heard =>
    obtain other | off := h
    · exact absurd (.inl other) heard
    · refine hear_off ?_ true
      have chan : f.chan = c := Classical.not_not.mp fun other => heard (.inl other)
      rw [chan]
      exact off

theorem opened_off (h : f.chan ≠ c ∨ engineOn s c = 0) : opened c op f o act s = s := by
  unfold opened
  rw [hearOpening_off h]

/-- An act that does nothing leaves what the frame's arrival has left. -/
theorem opened_idle (idle : ∀ r, hearOpening s c op f o = (r, true) → act r = r) : opened c op f o act s = (hearOpening s c op f o).1 := by
  unfold opened
  cases h : hearOpening s c op f o with
  | mk r ok =>
    cases ok with
    | true => exact idle r h
    | false => rfl

/-- A frame that arrives is heard, and its command acts. -/
theorem openingHeard (arrives : Arrives s c op f o) (on : engineOn s c ≠ 0) : ∃ r, Heard s r f ∧ receive s f true = (r, true) ∧
    opened c op f o act s = act r := by
  obtain ⟨rfl, opening, link, sched, timely⟩ := arrives
  obtain ⟨r, got, heard⟩ := receive_valid (timed := true) link sched fun _ => timely
  refine ⟨r, heard, got, ?_⟩
  have heardOpening : hearOpening s f.chan op f o = (r, true) := by
    unfold hearOpening
    rw [if_neg (by rw [opening]; simp), hear_on on, got]
  unfold opened
  rw [heardOpening]

/-- The arrival of a frame changes the bus, and what is known of the peer. -/
theorem hear_noted (s : State) (f : BusFrame) : Frame [.bus, .twin, .constable] s (hear s f true).1 ∧
    (hear s f true).1.twin.role = s.twin.role := by
  by_cases off : engineOn s f.chan = 0
  · rw [hear_off off]
    exact ⟨.refl _ _, rfl⟩
  rw [hear_on off]
  cases link : linkBad s f with
  | true =>
    rw [receive_broken true link]
    exact ⟨(modBus_frame _ _ _).mono (by decide), rfl⟩
  | false =>
    by_cases sched : f.sched = ownSched s
    · by_cases timely : Timely s f
      · obtain ⟨x, got, heard⟩ := receive_valid (timed := true) link sched fun _ => timely
        rw [got]
        exact ⟨heard.frame, heard.role⟩
      · obtain ⟨expected, out⟩ := Classical.not_imp.mp timely
        rw [receive_late link sched expected (Bool.eq_false_iff.mpr out)]
        exact ⟨(modBus_frame _ _ _).mono (by decide), rfl⟩
    · rw [receive_foreign true link sched]
      have only := (foreign_only s f.chan).1
      exact ⟨only.mono (by decide), congrArg TwinSt.role (only .twin (by decide))⟩

theorem hearOpening_noted (s : State) : Frame [.bus, .twin, .constable] s (hearOpening s c op f o).1 ∧
    (hearOpening s c op f o).1.twin.role = s.twin.role := by
  unfold hearOpening
  split
  · exact ⟨.refl _ _, rfl⟩
  · exact hear_noted s f

theorem hearOpening_heard {r : State} (h : hearOpening s c op f o = (r, true)) : Heard s r f := by
  unfold hearOpening at h
  split at h
  · exact absurd (congrArg Prod.snd h) Bool.false_ne_true
  · exact hear_heard h

end

/-! ### What the rules of opening read -/

section
variable {s r : State}

theorem partnerOf_congr (station : r.station = s.station) (ptype : Nat) (ident : U32) : partnerOf r ptype ident = partnerOf s ptype ident := by
  unfold partnerOf
  rw [station]

theorem targetsUs_congr (bearing : Bearing s r) (c : Chan) (o : OpenFrame) : targetsUs r c o = targetsUs s c o := by
  unfold targetsUs zoneNodes pairedZone header?
  rw [bearing.inSplit, bearing.nodeOn, bearing.cluster?, bearing.station, bearing.node]

theorem openForUs_congr (bearing : Bearing s r) (role : r.twin.role = s.twin.role) {c : Chan} (engine : engineOn r c = engineOn s c)
    (o : OpenFrame) : openForUs r c o = openForUs s c o := by
  unfold openForUs
  rw [sessionSilent_congr bearing role, bearing.modes, engine, targetsUs_congr bearing]

theorem openForUs_active {c : Chan} {o : OpenFrame} (h : openForUs s c o = true) : engineOn s c = 5 := by
  unfold openForUs at h
  simp only [Bool.and_eq_true, beq_iff_eq] at h
  exact h.1.2

theorem strangerOf_congr (strangers : r.sessions.strangers = s.sessions.strangers) (node : Nat) (o : OpenFrame) :
    strangerOf r node o = strangerOf s node o := by
  unfold strangerOf
  rw [strangers]

theorem slotOfPartner_congr (slots : r.sessions.slots = s.sessions.slots) (q : Nat) : slotOfPartner r q = slotOfPartner s q := by
  unfold slotOfPartner slotsInUse
  rw [slots]

/-- The other end of an opening frame is neither a known stranger nor no partner: nothing is noted of it. -/
theorem strangerFrame_partner {node : Nat} {o : OpenFrame} {e : Nat × Partner} (unknown : strangerOf s node o = none)
    (partner : partnerOf s o.ptype o.ident = some e) : strangerFrame s node o = s := by
  unfold strangerFrame
  rw [unknown, partner]

end

/-! ### The partner's CLOSE (R268) -/

theorem modSessions_frame (s : State) (g : SessionsSt → SessionsSt) : Frame [.sessions] s (modSessions s g) := by
  intro p hp
  cases p <;> simp [same, modSessions] at hp ⊢

/-- SESSION_CLOSE. -/
def closeHeard (c : Chan) (f : BusFrame) (o : OpenFrame) (s0 : State) : State :=
  if openForUs s0 c o = false ∨ inSplit s0 then s0 else
  let s := strangerFrame s0 f.node o
  match (partnerOf s o.ptype o.ident).bind fun y => slotOfPartner s y.1 with
  | some k => if (sess s k).state = 3 then s else noteClosing s k 0
  | none => s

section
variable {t : Time} {s : State} {c : Chan} {f : BusFrame} {o : OpenFrame}

theorem sessionClose_eq : exec (.sessionClose ⟨t, c⟩ f o) s = at_ t s (opened c 4 f o (closeHeard c f o)) := rfl

theorem closeHeard_partner {q k : Nat} {x : Partner} (ours : openForUs s c o = true) (whole : inSplit s = false)
    (unknown : strangerOf s f.node o = none) (partner : partnerOf s o.ptype o.ident = some (q, x)) (slot : slotOfPartner s q = some k) :
    closeHeard c f o s = if (sess s k).state = 3 then s else noteClosing s k 0 := by
  unfold closeHeard
  rw [if_neg (by rw [ours, whole]; simp), strangerFrame_partner unknown partner]
  dsimp only
  rw [partner]
  dsimp only [Option.bind]
  rw [slot]

/-- What an exit of an opening frame's command keeps. -/
theorem runs_opened {i : Instr} {g : State → State} {r : State} (hc : exec i s = at_ t s g) (eq : g (s.atTime t) = r)
    (frame : Frame [.bus, .twin, .constable, .sessions] (s.atTime t) r) (role : r.twin.role = s.twin.role) : Runs i s r := by
  obtain ⟨s', runs, rfl⟩ := answers_role (P := (· = r)) hc (by rw [eq]; exact frame) (by decide) (by rw [eq]; exact role) eq
  exact runs

theorem partnerCloses {q k : Nat} {x : Partner} (ours : openForUs s c o = true) (whole : inSplit s = false)
    (unknown : strangerOf s f.node o = none) (partner : partnerOf s o.ptype o.ident = some (q, x)) (slot : slotOfPartner s q = some k)
    (arrives : Arrives s c 4 f o) :
    ((sess s k).state = 3 → Runs (.sessionClose ⟨t, c⟩ f o) s (receive (s.atTime t) f true).1) ∧
      ((sess s k).state ≠ 3 → Runs (.sessionClose ⟨t, c⟩ f o) s (modSessions (receive (s.atTime t) f true).1 fun y => { y with
        events := y.events ++ [.closed k 0 t] })) := by
  obtain ⟨r, heard, got, eq⟩ := openingHeard (s := s.atTime t) (act := closeHeard c f o) arrives
    (by rw [show engineOn (s.atTime t) c = 5 from openForUs_active ours]; decide)
  have sessions : r.sessions = s.sessions := heard.frame .sessions (by decide)
  have same : (sess r k).state = (sess s k).state := by
    unfold sess
    rw [sessions]
  rw [closeHeard_partner (q := q) (k := k) (x := x)
    ((openForUs_congr heard.bearing heard.role (congrArg PortSt.engine (heard.port c)) o).trans ours)
    (heard.bearing.inSplit.trans whole) ((strangerOf_congr (congrArg SessionsSt.strangers sessions) _ _).trans unknown)
    ((partnerOf_congr heard.bearing.station _ _).trans partner) ((slotOfPartner_congr (congrArg SessionsSt.slots sessions) q).trans slot),
    same] at eq
  rw [got]
  refine ⟨fun closed => ?_, fun open_ => ?_⟩
  · rw [if_pos closed] at eq
    exact runs_opened sessionClose_eq eq (heard.frame.mono (by decide)) heard.role
  · rw [if_neg open_] at eq
    have now : r.now = t := heard.bearing.now
    have noted : noteClosing r k 0 = modSessions r fun y => { y with events := y.events ++ [.closed k 0 t] } :=
      congrArg (fun n => modSessions r fun y => { y with events := y.events ++ [.closed k 0 n] }) now
    exact runs_opened sessionClose_eq (eq.trans noted) ((heard.frame.mono (by decide)).trans ((modSessions_frame _ _).mono (by decide)))
      heard.role

/-! ### Frames that are not taken -/

/-- DIAG_REQUEST. -/
def diagAsked (c : Chan) (f : BusFrame) (o : OpenFrame) (s : State) : State :=
  if openForUs s c o = false ∨ inSplit s then s else
  let s1 := strangerFrame s f.node o
  match strangerOf s1 f.node o with
  | some x =>
    if (policy? s 3).isSome ∧ sessionSilent s = false then
      sendReason s1 c 6 f.node x.reason (((header? s).map fun h => h.tag).getD 0) else s1
  | none => s1

/-- DIAG_REPLY. -/
def diagReplied (c : Chan) (f : BusFrame) (o : OpenFrame) (s : State) : State :=
  if openForUs s c o = false ∨ inSplit s then s else strangerFrame s f.node o

theorem diagRequest_eq : exec (.diagRequest ⟨t, c⟩ f o) s = at_ t s (opened c 5 f o (diagAsked c f o)) := rfl

theorem diagReply_eq : exec (.diagReply ⟨t, c⟩ f o) s = at_ t s (opened c 6 f o (diagReplied c f o)) := rfl

theorem notHeard {i : Instr} (hi : i ∈ [Instr.sessionOpen ⟨t, c⟩ f o, .sessionAccept ⟨t, c⟩ f o, .sessionRefuse ⟨t, c⟩ f o,
      .sessionClose ⟨t, c⟩ f o, .diagRequest ⟨t, c⟩ f o, .diagReply ⟨t, c⟩ f o]) (h : f.chan ≠ c ∨ engineOn s c = 0) :
    Runs i s (s.atTime t) := by
  have acts : ∃ op act, exec i s = at_ t s (opened c op f o act) := by
    simp only [List.mem_cons, List.not_mem_nil, or_false] at hi
    obtain rfl | rfl | rfl | rfl | rfl | rfl := hi
    · exact ⟨1, _, rfl⟩
    · exact ⟨2, _, rfl⟩
    · exact ⟨3, _, rfl⟩
    · exact ⟨4, _, rfl⟩
    · exact ⟨5, _, rfl⟩
    · exact ⟨6, _, rfl⟩
  obtain ⟨op, act, hc⟩ := acts
  exact runs_idle hc (opened_off (s := s.atTime t) h)

/-- A frame for another node is only heard. -/
theorem elsewhere (other : openForUs s c o = false) {op : Nat} {i : Instr} {act : State → State} (hc : exec i s = at_ t s (opened c op f o act))
    (idle : ∀ r, openForUs r c o = false → act r = r) : Runs i s (hearOpening (s.atTime t) c op f o).1 := by
  obtain ⟨frame, role⟩ := hearOpening_noted (c := c) (op := op) (f := f) (o := o) (s.atTime t)
  refine runs_opened hc (opened_idle fun r h => idle r ?_) (frame.mono (by decide)) role
  have heard := hearOpening_heard h
  exact (openForUs_congr heard.bearing heard.role (congrArg PortSt.engine (heard.port c)) o).trans other

/-! ### A known stranger (R278) -/

/-- The record of a stranger whose frame has just come. -/
theorem strangerFrame_known {s : State} {y : Stranger} {node : Nat} {o : OpenFrame} (alone : s.sessions.strangers = [y]) (at_ : y.node = node)
    (ident : y.ident = o.ident) : strangerFrame s node o = modSessions s fun z => { z with strangers := [{ y with last := s.now }] } := by
  have own : (y.node == node && y.ident == o.ident) = true := by rw [at_, ident]; simp
  have known : strangerOf s node o = some y := by
    unfold strangerOf
    rw [alone]
    simp [own]
  unfold strangerFrame
  rw [known]
  dsimp only
  unfold noteStranger
  dsimp only
  rw [alone, if_pos (by simp [own])]
  simp [at_, ident, modSessions]

/-- What a frame of the one known stranger leaves: its record refreshed. -/
structure Refreshed (s r : State) (y : Stranger) : Prop where
  frame : Frame [.bus, .twin, .constable, .sessions] s r
  bearing : Bearing s r
  role : r.twin.role = s.twin.role
  sessions : r.sessions = { s.sessions with strangers := [{ y with last := s.now }] }
  queue : ∀ x, (chanBus r x).queue = (chanBus s x).queue

theorem Heard.queue {s r : State} (h : Heard s r f) (x : Chan) : (chanBus r x).queue = (chanBus s x).queue := by
  by_cases own : x = f.chan
  · obtain ⟨n, chan⟩ := h.chan
    rw [own, chan]
  · rw [h.others own]

theorem heard_refreshes {s r : State} {y : Stranger} (heard : Heard s r f) (alone : s.sessions.strangers = [y]) (at_ : y.node = f.node)
    (ident : y.ident = o.ident) : Refreshed s (strangerFrame r f.node o) y := by
  have sessions : r.sessions = s.sessions := heard.frame .sessions (by decide)
  rw [strangerFrame_known (by rw [sessions]; exact alone) at_ ident, heard.bearing.now]
  refine ⟨(heard.frame.mono (by decide)).trans ((modSessions_frame _ _).mono (by decide)),
    heard.bearing.trans ⟨rfl, rfl, rfl, rfl, rfl⟩, heard.role, ?_, heard.queue⟩
  unfold modSessions
  dsimp only
  rw [sessions]

theorem sendOpenFrame_handed (s : State) (c : Chan) (op : Nat) (o : OpenFrame) : Handed s (sendOpenFrame s c op o) 1 := by
  unfold sendOpenFrame
  dsimp only
  split <;> exact queueOn_handed _ _ _

section
variable {y : Stranger} (ours : openForUs s c o = true) (whole : inSplit s = false) (alone : s.sessions.strangers = [y])
  (at_ : y.node = f.node) (ident : y.ident = o.ident)
include ours whole alone at_ ident

theorem strangerReplies (arrives : Arrives s c 6 f o) : Answers (.diagReply ⟨t, c⟩ f o) s fun s' =>
    s'.sessions.strangers = [{ y with last := t }] ∧ s'.sessions.slots = s.sessions.slots ∧
      Frame [.now, .sessions, .bus, .twin, .constable] s s' := by
  obtain ⟨r, heard, -, eq⟩ := openingHeard (s := s.atTime t) (act := diagReplied c f o) arrives
    (by rw [show engineOn (s.atTime t) c = 5 from openForUs_active ours]; decide)
  have refreshed := heard_refreshes (s := s.atTime t) (o := o) heard alone at_ ident
  have oursThen := (openForUs_congr heard.bearing heard.role (congrArg PortSt.engine (heard.port c)) o).trans ours
  rw [diagReplied, if_neg (by rw [oursThen, heard.bearing.inSplit, show inSplit (s.atTime t) = false from whole]; simp)] at eq
  refine answers_role diagReply_eq (by rw [eq]; exact refreshed.frame) (by decide) (by rw [eq]; exact refreshed.role) ?_
  rw [eq, refreshed.sessions]
  exact ⟨rfl, rfl, (frame_with_now (l := [.bus, .twin, .constable, .sessions]) refreshed.frame).mono (by decide)⟩

/-- The record of a stranger that asks is refreshed first. -/
theorem diagAsked_known (arrives : Arrives s c 5 f o) : ∃ x, Refreshed (s.atTime t) x y ∧
    opened c 5 f o (diagAsked c f o) (s.atTime t) =
      if (policy? s 3).isSome ∧ sessionSilent s = false then
        sendReason x c 6 f.node y.reason (((header? s).map fun h => h.tag).getD 0) else x := by
  obtain ⟨r, heard, -, eq⟩ := openingHeard (s := s.atTime t) (act := diagAsked c f o) arrives
    (by rw [show engineOn (s.atTime t) c = 5 from openForUs_active ours]; decide)
  have refreshed := heard_refreshes (s := s.atTime t) (o := o) heard alone at_ ident
  have oursThen := (openForUs_congr heard.bearing heard.role (congrArg PortSt.engine (heard.port c)) o).trans ours
  rw [diagAsked, if_neg (by rw [oursThen, heard.bearing.inSplit, show inSplit (s.atTime t) = false from whole]; simp)] at eq
  dsimp only at eq
  generalize strangerFrame r f.node o = x at refreshed eq
  have known : strangerOf x f.node o = some { y with last := t } := by
    unfold strangerOf
    rw [refreshed.sessions]
    simp [at_, ident]
    rfl
  have policy : policy? r 3 = policy? s 3 := by
    unfold policy?
    rw [heard.bearing.station]
    rfl
  have header : header? r = header? s := by
    unfold header?
    rw [heard.bearing.station]
    rfl
  have silent : sessionSilent r = sessionSilent s := (sessionSilent_congr heard.bearing heard.role).trans rfl
  rw [known, policy, header, silent] at eq
  exact ⟨x, refreshed, eq⟩

theorem strangerAnswered (arrives : Arrives s c 5 f o) (policy : (policy? s 3).isSome = true) (speaks : sessionSilent s = false) :
    Answers (.diagRequest ⟨t, c⟩ f o) s fun s' =>
      s'.sessions.strangers = [{ y with last := t }] ∧
        (chanBus s' .a).queue.length + (chanBus s' .b).queue.length =
          (chanBus s .a).queue.length + (chanBus s .b).queue.length + 1 ∧
        Frame [.now, .sessions, .bus, .twin, .constable] s s' := by
  obtain ⟨x, refreshed, eq⟩ := diagAsked_known (t := t) ours whole alone at_ ident arrives
  rw [if_pos ⟨policy, speaks⟩] at eq
  have sent := sendOpenFrame_handed x c 6 { ownOpen x f.node y.reason with sess := ((header? s).map fun h => h.tag).getD 0 }
  change _ = sendOpenFrame x c 6 { ownOpen x f.node y.reason with sess := ((header? s).map fun h => h.tag).getD 0 } at eq
  generalize sendOpenFrame x c 6 { ownOpen x f.node y.reason with sess := ((header? s).map fun h => h.tag).getD 0 } = z at sent eq
  have frame := refreshed.frame.trans (sent.frame.mono (by decide))
  refine answers_role diagRequest_eq (by rw [eq]; exact frame) (by decide) ?_ ?_
  · rw [eq, sent.frame .twin (by decide)]
    exact refreshed.role
  · rw [eq]
    refine ⟨?_, ?_, (frame_with_now (l := [.bus, .twin, .constable, .sessions]) frame).mono (by decide)⟩
    · rw [sent.frame .sessions (by decide), refreshed.sessions]
      rfl
    · rw [sent.lengths, refreshed.queue, refreshed.queue]
      rfl

theorem strangerUnanswered (arrives : Arrives s c 5 f o) (policy : policy? s 3 = none) : Answers (.diagRequest ⟨t, c⟩ f o) s fun s' =>
    s'.sessions.strangers = [{ y with last := t }] ∧ Frame [.now, .sessions, .bus, .twin, .constable] s s' := by
  obtain ⟨x, refreshed, eq⟩ := diagAsked_known (t := t) ours whole alone at_ ident arrives
  rw [if_neg (by rw [policy]; simp)] at eq
  refine answers_role diagRequest_eq (by rw [eq]; exact refreshed.frame) (by decide) (by rw [eq]; exact refreshed.role) ?_
  rw [eq, refreshed.sessions]
  exact ⟨rfl, (frame_with_now (l := [.bus, .twin, .constable, .sessions]) refreshed.frame).mono (by decide)⟩

end

/-! ### Time-outs and requests (R265, R282) -/

/-- SESSION_TIMEOUT. -/
def sessionTimes (k : Nat) (s : State) : State :=
  if (sess s k).state = 2 ∧ (sess s k).firstCyc.isSome ∧ tmoOf s (sess s k) ≤ (sess s k).missed then closeSession s k 0x0C else s

theorem sessionTimeout_eq (slot : Fin 512) : exec (.sessionTimeout t slot) s = at_ t s (sessionTimes slot.val) := rfl

theorem sessionTimeout_idle {slot : Fin 512} (h : (sess s slot.val).state ≠ 2 ∨ (sess s slot.val).missed < tmoOf s (sess s slot.val)) :
    Runs (.sessionTimeout t slot) s (s.atTime t) := by
  refine runs_idle (sessionTimeout_eq slot) (if_neg fun due => ?_)
  obtain other | few := h
  · exact other due.1
  · exact absurd due.2.2 (Nat.not_le.mpr few)

theorem slotClosed_frame (s : State) (k : Nat) (reason : U8) : Frame [.sessions, .cyc] s (slotClosed s k reason) := by
  intro p hp
  cases p <;> simp [same, slotClosed, modSess] at hp ⊢

theorem slotClosed_sess (s : State) (k : Nat) (reason : U8) : sess (slotClosed s k reason) k =
    { sess s k with state := 3, reason := reason, firstCyc := none, heard := false, records := [], closeReq := none } :=
  tget_tput_self _ _ _ _ fun free => absurd (congrArg Sess.state free) (show (3 : Nat) ≠ 0 by decide)

theorem sessionTimesOut {slot : Fin 512} {q : Nat} (open_ : (sess s slot.val).state = 2) (first : (sess s slot.val).firstCyc.isSome = true)
    (partner : (sess s slot.val).partner = some q) (due : tmoOf s (sess s slot.val) ≤ (sess s slot.val).missed) (quiet : Quiet s 90) :
    Answers (.sessionTimeout t slot) s fun s' =>
      (sess s' slot.val).state = 3 ∧ (sess s' slot.val).reason = 0x0C ∧ (sess s' slot.val).firstCyc = none ∧
        s'.sessions.timeouts = s.sessions.timeouts + 1 ∧ s'.sessions.closeDue = s.sessions.closeDue ++ [((sess s slot.val).node, 0x0C)] ∧
        (∀ m ∈ s'.sessions.mailbox, m.slot ≠ slot.val) ∧
        (∀ m ∈ s'.cyc.snap.records, m.slot ≠ slot.val) ∧ Raised s s' 90 (u32 slot.val) 0x0C (u32 q) ∧
        Frame [.now, .sessions, .cyc, .points, .constable] s s' := by
  have eq : sessionTimes slot.val (s.atTime t) = closeSession (s.atTime t) slot.val 0x0C := if_pos ⟨open_, first, due⟩
  rw [closeSession_eq, show sess (s.atTime t) slot.val = sess s slot.val from rfl, partner] at eq
  have closed := slotClosed_frame (s.atTime t) slot.val 0x0C
  have record := slotClosed_sess (s.atTime t) slot.val 0x0C
  have mail (m) (hm : m ∈ (slotClosed (s.atTime t) slot.val 0x0C).sessions.mailbox) : m.slot ≠ slot.val := by
    simpa using (List.mem_filter.mp hm).2
  have snap (m) (hm : m ∈ (slotClosed (s.atTime t) slot.val 0x0C).cyc.snap.records) : m.slot ≠ slot.val := by
    simpa using (List.mem_filter.mp hm).2
  have counted : (slotClosed (s.atTime t) slot.val 0x0C).sessions.timeouts = s.sessions.timeouts + 1 := rfl
  have owed : (slotClosed (s.atTime t) slot.val 0x0C).sessions.closeDue = s.sessions.closeDue ++ [((sess s slot.val).node, 0x0C)] := rfl
  generalize slotClosed (s.atTime t) slot.val 0x0C = x at closed record mail snap counted owed eq
  have forgot := forgetReports_frame x q
  change _ = raise (forgetReports x q) 90 _ 0x0C (u32 q) at eq
  generalize forgetReports x q = z at forgot eq
  have kept : source z 90 = source s 90 := source_of_constable ((forgot .constable (by decide)).trans (closed .constable (by decide))) 90
  have silent : Quiet z 90 := by
    unfold Quiet at quiet ⊢
    rw [kept]
    exact quiet
  rw [raise_minor silent (by decide)] at eq
  have recorded := recordRaise_frame z 90 false (u32 slot.val) 0x0C (u32 q)
  have raised : Raised s (recordRaise z 90 false (u32 slot.val) 0x0C (u32 q)) 90 (u32 slot.val) 0x0C (u32 q) :=
    raised_recordRaise kept _ _ _
  generalize recordRaise z 90 false (u32 slot.val) 0x0C (u32 q) = w at recorded raised eq
  have frame : Frame [.sessions, .cyc, .points, .constable] (s.atTime t) w :=
    (closed.mono (by decide)).trans ((forgot.mono (by decide)).trans (recorded.mono (by decide)))
  have sessions : w.sessions = x.sessions := (recorded .sessions (by decide)).trans (forgot .sessions (by decide))
  have cyc : w.cyc = x.cyc := (recorded .cyc (by decide)).trans (forgot .cyc (by decide))
  have own : sess w slot.val = sess x slot.val := by
    unfold sess
    rw [sessions]
  refine answers_still (sessionTimeout_eq slot) (by rw [eq]; exact frame) (by decide) ?_
  rw [eq, own, record, sessions, cyc]
  exact ⟨rfl, rfl, rfl, counted, owed, mail, snap, raised, frame_with_now (l := [.sessions, .cyc, .points, .constable]) frame⟩

/-- A session's close asked for by the host. -/
theorem closeRequest {slot : Fin 512} {ch : Fin 8} {v : U8} (serves : Serves s t) (auth : authorised s ch.val = true) :
    ((sess s slot.val).state = 2 → Runs (.sessionCloseRequest t ch slot 1) s
        (accepted (modSess (s.atTime t) slot.val fun y => { y with closeReq := some t }) ch)) ∧
      ((sess s slot.val).state ≠ 2 → Runs (.sessionCloseRequest t ch slot 1) s (refused (s.atTime t) ch 0x0460)) ∧
      (v ≠ 1 → Runs (.sessionCloseRequest t ch slot v) s (refused (s.atTime t) ch 0x0230)) := by
  have hc (w : U8) : exec (.sessionCloseRequest t ch slot w) s =
      writeAt t s ch.val fun s => needAuth s ch.val fun s => writeClose s slot.val w := rfl
  have asked {st : Nat} (h : (sess s slot.val).state = st) : writeClose (s.atTime t) slot.val 1 =
      if st = 2 then .ok (modSess (s.atTime t) slot.val fun y => { y with closeReq := some t }) else .error 0x0460 := by
    unfold writeClose refuseUnless
    rw [show sess (s.atTime t) slot.val = sess s slot.val from rfl, h]
    simp [State.atTime]
  refine ⟨fun open_ => ?_, fun other => ?_, fun value => ?_⟩
  · exact runs_writeStill (hc 1) serves (needAuth_granted auth ((asked open_).trans (if_pos rfl)))
      ((modSess_frame _ _ _).mono (m := [.sessions, .host]) (by decide)) (by decide) (by decide)
  · exact runs_refused (hc 1) serves (needAuth_granted auth ((asked rfl).trans (if_neg other)))
  · refine runs_refused (hc v) serves (needAuth_granted auth ?_)
    unfold writeClose refuseUnless
    rw [show (v == 1) = false from beq_eq_false_iff_ne.mpr value]
    rfl

/-- STRANGER_RECORD_EXPIRY. -/
def strangersGone (node : Nat) (s : State) : State := modSessions s fun y => { y with
  strangers := y.strangers.filter fun z => z.node != node || s.now < z.last + sec 10 }

theorem strangerRecordExpiry_eq (node : Nat) : exec (.strangerRecordExpiry t node) s = at_ t s (strangersGone node) := rfl

/-- The records of silent strangers end. -/
theorem strangersExpire (node : Nat) : Runs (.strangerRecordExpiry t node) s (modSessions (s.atTime t) fun y => { y with
    strangers := y.strangers.filter fun z => z.node != node || t < z.last + sec 10 }) :=
  runs_still (strangerRecordExpiry_eq node) rfl (modSessions_frame _ _) (by decide)

end

/-- Settles O46: an opening frame is heard, and its command acts on what that has left; a time-out closes the slot, drops its mail, and raises
source 90. -/
theorem sessionsEndAndStrangersExpire : Obligations.SessionsEndAndStrangersExpire := by
  intro t s c f node k q o x slot ch v
  refine ⟨fun ours whole unknown partner held arrives => partnerCloses ours whole unknown partner held arrives, fun i hi h => notHeard hi h, ?_,
    fun other => sessionTimeout_idle (.inl other), closeRequest, ?_, fun other => ⟨?_, ?_⟩, strangersExpire node⟩
  · exact fun open_ first partner => ⟨sessionTimesOut open_ first partner, fun few => sessionTimeout_idle (.inr few)⟩
  · exact fun y ours whole alone at_ ident => ⟨strangerAnswered ours whole alone at_ ident, strangerUnanswered ours whole alone at_ ident,
      strangerReplies ours whole alone at_ ident⟩
  · exact elsewhere other diagReply_eq fun r away => if_pos (.inl away)
  · exact elsewhere other diagRequest_eq fun r away => if_pos (.inl away)

end Sys2Proof.Machine
end

section
/-!
PROOFS. How partners are admitted or refused (O45).
-/

namespace Sys2Proof.Machine

/-! ### The node of an opening frame is noted (R263) -/

theorem quiet_congr {s r : State} {n : Nat} (h : source r n = source s n) (quiet : Quiet s n) : Quiet r n := by
  unfold Quiet at quiet ⊢
  rw [h]
  exact quiet

theorem Raised.of_kept {s x r : State} {n : Nat} {p1 p2 p3 : U32} (h : source x n = source s n) (raised : Raised x r n p1 p2 p3) :
    Raised s r n p1 p2 p3 := by
  unfold Raised at raised ⊢
  rw [← h]
  exact raised

/-- A source of the lower classes, when it is quiet, is recorded. -/
theorem raise_quietly {s : State} {n : Nat} (quiet : Quiet s n) (cls : srcClass n ≤ 1) (p1 p2 p3 : U32) :
    Frame [.constable] s (raise s n p1 p2 p3) ∧ Raised s (raise s n p1 p2 p3) n p1 p2 p3 ∧
      ∀ m, m ≠ n → source (raise s n p1 p2 p3) m = source s m := by
  rw [raise_minor quiet cls]
  exact ⟨recordRaise_frame _ _ _ _ _ _, raised_recordRaise rfl _ _ _, fun m hm => recordRaise_source_ne _ _ _ _ _ hm⟩

/-- What the hearing of an opening frame and the noting of its node leave: the sessions but for the nodes heard and the strangers. -/
structure Met (s r : State) : Prop where
  frame : Frame [.sessions, .bus, .twin, .constable] s r
  bearing : Bearing s r
  role : r.twin.role = s.twin.role
  port : ∀ x, port r x = port s x
  queue : ∀ x, (chanBus r x).queue = (chanBus s x).queue
  sessions : ∃ h l, r.sessions = { s.sessions with heardAs := h, strangers := l }
  source : ∀ n, n ≠ 80 → n ≠ 81 → source r n = source s n

section
variable {s r : State} {f : BusFrame} {c : Chan} {node : Nat} {o : OpenFrame}

theorem Heard.met (h : Heard s r f) : Met s r := by
  have sessions : r.sessions = s.sessions := h.frame .sessions (by decide)
  exact ⟨h.frame.mono (by decide), h.bearing, h.role, h.port, h.queue, ⟨s.sessions.heardAs, s.sessions.strangers, sessions⟩, h.copied.source⟩

/-- A change of the nodes heard and the strangers. -/
theorem Met.sessions_only (h : Met s r) {x : State} (frame : Frame [.sessions] r x) (sessions : ∃ h l, x.sessions =
    { r.sessions with heardAs := h, strangers := l }) : Met s x := by
  obtain ⟨a, b, before⟩ := h.sessions
  obtain ⟨a', b', after⟩ := sessions
  have bus : x.bus = r.bus := frame .bus (by decide)
  have modes : x.modes = r.modes := frame .modes (by decide)
  refine ⟨h.frame.trans (frame.mono (by decide)), h.bearing.trans ⟨modes, frame .station (by decide), by rw [bus], by rw [bus],
    frame .now (by decide)⟩, ?_, fun y => (port_of_bus bus modes y).trans (h.port y), fun y => ?_, ⟨a', b', by rw [after, before]⟩,
    fun n first second => (source_of_constable (frame .constable (by decide)) n).trans (h.source n first second)⟩
  · rw [frame .twin (by decide)]
    exact h.role
  · rw [← h.queue]
    unfold chanBus
    rw [bus]

theorem Met.noteNode (h : Met s r) (accept : Bool) : Met s (noteNode r c node o accept) := by
  unfold Machine.noteNode
  split
  · split
    · exact h.sessions_only (modSessions_frame r fun y => { y with heardAs := _ }) ⟨_, r.sessions.strangers, rfl⟩
    · exact h
  · exact h

theorem noteStranger_known {y : Stranger} {reason : U8} (known : strangerOf r node o = some y) :
    noteStranger r node o.ident reason = modSessions r fun z => { z with strangers := z.strangers.map fun x =>
      if x.node == node && x.ident == o.ident then { x with reason := reason, last := r.now } else x } := by
  have any : (r.sessions.strangers.any fun x => x.node == node && x.ident == o.ident) = true :=
    List.any_eq_true.mpr ⟨y, List.mem_of_find?_eq_some known, List.find?_some (p := fun (x : Stranger) => x.node == node && x.ident == o.ident) known⟩
  exact if_pos any

theorem Met.refreshStranger (h : Met s r) : Met s (refreshStranger r node o) := by
  unfold Machine.refreshStranger
  split
  · next known =>
    rw [noteStranger_known known]
    exact h.sessions_only (modSessions_frame _ _) ⟨r.sessions.heardAs, _, rfl⟩
  · exact h

section
variable (h : Met s r)
include h

theorem Met.ours : openForUs r c o = openForUs s c o := openForUs_congr h.bearing h.role (congrArg PortSt.engine (h.port c)) o
theorem Met.silent : sessionSilent r = sessionSilent s := sessionSilent_congr h.bearing h.role
theorem Met.partner (ptype : Nat) (ident : U32) : partnerOf r ptype ident = partnerOf s ptype ident := partnerOf_congr h.bearing.station _ _
theorem Met.slots : r.sessions.slots = s.sessions.slots := by obtain ⟨a, b, eq⟩ := h.sessions; rw [eq]
theorem Met.promised : r.sessions.promised = s.sessions.promised := by obtain ⟨a, b, eq⟩ := h.sessions; rw [eq]
theorem Met.quietNodes : r.sessions.quiet = s.sessions.quiet := by obtain ⟨a, b, eq⟩ := h.sessions; rw [eq]
theorem Met.sentOpen : r.sessions.sentOpen = s.sessions.sentOpen := by obtain ⟨a, b, eq⟩ := h.sessions; rw [eq]
theorem Met.slotOf (q : Nat) : slotOfPartner r q = slotOfPartner s q := slotOfPartner_congr h.slots q

theorem Met.modeRefuses : modeRefuses r = modeRefuses s := by
  unfold Machine.modeRefuses loomAble
  rw [h.bearing.modes, h.frame .lanes (by decide), h.bearing.station]

theorem Met.free : freeSess r = freeSess s := by
  unfold freeSess promisedTo sess
  rw [h.slots, h.promised]

theorem Met.policy (n : Nat) : policy? r n = policy? s n := by
  unfold policy?
  rw [h.bearing.station]

theorem Met.negotiates (pol : Policy) (q : Partner) : negotiate r o pol q = negotiate s o pol q := by
  unfold negotiate scWidth sc?
  rw [h.bearing.station]

theorem Met.anyEntry (g : SchedEntry → Bool) : anyEntry r g = anyEntry s g := by
  unfold Machine.anyEntry
  rw [h.bearing.cluster?]

theorem Met.zoneNodes : zoneNodes r = zoneNodes s := by
  unfold Machine.zoneNodes pairedZone header?
  rw [h.bearing.cluster?, h.bearing.station, h.bearing.node]

theorem Met.positions (ptype n : Nat) : positionsOk r ptype n = positionsOk s ptype n := by
  unfold positionsOk zoneSends
  rw [h.anyEntry, h.anyEntry, h.zoneNodes]

theorem Met.slices (n : Nat) : freeSlices r n = freeSlices s n := by
  unfold freeSlices downGroups zoneSends heldSlices slotsInUse
  rw [h.slots, h.promised, h.zoneNodes]
  simp only [h.anyEntry]

end

end

/-! ### An OPEN is judged (R263, R264) -/

/-- What an OPEN leads to from an active module that has not refused its node before. -/
def openDecides (c : Chan) (node : Nat) (o : OpenFrame) (s : State) : State :=
  if modeRefuses s then refuseOpen s c node o 0x0B
  else match partnerOf s o.ptype o.ident with
    | none => refuseOpen s c node o 8
    | some (q, x) =>
      match slotOfPartner s q, s.sessions.promised.find? fun y => y.sess.partner == some q with
      | some k, _ => openAgain s c node o k
      | none, some y => openPromised s c node o q x y
      | none, none => admitPartner s c node o q x

/-- SESSION_OPEN. -/
def openHeard (c : Chan) (f : BusFrame) (o : OpenFrame) (s0 : State) : State :=
  let s1 := noteNode s0 c f.node o false
  if openForUs s1 c o = false then s1
  else if sessionSilent s1 then strangerFrame s1 f.node o else
  let s := refreshStranger s1 f.node o
  if s.sessions.quiet.contains f.node then s else openDecides c f.node o s

section
variable {t : Time} {s : State} {c : Chan} {f : BusFrame} {o : OpenFrame}

theorem noteNode_nobody {s : State} {node : Nat} {accept : Bool} (nobody : partnerOf s o.ptype o.ident = none) :
    noteNode s c node o accept = s := by
  unfold noteNode
  rw [nobody]

theorem refreshStranger_unknown {s : State} {node : Nat} (unknown : strangerOf s node o = none) : refreshStranger s node o = s := by
  unfold refreshStranger
  rw [unknown]

theorem sessionOpen_eq : exec (.sessionOpen ⟨t, c⟩ f o) s = at_ t s (opened c 1 f o (openHeard c f o)) := rfl

/-- An opening frame that arrives is heard, and its node noted. -/
theorem meets {op : Nat} {act : State → State} (arrives : Arrives s c op f o) (ours : openForUs s c o = true) :
    ∃ r, Met (s.atTime t) r ∧ r.sessions = s.sessions ∧ receive (s.atTime t) f true = (r, true) ∧
      opened c op f o act (s.atTime t) = act r := by
  obtain ⟨r, heard, got, eq⟩ := openingHeard (s := s.atTime t) (act := act) arrives
    (by rw [show engineOn (s.atTime t) c = 5 from openForUs_active ours]; decide)
  exact ⟨r, heard.met, heard.frame .sessions (by decide), got, eq⟩

/-- What an exit with such a state keeps. -/
theorem answers_met {i : Instr} {g : State → State} {r : State} {P : State → Prop} (hc : exec i s = at_ t s g) (eq : g (s.atTime t) = r)
    (frame : Frame [.sessions, .bus, .twin, .constable] (s.atTime t) r) (role : r.twin.role = s.twin.role) (h : P r) : Answers i s P :=
  answers_role hc (by rw [eq]; exact frame) (by decide) (by rw [eq]; exact role) (by rw [eq]; exact h)

/-- The noting of a stranger: the list of them, what was ignored, and source 94. -/
structure Noted (s r : State) : Prop where
  frame : Frame [.sessions, .constable] s r
  sessions : ∃ l n, r.sessions = { s.sessions with strangers := l, ignored := n }
  source : ∀ n, n ≠ 94 → source r n = source s n

theorem noteStranger_noted {s : State} (quiet : Quiet s 94) (node : Nat) (ident : U32) (reason : U8) :
    Noted s (noteStranger s node ident reason) := by
  unfold noteStranger
  dsimp only
  split
  · exact ⟨(modSessions_frame s fun y => { y with strangers := _ }).mono (m := [.sessions, .constable]) (by decide), ⟨_, s.sessions.ignored, rfl⟩, fun _ _ => rfl⟩
  · split
    · exact ⟨(modSessions_frame s fun y => { y with strangers := _ }).mono (m := [.sessions, .constable]) (by decide), ⟨_, s.sessions.ignored, rfl⟩, fun _ _ => rfl⟩
    · have ignored : Frame [.sessions] s { s with sessions := { s.sessions with ignored := s.sessions.ignored + 1 } } :=
        modSessions_frame s fun y => { y with ignored := y.ignored + 1 }
      have quiet' : Quiet { s with sessions := { s.sessions with ignored := s.sessions.ignored + 1 } } 94 := quiet
      obtain ⟨recorded, -, others⟩ := raise_quietly quiet' (by decide) (u32 node) 32 ident
      refine ⟨(ignored.mono (by decide)).trans (recorded.mono (by decide)), ⟨s.sessions.strangers, s.sessions.ignored + 1, ?_⟩,
        fun n hn => others n hn⟩
      exact recorded .sessions (by decide)

theorem Noted.refl (s : State) : Noted s s := ⟨.refl _ _, ⟨s.sessions.strangers, s.sessions.ignored, rfl⟩, fun _ _ => rfl⟩

theorem strangerFrame_noted {s : State} (quiet : Quiet s 94) (node : Nat) (o : OpenFrame) : Noted s (strangerFrame s node o) := by
  unfold strangerFrame
  split
  · exact noteStranger_noted quiet _ _ _
  · exact noteStranger_noted quiet _ _ _
  · exact .refl s

/-- A standby takes an OPEN, and answers nothing. -/
theorem openTaken (ours : openForUs s c o = true) (quiet : Quiet s 94) (arrives : Arrives s c 1 f o) (silent : sessionSilent s = true) :
    Answers (.sessionOpen ⟨t, c⟩ f o) s fun s' =>
      s'.sessions.slots = s.sessions.slots ∧ s'.sessions.promised = s.sessions.promised ∧
        Frame [.now, .sessions, .bus, .twin, .constable] s s' := by
  obtain ⟨r, met, -, -, eq⟩ := meets (t := t) (act := openHeard c f o) arrives ours
  have noted := met.noteNode (c := c) (node := f.node) (o := o) false
  rw [openHeard] at eq
  dsimp only at eq
  generalize noteNode r c f.node o false = x at noted eq
  rw [if_neg (by rw [noted.ours, show openForUs (s.atTime t) c o = true from ours]; simp), if_pos (noted.silent.trans silent)] at eq
  obtain ⟨strange, ⟨l, n, sessions⟩, -⟩ := strangerFrame_noted (quiet_congr (noted.source 94 (by decide) (by decide)) quiet) f.node o
  generalize strangerFrame x f.node o = y at strange sessions eq
  have frame := noted.frame.trans (strange.mono (by decide))
  refine answers_met sessionOpen_eq eq frame ?_ ⟨?_, ?_, frame_with_now (l := [.sessions, .bus, .twin, .constable]) frame⟩
  · rw [strange .twin (by decide)]
    exact noted.role
  · rw [sessions]
    exact noted.slots
  · rw [sessions]
    exact noted.promised

/-- What the noting of a stranger that is refused leaves; nothing is noted of a partner refused for its mode or its place. -/
def strangerRefused (c : Chan) (node : Nat) (o : OpenFrame) (reason : U8) (s : State) : State :=
  let s1 := sendReason s c 3 node reason 0
  if (partnerOf s o.ptype o.ident).isNone || (1 ≤ reason.toNat && reason.toNat ≤ 6) || (strangerOf s node o).isSome then
    noteStranger s1 node o.ident reason
  else s1

theorem refuseOpen_eq {x : State} {node : Nat} {reason : U8} (h : reason ≠ 7) : refuseOpen x c node o reason =
    raise (modSessions (strangerRefused c node o reason x) fun y => { y with refused := y.refused + 1 }) 88 (u32 node)
      (u32 reason.toNat) o.ident := if_neg h

/-- What a refusal leaves. -/
structure Refuses (s r : State) (node : Nat) (reason : U8) (o : OpenFrame) : Prop where
  refused : r.sessions.refused = s.sessions.refused + 1
  slots : r.sessions.slots = s.sessions.slots
  promised : r.sessions.promised = s.sessions.promised
  raised : Raised s r 88 (u32 node) (u32 reason.toNat) o.ident

theorem refuseOpen_refuses {x : State} {node : Nat} {reason : U8} (h : reason ≠ 7) (quiet94 : Quiet x 94) (quiet88 : Quiet x 88) :
    Refuses x (refuseOpen x c node o reason) node reason o ∧ Frame [.sessions, .bus, .constable] x (refuseOpen x c node o reason) ∧
      (refuseOpen x c node o reason).sessions.strangers = (strangerRefused c node o reason x).sessions.strangers := by
  rw [refuseOpen_eq h]
  have noted : Frame [.sessions, .bus, .constable] x (strangerRefused c node o reason x) ∧ (∃ l n, (strangerRefused c node o reason x).sessions =
      { x.sessions with strangers := l, ignored := n }) ∧ source (strangerRefused c node o reason x) 88 = source x 88 := by
    have sent := sendOpenFrame_handed x c 3 { ownOpen x node reason with sess := 0 }
    have sessions := sent.frame .sessions (by decide)
    have constable := sent.frame .constable (by decide)
    have sources (n : Nat) := source_of_constable constable n
    unfold strangerRefused
    change Frame [.sessions, .bus, .constable] x (if _ then noteStranger (sendOpenFrame x c 3 { ownOpen x node reason with sess := 0 }) _ _ _
      else sendOpenFrame x c 3 { ownOpen x node reason with sess := 0 }) ∧ _
    unfold sendReason
    dsimp only
    generalize sendOpenFrame x c 3 { ownOpen x node reason with sess := 0 } = z at sent sessions sources ⊢
    split
    · obtain ⟨frame, ⟨l, n, noted⟩, others⟩ := noteStranger_noted (s := z) (quiet_congr (sources 94) quiet94) node o.ident reason
      exact ⟨(sent.frame.mono (by decide)).trans (frame.mono (by decide)), ⟨l, n, by rw [noted, sessions]⟩,
        (others 88 (by decide)).trans (sources 88)⟩
    · exact ⟨sent.frame.mono (by decide), ⟨x.sessions.strangers, x.sessions.ignored, sessions⟩, sources 88⟩
  generalize strangerRefused c node o reason x = y at noted ⊢
  obtain ⟨frame, ⟨l, n, sessions⟩, kept⟩ := noted
  have counted := modSessions_frame y fun z => { z with refused := z.refused + 1 }
  have before : source (modSessions y fun z => { z with refused := z.refused + 1 }) 88 = source x 88 :=
    (source_of_constable (counted .constable (by decide)) 88).trans kept
  obtain ⟨recorded, raised, -⟩ := raise_quietly (quiet_congr before quiet88) (by decide) (u32 node) (u32 reason.toNat) o.ident
  have after := recorded .sessions (by decide)
  refine ⟨⟨?_, ?_, ?_, raised.of_kept before⟩, frame.trans ((counted.mono (by decide)).trans (recorded.mono (by decide))), ?_⟩
  · rw [after]
    dsimp only [modSessions]
    rw [sessions]
  · rw [after]
    dsimp only [modSessions]
    rw [sessions]
  · rw [after]
    dsimp only [modSessions]
    rw [sessions]
  · rw [after]
    rfl

/-- A refusal that follows the meeting of a node. -/
theorem met_refuses {r : State} (met : Met (s.atTime t) r) (quiet94 : Quiet s 94) (quiet88 : Quiet s 88) {reason : U8} (h : reason ≠ 7) :
    Refuses s (refuseOpen r c f.node o reason) f.node reason o ∧
      Frame [.sessions, .bus, .twin, .constable] (s.atTime t) (refuseOpen r c f.node o reason) ∧
      (refuseOpen r c f.node o reason).twin.role = s.twin.role := by
  have kept : source r 88 = source s 88 := met.source 88 (by decide) (by decide)
  obtain ⟨⟨refused, slots, promised, raised⟩, frame, -⟩ := refuseOpen_refuses (x := r) (c := c) (node := f.node) (o := o) h
    (quiet_congr (met.source 94 (by decide) (by decide)) quiet94) (quiet_congr kept quiet88)
  obtain ⟨l, m, sessions⟩ := met.sessions
  refine ⟨⟨?_, slots.trans met.slots, promised.trans met.promised, raised.of_kept kept⟩, met.frame.trans (frame.mono (by decide)), ?_⟩
  · rw [refused, sessions]
    rfl
  · rw [frame .twin (by decide)]
    exact met.role

section
variable (ours : openForUs s c o = true) (arrives : Arrives s c 1 f o) (speaks : sessionSilent s = false)
  (fresh : s.sessions.quiet.contains f.node = false)
include ours arrives speaks fresh

/-- An OPEN of a node that has not been refused before is judged. -/
theorem openJudged : ∃ r, Met (s.atTime t) r ∧ (partnerOf s o.ptype o.ident = none → strangerOf s f.node o = none →
      r.sessions = s.sessions) ∧ opened c 1 f o (openHeard c f o) (s.atTime t) = openDecides c f.node o r := by
  obtain ⟨r, met, before, -, eq⟩ := meets (t := t) (act := openHeard c f o) arrives ours
  have noted := met.noteNode (c := c) (node := f.node) (o := o) false
  have known := noted.refreshStranger (node := f.node) (o := o)
  rw [openHeard] at eq
  dsimp only at eq
  rw [if_neg (by rw [noted.ours, show openForUs (s.atTime t) c o = true from ours]; simp),
    if_neg (by rw [noted.silent, show sessionSilent (s.atTime t) = false from speaks]; simp),
    if_neg (by rw [known.quietNodes, show (s.atTime t).sessions.quiet.contains f.node = false from fresh]; simp)] at eq
  refine ⟨_, known, fun nobody unknown => ?_, eq⟩
  rw [noteNode_nobody ((met.partner _ _).trans nobody), refreshStranger_unknown
    ((strangerOf_congr (congrArg SessionsSt.strangers before) _ _).trans unknown)]
  exact before

variable (quiet94 : Quiet s 94) (quiet88 : Quiet s 88)
include quiet94 quiet88

/-- An OPEN that is refused. -/
theorem openRefused {P : State → Prop} {reason : U8} (h : reason ≠ 7)
    (refuses : ∀ r, Met (s.atTime t) r → openDecides c f.node o r = refuseOpen r c f.node o reason)
    (goal : ∀ r, Met (s.atTime t) r → (partnerOf s o.ptype o.ident = none → strangerOf s f.node o = none → r.sessions = s.sessions) →
      Refuses s (refuseOpen r c f.node o reason) f.node reason o →
      Frame [.now, .sessions, .bus, .twin, .constable] s (refuseOpen r c f.node o reason) → P (refuseOpen r c f.node o reason)) :
    Answers (.sessionOpen ⟨t, c⟩ f o) s P := by
  obtain ⟨r, met, unknown, eq⟩ := openJudged (t := t) ours arrives speaks fresh
  obtain ⟨refused, frame, role⟩ := met_refuses (c := c) (f := f) (o := o) met quiet94 quiet88 h
  exact answers_met sessionOpen_eq (eq.trans (refuses r met)) frame role
    (goal r met unknown refused (frame_with_now (l := [.sessions, .bus, .twin, .constable]) frame))

theorem modeRefusesOpen (mode : modeRefuses s = true) : Answers (.sessionOpen ⟨t, c⟩ f o) s fun s' =>
    s'.sessions.refused = s.sessions.refused + 1 ∧ s'.sessions.slots = s.sessions.slots ∧
      Raised s s' 88 (u32 f.node) 0x0B o.ident ∧ Frame [.now, .sessions, .bus, .twin, .constable] s s' :=
  openRefused ours arrives speaks fresh quiet94 quiet88 (reason := 0x0B) (by decide)
    (fun r met => if_pos (met.modeRefuses.trans mode))
    fun r _ _ refused frame => ⟨refused.refused, refused.slots, refused.raised, frame⟩

variable (accepts : modeRefuses s = false)
include accepts

omit ours arrives speaks fresh quiet94 quiet88 in
theorem openDecides_nobody {r : State} (met : Met (s.atTime t) r) (nobody : partnerOf s o.ptype o.ident = none) :
    openDecides c f.node o r = refuseOpen r c f.node o 8 := by
  have unknown : partnerOf r o.ptype o.ident = none := (met.partner _ _).trans nobody
  unfold openDecides
  rw [if_neg (by rw [met.modeRefuses, show modeRefuses (s.atTime t) = false from accepts]; simp), unknown]

/-- Nobody's OPEN makes its node a stranger. -/
theorem strangerRefusedAndNoted (nobody : partnerOf s o.ptype o.ident = none) (room : s.sessions.strangers.length < 32)
    (unknown : ∀ y ∈ s.sessions.strangers, y.node ≠ f.node) : Answers (.sessionOpen ⟨t, c⟩ f o) s fun s' =>
      s'.sessions.refused = s.sessions.refused + 1 ∧ s'.sessions.slots = s.sessions.slots ∧
        s'.sessions.strangers = s.sessions.strangers ++ [⟨f.node, o.ident, 8, t⟩] ∧ Raised s s' 88 (u32 f.node) 8 o.ident ∧
        Frame [.now, .sessions, .bus, .twin, .constable] s s' := by
  have strange : strangerOf s f.node o = none := List.find?_eq_none.mpr fun y hy => by
    rw [beq_eq_false_iff_ne.mpr (unknown y hy)]
    exact Bool.false_ne_true
  refine openRefused ours arrives speaks fresh quiet94 quiet88 (reason := 8) (by decide) (fun r met => ?_) fun r met same refused frame =>
    ⟨refused.refused, refused.slots, ?_, refused.raised, frame⟩
  · exact openDecides_nobody accepts met nobody
  · have kept : source r 88 = source s 88 := met.source 88 (by decide) (by decide)
    rw [(refuseOpen_refuses (x := r) (c := c) (node := f.node) (o := o) (reason := 8) (by decide)
      (quiet_congr (met.source 94 (by decide) (by decide)) quiet94) (quiet_congr kept quiet88)).2.2]
    have sent := sendOpenFrame_handed r c 3 { ownOpen r f.node 8 with sess := 0 }
    have sessions : (sendOpenFrame r c 3 { ownOpen r f.node 8 with sess := 0 }).sessions = s.sessions :=
      (sent.frame .sessions (by decide)).trans (same nobody strange)
    have now : (sendOpenFrame r c 3 { ownOpen r f.node 8 with sess := 0 }).now = t := sent.bearing.now.trans met.bearing.now
    have newcomer : ((sendOpenFrame r c 3 { ownOpen r f.node 8 with sess := 0 }).sessions.strangers.any fun y =>
        y.node == f.node && y.ident == o.ident) = false := by
      rw [sessions]
      exact List.any_eq_false.mpr (List.find?_eq_none.mp strange)
    unfold strangerRefused sendReason
    dsimp only
    rw [met.partner, show partnerOf (s.atTime t) o.ptype o.ident = none from nobody]
    generalize sendOpenFrame r c 3 { ownOpen r f.node 8 with sess := 0 } = z at sessions now newcomer ⊢
    rw [if_pos (by rfl)]
    unfold noteStranger
    dsimp only
    rw [newcomer, if_neg (by decide), sessions, if_pos room, now]

variable {k q : Nat} {x : Partner} {pol : Policy} (partner : partnerOf s o.ptype o.ident = some (q, x)) (unheld : slotOfPartner s q = none)
  (unpromised : ∀ y ∈ s.sessions.promised, y.sess.partner ≠ some q) (free : freeSess s = some k) (policy : policy? s x.ptype = some pol)
include partner unheld unpromised free policy

omit ours arrives speaks fresh quiet94 quiet88 policy in
/-- A partner without a slot is admitted to the lowest Free one. -/
theorem openDecides_admits {r : State} (met : Met (s.atTime t) r) : openDecides c f.node o r = admitTo r c f.node o q x k := by
  have known : partnerOf r o.ptype o.ident = some (q, x) := (met.partner _ _).trans partner
  have unheld' : slotOfPartner r q = none := (met.slotOf q).trans unheld
  have nobody : (r.sessions.promised.find? fun y => y.sess.partner == some q) = none := by
    rw [met.promised]
    refine List.find?_eq_none.mpr fun y hy => ?_
    rw [beq_eq_false_iff_ne.mpr (unpromised y hy)]
    exact Bool.false_ne_true
  have free' : freeSess r = some k := met.free.trans free
  unfold openDecides
  rw [if_neg (by rw [met.modeRefuses, show modeRefuses (s.atTime t) = false from accepts]; simp), known]
  dsimp only
  rw [unheld', nobody]
  dsimp only
  unfold admitPartner
  rw [free']

omit ours arrives speaks fresh quiet94 quiet88 accepts partner unheld unpromised free in
theorem admitTo_refuses {r : State} (met : Met (s.atTime t) r) {code : U8} (disagree : negotiate s o pol x = .error code) :
    admitTo r c f.node o q x k = refuseOpen r c f.node o code := by
  have policy' : policy? r x.ptype = some pol := (met.policy x.ptype).trans policy
  have agreed : negotiate r o pol x = .error code := (met.negotiates pol x).trans disagree
  unfold admitTo
  rw [policy']
  dsimp only
  rw [agreed]

omit ours arrives speaks fresh quiet94 quiet88 accepts partner unheld unpromised free in
theorem admitTo_promises {r : State} (met : Met (s.atTime t) r) {opt : Options} (agree : negotiate s o pol x = .ok opt)
    (positions : positionsOk s x.ptype f.node = true) {l : List Nat}
    (slices : l = freeSlices s (if x.ptype = 0 then opt.payload / 16 else 0))
    (enough : l.length = (if x.ptype = 0 then opt.payload / 16 else 0)) :
    admitTo r c f.node o q x k = promise r c k f.node o (openingSess q f.node opt l o k false) := by
  have policy' : policy? r x.ptype = some pol := (met.policy x.ptype).trans policy
  have agreed : negotiate r o pol x = .ok opt := (met.negotiates pol x).trans agree
  have slices' : freeSlices r (if x.ptype = 0 then opt.payload / 16 else 0) = l := (met.slices _).trans slices.symm
  have positions' : positionsOk r x.ptype f.node = true := (met.positions _ _).trans positions
  unfold admitTo
  rw [policy']
  dsimp only
  rw [agreed]
  dsimp only
  rw [slices', positions', if_neg (by simp [enough])]

omit ours arrives speaks fresh quiet94 quiet88 accepts partner unheld unpromised free policy in
/-- The codes of a negotiation are 1 to 6. -/
theorem negotiate_code {code : U8} (h : negotiate s o pol x = .error code) : code ≠ 7 := by
  rintro rfl
  unfold negotiate at h
  repeat' split at h
  all_goals exact absurd h (by simp)

theorem openDisagrees {code : U8} (disagree : negotiate s o pol x = .error code) : Answers (.sessionOpen ⟨t, c⟩ f o) s fun s' =>
    s'.sessions.refused = s.sessions.refused + 1 ∧ s'.sessions.slots = s.sessions.slots ∧
      s'.sessions.promised = s.sessions.promised ∧ Raised s s' 88 (u32 f.node) (u32 code.toNat) o.ident := by
  refine openRefused ours arrives speaks fresh quiet94 quiet88 (negotiate_code disagree) (fun r met => ?_) fun r _ _ refused _ =>
    ⟨refused.refused, refused.slots, refused.promised, refused.raised⟩
  rw [openDecides_admits accepts partner unheld unpromised free met, admitTo_refuses policy met disagree]

/-- The note of a promised slot. -/
def promises (k node : Nat) (o : OpenFrame) (y : Sess) (s : State) : State :=
  modSessions s fun z => { z with promised := z.promised ++ [⟨k, s.now, node, o, y⟩] }

omit quiet94 quiet88 in
theorem openPromises {opt : Options} (agree : negotiate s o pol x = .ok opt) (positions : positionsOk s x.ptype f.node = true) {l : List Nat}
    (slices : l = freeSlices s (if x.ptype = 0 then opt.payload / 16 else 0))
    (enough : l.length = (if x.ptype = 0 then opt.payload / 16 else 0)) : Answers (.sessionOpen ⟨t, c⟩ f o) s fun s' =>
      s'.sessions.promised = s.sessions.promised ++ [⟨k, t, f.node, o, openingSess q f.node opt l o k false⟩] ∧
        s'.sessions.slots = s.sessions.slots ∧
        (chanBus s' .a).queue.length + (chanBus s' .b).queue.length =
          (chanBus s .a).queue.length + (chanBus s .b).queue.length + 1 ∧
        Frame [.now, .sessions, .bus, .twin, .constable] s s' := by
  obtain ⟨r, met, -, eq⟩ := openJudged (t := t) ours arrives speaks fresh
  rw [openDecides_admits accepts partner unheld unpromised free met, admitTo_promises policy met agree positions slices enough] at eq
  change _ = sendOpenFrame (promises k f.node o (openingSess q f.node opt l o k false) r) c 2
    (acceptFrame (promises k f.node o (openingSess q f.node opt l o k false) r) k (openingSess q f.node opt l o k false)) at eq
  have noted : Frame [.sessions] r (promises k f.node o (openingSess q f.node opt l o k false) r) := modSessions_frame _ _
  have promised : (promises k f.node o (openingSess q f.node opt l o k false) r).sessions.promised =
      s.sessions.promised ++ [⟨k, t, f.node, o, openingSess q f.node opt l o k false⟩] := by
    unfold promises modSessions
    dsimp only
    rw [met.promised, met.bearing.now]
    rfl
  have slots : (promises k f.node o (openingSess q f.node opt l o k false) r).sessions.slots = s.sessions.slots := met.slots
  have queue (i : Chan) : (chanBus (promises k f.node o (openingSess q f.node opt l o k false) r) i).queue = (chanBus s i).queue := met.queue i
  generalize promises k f.node o (openingSess q f.node opt l o k false) r = y at noted promised slots queue eq
  have sent := sendOpenFrame_handed y c 2 (acceptFrame y k (openingSess q f.node opt l o k false))
  generalize sendOpenFrame y c 2 (acceptFrame y k (openingSess q f.node opt l o k false)) = z at sent eq
  have frame := met.frame.trans ((noted.mono (by decide)).trans (sent.frame.mono (by decide)))
  have sessions : z.sessions = y.sessions := sent.frame .sessions (by decide)
  refine answers_met sessionOpen_eq eq frame ?_ ⟨?_, ?_, ?_, frame_with_now (l := [.sessions, .bus, .twin, .constable]) frame⟩
  · rw [sent.frame .twin (by decide), noted .twin (by decide)]
    exact met.role
  · rw [sessions, promised]
  · rw [sessions, slots]
  · rw [sent.lengths, queue, queue]

end

end

/-! ### Kutia's own OPEN (R266) -/

section
variable {t : Time} {s : State} {c : Chan} {f : BusFrame} {o : OpenFrame}

/-- SESSION_ACCEPT. -/
def acceptHeard (c : Chan) (f : BusFrame) (o : OpenFrame) (s0 : State) : State :=
  let node := f.node
  let s1 := noteNode s0 c node o true
  if openForUs s1 c o = false ∨ inSplit s1 then s1 else
  let s := strangerFrame s1 node o
  match partnerOf s o.ptype o.ident with
  | some (q, x) =>
    if x.ptype ≠ 1 ∨ s.sessions.sentOpen.contains q = false ∨ slotOfPartner s q ≠ none then s else
    let s1 := openAnswered s q
    match freeSess s with
    | some k => notePeak (modSess s1 k fun _ => openingSess q node (acceptOptions o) [] o o.sess.toNat true)
    | none => waitBoundary (sendReason s1 c 4 node 7 0) q
  | none => s

/-- SESSION_REFUSE. -/
def refuseHeard (c : Chan) (f : BusFrame) (o : OpenFrame) (s0 : State) : State :=
  if openForUs s0 c o = false ∨ inSplit s0 then s0 else
  let s := strangerFrame s0 f.node o
  match partnerOf s o.ptype o.ident with
  | some (q, _) =>
    if s.sessions.sentOpen.contains q then
      let s1 := openAnswered s q
      if o.reason = 7 then waitBoundary s1 q else s1
    else s
  | none => s

theorem sessionAccept_eq : exec (.sessionAccept ⟨t, c⟩ f o) s = at_ t s (opened c 2 f o (acceptHeard c f o)) := by
  change openingAt ⟨t, c⟩ 2 f o s _ = openingAt ⟨t, c⟩ 2 f o s (acceptHeard c f o)
  refine congrArg (openingAt ⟨t, c⟩ 2 f o s) (funext fun s0 => ?_)
  unfold acceptHeard
  dsimp only <;> (
    generalize noteNode s0 c f.node o true = s1
    split
    · rfl
    · generalize strangerFrame s1 f.node o = x
      cases partnerOf x o.ptype o.ident with
      | none => rfl
      | some e =>
        dsimp only
        split
        · rfl
        · cases freeSess x <;> rfl)

theorem sessionRefuse_eq : exec (.sessionRefuse ⟨t, c⟩ f o) s = at_ t s (opened c 3 f o (refuseHeard c f o)) := rfl

section
variable {q : Nat} {x : Partner} (ours : openForUs s c o = true) (partner : partnerOf s o.ptype o.ident = some (q, x))
  (whole : inSplit s = false) (asked : s.sessions.sentOpen.contains q = true) (unknown : strangerOf s f.node o = none)
include ours partner whole asked unknown

omit ours partner whole asked unknown in
/-- An answer to Kutia's own OPEN leaves the strangers alone. -/
theorem noteNode_strangers (r : State) (accept : Bool) :
    (noteNode r c f.node o accept).sessions.strangers = r.sessions.strangers := by
  unfold noteNode
  split
  · split <;> rfl
  · rfl

/-- The slot of a session that Kutia opens. -/
def opens (k q node : Nat) (o : OpenFrame) (s : State) : State :=
  notePeak (modSess (openAnswered s q) k fun _ => openingSess q node (acceptOptions o) [] o o.sess.toNat true)

theorem acceptHeard_opens {k : Nat} {r : State} (met : Met (s.atTime t) r) (same : r.sessions = s.sessions) (neighbour : x.ptype = 1)
    (unheld : slotOfPartner s q = none) (free : freeSess s = some k) :
    ∃ y, Met (s.atTime t) y ∧ acceptHeard c f o r = opens k q f.node o y := by
  have noted := met.noteNode (c := c) (node := f.node) (o := o) true
  have strangers : (noteNode r c f.node o true).sessions.strangers = s.sessions.strangers :=
    (noteNode_strangers r true).trans (congrArg SessionsSt.strangers same)
  refine ⟨_, noted, ?_⟩
  unfold acceptHeard
  dsimp only
  generalize noteNode r c f.node o true = y at noted strangers ⊢
  have known : partnerOf y o.ptype o.ident = some (q, x) := (noted.partner _ _).trans partner
  rw [if_neg (by rw [noted.ours, noted.bearing.inSplit, show openForUs (s.atTime t) c o = true from ours,
    show inSplit (s.atTime t) = false from whole]; simp), strangerFrame_partner ((strangerOf_congr strangers _ _).trans unknown) known, known]
  dsimp only
  have fine : ¬ (x.ptype ≠ 1 ∨ y.sessions.sentOpen.contains q = false ∨ slotOfPartner y q ≠ none) := by
    rw [noted.sentOpen, noted.slotOf, show (s.atTime t).sessions.sentOpen.contains q = true from asked]
    rintro (other | silent | held)
    · exact other neighbour
    · exact Bool.noConfusion silent
    · exact held unheld
  have free' : freeSess y = some k := noted.free.trans free
  rw [if_neg fine, free']
  rfl

theorem acceptOpens {k : Nat} (arrives : Arrives s c 2 f o) (neighbour : x.ptype = 1) (unheld : slotOfPartner s q = none)
    (free : freeSess s = some k) : Answers (.sessionAccept ⟨t, c⟩ f o) s fun s' =>
      (sess s' k).state = 1 ∧ (sess s' k).partner = some q ∧ (sess s' k).node = f.node ∧
        optionsOf (sess s' k) = acceptOptions o ∧ (sess s' k).carried = o.sess.toNat ∧ (sess s' k).opensAt = o.matrix ∧
        (sess s' k).stamped = true ∧ s'.sessions.sentOpen.contains q = false ∧
        Frame [.now, .sessions, .bus, .twin, .constable] s s' := by
  obtain ⟨r, met, same, -, eq⟩ := meets (t := t) (act := acceptHeard c f o) arrives ours
  obtain ⟨y, noted, accepted⟩ := acceptHeard_opens ours partner whole asked unknown met same neighbour unheld free
  rw [accepted] at eq
  have frame : Frame [.sessions] y (opens k q f.node o y) := fun p hp => by
    cases p <;> simp [Machine.same, opens, notePeak, openAnswered, modSess] at hp ⊢
  have record : sess (opens k q f.node o y) k = openingSess q f.node (acceptOptions o) [] o o.sess.toNat true :=
    tget_tput_self _ _ _ _ fun none => absurd (congrArg Sess.state none) (show (1 : Nat) ≠ 0 by decide)
  have answered : (opens k q f.node o y).sessions.sentOpen.contains q = false := by
    simp [opens, notePeak, openAnswered, modSess]
  have all := noted.frame.trans (frame.mono (by decide))
  refine answers_met sessionAccept_eq eq all ?_ ?_
  · rw [frame .twin (by decide)]
    exact noted.role
  · rw [record]
    exact ⟨rfl, rfl, rfl, rfl, rfl, rfl, rfl, answered, frame_with_now (l := [.sessions, .bus, .twin, .constable]) all⟩

theorem refuseHeard_answers {r : State} (met : Met (s.atTime t) r) (same : r.sessions = s.sessions) : refuseHeard c f o r =
    if o.reason = 7 then waitBoundary (openAnswered r q) q else openAnswered r q := by
  have known : partnerOf r o.ptype o.ident = some (q, x) := (met.partner _ _).trans partner
  unfold refuseHeard
  rw [if_neg (by rw [met.ours, met.bearing.inSplit, show openForUs (s.atTime t) c o = true from ours,
    show inSplit (s.atTime t) = false from whole]; simp),
    strangerFrame_partner ((strangerOf_congr (congrArg SessionsSt.strangers same) _ _).trans unknown) known]
  dsimp only
  rw [known]
  dsimp only
  rw [if_pos (by rw [same]; exact asked)]

theorem ownOpenRefused (arrives : Arrives s c 3 f o) :
    (o.reason = 7 → Runs (.sessionRefuse ⟨t, c⟩ f o) s (modSessions (receive (s.atTime t) f true).1 fun y => { y with
      sentOpen := y.sentOpen.filter fun z => z != q, waiting := y.waiting ++ [q] })) ∧
    (o.reason ≠ 7 → Runs (.sessionRefuse ⟨t, c⟩ f o) s (modSessions (receive (s.atTime t) f true).1 fun y => { y with
      sentOpen := y.sentOpen.filter fun z => z != q })) := by
  obtain ⟨r, met, same, got, eq⟩ := meets (t := t) (act := refuseHeard c f o) arrives ours
  rw [refuseHeard_answers ours partner whole asked unknown met same] at eq
  rw [got]
  refine ⟨fun full => ?_, fun other => ?_⟩
  · rw [if_pos full] at eq
    refine runs_opened sessionRefuse_eq eq ((met.frame.mono (by decide)).trans ((modSessions_frame r _).mono (by decide))) met.role
  · rw [if_neg other] at eq
    refine runs_opened sessionRefuse_eq eq ((met.frame.mono (by decide)).trans ((modSessions_frame r _).mono (by decide))) met.role

end

/-! ### The ACCEPT is sent (R264) -/

/-- The promised slot, with the matrix whose boundary opens it. -/
def stamps (k : Nat) (y : Promise) (m : U16) (s : State) : State :=
  notePeak (modSess (dropPromise s k) k fun _ => { y.sess with opensAt := m, stamped := true })

theorem stampAccept_stamps {s : State} {g : BusFrame} {y : Promise} {b p k : Nat} (slot : acceptSlot g = some k)
    (promised : (s.sessions.promised.find? fun z => z.slot == k) = some y) :
    ∃ f, stampAccept s b p g true = (stamps k y (openingMatrix s b p) s, f) := by
  unfold stampAccept
  rw [slot]
  dsimp only
  rw [promised]
  exact ⟨_, rfl⟩

theorem acceptSent {g : BusFrame} {y : Promise} {k trip : Nat} {b : Fin 64} {p : Fin 200} (active : engineOn s c = 5)
    (known : (chanBus s c).delay.isSome = true) (first : (chanBus s c).tries = 0) (next : nextArbitrating s c = some g)
    (slot : acceptSlot g = some k) (promised : (s.sessions.promised.find? fun z => z.slot == k) = some y)
    (fits : arbitratingFits s c p.val g.body.length = true) : Answers (.transmitPosition t c b p ⟨some trip, []⟩) s fun s' =>
      sess s' k = { y.sess with opensAt := openingMatrix s b.val p.val, stamped := true } ∧
        (∀ z ∈ s'.sessions.promised, z.slot ≠ k) ∧ Frame [.now, .sessions, .bus, .out] s s' := by
  obtain ⟨h, z, hc, placed, -, matrix, eq⟩ := sends_next (t := t) (b := b) (back := some trip) active next fits known (.inl ⟨rfl, first⟩)
  have accept : g.ftype = 7 := by
    unfold acceptSlot at slot
    split at slot
    · next accept => exact accept.1
    · exact absurd slot (by simp)
  have promised' : (z.sessions.promised.find? fun x => x.slot == k) = some y := by
    rw [placed .sessions (by decide)]
    exact promised
  have opening : openingMatrix z b.val p.val = openingMatrix s b.val p.val := by
    unfold openingMatrix
    rw [matrix]
  obtain ⟨f', stamped⟩ := stampAccept_stamps (b := b.val) (p := p.val) slot promised'
  rw [opening] at stamped
  rw [sendArbitrating_clean stamped] at eq
  have record : sess (stamps k y (openingMatrix s b.val p.val) z) k =
      { y.sess with opensAt := openingMatrix s b.val p.val, stamped := true } :=
    tget_tput_self _ _ _ _ fun none => Bool.noConfusion (congrArg Sess.stamped none)
  have dropped (x) (hx : x ∈ (stamps k y (openingMatrix s b.val p.val) z).sessions.promised) : x.slot ≠ k := by
    simpa using (List.mem_filter.mp hx).2
  have stampedFrame : Frame [.sessions] z (stamps k y (openingMatrix s b.val p.val) z) := fun q hq => by
    cases q <;> simp [same, stamps, notePeak, modSess, dropPromise] at hq ⊢
  generalize stamps k y (openingMatrix s b.val p.val) z = w at record dropped stampedFrame eq
  have sent := sendBus_sent w c b.val p.val f'
  generalize sendBus w c b.val p.val f' = v at sent eq
  obtain ⟨wait, clean⟩ := sentClean_plain (y := v) (c := c) (trip := trip) (f := g) (by rw [accept]; decide)
  unfold dropSent at clean
  rw [clean, modBus_modBus] at eq
  have frame : Frame [.sessions, .bus, .out] (s.atTime t) (h (s.atTime t)) := by
    rw [eq]
    exact (placed.mono (by decide)).trans ((stampedFrame.mono (by decide)).trans ((sent.frame.mono (by decide)).trans
      ((modBus_frame _ _ _).mono (by decide))))
  have sessions : (h (s.atTime t)).sessions = w.sessions := by
    rw [eq]
    exact sent.frame .sessions (by decide)
  refine answers_still hc frame (by decide) ⟨?_, ?_, frame_with_now (l := [.sessions, .bus, .out]) frame⟩
  · rw [← record]
    unfold sess
    rw [sessions]
  · rw [sessions]
    exact dropped

/-! ### Kutia's own OPEN is sent (R266) -/

/-- SESSION_OPEN_SEND. -/
def sendsOpen (partner : Nat) (s : State) : State :=
  match partner? s partner with
  | some q =>
    if q.ptype = 1 ∧ ownSession s < partnerAddr q ∧ sessionSilent s = false ∧ modeRefuses s = false ∧ s.bus.engine = 5
        ∧ slotOfPartner s partner = none ∧ s.sessions.waiting.contains partner = false then
      let target := Config.free s.draws % 1023
      let s1 := sendOpenFrame (draw s) .a 1 (ownOffer s q target)
      { s1 with sessions := { s1.sessions with
          sentOpen := (s1.sessions.sentOpen.filter fun x => x != partner) ++ [partner] } }
    else s
  | none => s

theorem sessionOpenSend_eq (q : Nat) : exec (.sessionOpenSend t q) s = at_ t s (sendsOpen q) := rfl

section
variable {q : Nat} {x : Partner} (partner : partner? s q = some x)
include partner

theorem sendsOpen_waits (lower : partnerAddr x ≤ ownSession s) : Runs (.sessionOpenSend t q) s (s.atTime t) := by
  refine runs_idle (sessionOpenSend_eq q) ?_
  unfold sendsOpen
  rw [show partner? (s.atTime t) q = some x from partner]
  exact if_neg fun due => absurd due.2.1 (Nat.not_lt.mpr lower)

theorem ownOpenSent (neighbour : x.ptype = 1) (speaks : sessionSilent s = false) (active : s.bus.engine = 5) (accepts : modeRefuses s = false)
    (unheld : slotOfPartner s q = none) (fresh : s.sessions.waiting.contains q = false) (higher : ownSession s < partnerAddr x) :
    Answers (.sessionOpenSend t q) s fun s' =>
      s'.sessions.sentOpen.contains q = true ∧ s'.sessions.slots = s.sessions.slots ∧
        (chanBus s' .a).queue.length + (chanBus s' .b).queue.length =
          (chanBus s .a).queue.length + (chanBus s .b).queue.length + 1 ∧
        Frame [.now, .sessions, .bus, .draws] s s' := by
  have eq : sendsOpen q (s.atTime t) = modSessions (sendOpenFrame (draw (s.atTime t)) .a 1 (ownOffer (s.atTime t) x
      (Config.free s.draws % 1023))) fun y => { y with sentOpen := (y.sentOpen.filter fun z => z != q) ++ [q] } := by
    unfold sendsOpen
    rw [show partner? (s.atTime t) q = some x from partner]
    exact if_pos ⟨neighbour, higher, speaks, accepts, active, unheld, fresh⟩
  have sent := sendOpenFrame_handed (draw (s.atTime t)) .a 1 (ownOffer (s.atTime t) x (Config.free s.draws % 1023))
  generalize sendOpenFrame (draw (s.atTime t)) .a 1 (ownOffer (s.atTime t) x (Config.free s.draws % 1023)) = y at sent eq
  have frame : Frame [.sessions, .bus, .draws] (s.atTime t) (sendsOpen q (s.atTime t)) := by
    rw [eq]
    exact ((draw_frame _).mono (by decide)).trans ((sent.frame.mono (by decide)).trans ((modSessions_frame _ _).mono (by decide)))
  refine answers_still (sessionOpenSend_eq q) frame (by decide) ?_
  refine ⟨?_, ?_, ?_, frame_with_now (l := [.sessions, .bus, .draws]) frame⟩
  · rw [eq]
    simp [modSessions]
  · rw [eq]
    have sessions : y.sessions = s.sessions := sent.frame .sessions (by decide)
    change y.sessions.slots = _
    rw [sessions]
  · rw [eq]
    exact sent.lengths

end

end

/-- Settles O45: an opening frame is heard and its node noted first; then an OPEN is refused or a slot promised, and an answer to Kutia's own
OPEN opens its slot or makes it wait. -/
theorem partnersAreAdmittedOrRefused : Obligations.PartnersAreAdmittedOrRefused := by
  intro t s c f k q o x b p trip
  refine ⟨fun ours quiet94 => ⟨fun arrives silent => openTaken ours quiet94 arrives silent, ?_, ?_⟩, ?_, ?_, ?_⟩
  · intro arrives speaks fresh quiet88
    refine ⟨modeRefusesOpen ours arrives speaks fresh quiet94 quiet88, ?_, ?_⟩
    · exact fun accepts nobody room unknown => strangerRefusedAndNoted ours arrives speaks fresh quiet94 quiet88 accepts nobody room unknown
    · intro accepts partner unheld unpromised free pol policy
      refine ⟨fun code disagree => openDisagrees ours arrives speaks fresh quiet94 quiet88 accepts partner unheld unpromised free policy
        disagree, fun opt agree positions l slices enough => ?_⟩
      exact openPromises ours arrives speaks fresh accepts partner unheld unpromised free policy agree positions slices enough
  · intro partner whole asked unknown
    have refused := ownOpenRefused (t := t) ours partner whole asked unknown
    exact ⟨fun arrives neighbour unheld free => acceptOpens ours partner whole asked unknown arrives neighbour unheld free,
      fun arrives => (refused arrives).1, fun arrives => (refused arrives).2⟩
  · exact fun g y active known first next slot promised fits => acceptSent active known first next slot promised fits
  · exact fun partner neighbour speaks active accepts unheld fresh higher =>
      ownOpenSent partner neighbour speaks active accepts unheld fresh higher
  · exact fun partner lower => sendsOpen_waits partner lower

end Sys2Proof.Machine
end

section
/-!
PROOFS. The Parish Book: what its records are stored from, and what leaves it alone (O20).
-/

namespace Sys2Proof.Machine

/-- What is stored of the Book: its two areas, the next sequence number, and the newest record's time. -/
structure Shelf where
  circ : List BookRec
  founding : List BookRec
  nextSeq : U32
  latest : Time

/-- The stored Book of a state. -/
def shelf (s : State) : Shelf := ⟨s.constable.circ, s.constable.founding, s.constable.nextSeq, s.constable.latest⟩

/-! ### What leaves the stored Book alone -/

theorem shelf_of_frame {s r : State} {l : List Part} (frame : Frame l s r) (h : Part.constable ∉ l) : shelf r = shelf s := by
  have constable : r.constable = s.constable := frame .constable h
  unfold shelf
  rw [constable]

@[simp] theorem modSource_shelf (s : State) (n : Nat) (f : SourceSt → SourceSt) : shelf (modSource s n f) = shelf s := rfl

@[simp] theorem bookPush_shelf (s : State) (x : BookRec) : shelf (bookPush s x) = shelf s := by
  unfold bookPush; split <;> rfl

@[simp] theorem bookEvent_shelf (s : State) (code : Nat) (p1 p2 p3 : U32) : shelf (bookEvent s code p1 p2 p3) = shelf s :=
  bookPush_shelf _ _

@[simp] theorem recordRaise_shelf (s : State) (n : Nat) (forced : Bool) (p1 p2 p3 : U32) :
    shelf (recordRaise s n forced p1 p2 p3) = shelf s := by
  have pushed (r : State) (x : BookRec) : shelf (bookRaise r x) = shelf r := by
    unfold bookRaise
    split
    · rfl
    · exact bookPush_shelf _ _
  exact (modSource_shelf _ _ _).trans (pushed _ _)

@[simp] theorem raiseNotice_shelf (s : State) (n : Nat) (p1 p2 p3 : U32) : shelf (raiseNotice s n p1 p2 p3) = shelf s := by
  unfold raiseNotice; split <;> simp

@[simp] theorem queueEvent_shelf (s : State) (kind : Nat) (bytes : List Byte) : shelf (queueEvent s kind bytes) = shelf s := by
  unfold queueEvent; dsimp only; split <;> rfl

@[simp] theorem pushEvent_shelf (s : State) (kind : Nat) (bytes : List Byte) : shelf (pushEvent s kind bytes) = shelf s := by
  unfold pushEvent; dsimp only; split <;> simp

@[simp] theorem settle_shelf (s r : State) : shelf (settle s r) = shelf r := by
  unfold settle; split <;> simp

/-! ### The entry into Safe State -/

@[simp] theorem failAttempt_shelf (s : State) (ln : Lane) (result : U8) : shelf (failAttempt s ln result) = shelf s := by
  unfold failAttempt
  exact (raiseNotice_shelf _ _ _ _ _).trans (shelf_of_frame (modLane_frame _ _ _) (by decide))

@[simp] theorem abortAttempts_shelf (s : State) : shelf (abortAttempts s) = shelf s := by
  have step (x : State) (ln : Lane) : shelf (if attempting (x.lanes.get ln) then failAttempt x ln 6 else x) = shelf x := by
    split <;> simp
  exact (step _ .l).trans ((step _ .b).trans (step s .a))

@[simp] theorem cancelArmed_shelf (s : State) : shelf (cancelArmed s) = shelf s := by
  unfold cancelArmed
  split
  · exact bookEvent_shelf _ _ _ _ _
  · rfl

@[simp] theorem lapseRequest_shelf (s : State) : shelf (lapseRequest s) = shelf s := by
  unfold lapseRequest
  split
  · rfl
  · exact pushEvent_shelf _ _ _

@[simp] theorem flushCommands_shelf (s : State) : shelf (flushCommands s) = shelf s := by
  have fold (l : List Command) (x : State) :
      shelf (l.foldl (fun st c => writeResult (noteResult st c 0x15 none32) (resultOf st c 0x15 none32)) x) = shelf x := by
    induction l generalizing x with
    | nil => rfl
    | cons c l ih =>
      have noted : shelf (noteResult x c 0x15 none32) = shelf x := by
        unfold noteResult
        split <;> rfl
      rw [List.foldl_cons, ih, writeResult, pushEvent_shelf]
      exact noted
  exact fold _ s

@[simp] theorem stopKillLines_shelf (s : State) (src : U8) : shelf (stopKillLines s src) = shelf s := by
  unfold stopKillLines; split <;> rfl

@[simp] theorem setMode_shelf (s : State) (m : Mode) (cause : U32) : shelf (setMode s m cause) = shelf s := by
  have fold (l : List (Nat × SourceSt)) (x : State) : shelf (l.foldl (fun st e => endForce st e.1) x) = shelf x := by
    induction l generalizing x with
    | nil => rfl
    | cons e l ih => exact ih _
  unfold setMode
  dsimp only
  split
  · rfl
  · split
    · rw [fold, bookEvent_shelf]; rfl
    · rw [bookEvent_shelf]; rfl

@[simp] theorem countUp_shelf (s : State) (sub n : Nat) : shelf (countUp s sub n) = shelf s := rfl

@[simp] theorem enterSafeState_shelf (s : State) (src : U8) : shelf (enterSafeState s src) = shelf s := by
  have gone (x : State) : shelf (twinNotice (recordGiveUp x 0 none32) 1) = shelf x := by
    have sent (y : State) : shelf (twinNotice y 1) = shelf y := by
      unfold twinNotice sendTwin
      split <;> rfl
    rw [sent, recordGiveUp, bookEvent_shelf]
    rfl
  have flushed : shelf (flushCommands { stopKillLines s src with cyc := { (stopKillLines s src).cyc with running := false } }) = shelf s :=
    (flushCommands_shelf _).trans (stopKillLines_shelf s src)
  unfold enterSafeState
  split
  case h_4 =>
    dsimp only
    split
    · rw [gone, countUp_shelf, setMode_shelf, lapseRequest_shelf, abortAttempts_shelf, cancelArmed_shelf]
      exact flushed
    · rw [countUp_shelf, setMode_shelf, lapseRequest_shelf, abortAttempts_shelf, cancelArmed_shelf]
      exact flushed
  all_goals exact stopKillLines_shelf s src

/-! ### Raises -/

@[simp] theorem excludeLane_shelf (s : State) (ln : Lane) (src : Nat) : shelf (excludeLane s ln src) = shelf s := by
  have clamped (x : State) : shelf (startLimit (clampLane x ln)) = shelf x := by
    have limited (y : State) : shelf (startLimit y) = shelf y := by
      unfold startLimit; split <;> rfl
    rw [limited]
    unfold clampLane
    split <;> rfl
  unfold excludeLane
  dsimp only
  split
  · simp
  · split
    · have out : shelf (if ln = .l then { modLane s ln (fun y => { y with
          state := if y.failed then 1 else 2, lastSource := u8 src, lastTime := s.now, since := s.now
          exclusions := y.exclusions + 1, judged := false, complete := false, delivered := none, held := false }) with
          vote := { (modLane s ln (fun y => { y with
            state := if y.failed then 1 else 2, lastSource := u8 src, lastTime := s.now, since := s.now
            exclusions := y.exclusions + 1, judged := false, complete := false, delivered := none, held := false })).vote with
            loomSince := none } } else modLane s ln (fun y => { y with
          state := if y.failed then 1 else 2, lastSource := u8 src, lastTime := s.now, since := s.now
          exclusions := y.exclusions + 1, judged := false, complete := false, delivered := none, held := false })) = shelf s := by
        split <;> rfl
      generalize (if ln = .l then _ else _) = x at out ⊢
      have cancelled : shelf (if (startLimit (clampLane x ln)).change.stateC = 4 ∧ (startLimit (clampLane x ln)).change.isRoll = false then
          cancelArmed (startLimit (clampLane x ln)) else startLimit (clampLane x ln)) = shelf s := by
        split
        · rw [cancelArmed_shelf, clamped, out]
        · rw [clamped, out]
      generalize (if (startLimit (clampLane x ln)).change.stateC = 4 ∧ (startLimit (clampLane x ln)).change.isRoll = false then
        cancelArmed (startLimit (clampLane x ln)) else startLimit (clampLane x ln)) = y at cancelled ⊢
      split
      · rw [enterSafeState_shelf, cancelled]
      · exact cancelled
    · rfl

@[simp] theorem raiseWith_shelf (s : State) (n : Nat) (forced : Bool) (p1 p2 p3 : U32) :
    shelf (raiseWith s n forced p1 p2 p3) = shelf s := by
  have effect (x : State) (cls : Nat) : shelf (classEffect x n cls p1) = shelf x := by
    unfold classEffect
    split
    · rfl
    · rfl
    · split <;> simp
    · simp
    · exact enterSafeState_shelf _ _
  unfold raiseWith
  dsimp only
  split
  · rfl
  · split
    · simp
    · rw [effect]; simp

@[simp] theorem raise_shelf (s : State) (n : Nat) (p1 p2 p3 : U32) : shelf (raise s n p1 p2 p3) = shelf s := by
  unfold raise; split <;> simp

@[simp] theorem wearSlot_shelf (s : State) (slot : Nat) : shelf (wearSlot s slot) = shelf s := by
  have worn (x : State) (n : Nat) (p1 p2 p3 : U32) : shelf (raiseHealth x n p1 p2 p3) = shelf x := by
    unfold raiseHealth; split <;> simp
  unfold wearSlot
  dsimp only
  split
  · rw [worn]; rfl
  · rfl

@[simp] theorem foldl_wearSlot_shelf (l : List Nat) (s : State) : shelf (l.foldl wearSlot s) = shelf s := by
  induction l generalizing s with
  | nil => rfl
  | cons x l ih => rw [List.foldl_cons, ih, wearSlot_shelf]

@[simp] theorem pushBook_shelf (s : State) (x : BookRec) : shelf (pushBook s x) = shelf s := by
  unfold pushBook; split <;> simp

@[simp] theorem noteRaiseSeq_shelf (s : State) (x : BookRec) (q : U32) : shelf (noteRaiseSeq s x q) = shelf s := by
  unfold noteRaiseSeq; split <;> rfl

@[simp] theorem reportLost_shelf (s : State) : shelf (reportLost s) = shelf s := by
  unfold reportLost
  split
  · dsimp only
    rw [raise_shelf, bookEvent_shelf]
    rfl
  · rfl

/-! ### The front of the queue is written (R378, R381, R382) -/

theorem bookStore_shelf (s : State) (x : BookRec) : shelf (bookStore s x) =
    { circ := (if s.constable.circ.length < 131072 then s.constable.circ else s.constable.circ.drop 1) ++
        [{ x with seq := s.constable.nextSeq }]
      founding := if s.constable.founding.length < 1024 then
        s.constable.founding ++ [{ x with seq := s.constable.nextSeq, found := true }] else s.constable.founding
      nextSeq := s.constable.nextSeq + 1, latest := x.time } := by
  have dropped : (if 131072 < (s.constable.circ ++ [{ x with seq := s.constable.nextSeq }]).length then
        (s.constable.circ ++ [{ x with seq := s.constable.nextSeq }]).drop 1 else s.constable.circ ++ [{ x with seq := s.constable.nextSeq }]) =
      (if s.constable.circ.length < 131072 then s.constable.circ else s.constable.circ.drop 1) ++ [{ x with seq := s.constable.nextSeq }] := by
    rw [List.length_append, List.length_singleton]
    split
    · next full =>
      rw [if_neg (by omega), List.drop_append_of_le_length (by omega)]
    · next room => rw [if_pos (by omega)]
  unfold bookStore
  dsimp only
  rw [pushBook_shelf, foldl_wearSlot_shelf, countUp_shelf]
  unfold shelf
  dsimp only
  rw [dropped]

theorem bookRepeat_counts {s : State} {y : BookRec} (room : y.rcount < 65535) (at' : Time) : shelf (bookRepeat s y at') =
    { circ := s.constable.circ.map (counted y), founding := s.constable.founding.map (counted y)
      nextSeq := s.constable.nextSeq, latest := at' } := by
  unfold bookRepeat
  dsimp only
  rw [if_neg (Nat.not_le.mpr room), foldl_wearSlot_shelf]
  rfl

theorem bookRepeat_full {s : State} {y : BookRec} (full : 65535 ≤ y.rcount) (at' : Time) : shelf (bookRepeat s y at') =
    { circ := s.constable.circ, founding := s.constable.founding, nextSeq := s.constable.nextSeq, latest := at' } := by
  unfold bookRepeat
  rw [if_pos full]
  rfl

theorem bookWrite_eq (t : Time) (s : State) (n : Nat) : exec (.bookWrite t n) s = at_ t s (writeFront n) := rfl

/-- The state once the front of the queue has been taken. -/
def frontTaken (s : State) (rest : List BookRec) : State := { s with constable := { s.constable with queue := rest } }

section
variable {s : State} {q x : BookRec} {rest : List BookRec} (front : s.constable.queue = q :: rest)
  (judged : awaitsComparison s q = false) (record : withRaiseSeq s q = x) (n : Nat)
include front judged record

/-- A record of its own. -/
theorem writeFront_stores (own : ∀ y, s.constable.circ.getLast? = some y → sameEvent x y = false) :
    shelf (writeFront n s) = shelf (bookStore (frontTaken s rest) x) := by
  have other : s.constable.circ.getLast?.filter (sameEvent x) = none := by
    cases newest : s.constable.circ.getLast? with
    | none => rfl
    | some y => exact if_neg (by rw [own y newest]; exact Bool.false_ne_true)
  unfold writeFront
  rw [front]
  dsimp only
  rw [if_neg (by rw [judged]; exact Bool.false_ne_true), record, other, reportLost_shelf]
  split
  · rw [noteRaiseSeq_shelf]
    rfl
  · rw [raise_shelf, noteRaiseSeq_shelf]
    rfl

/-- An event equal to the newest record. -/
theorem writeFront_repeats {y : BookRec} (newest : s.constable.circ.getLast? = some y) (same : sameEvent x y = true) :
    shelf (writeFront n s) = shelf (bookRepeat (frontTaken s rest) y x.time) := by
  have again : s.constable.circ.getLast?.filter (sameEvent x) = some y := by
    rw [newest]
    exact if_pos same
  unfold writeFront
  rw [front]
  dsimp only
  rw [if_neg (by rw [judged]; exact Bool.false_ne_true), record, again, reportLost_shelf]
  split
  · rw [noteRaiseSeq_shelf]
    rfl
  · rw [raise_shelf, noteRaiseSeq_shelf]
    rfl

end

/-- A write of the Book answers what it leaves stored. -/
theorem bookWritten {t : Time} {s : State} {n : Nat} {w : Shelf} {P : State → Prop} (h : shelf (writeFront n (s.atTime t)) = w)
    (goal : ∀ s', s'.constable.circ = w.circ → s'.constable.founding = w.founding → s'.constable.nextSeq = w.nextSeq →
      s'.constable.latest = w.latest → P s') : Answers (.bookWrite t n) s P := by
  refine ⟨_, bookWrite_eq t s n, ?_⟩
  have stored : shelf ((settle s (writeFront n (s.atTime t))).withQueue s.pending) = w := by
    rw [← h, ← settle_shelf s (writeFront n (s.atTime t))]
    rfl
  generalize (settle s (writeFront n (s.atTime t))).withQueue s.pending = s' at stored
  subst stored
  exact goal s' rfl rfl rfl rfl

/-! ### The Book is cleared (R383) -/

section
variable {t : Time} {s : State} {ch : Fin 8} {v : U32}

theorem bookClear_eq : exec (.bookClear t ch v) s =
    writeAt t s ch.val fun s => needAuth s ch.val fun s => writeClear s ch.val v := rfl

/-- The cleared Book: its own event comes first. -/
def cleared (s : State) (ch : Nat) : State := { s with constable := { s.constable with
  founding := [], circ := [], lastClear := s.now
  queue := { bookRec s 0x7060 0xFF 0xF false (s.constable.nextSeq - 1) (u32 ch) (u32 ((chanSt s ch).keySlot.getD 0xFF)) with found := true }
    :: s.constable.queue } }

variable (serves : Serves s t) (auth : authorised s ch.val = true)
include serves auth

theorem clear_otherValue (other : v ≠ s.constable.nextSeq) : Runs (.bookClear t ch v) s (refused (s.atTime t) ch 0x0473) := by
  refine runs_refused bookClear_eq serves (needAuth_granted auth ?_)
  unfold writeClear refuseUnless
  rw [show (v == (s.atTime t).constable.nextSeq) = false from beq_eq_false_iff_ne.mpr other]
  rfl

theorem clear_forbidden (value : v = s.constable.nextSeq) (h : (assertedModule s).isSome = true ∨ s.constable.grave = true ∨
    s.modes.mode = .start ∨ s.modes.mode = .shutdown) : Runs (.bookClear t ch v) s (refused (s.atTime t) ch 0x0472) := by
  refine runs_refused bookClear_eq serves (needAuth_granted auth ?_)
  have forbidden : ((assertedModule (s.atTime t)).isNone && !(s.atTime t).constable.grave && (s.atTime t).modes.mode != .start &&
      (s.atTime t).modes.mode != .shutdown) = false := by
    obtain module | grave | start | shutdown := h
    · rw [Option.isNone_eq_false_iff.mpr (show (assertedModule (s.atTime t)).isSome = true from module)]
      rfl
    · rw [show (s.atTime t).constable.grave = true from grave]
      simp
    · rw [show (s.atTime t).modes.mode = .start from start]
      simp
    · rw [show (s.atTime t).modes.mode = .shutdown from shutdown]
      simp
  unfold writeClear refuseUnless
  rw [forbidden, show (v == (s.atTime t).constable.nextSeq) = true from beq_iff_eq.mpr value]
  rfl

theorem clear_empties (value : v = s.constable.nextSeq) (module : assertedModule s = none) (grave : s.constable.grave = false)
    (started : s.modes.mode ≠ .start) (on : s.modes.mode ≠ .shutdown) : Answers (.bookClear t ch v) s fun s' =>
      s'.constable.circ = [] ∧ s'.constable.founding = [] ∧ s'.constable.nextSeq = s.constable.nextSeq ∧
        s'.constable.lastClear = t ∧ s'.constable.queue.tail = s.constable.queue ∧
        (∀ x, s'.constable.queue.head? = some x → x.code = 0x7060 ∧ x.found = true ∧ x.p1 = s.constable.nextSeq - 1 ∧
          x.p2 = u32 ch.val) ∧
        Frame [.now, .constable, .host] s s' := by
  have permitted : ((assertedModule (s.atTime t)).isNone && !(s.atTime t).constable.grave && (s.atTime t).modes.mode != .start &&
      (s.atTime t).modes.mode != .shutdown) = true := by
    rw [show assertedModule (s.atTime t) = none from module, show (s.atTime t).constable.grave = false from grave]
    simpa using ⟨started, on⟩
  have writes : writeClear (s.atTime t) ch.val v = .ok (cleared (s.atTime t) ch.val) := by
    unfold writeClear refuseUnless
    rw [permitted, show (v == (s.atTime t).constable.nextSeq) = true from beq_iff_eq.mpr value]
    rfl
  have frame : Frame [.constable, .host] (s.atTime t) (cleared (s.atTime t) ch.val) := fun p hp => by
    cases p <;> simp [same, cleared] at hp ⊢
  refine answers_writeStill bookClear_eq serves (needAuth_granted auth writes) frame (by decide) (by decide) ?_
  have touched := frame.trans ((touch_frame (cleared (s.atTime t) ch.val) ch.val).mono (by decide))
  refine ⟨rfl, rfl, rfl, rfl, rfl, fun x first => ?_, frame_with_now (l := [.constable, .host]) touched⟩
  obtain rfl := Option.some.inj first
  exact ⟨rfl, rfl, rfl, rfl⟩

end

/-! ### The comparison after a program split (R61) -/

/-- The value that joins the record of source 57. -/
def joins (since : Time) (p3 : U32) (s : State) : State :=
  let s1 := modSource s 57 fun x => { x with params := x.params.take 2 ++ [p3] }
  { s1 with vote := { s1.vote with comparing := none }, constable := { s1.constable with queue := s1.constable.queue.map fun x =>
    if x.code = 0x3809 ∧ x.time = since then { x with p3 := p3 } else x } }

/-- PROGRAM_SPLIT_COMPARISON_END. -/
def compared (ended : Bool) (s : State) : State :=
  match s.vote.comparing with
  | none => s
  | some since =>
    if ended = false ∧ s.now < since + ms 20 then s
    else joins since (if since + ms 20 ≤ s.now then none32 else
      (s.program.pair.map fun p => firstDiffering p.va s.lanes.a.vars s.lanes.b.vars).getD none32) s

section
variable {t : Time} {s : State} {ended : Bool} {at' : Time}

theorem programSplitComparisonEnd_eq : exec (.programSplitComparisonEnd t ended) s = at_ t s (compared ended) := rfl

theorem joins_frame (s : State) (since : Time) (p3 : U32) : Frame [.vote, .constable] s (joins since p3 s) := by
  intro p hp
  cases p <;> simp [same, joins] at hp ⊢

variable (waits : s.vote.comparing = some at')
include waits

theorem comparison_waits (early : t < at' + ms 20) : Runs (.programSplitComparisonEnd t false) s (s.atTime t) := by
  refine runs_idle programSplitComparisonEnd_eq ?_
  unfold compared
  rw [show (s.atTime t).vote.comparing = some at' from waits]
  exact if_pos ⟨rfl, early⟩

/-- The value that the comparison gives, when it ends or its time is over. -/
theorem comparison_joins (due : ¬ (ended = false ∧ t < at' + ms 20)) {p3 : U32} (value : p3 = if at' + ms 20 ≤ t then none32 else
      (s.program.pair.map fun p => firstDiffering p.va s.lanes.a.vars s.lanes.b.vars).getD none32) :
    Answers (.programSplitComparisonEnd t ended) s fun s' =>
      s'.vote.comparing = none ∧ s'.constable.queue = s.constable.queue.map (fun x =>
        if x.code = 0x3809 ∧ x.time = at' then { x with p3 := p3 } else x) ∧ Frame [.now, .vote, .constable] s s' := by
  have eq : compared ended (s.atTime t) = joins at' p3 (s.atTime t) := by
    unfold compared
    rw [show (s.atTime t).vote.comparing = some at' from waits, value]
    exact if_neg due
  have frame := joins_frame (s.atTime t) at' p3
  refine answers_still programSplitComparisonEnd_eq (by rw [eq]; exact frame) (by decide) ?_
  rw [eq]
  exact ⟨rfl, rfl, frame_with_now (l := [.vote, .constable]) frame⟩

end

/-- Settles O20: only the writing of the front changes what is stored of the Book, and the raises that follow leave it. That 0473h comes before
0472h is log entry 18; that FFFFFFFFh joins from 20 ms on, whether or not the comparison has ended, is log entry 144. -/
theorem bookIsWrittenMergedAndCleared : Obligations.BookIsWrittenMergedAndCleared := by
  refine ⟨fun t s q x rest n front judged record => ⟨fun own => ?_, fun y newest same room => ?_, fun y newest same full => ?_⟩,
    fun t s ch v => ⟨fun serves auth other => clear_otherValue serves auth other,
      fun serves auth value h => clear_forbidden serves auth value h,
      fun serves auth value module grave started on => clear_empties serves auth value module grave started on,
      fun at' waits early => comparison_waits waits early, fun at' waits early => ?_, fun at' ended waits late => ?_, fun empty => ?_⟩⟩
  · exact bookWritten ((writeFront_stores (s := s.atTime t) front judged record n own).trans (bookStore_shelf _ _))
      fun s' circ founding next latest => ⟨next, latest, circ, founding⟩
  · exact bookWritten ((writeFront_repeats (s := s.atTime t) front judged record n newest same).trans (bookRepeat_counts room _))
      fun s' circ founding next latest => ⟨next, latest, circ, founding⟩
  · exact bookWritten ((writeFront_repeats (s := s.atTime t) front judged record n newest same).trans (bookRepeat_full full _))
      fun s' circ founding next latest => ⟨next, latest, circ, founding⟩
  · exact comparison_joins waits (fun due => Bool.noConfusion due.1) (if_neg (Nat.not_le.mpr early)).symm
  · exact comparison_joins waits (fun due => absurd due.2 (Nat.not_lt.mpr late)) (if_pos late).symm
  · refine runs_idle (bookWrite_eq t s 0) ?_
    unfold writeFront
    rw [show (s.atTime t).constable.queue = [] from empty]

end Sys2Proof.Machine
end

section
/-!
PROOFS. What a power domain's fault leads to (O12).
-/

namespace Sys2Proof.Machine

theorem powerDomainFault_eq (t : Time) (s : State) (d : Fin 8) (mv : Nat) : exec (.powerDomainFault t d mv) s = at_ t s fun s =>
    if (domain s d.val).state = 2 ∨ (domain s d.val).state = 3 then domainFault s d.val mv else s := rfl

/-! ### Domains -/

theorem modDomain_frame (s : State) (d : Nat) (f : DomainSt → DomainSt) : Frame [.modes] s (modDomain s d f) := by
  intro p hp
  cases p <;> simp [same, modDomain] at hp ⊢

theorem domain_modDomain {s : State} {d : Nat} {f : DomainSt → DomainSt} (h : f (domain s d) ≠ {}) :
    domain (modDomain s d f) d = f (domain s d) := tget_tput_self _ _ _ _ h

theorem domain_of_modes {s r : State} (h : r.modes = s.modes) (d : Nat) : domain r d = domain s d := by
  unfold domain
  rw [h]

/-- A domain whose voltage has left its window. -/
def faulty (mv : Nat) (x : DomainSt) : DomainSt := { x with state := 4, mv := mv, faults := x.faults + 1 }

theorem domain_faulty (s : State) (d mv : Nat) : domain (modDomain s d (faulty mv)) d = faulty mv (domain s d) :=
  domain_modDomain fun none => absurd (congrArg DomainSt.state none) (show (4 : Nat) ≠ 0 by decide)

/-- Only a domain that is well gives the Constable's report of it back. -/
theorem domainWell_frame (s : State) (d : Nat) : Frame [.constable] s (domainWell s d) := by
  unfold domainWell
  dsimp only
  split
  · split
    · exact withdraw_frame _ _
    · exact .refl _ _
  · split
    · exact withdraw_frame _ _
    · exact .refl _ _

theorem domainUp_effect (s : State) (d : Nat) : Frame [.modes, .draws, .constable] s (domainUp s d) ∧
    (domain (domainUp s d) d).state = 2 ∧ (domain (domainUp s d) d).faults = (domain s d).faults ∧
    (domainUp s d).modes.mode = s.modes.mode ∧ (domainUp s d).modes.lanesAtEntry = s.modes.lanesAtEntry ∧
    (domainUp s d).modes.previous = s.modes.previous := by
  have drawn : domain (draw s) d = domain s d := rfl
  have record : domain (modDomain (draw s) d fun x => { x with state := 2, mv := Config.free s.draws % 65536 }) d =
      { domain s d with state := 2, mv := Config.free s.draws % 65536 } := by
    rw [domain_modDomain, drawn]
    exact fun none => absurd (congrArg DomainSt.state none) (show (2 : Nat) ≠ 0 by decide)
  have changed := modDomain_frame (draw s) d fun x => { x with state := 2, mv := Config.free s.draws % 65536 }
  have modes : (modDomain (draw s) d fun x => { x with state := 2, mv := Config.free s.draws % 65536 }).modes.mode = s.modes.mode ∧
      (modDomain (draw s) d fun x => { x with state := 2, mv := Config.free s.draws % 65536 }).modes.lanesAtEntry = s.modes.lanesAtEntry ∧
      (modDomain (draw s) d fun x => { x with state := 2, mv := Config.free s.draws % 65536 }).modes.previous = s.modes.previous :=
    ⟨rfl, rfl, rfl⟩
  have well := domainWell_frame (modDomain (draw s) d fun x => { x with state := 2, mv := Config.free s.draws % 65536 }) d
  unfold domainUp
  have kept := well .modes (by decide)
  rw [domain_of_modes kept d, record, kept]
  exact ⟨((draw_frame s).mono (by decide)).trans ((changed.mono (by decide)).trans (well.mono (by decide))), rfl, rfl, modes⟩

section
variable {t : Time} {s : State} {d : Fin 8} {mv : Nat}

theorem domainFault_idle (off : (domain s d.val).state ≠ 2) (other : (domain s d.val).state ≠ 3) :
    Runs (.powerDomainFault t d mv) s (s.atTime t) :=
  runs_idle (powerDomainFault_eq t s d mv) (if_neg fun h => h.elim off other)

/-- The exit of a fault after which the mode, the role and who votes are as they were. -/
theorem answers_domain {l : List Part} {r : State} {P : State → Prop} (on : (domain s d.val).state = 2 ∨ (domain s d.val).state = 3)
    (eq : domainFault (s.atTime t) d.val mv = r) (frame : Frame l (s.atTime t) r)
    (hl : ([Part.pending, .update, .change].all fun p => !l.contains p) = true) (mode : r.modes.mode = s.modes.mode)
    (entry : r.modes.lanesAtEntry = s.modes.lanesAtEntry) (previous : r.modes.previous = s.modes.previous)
    (role : r.twin.role = s.twin.role) (voting : voters r = voters s) (h : P r) : Answers (.powerDomainFault t d mv) s P := by
  have kept (p : Part) (hp : p ∈ [Part.pending, .update, .change]) : same (s.atTime t) r p :=
    frame p (by simpa using List.all_eq_true.mp hl p hp)
  have update : r.update = s.update := kept .update (by decide)
  have change : r.change = s.change := kept .change (by decide)
  have faults : (if (domain (s.atTime t) d.val).state = 2 ∨ (domain (s.atTime t) d.val).state = 3 then domainFault (s.atTime t) d.val mv
      else s.atTime t) = r := (if_pos on).trans eq
  refine answers_plain (powerDomainFault_eq t s d mv) ?_ ?_ ?_
  · rw [faults]
    exact attrs_voters mode entry previous role (by rw [update]) voting (by rw [change])
  · rw [faults]
    exact kept .pending (by decide)
  · rw [faults]
    exact h

variable (on : (domain s d.val).state = 2 ∨ (domain s d.val).state = 3)
include on

/-! ### A lane's domain (R358) -/

omit on in
theorem domain_laneOut {x : State} {ln : Lane} {src k : Nat} (h : (domain x (laneNo ln + 1)).state ≠ 2) :
    domain (laneOut x ln src) k = domain x k := by
  have timer := (loomTimerOff_rest (modLane x ln (excludedLane x.now src)) ln).2.2.2.2
  have before : (loomTimerOff (modLane x ln (excludedLane x.now src)) ln).modes = x.modes := timer .modes (by decide)
  have clamped : clampLane (loomTimerOff (modLane x ln (excludedLane x.now src)) ln) ln =
      loomTimerOff (modLane x ln (excludedLane x.now src)) ln := by
    unfold clampLane
    rw [domain_of_modes before]
    exact if_neg h
  unfold laneOut
  rw [clamped]
  refine domain_of_modes ?_ k
  rw [(cancelOnLoss_rest _).2.2.1, (startLimit_frame _) .modes (by decide), before]

omit on in
/-- The mode's own part of a fault is nothing that an exclusion is judged by. -/
theorem reports_faulty (ln : Lane) : Reports s (modDomain (s.atTime t) d.val (faulty mv)) ln :=
  ⟨((frame_atTime s t).mono (by decide)).trans ((modDomain_frame _ _ _).mono (by decide)), rfl, fun _ => rfl, rfl, rfl, rfl, fun _ _ => rfl⟩

omit on in
theorem domainLane_no {ln : Lane} {n : Nat} (h : domainLane n = some ln) : n = laneNo ln + 1 := by
  unfold domainLane at h
  split at h
  · obtain rfl := Option.some.inj h; rfl
  · obtain rfl := Option.some.inj h; rfl
  · obtain rfl := Option.some.inj h; rfl
  · exact absurd h (by simp)

omit on in
/-- A lane that is out already is not excluded again. -/
theorem excludeLane_again {x : State} {ln : Lane} {src : Nat} (h : (x.lanes.get ln).state = 1 ∨ (x.lanes.get ln).state = 2) :
    excludeLane x ln src = x := by
  unfold excludeLane attempting
  dsimp only
  obtain one | two := h
  · rw [one]; rfl
  · rw [two]; rfl

theorem laneDomain_excludes {ln : Lane} (lane : domainLane d.val = some ln) (all : AllVoting s) (raisable : Raisable s t 3) :
    Answers (.powerDomainFault t d mv) s fun s' =>
      LaneLost s s' ln 3 (u32 (laneNo ln)) (u32 (0x80 + d.val)) none32 ∧ (domain s' d.val).state = 4 ∧
        (domain s' d.val).mv = mv ∧ (domain s' d.val).faults = (domain s d.val).faults + 1 := by
  have reports := reports_faulty (s := s) (t := t) (d := d) (mv := mv) ln
  have lost := raise_laneLost all reports rfl raisable (srcLane_domain ln) (u32 (0x80 + d.val)) none32
  have allx : AllVoting (modDomain (s.atTime t) d.val (faulty mv)) := ⟨reports.voters.trans all.1, by rw [reports.mode]; exact all.2⟩
  have raised := raise_allVoting allx (reports.raisable rfl raisable) (p1 := u32 (laneNo ln)) (srcLane_domain ln) (u32 (0x80 + d.val)) none32
  have record : domain (raise (modDomain (s.atTime t) d.val (faulty mv)) 3 (u32 (laneNo ln)) (u32 (0x80 + d.val)) none32) d.val =
      faulty mv (domain s d.val) := by
    have recorded := (recordRaise_frame (modDomain (s.atTime t) d.val (faulty mv)) 3 false (u32 (laneNo ln)) (u32 (0x80 + d.val)) none32)
      .modes (by decide)
    have fault := domain_faulty (s.atTime t) d.val mv
    rw [raised, domain_laneOut, domain_of_modes recorded, fault]
    · rfl
    · rw [domain_of_modes recorded, ← domainLane_no lane, fault]
      exact show (4 : Nat) ≠ 2 by decide
  have out : ((raise (modDomain (s.atTime t) d.val (faulty mv)) 3 (u32 (laneNo ln)) (u32 (0x80 + d.val)) none32).lanes.get ln).state = 1 ∨
      ((raise (modDomain (s.atTime t) d.val (faulty mv)) 3 (u32 (laneNo ln)) (u32 (0x80 + d.val)) none32).lanes.get ln).state = 2 := by
    rw [lost.1.1]
    split
    · exact .inl rfl
    · exact .inr rfl
  have eq : domainFault (s.atTime t) d.val mv = modSource (raise (modDomain (s.atTime t) d.val (faulty mv)) 3 (u32 (laneNo ln))
      (u32 (0x80 + d.val)) none32) 3 fun x => { x with reported := true } := by
    unfold domainFault
    rw [lane]
    dsimp only
    unfold laneBlockFailed
    change (if 0x80 ≤ 0x80 + d.val then modSource (excludeLane (raise (modDomain (s.atTime t) d.val (faulty mv)) 3 _ _ _) ln 3) 3 _ else _) = _
    rw [if_pos (Nat.le_add_right _ _), excludeLane_again out]
  generalize raise (modDomain (s.atTime t) d.val (faulty mv)) 3 (u32 (laneNo ln)) (u32 (0x80 + d.val)) none32 = r at lost record eq
  obtain ⟨excluded, raised3, mode, frame⟩ := lost
  have reported : source (modSource r 3 fun x => { x with reported := true }) 3 = { source r 3 with reported := true } :=
    tget_tput_self _ _ _ _ fun none => Bool.noConfusion (congrArg SourceSt.reported none)
  have after : LaneLost s (modSource r 3 fun x => { x with reported := true }) ln 3 (u32 (laneNo ln)) (u32 (0x80 + d.val)) none32 := by
    refine ⟨excluded, ?_, mode, frame.trans ((modSource_frame r 3 _).mono (by decide))⟩
    unfold Raised at raised3 ⊢
    rw [reported]
    exact raised3
  refine answers_at (powerDomainFault_eq t s d mv) fun s' close => ?_
  rw [show (if (domain (s.atTime t) d.val).state = 2 ∨ (domain (s.atTime t) d.val).state = 3 then domainFault (s.atTime t) d.val mv
    else s.atTime t) = _ from (if_pos on).trans eq] at close
  have kept : domain s' d.val = faulty mv (domain s d.val) := (domain_of_modes close.modes d.val).trans record
  rw [kept]
  exact ⟨after.closed (by decide) close, rfl, rfl, rfl⟩

/-! ### The supervisor's and the field side's domains (R358) -/

omit on in
theorem setMode_domains (s : State) (m : Mode) (cause : U32) : (setMode s m cause).modes.domains = s.modes.domains := by
  unfold setMode
  dsimp only
  split
  · rfl
  · split
    · have ends (x : State) (e : Nat × SourceSt) : Frame [.constable] x (endForce x e.1) := modSource_frame _ _ _
      rw [foldl_frame _ ends _ _ .modes (by decide), (bookEvent_frame _ _ _ _ _) .modes (by decide)]
      rfl
    · rw [(bookEvent_frame _ _ _ _ _) .modes (by decide)]
      rfl

omit on in
/-- The entry into Safe State leaves the power domains. -/
theorem enterSafeState_domains (s : State) (src : U8) : (enterSafeState s src).modes.domains = s.modes.domains := by
  have lines : (stopKillLines s src).modes = s.modes := by unfold stopKillLines; split <;> rfl
  unfold enterSafeState
  split
  case h_4 =>
    dsimp only
    split <;> simp [recordGiveUp, setMode_domains]
  all_goals exact congrArg ModesSt.domains lines

omit on in
theorem lanternOff_dark (s : State) (cause : U8) : Frame [.field] s (lanternOff s cause) ∧ (lanternOff s cause).field.lant = false ∧
    (lanternOff s cause).field.gate = s.field.gate := by
  unfold lanternOff
  split
  · exact ⟨fun p hp => by cases p <;> simp [same] at hp ⊢, rfl, rfl⟩
  · next off => exact ⟨.refl _ _, by simpa using off, rfl⟩

/-- What a fault of a domain of the supervisor or the field side is reported from: the field side goes dark. -/
def darkened (d mv : Nat) (s : State) : State :=
  let s1 := modDomain s d (faulty mv)
  if d = 0 then s1 else lanternOff { s1 with field := { s1.field with gate := 0 } } 1

omit on in
theorem darkened_effect (n : Nat) (s : State) : Frame [.modes, .field] s (darkened n mv s) ∧
    (darkened n mv s).modes = (modDomain s n (faulty mv)).modes ∧ (n ≠ 0 → Dark (darkened n mv s)) := by
  have faults := modDomain_frame s n (faulty mv)
  unfold darkened
  dsimp only
  split
  · next first => exact ⟨faults.mono (by decide), rfl, fun other => absurd first other⟩
  · generalize modDomain s n (faulty mv) = x at faults ⊢
    obtain ⟨frame, lantern, gate⟩ := lanternOff_dark { x with field := { x.field with gate := 0 } } 1
    have gated : Frame [.field] x { x with field := { x.field with gate := 0 } } := fun p hp => by
      cases p <;> simp [same] at hp ⊢
    exact ⟨(faults.mono (by decide)).trans ((gated.mono (by decide)).trans (frame.mono (by decide))), frame .modes (by decide),
      fun _ => ⟨gate, lantern⟩⟩

theorem fieldDomain_stops (which : d.val = 0 ∨ d.val = 5 ∨ d.val = 6) (running : On s) (raisable : Raisable s t 6) :
    Answers (.powerDomainFault t d mv) s fun s' =>
      ModuleStops s s' 6 (u32 d.val) (u32 mv) none32 ∧ (domain s' d.val).state = 4 ∧ (d.val ≠ 0 → Dark s') := by
  obtain ⟨frame, modes, dark⟩ := darkened_effect (mv := mv) d.val (s.atTime t)
  have eq : domainFault (s.atTime t) d.val mv = raise (darkened d.val mv (s.atTime t)) 6 (u32 d.val) (u32 mv) none32 := by
    unfold domainFault darkened
    obtain zero | five | six := which
    · rw [zero]; rfl
    · rw [five]; rfl
    · rw [six]; rfl
  have record : domain (darkened d.val mv (s.atTime t)) d.val = faulty mv (domain s d.val) :=
    (domain_of_modes modes d.val).trans (domain_faulty (s.atTime t) d.val mv)
  have mode : (darkened d.val mv (s.atTime t)).modes.mode = s.modes.mode := by rw [modes]; rfl
  refine (answers_moduleStops (powerDomainFault_eq t s d mv) ((if_pos on).trans eq) (by unfold On; rw [mode]; exact running)
    (frame .constable (by decide)) (frame .now (by decide)) raisable rfl (by decide)).imp fun s' h => ?_
  obtain ⟨stops, close⟩ := h
  have recorded := recordRaise_frame (darkened d.val mv (s.atTime t)) 6 false (u32 d.val) (u32 mv) none32
  refine ⟨stops, ?_, fun other => ?_⟩
  · have domains : domain s' d.val = domain (darkened d.val mv (s.atTime t)) d.val := by
      unfold domain
      rw [close.modes, enterSafeState_domains, recorded .modes (by decide)]
    rw [domains, record]
    rfl
  · obtain ⟨gate, lantern⟩ := dark other
    have field : s'.field = (darkened d.val mv (s.atTime t)).field := by
      rw [close.field, (enterSafeState_rest _ _).2.2.2.2.2.2.2.2.2.1, recorded .field (by decide)]
    unfold Dark
    rw [field]
    exact ⟨gate, lantern⟩

/-! ### The debug part's domain (R359) -/

theorem debugDomain_restarts (seven : d.val = 7) : Answers (.powerDomainFault t d mv) s fun s' =>
    s'.age.fifo = [] ∧ (domain s' 7).state = 2 ∧ (domain s' 7).faults = (domain s 7).faults + 1 ∧
      Frame [.now, .modes, .constable, .age, .draws] s s' := by
  have record := domain_faulty (s.atTime t) 7 mv
  have faults := modDomain_frame (s.atTime t) 7 (faulty mv)
  have booked := bookEvent_frame (modDomain (s.atTime t) 7 (faulty mv)) 0x0015 7 (u32 mv) 0
  have modes : (bookEvent (modDomain (s.atTime t) 7 (faulty mv)) 0x0015 7 (u32 mv) 0).modes =
      (modDomain (s.atTime t) 7 (faulty mv)).modes := booked .modes (by decide)
  obtain ⟨frame, state, count, mode, entry, previous⟩ := domainUp_effect (bookEvent (modDomain (s.atTime t) 7 (faulty mv)) 0x0015 7 (u32 mv) 0) 7
  have eq : domainFault (s.atTime t) d.val mv =
      { domainUp (bookEvent (modDomain (s.atTime t) 7 (faulty mv)) 0x0015 7 (u32 mv) 0) 7 with
        age := { (domainUp (bookEvent (modDomain (s.atTime t) 7 (faulty mv)) 0x0015 7 (u32 mv) 0) 7).age with
          fifo := [], portFree := (domainUp (bookEvent (modDomain (s.atTime t) 7 (faulty mv)) 0x0015 7 (u32 mv) 0) 7).now } } := by
    rw [seven]; rfl
  rw [modes] at mode entry previous
  rw [domain_of_modes modes, record] at count
  have up : Frame [.modes, .draws, .constable] (s.atTime t) _ := (faults.mono (by decide)).trans ((booked.mono (by decide)).trans frame)
  generalize domainUp (bookEvent (modDomain (s.atTime t) 7 (faulty mv)) 0x0015 7 (u32 mv) 0) 7 = x at up state count mode entry previous eq
  have whole : Frame [.modes, .constable, .age, .draws] (s.atTime t) { x with age := { x.age with fifo := [], portFree := x.now } } :=
    (up.mono (by decide)).trans fun p hp => by cases p <;> simp [same] at hp ⊢
  have twin : x.twin = s.twin := up .twin (by decide)
  exact answers_domain on eq whole (by decide) mode entry previous (congrArg TwinSt.role twin) (voters_of_lanes (up .lanes (by decide)))
    ⟨rfl, state, count, frame_with_now (l := [.modes, .constable, .age, .draws]) whole⟩

/-! ### The service part's domain (R359) -/

/-- What the reset of a lane's Stile may touch: that Stile, and of the lanes the items noted absent. -/
structure StileReset (ln : Lane) (s r : State) : Prop where
  frame : Frame [.stiles, .lanes, .constable, .draws] s r
  states : ∀ k, (r.lanes.get k).state = (s.lanes.get k).state
  others : ∀ k, k ≠ ln → stile r k = stile s k

omit on in
theorem StileReset.trans {ln : Lane} {s x r : State} (h : StileReset ln s x) (h' : StileReset ln x r) : StileReset ln s r :=
  ⟨h.frame.trans h'.frame, fun k => (h'.states k).trans (h.states k), fun k hk => (h'.others k hk).trans (h.others k hk)⟩

omit on in
theorem StileReset.of_frame {ln : Lane} {s r : State} {l : List Part} (h : Frame l s r)
    (hl : ∀ p ∈ l, p ∈ [Part.constable, .draws] := by decide) : StileReset ln s r := by
  have kept := h.mono hl
  have lanes : r.lanes = s.lanes := kept .lanes (by decide)
  have stiles : r.stiles = s.stiles := kept .stiles (by decide)
  exact ⟨kept.mono (by decide), fun k => by rw [lanes], fun k _ => by unfold stile; rw [stiles]⟩

omit on in
@[simp] theorem stile_modStile_self (s : State) (ln : Lane) (f : StileSt → StileSt) : stile (modStile s ln f) ln = f (stile s ln) :=
  PerLane.get_set_self _ _ _

omit on in
theorem modStile_resets (s : State) (ln : Lane) (f : StileSt → StileSt) : StileReset ln s (modStile s ln f) :=
  ⟨fun p hp => by cases p <;> simp [same, modStile] at hp ⊢, fun _ => rfl, fun _ hk => PerLane.get_set_ne _ _ hk⟩

omit on in
theorem admitWaiting_none {s : State} {ln : Lane} {dir : Dir} (h : ((stile s ln).side dir).wait = none) : admitWaiting s ln dir = s := by
  unfold admitWaiting
  dsimp only
  rw [h]

omit on in
/-- With nothing waiting to be posted, settling a direction delivers of its queue only. -/
theorem settleP_resets {s : State} {ln : Lane} (quiet : (stile s ln).out.wait = none) :
    StileReset ln s (settleP s ln .outward) ∧ (stile (settleP s ln .outward) ln).inw = (stile s ln).inw := by
  have side : (stile s ln).side .outward = (stile s ln).out := rfl
  unfold settleP
  dsimp only
  split
  · rw [admitWaiting_none (dir := .outward) quiet]
    exact ⟨.of_frame (.refl [] s), rfl⟩
  · have drawn : StileReset ln s (draw s) := .of_frame (draw_frame s)
    rw [admitWaiting_none (by rw [stile_modStile_self]; exact quiet)]
    exact ⟨drawn.trans (modStile_resets _ _ _), by rw [stile_modStile_self]; rfl⟩
  · exact ⟨.of_frame (.refl [] s), rfl⟩

omit on in
/-- A message whose tag is the expected one joins without a report. -/
theorem arriveMsg_resets {s : State} {ln : Lane} (quiet : (stile s ln).inw.wait = none) (m : StileMsg) :
    StileReset ln s (arriveMsg s ln .inward m (stile s ln).inw.expect) := by
  have admitted : admitWaiting (modStile s ln fun y => y.modSide .inward PSide.flush) ln .inward =
      modStile s ln fun y => y.modSide .inward PSide.flush := admitWaiting_none (by rw [stile_modStile_self]; exact quiet)
  unfold arriveMsg
  dsimp only
  rw [admitted]
  have expects : ((stile (modStile (modStile s ln fun y => y.modSide .inward PSide.flush) ln fun y => y.modSide .inward PSide.flush) ln).side
      .inward).expect = (stile s ln).inw.expect := by
    rw [stile_modStile_self, stile_modStile_self]; rfl
  unfold enterP
  dsimp only
  rw [if_pos expects.symm]
  exact ((modStile_resets _ _ _).trans ((modStile_resets _ _ _).trans ((modStile_resets _ _ _).trans (modStile_resets _ _ _))))

omit on in
theorem resetReads_resets (s : State) (ln : Lane) : StileReset ln s (resetReads s ln .service) := by
  have absent (x : State) (addr : U32) : StileReset ln x (noteAbsent x ln addr) := by
    unfold noteAbsent
    split
    · refine ⟨(modLane_frame _ _ _).mono (by decide), fun k => ?_, fun _ _ => rfl⟩
      by_cases hk : k = ln
      · subst hk; simp [modLane]
      · rw [modLane_others _ _ _ _ hk]
    · exact .of_frame (.refl [] x)
  unfold resetReads
  dsimp only
  split
  · exact (modStile_resets _ _ _).trans (absent _ _)
  · exact modStile_resets _ _ _

omit on in
theorem postedFailed_resets (s : State) (ln : Lane) (dir : Dir) (tag : U16) (reason : U8) (addr : U32) :
    StileReset ln s (postedFailed s ln dir tag reason addr) := by
  have notice : srcClass (99 + laneNo ln) = 0 := by cases ln <;> rfl
  exact (modStile_resets _ _ _).trans (.of_frame (raise_notice_frame _ notice _ _ _))

omit on in
theorem resetStile_resets {s : State} {ln : Lane} (out : (stile s ln).out.wait = none) (inw : (stile s ln).inw.wait = none)
    (tag : (stile s ln).inw.tag = (stile s ln).inw.expect) : StileReset ln s (resetStile s ln .service (stile s ln).inw.tag) := by
  obtain ⟨settled, kept⟩ := settleP_resets out
  have arrives : StileReset ln (settleP s ln .outward) (if receiverReset (stile (settleP s ln .outward) ln) .inward then
      settleP s ln .outward else arriveMsg (settleP s ln .outward) ln .inward (msgOf 4 (sideOrigin .service) 0) (stile s ln).inw.tag) := by
    split
    · exact .of_frame (.refl [] _)
    · rw [tag, ← kept]
      exact arriveMsg_resets (by rw [kept]; exact inw) _
  unfold resetStile
  dsimp only [towards, opposite]
  split
  · exact .of_frame (.refl [] s)
  · split
    · exact settled.trans (arrives.trans ((StileReset.of_frame (raise_notice_frame _ rfl _ _ _)).trans
        ((resetReads_resets _ _).trans (modStile_resets _ _ _))))
    · exact settled.trans (arrives.trans ((StileReset.of_frame (raise_notice_frame _ rfl _ _ _)).trans
        ((resetReads_resets _ _).trans ((modStile_resets _ _ _).trans (postedFailed_resets _ _ _ _ _ _)))))

omit on in
theorem resetStiles_frame {lanes : List Lane} (distinct : lanes.Nodup) (s : State)
    (quiet : ∀ ln ∈ lanes, (stile s ln).out.wait = none ∧ (stile s ln).inw.wait = none ∧ (stile s ln).inw.tag = (stile s ln).inw.expect) :
    Frame [.stiles, .lanes, .constable, .draws] s
        (lanes.foldl (fun st ln => resetStile st ln .service (stile st ln).inw.tag) s) ∧
      ∀ k, ((lanes.foldl (fun st ln => resetStile st ln .service (stile st ln).inw.tag) s).lanes.get k).state = (s.lanes.get k).state := by
  induction lanes generalizing s with
  | nil => exact ⟨.refl _ s, fun _ => rfl⟩
  | cons ln lanes ih =>
    obtain ⟨first, rest⟩ := List.nodup_cons.mp distinct
    obtain ⟨out, inw, tag⟩ := quiet ln List.mem_cons_self
    have reset := resetStile_resets out inw tag
    have next := ih rest (resetStile s ln .service (stile s ln).inw.tag) fun k hk => by
      rw [reset.others k fun same => first (same ▸ hk)]
      exact quiet k (List.mem_cons_of_mem _ hk)
    exact ⟨reset.frame.trans next.1, fun k => (next.2 k).trans (reset.states k)⟩

omit on in
theorem resetPd4Crossing_frame (s : State) (c : Nat) : Frame [.stiles] s (resetPd4Crossing s c) := by
  have modified (x : State) (f : CrossSt → CrossSt) : Frame [.stiles] x (modCross x c f) := fun p hp => by
    cases p <;> simp [same, modCross] at hp ⊢
  have started (x : State) (dir : Dir) (f : CrossWay → CrossWay) : Frame [.stiles] x (startCross x c dir f) :=
    (modified _ _).trans (modified _ _)
  have synced (x : State) (dir : Dir) : Frame [.stiles] x (resyncWay c x dir) := by
    unfold resyncWay
    dsimp only
    split
    · exact modified _ _
    · exact (modified _ _).trans (started _ _ _)
    · split
      · exact modified _ _
      · exact (modified _ _).trans (started _ _ _)
  refine foldl_frame _ (fun x dir => ?_) _ s
  have reset : Frame [.stiles] x (resetCross x c dir true) := (modified _ _).trans (modified _ _)
  unfold crossAfter
  split
  · exact reset
  · exact reset.trans ((modified _ _).trans (synced _ _))

omit on in
theorem loseQueue_effect (s : State) : Frame [.cyc, .constable] s (loseQueue s) ∧ (loseQueue s).cyc =
    { s.cyc with cmdq := [], taken := [], live := [], decided := [], ring := [], readSeq := s.cyc.writeSeq, reserved := 0 } := by
  unfold loseQueue
  dsimp only
  have lost : Frame [.cyc] s { s with cyc := { s.cyc with
      cmdq := [], taken := [], live := [], decided := [], ring := [], readSeq := s.cyc.writeSeq, reserved := 0 } } := fun p hp => by
    cases p <;> simp [same] at hp ⊢
  exact ⟨(lost.mono (by decide)).trans ((bookEvent_frame _ _ _ _ _).mono (by decide)), (bookEvent_frame _ _ _ _ _) .cyc (by decide)⟩

omit on in
theorem relisten_frame (s : State) (c : Chan) : Frame [.bus] s (relisten s c) := by
  unfold relisten
  split
  · exact .refl _ s
  · exact ((setEngine_only s c 1).trans (modPort_only _ c _)).frame

omit on in
theorem relisten_first (s : State) : (relisten s .a).bus.engine = if s.bus.engine = 7 then 7 else 1 := by
  have first (x : State) : portOf x .a = .a := by unfold portOf; split <;> rfl
  unfold relisten engineOn port enterListen setEngine modPort
  rw [first s]
  dsimp only
  split
  · assumption
  · rw [first, first]

omit on in
theorem relisten_second {s : State} (split : s.modes.mode = .split) : (relisten s .b).bus.engine = s.bus.engine := by
  have second (x : State) (h : x.modes.mode = .split) : portOf x .b = .b := by simp [portOf, inSplit, h]
  have ports (x : State) (h : x.modes.mode = .split) (f : PortSt → PortSt) :
      (modPort x .b f).bus.engine = x.bus.engine ∧ (modPort x .b f).modes = x.modes := by
    unfold modPort
    rw [second x h]
    exact ⟨rfl, rfl⟩
  unfold relisten
  split
  · rfl
  · unfold enterListen setEngine
    dsimp only
    rw [second s split, if_neg (by decide)]
    obtain ⟨engine, modes⟩ := ports s split fun p => { p with engine := 1 }
    exact (ports _ (by rw [modes]; exact split) _).1.trans engine

/-- The parts of the bus, the sessions and the Twin that the service part holds are lost with its domain. -/
def serviceLost (s : State) : State :=
  let s3 := relisten { s with bus := { s.bus with telegrams := [], staged := [], peerSeen := none, master := none, noSync := 0 } } .a
  let s4 := if s3.modes.mode = .split then relisten s3 .b else s3
  let s4 := if 0 < s4.twin.blockNext then dropBlocks s4 else s4
  { s4 with
    sessions := { s4.sessions with mailbox := [], records := [], promised := [] }
    twin := { s4.twin with
      link := false, losses := if s4.twin.link then s4.twin.losses + 1 else s4.twin.losses, heardAt := none
      blocks := [], blockNext := 0, pd4Watch := s4.twin.role == .active, peerTook := false } }

omit on in
theorem serviceLost_effect (s : State) : Frame [.bus, .sessions, .twin] s (serviceLost s) ∧
    (serviceLost s).bus.engine = (if s.bus.engine = 7 then 7 else 1) ∧ (serviceLost s).sessions.mailbox = [] ∧
    (serviceLost s).twin.link = false ∧ (serviceLost s).twin.role = s.twin.role := by
  have cleared : Frame [.bus] s { s with bus := { s.bus with telegrams := [], staged := [], peerSeen := none, master := none, noSync := 0 } } :=
    fun p hp => by cases p <;> simp [same] at hp ⊢
  have listens := cleared.trans (relisten_frame _ .a)
  have engine := relisten_first { s with bus := { s.bus with telegrams := [], staged := [], peerSeen := none, master := none, noSync := 0 } }
  have both (x : State) : Frame [.bus] x (if x.modes.mode = .split then relisten x .b else x) ∧
      (if x.modes.mode = .split then relisten x .b else x).bus.engine = x.bus.engine := by
    split
    · next splits => exact ⟨relisten_frame _ _, relisten_second splits⟩
    · exact ⟨.refl _ x, rfl⟩
  have dropped (x : State) : Frame [.twin] x (if 0 < x.twin.blockNext then dropBlocks x else x) ∧
      (if 0 < x.twin.blockNext then dropBlocks x else x).twin.role = x.twin.role := by
    split
    · exact ⟨fun p hp => by cases p <;> simp [same, dropBlocks] at hp ⊢, rfl⟩
    · exact ⟨.refl _ x, rfl⟩
  unfold serviceLost
  dsimp only
  generalize relisten _ .a = x at listens engine
  obtain ⟨second, engine'⟩ := both x
  generalize (if x.modes.mode = .split then relisten x .b else x) = y at second engine'
  obtain ⟨twin, role⟩ := dropped y
  generalize (if 0 < y.twin.blockNext then dropBlocks y else y) = z at twin role
  have bus : z.bus = y.bus := twin .bus (by decide)
  have kept : y.twin = s.twin := (listens.trans second) .twin (by decide)
  refine ⟨?_, ?_, rfl, rfl, ?_⟩
  · refine ((listens.trans second).mono (by decide)).trans ((twin.mono (by decide)).trans fun p hp => ?_)
    cases p <;> simp [same] at hp ⊢
  · rw [bus, engine', engine]
  · rw [role, kept]

theorem serviceDomain_restarts (four : d.val = 4)
    (quiet : ∀ ln ∈ allLanes, (stile s ln).out.wait = none ∧ (stile s ln).inw.wait = none ∧ (stile s ln).inw.tag = (stile s ln).inw.expect) :
    Answers (.powerDomainFault t d mv) s fun s' =>
      s'.cyc.cmdq = [] ∧ s'.cyc.taken = [] ∧ s'.cyc.live = [] ∧ s'.cyc.ring = [] ∧ s'.cyc.reserved = 0 ∧
        s'.cyc.writeSeq = s.cyc.writeSeq ∧ s'.cyc.readSeq = s.cyc.writeSeq ∧
        s'.bus.engine = (if s.bus.engine = 7 then 7 else 1) ∧
        s'.sessions.mailbox = [] ∧ s'.twin.link = false ∧
        Frame [.now, .lanes, .cyc, .bus, .sessions, .host, .stiles, .modes, .constable, .twin, .draws] s s' := by
  have faults := modDomain_frame (s.atTime t) 4 (faulty mv)
  have booked := bookEvent_frame (modDomain (s.atTime t) 4 (faulty mv)) 0x0015 4 (u32 mv) 0
  obtain ⟨frame, -, -, mode, entry, previous⟩ := domainUp_effect (bookEvent (modDomain (s.atTime t) 4 (faulty mv)) 0x0015 4 (u32 mv) 0) 4
  have modes : (bookEvent (modDomain (s.atTime t) 4 (faulty mv)) 0x0015 4 (u32 mv) 0).modes =
      (modDomain (s.atTime t) 4 (faulty mv)).modes := booked .modes (by decide)
  rw [modes] at mode entry previous
  have up : Frame [.modes, .draws, .constable] (s.atTime t) _ := (faults.mono (by decide)).trans ((booked.mono (by decide)).trans frame)
  have eq : domainFault (s.atTime t) d.val mv =
      restartPd4 (domainUp (bookEvent (modDomain (s.atTime t) 4 (faulty mv)) 0x0015 4 (u32 mv) 0) 4) := by
    rw [four]
    unfold domainFault
    exact if_pos rfl
  generalize domainUp (bookEvent (modDomain (s.atTime t) 4 (faulty mv)) 0x0015 4 (u32 mv) 0) 4 = u at up mode entry previous eq
  have stiles : u.stiles = s.stiles := up .stiles (by decide)
  obtain ⟨reset, states⟩ := resetStiles_frame (lanes := allLanes) (by decide) u fun ln hln => by
    unfold stile
    rw [stiles]
    exact quiet ln hln
  have service : restartPd4 u = restartSteward (serviceLost (loseQueue (crossingsToPd4.foldl resetPd4Crossing
      (allLanes.foldl (fun st ln => resetStile st ln .service (stile st ln).inw.tag) u)))) := by
    unfold restartPd4 serviceLost
    rfl
  rw [service] at eq
  generalize allLanes.foldl (fun st ln => resetStile st ln .service (stile st ln).inw.tag) u = x at reset states eq
  have crossed := foldl_frame resetPd4Crossing resetPd4Crossing_frame crossingsToPd4 x
  generalize crossingsToPd4.foldl resetPd4Crossing x = y at crossed eq
  obtain ⟨lost, cyc⟩ := loseQueue_effect y
  generalize loseQueue y = z at lost cyc eq
  obtain ⟨gone, engine, mailbox, link, role⟩ := serviceLost_effect z
  generalize serviceLost z = w at gone engine mailbox link role eq
  have drawn := draw_frame w
  have steward := (restartUntil_rest (draw w) (w.now + Config.free w.draws % (sec 2 + 1))).2.2.2.2.2.2
  change _ = restartUntil (draw w) (w.now + Config.free w.draws % (sec 2 + 1)) at eq
  generalize restartUntil (draw w) (w.now + Config.free w.draws % (sec 2 + 1)) = r at steward eq
  have last : Frame [.host, .constable, .draws] w r := (drawn.mono (by decide)).trans (steward.mono (by decide))
  have before : Frame [.modes, .draws, .constable, .lanes, .stiles] (s.atTime t) y :=
    (up.mono (by decide)).trans ((reset.mono (by decide)).trans (crossed.mono (by decide)))
  have whole : Frame [.lanes, .cyc, .bus, .sessions, .host, .stiles, .modes, .constable, .twin, .draws] (s.atTime t) r :=
    (before.mono (by decide)).trans ((lost.mono (by decide)).trans ((gone.mono (by decide)).trans (last.mono (by decide))))
  have cycs : y.cyc = s.cyc := before .cyc (by decide)
  have buses : z.bus = s.bus := (lost .bus (by decide)).trans (before .bus (by decide))
  have twins : z.twin = s.twin := (lost .twin (by decide)).trans (before .twin (by decide))
  have lanes : r.lanes = x.lanes := (last .lanes (by decide)).trans ((gone .lanes (by decide)).trans
    ((lost .lanes (by decide)).trans (crossed .lanes (by decide))))
  have moded : r.modes = u.modes := (last .modes (by decide)).trans ((gone .modes (by decide)).trans
    ((lost .modes (by decide)).trans ((crossed .modes (by decide)).trans (reset .modes (by decide)))))
  have cleared : r.cyc = { s.cyc with
      cmdq := [], taken := [], live := [], decided := [], ring := [], readSeq := s.cyc.writeSeq, reserved := 0 } := by
    rw [← cycs, ← cyc]
    exact (last .cyc (by decide)).trans (gone .cyc (by decide))
  have bus : r.bus = w.bus := last .bus (by decide)
  have sessions : r.sessions = w.sessions := last .sessions (by decide)
  have twin : r.twin = w.twin := last .twin (by decide)
  have ulanes : u.lanes = s.lanes := up .lanes (by decide)
  refine answers_domain on eq whole (by decide) (by rw [moded, mode]; rfl) (by rw [moded, entry]; rfl) (by rw [moded, previous]; rfl)
    (by rw [twin, role, twins]) (voters_congr fun k => by rw [lanes, states k, ulanes]) ?_
  rw [cleared, bus, sessions, twin, engine, buses]
  exact ⟨rfl, rfl, rfl, rfl, rfl, rfl, rfl, rfl, mailbox, link, frame_with_now whole⟩

end

/-- Settles O12: each domain's fault takes its part's own way: the lane's through source 3, the supervisor's and the field side's
through source 6, the debug part and the service part restart. Where the tables give a dash, P3 is FFFFFFFFh (log entry 34). -/
theorem domainFaultsReactByDomain : Obligations.DomainFaultsReactByDomain := by
  unfold Obligations.DomainFaultsReactByDomain
  intro t s d mv
  exact ⟨fun off other => domainFault_idle off other, fun on =>
    ⟨fun _ lane all raisable => laneDomain_excludes on lane all raisable, fun which running raisable => fieldDomain_stops on which running raisable,
      fun seven => debugDomain_restarts on seven, fun four quiet => serviceDomain_restarts on four quiet⟩⟩

end Sys2Proof.Machine
end
